-- ==== Sys2Proof/Word.lean ====
section
/-!
DEFINITION. The words and plain containers of the block: machine words, time and angle units, and
the sparse table that every numbered collection of the device is held in.
-/

namespace Sys2Proof

/-- A tile register or half of a sequencer word (03 R94). -/
abbrev Word := BitVec 32

/-- One byte of an addressed memory. -/
abbrev Byte := BitVec 8

/-- A time in nanoseconds of the TAI scale (02 R67). -/
abbrev T64 := Nat

/-- A T80 counted in units of 2^-16 ns (02 R67). -/
abbrev T80 := Nat

/-- A session number, 1 to 8; 0 stands for no session (11 R416). -/
abbrev SessionNo := Nat

/-- A numbered collection held sparsely: keys strictly rising, and no entry equal to the value an
unlisted key stands for. -/
abbrev Tab (α : Type) := List (Nat × α)

/-- The two Ethernet ports, which are also the two feeds. -/
inductive Port where
  | fa
  | fb
  deriving DecidableEq, Repr

/-- A value of an object of the dictionary: a number of any numeric type, or octets (11 R402). -/
inductive Val where
  | num (v : Int)
  | oct (b : List Nat)
  deriving DecidableEq, Repr

end Sys2Proof
end

