-- ==== Sys2Proof/OpSyntax.lean ====
section
/-!
DEFINITION. What commands carry besides tile slots: request headers and the names of units.
-/

namespace Sys2Proof

/-- The header of a session's request (11 R419): the session that sent it, its RID, and the epoch that
WRITE carries. -/
structure Req where
  session : SessionNo
  rid : Nat
  epoch : Nat
  deriving DecidableEq, Repr

/-- What an off-test of a QO contact shows (10 R380). -/
inductive OffTest where
  | opened
  | conducting
  | noVoltage
  deriving DecidableEq, Repr

/-- What the fuse controller senses (12 R458, R459): the FUSE_EN level, the 1.8 V rail in mV and the junction in
0.1 °C. -/
structure FuseEnv where
  en : Bool
  rail : Fin 65536
  temp : Int
  deriving DecidableEq, Repr

/-- A packet's header fields and payload (06 R202). -/
structure Packet where
  /-- 5 bits, 06 R202: OPC. -/
  opc : Nat
  /-- 4 bits, 06 R202: LEN. -/
  len : Nat := 0
  /-- 4 bits, 06 R202: ZONE. -/
  zone : Nat
  /-- 1 bit, 06 R202: SR. -/
  sr : Bool := false
  /-- 1 bit, 06 R202: URG. -/
  urg : Bool := false
  /-- 1 bit, 06 R202: MC. -/
  mc : Bool := false
  /-- 7 bits, 06 R202: DST. -/
  dst : Nat
  /-- 7 bits, 06 R202: SRC. -/
  src : Nat
  /-- 6 bits, 06 R202: TAG. -/
  tag : Nat
  /-- 4 bits, 06 R202: EPO. -/
  epo : Nat
  /-- 24 bits, 06 R202: ADDR. -/
  addr : Nat
  /-- 64-bit words, 06 R202: the payload. -/
  data : List Nat := []
  /-- 48 bits, 06 R215: ROUTE; 0 where XY-routed. -/
  route : Nat := 0
  deriving DecidableEq, Repr

/-- What an ATOMIC message does when it applies (06 R236). -/
inductive StagedMsg where
  | taskStart (task tick : Nat)
  | applySet (jseq : Nat)
  | activation (slot : Nat)
  | words (w : List Nat)
  deriving DecidableEq, Repr

/-- An ATOMIC STAGE as a member takes it (06 R235). -/
structure StageReq where
  /-- 7 bits, 06 R235: the initiator. -/
  src : Nat
  /-- 6 bits, 06 R235: the initiator's tag. -/
  tag : Nat
  /-- 4 bits, 06 R202: its EPO. -/
  epo : Nat
  /-- 06 R235: the message. -/
  msg : StagedMsg
  /-- 32 bits, 06 R235: the low bits of HOLD. -/
  hold : Nat
  /-- 31 bits, 06 R235: APPLY_OFS. -/
  applyOfs : Nat
  /-- 06 R235: ONCOMMIT. -/
  onCommit : Bool
  deriving DecidableEq, Repr

/-- A hardware register without a row of its own, as it is written (03 R139, 06 R238, 12 R458). -/
inductive HwWrite where
  | tile (t : Fin 1024) (off : Fin 20480) (v : Word)
  | probe (k : Fin 16) (off : Fin 16) (v : Nat)
  | fuse (off : Fin 16) (v : Nat)
  deriving DecidableEq, Repr

/-- One entry of an EVENT or STAGE frame (08 R290). -/
structure EventEntry where
  /-- 4 bits, 08 R290: channel. -/
  ch : Nat
  /-- 1 bit, 08 R290: TRIM. -/
  trim : Bool := false
  /-- 1 bit, 08 R290: WITHDRAW. -/
  withdraw : Bool := false
  /-- 1 bit, 08 R290: SUSPECT. -/
  suspect : Bool := false
  /-- U8, 09 R333: ACT. -/
  act : Nat
  /-- U16, 08 R290: EID. -/
  eid : Nat
  /-- T80, 08 R290: WHEN. -/
  when_ : T80
  /-- U16, 08 R290: PARAM. -/
  param : Nat
  deriving DecidableEq, Repr

/-- What a head says of itself in an ENUM frame (08 R290). -/
structure HeadDesc where
  /-- U8, 08 R290: REV. -/
  rev : Nat := 1
  /-- U16, 08 R290: VENDOR. -/
  vendor : Nat := 0
  /-- U16, 08 R290: MODEL. -/
  model : Nat := 0
  /-- U32, 08 R290: SERIAL. -/
  serial : Nat := 0
  /-- U8, 08 R290: HWREV. -/
  hwRev : Nat := 0
  /-- U8, 08 R290: CHANNELS. -/
  channels : Nat := 1
  /-- U8, 08 R290: STREAMS. -/
  streams : Nat := 0
  /-- ps, 08 R290: HD. -/
  hd : Nat := 0
  /-- ps, 08 R290: HU. -/
  hu : Nat := 0
  /-- ps, 08 R290: QU. -/
  qu : Nat := 0
  /-- ps, 08 R290: QD. -/
  qd : Nat := 0
  /-- U16, 08 R290: EVCAP. -/
  evCap : Nat := 32
  /-- 1 bit, 08 R290: sends ENERGY. -/
  energy : Bool := false
  /-- 1 bit, 08 R290: sends SENSE. -/
  sense : Bool := false
  deriving DecidableEq, Repr

/-- Where a CMARK comes to: a port of a head, or the device, which takes a time from it (08 R302). -/
inductive CmarkAt where
  | head (p : Fin 65) (portD : Bool)
  | rttA (p : Fin 65) (ps : Nat)
  | rttB (p : Fin 65) (ps : Nat)
  | forward (ps : Nat)
  | reverse (ps : Nat)
  deriving DecidableEq, Repr

/-- Where an ENUM COUNT comes to: a head, or the device, at its other end or at the end that sent it (08 R305). -/
inductive CountAt where
  | head (p : Fin 65)
  | device (whole : Bool)
  deriving DecidableEq, Repr

/-- A SAFE frame's payload as bytes read it (08 R290). -/
structure SafeFields where
  /-- U32, 08 R290: SSEQ. -/
  sseq : Nat
  /-- T64, 08 R290: STIME. -/
  stime : T64
  /-- U8, 08 R290: QSTATE. -/
  qstate : Nat
  /-- U8, 08 R290: SFMODE. -/
  sfmode : Nat
  /-- U8, 08 R290: QCAUSE. -/
  qcause : Nat
  /-- U8, 08 R290: the reserved byte. -/
  rsv : Nat
  /-- U32, 08 R291: SCRC. -/
  scrc : Nat
  deriving DecidableEq, Repr

end Sys2Proof
end

