-- ==== Sys2Proof/SlotSyntax.lean ====
section
/-!
DEFINITION. The four slots of a tile instruction as syntax (04 R142, R150, R152, R155, R157).
-/

namespace Sys2Proof

/-- A 4-bit register field naming d0 to d15 of the current window (04, Terms in play). -/
abbrev Reg := BitVec 4

/-- The MAC modes (03 R95). -/
inductive MacMode where
  | cmac
  | dmac
  | wmac
  deriving DecidableEq, Repr

/-- The forms of a MAC mode: accumulate, subtract, overwrite (03 R95). -/
inductive MacForm where
  | acc
  | sub
  | mul
  deriving DecidableEq, Repr

/-- The MAC slot (04 R150, R151). -/
inductive MacOp where
  | nop
  | mul (mode : MacMode) (form : MacForm) (f s cj : Bool) (a b : Reg)
  | extH (s : Bool) (rnd : BitVec 2) (n : BitVec 5) (im hi : Bool) (d : Reg)
  | extW (s : Bool) (rnd : BitVec 2) (n : BitVec 5) (im : Bool) (d : Reg)
  | extC (s : Bool) (rnd : BitVec 2) (n : BitVec 5) (d : Reg)
  | lda (s : Bool) (n : BitVec 5) (im c : Bool) (a : Reg)
  | aclr (re im : Bool)
  | asum (s : Bool)
  deriving DecidableEq, Repr

/-- The ALU operations of the register form, in opcode order from 0x01 (04 R153). -/
inductive AluReg where
  | add
  | sub
  | addu
  | subu
  | add2
  | sub2
  | neg
  | abs
  | min
  | max
  | and
  | or
  | xor
  | andn
  | mov
  | shl
  | shr
  | sar
  | ror
  | cmp
  | tst
  | norm
  | pack
  | rds
  | hadd2
  | hsub2
  deriving DecidableEq, Repr

/-- The ALU operations of the immediate form, in opcode order from 0x20 (04 R153). -/
inductive AluImm where
  | addi
  | andi
  | ori
  | xori
  | shli
  | shri
  | sari
  | rori
  | cmpi
  | clrs
  deriving DecidableEq, Repr

/-- The constant form's kinds, in KIND order (04 R153). -/
inductive AluConst where
  | movl
  | movlu
  | movh
  deriving DecidableEq, Repr

/-- The ALU slot (04 R152). -/
inductive AluOp where
  | nop
  | reg (op : AluReg) (u s : Bool) (d a b : Reg)
  | imm (op : AluImm) (u s : Bool) (d a : Reg) (imm8 : BitVec 8)
  | mask (m : BitVec 18)
  | const (kind : AluConst) (d : Reg) (imm16 : BitVec 16)
  deriving DecidableEq, Repr

/-- Access sizes H, W and D, in SZ order (04 R155). -/
inductive MemSize where
  | h
  | w
  | d
  deriving DecidableEq, Repr

/-- The AMOD updates, in SUB order (04 R156). -/
inductive AmodSub where
  | step
  | seti
  | setb
  | setm
  deriving DecidableEq, Repr

/-- The memory slot (04 R155). -/
inductive MemOp where
  | nop
  | ld (ag : Bool) (sz : MemSize) (d : Reg) (pm : Bool)
  | st (ag : Bool) (sz : MemSize) (s : Reg) (pm : Bool)
  | ld2 (da db : Reg) (pm0 pm1 : Bool)
  | ldr (d a : Reg) (off : BitVec 8)
  | str (s a : Reg) (off : BitVec 8)
  | amod (ag : Bool) (sub : AmodSub) (a : Reg)
  | stm (bk : Bool) (base : Reg) (pm : Bool)
  | ldm (bk : Bool) (base : Reg) (pm : Bool)
  | mfence
  deriving DecidableEq, Repr

/-- The flow/switch slot (04 R157). The last field of `alu2` is b, or a shift amount (04 R154). -/
inductive FlowOp where
  | nop
  | sw (rx : Bool) (rxp : BitVec 3) (rxd : Reg) (tx : Bool) (txp : BitVec 3) (txs : Reg)
  | alu2Reg (op : AluReg) (s : Bool) (d a b : Reg)
  | alu2Imm (op : AluImm) (s : Bool) (d a : Reg) (amount : BitVec 5)
  | jmp (u : Bool) (cond : BitVec 4) (target : BitVec 9)
  | call (ind : Bool) (a : Reg) (target : BitVec 9)
  | ret
  | reps (len : BitVec 4) (count : BitVec 16)
  | repr (a : Reg) (stop : BitVec 9)
  | brk
  | ctx (slot : BitVec 4)
  | trap (code : BitVec 8)
  deriving DecidableEq, Repr

/-- What ALU2 carries: a register-form operation, or a shift by an amount (04 R154). -/
inductive Alu2Op where
  | reg (op : AluReg) (s : Bool) (d a b : Reg)
  | imm (op : AluImm) (s : Bool) (d a : Reg) (amount : BitVec 5)
  deriving DecidableEq, Repr

/-- The bits of the slots of an instruction that stand beside the one a row is about; the row's own
slot is not read from here (04 R142). -/
structure Companions where
  mac : BitVec 28 := 0
  alu : BitVec 24 := 0
  mem : BitVec 20 := 0
  flow : BitVec 24 := 0
  deriving DecidableEq, Repr

end Sys2Proof
end

