-- ==== Sys2Proof/Syntax.lean ====
section
/-!
DEFINITION. The commands of the block: one constructor per row of spec/opcode_table.json, in the
table's order.
-/

namespace Sys2Proof

/-- A command: one whole step of the part, with what it takes from outside. -/
inductive Instr where
  /-- R513: A feed applies power to an unpowered device, asserting the POWER_ON reset source, limiting inrush until the holdup store is charged and the rails are in window. -/
  | powerOn (f : Fin 2)
  /-- R531: The last asserted reset source is released (POWER_ON ready, FEED_LOSS feed POWERED, NRESET high, or COMMAND 10 ms elapsed) and the device enters BOOT. -/
  | resetRelease (powerReady nresetHigh bistPass : Bool) (weak : List (Fin 64))
  /-- R268: The boot ROM selects a Gaffer image: TRIAL slot, then CONFIRMED slot, then untried slots, or enters HALT with FW_NONE. -/
  | imageSelection
  /-- R432: The Gaffer firmware starts, clears every lease holder, advances every epoch, replays the journal and, from BOOT, enters SERVICE. -/
  | gafferFirmwareStart (torn : Bool) (gaps : List Nat) (lost : List (Fin 16777216))
  /-- R36: An OpCommand 1 write requests SERVICE to RUN, checked for an active blank, power admission, brown-out and pending refresh. -/
  | opcommandRun (q : Req)
  /-- R36: An OpCommand 2 write requests RUN to SERVICE or wakes from SLEEP. -/
  | opcommandService (q : Req)
  /-- R535: An OpCommand 3 write moves SERVICE to SLEEP, gating clusters and units, turning rings OFF and unhoming angle channels. -/
  | opcommandSleep (q : Req)
  /-- R528: An OpCommand 4 write flushes the journal and asserts the COMMAND reset source for 10 ms. -/
  | opcommandReset (q : Req)
  /-- R30: An OpCommand 5 write restarts the Gaffer alone while the planes run on. -/
  | opcommandGafferRestart (q : Req)
  /-- R529: NRESET held low for 1 µs or more asserts the NRESET reset source, deferred during a shed until SHED is committed. -/
  | nresetLow (ns : Nat)
  /-- R30: The Gaffer watchdog expires after 500 ms unserved; the count rises and the Gaffer restarts, or on the third consecutive expiry the device enters HALT. -/
  | gafferWatchdogExpiry
  /-- R30: After 10 s of serving the watchdog without expiry the consecutive expiry count returns to 0. -/
  | watchdogCountClear
  /-- R268: A TRIAL image that has run 10 s in SERVICE or RUN without a watchdog expiry marks its slot CONFIRMED and the other slot NONE. -/
  | trialConfirm
  /-- R36: With both feeds gone the holdup store is exhausted and the device goes OFF while the keeper runs from VKEEP. -/
  | holdupExhausted (mv : Nat)
  /-- R536: A Wake-on-LAN magic packet on FA or FB moves SLEEP to SERVICE and starts ring TRAINING. -/
  | wakeFrame (p : Port) (b : List Nat)
  /-- R536: WAKE held low for 10 ms after a falling edge since SLEEP entry moves SLEEP to SERVICE. -/
  | wakePin
  /-- R60: A completed Sync exchange yields an offset and path-delay sample that the servo rejects as an outlier or uses to discipline F. -/
  | ptpSyncSample (p : Port) (log offset delay : Int)
  /-- R61: No valid Sync for three Sync intervals moves the timebase from DISCIPLINED to HOLDOVER. -/
  | syncTimeout
  /-- R61: An Announce receipt timeout moves the timebase to HOLDOVER. -/
  | announceTimeout
  /-- R57: An Announce message updates CurrentUtcOffset and, on a new grandmaster identity, enters HOLDOVER and starts GmSettle. -/
  | announce (identity : Fin 18446744073709551616) (utc : Int)
  /-- R53: A PTP message crossing the switch is forwarded, with residence time added to correctionField in TC mode. -/
  | ptpForward (p : Port) (correction residence : Int)
  /-- R58: After 60 s in HOLDOVER the time quality falls to NONE. -/
  | holdoverQualityExpiry
  /-- R61: After HoldoverMax in HOLDOVER the timebase enters FREE and F is frozen. -/
  | holdoverMaxExpiry
  /-- R478: Every 10 s the Gaffer commits a TIME journal record with T64 and timebase state. -/
  | journalTime
  /-- R532: After 10 minutes DISCIPLINED the Gaffer stores the learned frequency in persistence, at most once per 10 minutes. -/
  | frequencySave
  /-- R73: A filtered RS-422 A or B edge is timestamped and updates the quadrature count or counts as an illegal transition. -/
  | encoderEdge (c : Fin 2) (b level : Bool) (sub : Fin 32)
  /-- R75: A Z edge in forward rotation homes the channel or, on a position mismatch, moves it to LOST. -/
  | zEdge (c : Fin 2) (sub : Fin 32)
  /-- R82: At each 200 ns grid instant the predictor updates from the measurement (sin/cos sample or edge) per the channel state. -/
  | angleGridUpdate (c : Fin 2) (ph : Fin 65536) (amp : Nat)
  /-- R73: Loss of the differential signal for over 1 µs, or sin/cos amplitude out of window for over 10 µs, moves the channel to LOST. -/
  | signalLoss (c : Fin 2)
  /-- R78: No line crossing for StopTime moves a LOCKED or SUSPECT channel to STOPPED, homed. -/
  | stopTimeExpiry (c : Fin 2)
  /-- R78: A write of AngleFaultAck moves a LOST channel to STOPPED, not homed. -/
  | angleFaultAck (q : Req) (b : List Nat)
  /-- R87: MarkLead before a mark the angle unit fixes it on the next ACLK edge and publishes NextMarkTime and the course number. -/
  | courseMarkFix
  /-- R86: A fixed course mark takes place at its edge, driving COURSE triggers and MARK activations and applies. -/
  | courseMark
  /-- R85: 400 ns after a firing the unit computes the angle residual and updates FiringResidualMax. -/
  | firingResidual (r : Fin 16) (uid : Nat)
  /-- R144: An all-zero instruction or slot does nothing for one cycle. -/
  | nop (t : Fin 1024)
  /-- R96: Complex multiply-accumulate into ACCRE and ACCIM. -/
  | cmac (t : Fin 1024) (f sat cj : Bool) (a b : Reg) (c : Companions)
  /-- R96: Complex multiply-subtract from ACCRE and ACCIM. -/
  | cmsb (t : Fin 1024) (f sat cj : Bool) (a b : Reg) (c : Companions)
  /-- R96: Complex multiply overwriting ACCRE and ACCIM. -/
  | cmul (t : Fin 1024) (f sat cj : Bool) (a b : Reg) (c : Companions)
  /-- R96: Dual 16 by 16 multiply-accumulate into ACCRE and ACCIM. -/
  | dmac (t : Fin 1024) (f sat : Bool) (a b : Reg) (c : Companions)
  /-- R96: Dual 16 by 16 multiply-subtract. -/
  | dmsb (t : Fin 1024) (f sat : Bool) (a b : Reg) (c : Companions)
  /-- R96: Dual 16 by 16 multiply overwriting the accumulators. -/
  | dmul (t : Fin 1024) (f sat : Bool) (a b : Reg) (c : Companions)
  /-- R96: 32 by 16 multiply-accumulate into ACCRE. -/
  | wmac (t : Fin 1024) (f sat : Bool) (a b : Reg) (c : Companions)
  /-- R96: 32 by 16 multiply-subtract from ACCRE. -/
  | wmsb (t : Fin 1024) (f sat : Bool) (a b : Reg) (c : Companions)
  /-- R96: 32 by 16 multiply overwriting ACCRE. -/
  | wmul (t : Fin 1024) (f sat : Bool) (a b : Reg) (c : Companions)
  /-- R97: Extract an accumulator with shift, rounding and saturation into one half of a register. -/
  | extH (t : Fin 1024) (sat : Bool) (rnd : BitVec 2) (n : BitVec 5) (im hi : Bool) (d : Reg) (c : Companions)
  /-- R97: Extract an accumulator to a 32-bit register. -/
  | extW (t : Fin 1024) (sat : Bool) (rnd : BitVec 2) (n : BitVec 5) (im : Bool) (d : Reg) (c : Companions)
  /-- R97: Extract ACCRE and ACCIM into the two halves of one register. -/
  | extC (t : Fin 1024) (sat : Bool) (rnd : BitVec 2) (n : BitVec 5) (d : Reg) (c : Companions)
  /-- R151: Load an accumulator, or both from two halves, from a shifted register. -/
  | lda (t : Fin 1024) (sat : Bool) (n : BitVec 5) (im both : Bool) (a : Reg) (c : Companions)
  /-- R151: Clear the selected accumulators and MV. -/
  | aclr (t : Fin 1024) (re im : Bool) (c : Companions)
  /-- R151: Add ACCIM into ACCRE. -/
  | asum (t : Fin 1024) (sat : Bool) (c : Companions)
  /-- R153: Signed 32-bit add on the chosen ALU. -/
  | add (t : Fin 1024) (u sat : Bool) (d a b : Reg) (c : Companions)
  /-- R153: Signed 32-bit subtract. -/
  | sub (t : Fin 1024) (u sat : Bool) (d a b : Reg) (c : Companions)
  /-- R153: Unsigned add. -/
  | addu (t : Fin 1024) (u sat : Bool) (d a b : Reg) (c : Companions)
  /-- R153: Unsigned subtract. -/
  | subu (t : Fin 1024) (u sat : Bool) (d a b : Reg) (c : Companions)
  /-- R153: Paired 16-bit add. -/
  | add2 (t : Fin 1024) (u sat : Bool) (d a b : Reg) (c : Companions)
  /-- R153: Paired 16-bit subtract. -/
  | sub2 (t : Fin 1024) (u sat : Bool) (d a b : Reg) (c : Companions)
  /-- R153: Negate a register. -/
  | neg (t : Fin 1024) (u sat : Bool) (d a : Reg) (c : Companions)
  /-- R153: Absolute value of a register. -/
  | abs (t : Fin 1024) (u sat : Bool) (d a : Reg) (c : Companions)
  /-- R153: Signed minimum. -/
  | min (t : Fin 1024) (u sat : Bool) (d a b : Reg) (c : Companions)
  /-- R153: Signed maximum. -/
  | max (t : Fin 1024) (u sat : Bool) (d a b : Reg) (c : Companions)
  /-- R153: Bitwise AND. -/
  | and (t : Fin 1024) (u sat : Bool) (d a b : Reg) (c : Companions)
  /-- R153: Bitwise OR. -/
  | or (t : Fin 1024) (u sat : Bool) (d a b : Reg) (c : Companions)
  /-- R153: Bitwise XOR. -/
  | xor (t : Fin 1024) (u sat : Bool) (d a b : Reg) (c : Companions)
  /-- R153: Bitwise AND NOT. -/
  | andn (t : Fin 1024) (u sat : Bool) (d a b : Reg) (c : Companions)
  /-- R153: Register move. -/
  | mov (t : Fin 1024) (u sat : Bool) (d a : Reg) (c : Companions)
  /-- R153: Shift left, saturating with S set. -/
  | shl (t : Fin 1024) (u sat : Bool) (d a b : Reg) (c : Companions)
  /-- R153: Logical shift right. -/
  | shr (t : Fin 1024) (u sat : Bool) (d a b : Reg) (c : Companions)
  /-- R153: Arithmetic shift right. -/
  | sar (t : Fin 1024) (u sat : Bool) (d a b : Reg) (c : Companions)
  /-- R153: Rotate right. -/
  | ror (t : Fin 1024) (u sat : Bool) (d a b : Reg) (c : Companions)
  /-- R153: Set flags of a minus b without writing. -/
  | cmp (t : Fin 1024) (u sat : Bool) (a b : Reg) (c : Companions)
  /-- R153: Set flags of a AND b without writing. -/
  | tst (t : Fin 1024) (u sat : Bool) (a b : Reg) (c : Companions)
  /-- R153: Count redundant sign bits. -/
  | norm (t : Fin 1024) (u sat : Bool) (d a : Reg) (c : Companions)
  /-- R153: Pack two low halves into one register. -/
  | pack (t : Fin 1024) (u sat : Bool) (d a b : Reg) (c : Companions)
  /-- R153: Read T.STATUS into a register. -/
  | rds (t : Fin 1024) (u sat : Bool) (d : Reg) (c : Companions)
  /-- R153: Paired halving add. -/
  | hadd2 (t : Fin 1024) (u sat : Bool) (d a b : Reg) (c : Companions)
  /-- R153: Paired halving subtract. -/
  | hsub2 (t : Fin 1024) (u sat : Bool) (d a b : Reg) (c : Companions)
  /-- R153: Add a sign-extended immediate. -/
  | addi (t : Fin 1024) (u sat : Bool) (d a : Reg) (i : BitVec 8) (c : Companions)
  /-- R153: AND with an immediate. -/
  | andi (t : Fin 1024) (u sat : Bool) (d a : Reg) (i : BitVec 8) (c : Companions)
  /-- R153: OR with an immediate. -/
  | ori (t : Fin 1024) (u sat : Bool) (d a : Reg) (i : BitVec 8) (c : Companions)
  /-- R153: XOR with an immediate. -/
  | xori (t : Fin 1024) (u sat : Bool) (d a : Reg) (i : BitVec 8) (c : Companions)
  /-- R153: Shift left by an immediate. -/
  | shli (t : Fin 1024) (u sat : Bool) (d a : Reg) (n : BitVec 5) (c : Companions)
  /-- R153: Logical shift right by an immediate. -/
  | shri (t : Fin 1024) (u sat : Bool) (d a : Reg) (n : BitVec 5) (c : Companions)
  /-- R153: Arithmetic shift right by an immediate. -/
  | sari (t : Fin 1024) (u sat : Bool) (d a : Reg) (n : BitVec 5) (c : Companions)
  /-- R153: Rotate right by an immediate. -/
  | rori (t : Fin 1024) (u sat : Bool) (d a : Reg) (n : BitVec 5) (c : Companions)
  /-- R153: Compare with a sign-extended immediate. -/
  | cmpi (t : Fin 1024) (u sat : Bool) (a : Reg) (i : BitVec 8) (c : Companions)
  /-- R161: Clear sticky SAT and OVF as selected, with a same-instruction set winning. -/
  | clrs (t : Fin 1024) (csat covf : Bool) (c : Companions)
  /-- R153: Supply the register mask of STM or LDM. -/
  | xmask (t : Fin 1024) (m : BitVec 18) (c : Companions)
  /-- R153: Load a sign-extended 16-bit constant. -/
  | movl (t : Fin 1024) (d : Reg) (i : BitVec 16) (c : Companions)
  /-- R153: Load a zero-extended 16-bit constant. -/
  | movlu (t : Fin 1024) (d : Reg) (i : BitVec 16) (c : Companions)
  /-- R153: Load the high half of a register, keeping the low half. -/
  | movh (t : Fin 1024) (d : Reg) (i : BitVec 16) (c : Companions)
  /-- R154: An ALU operation carried in the flow/switch slot runs on the ALU the ALU slot does not use. -/
  | alu2 (t : Fin 1024) (op : Alu2Op) (c : Companions)
  /-- R155: Load 16, 32 or 64 bits through an AGU. -/
  | ld (t : Fin 1024) (ag : Bool) (sz : MemSize) (d : Reg) (pm : Bool) (c : Companions)
  /-- R155: Store 16, 32 or 64 bits through an AGU. -/
  | st (t : Fin 1024) (ag : Bool) (sz : MemSize) (r : Reg) (pm : Bool) (c : Companions)
  /-- R155: Two 32-bit loads through AGU0 and AGU1. -/
  | ld2 (t : Fin 1024) (da db : Reg) (pm0 pm1 : Bool) (c : Companions)
  /-- R155: Load at a register plus offset. -/
  | ldr (t : Fin 1024) (d a : Reg) (off : BitVec 8) (c : Companions)
  /-- R155: Store at a register plus offset. -/
  | str (t : Fin 1024) (r a : Reg) (off : BitVec 8) (c : Companions)
  /-- R156: Advance an AGU index without access. -/
  | amodStep (t : Fin 1024) (ag : Bool) (c : Companions)
  /-- R156: Set an AGU index. -/
  | amodSeti (t : Fin 1024) (ag : Bool) (a : Reg) (c : Companions)
  /-- R156: Set an AGU base, ESZ and mode. -/
  | amodSetb (t : Fin 1024) (ag : Bool) (a : Reg) (c : Companions)
  /-- R156: Set an AGU length and step. -/
  | amodSetm (t : Fin 1024) (ag : Bool) (a : Reg) (c : Companions)
  /-- R122: Store multiple registers beat by beat, resumable after a hold from T.MPROG. -/
  | stm (t : Fin 1024) (bk : Bool) (base : Reg) (pm : Bool) (c : Companions)
  /-- R122: Load multiple registers beat by beat, resumable, writing its base register only on completion. -/
  | ldm (t : Fin 1024) (bk : Bool) (base : Reg) (pm : Bool) (c : Companions)
  /-- R155: Hold until every earlier store to cluster memory has been written. -/
  | mfence (t : Fin 1024) (c : Companions)
  /-- R159: Take a token from an input port and/or send a register to an output port, held until both are ready. -/
  | sw (t : Fin 1024) (rx : Bool) (rxp : BitVec 3) (rxd : Reg) (tx : Bool) (txp : BitVec 3) (txs : Reg) (parity : Option (Fin 1024 × Fin 8)) (c : Companions)
  /-- R158: Jump when the condition on the chosen ALU flags holds. -/
  | jmp (t : Fin 1024) (u : Bool) (cond : BitVec 4) (target : BitVec 9) (c : Companions)
  /-- R111: Call: rotate the window, pass arguments, push a frame, trapping on overflow. -/
  | call (t : Fin 1024) (ind : Bool) (a : Reg) (target : BitVec 9) (c : Companions)
  /-- R112: Return: copy results, restore PC from LNK and pop a frame, trapping on underflow. -/
  | ret (t : Fin 1024) (c : Companions)
  /-- R115: The spill engine finishes serving a window trap and the CALL or RET completes, letting a waiting switch take effect. -/
  | windowTrapComplete (t : Fin 1024) (wait : Nat)
  /-- R124: Set up a short repeat block with an immediate count. -/
  | repeatImm (t : Fin 1024) (len : BitVec 4) (count : BitVec 16) (c : Companions)
  /-- R124: Set up a repeat block with a register count. -/
  | repeatReg (t : Fin 1024) (a : Reg) (stop : BitVec 9) (c : Companions)
  /-- R127: Pop the current repeat entry and jump after its END. -/
  | breakOp (t : Fin 1024) (c : Companions)
  /-- R157: Trigger a rank-6 switch to a named context, ending the run when the slot is 15. -/
  | ctx (t : Fin 1024) (slot : BitVec 4) (c : Companions)
  /-- R157: Fault the tile with TRAP and record the code in T.TRAPC. -/
  | trap (t : Fin 1024) (code : BitVec 8) (c : Companions)
  /-- R131: At an edge armed by the sequencer each affected tile takes a rank-4 switch to the named slot. -/
  | scheduledSwitch (c : Fin 64)
  /-- R135: 40 cycles before an armed scheduled switch tiles begin holding any CALL or RET that would trap. -/
  | switchGuard (c : Fin 64) (arm : List (Fin 16 × Fin 16))
  /-- R137: The sequencer holds a tile, which keeps its context and stalls. -/
  | sequencerHold (t : Fin 1024)
  /-- R122: A held tile is released and resumes where it stopped, resuming an interrupted STM or LDM. -/
  | holdRelease (t : Fin 1024)
  /-- R110: Data of a cluster-memory load lands in its register 4 cycles after issue, releasing stalled instructions. -/
  | loadDataArrival (t : Fin 1024)
  /-- R93: Every 4,096 cycles each cluster-memory bank runs an 8-cycle ECC scrub burst. -/
  | clusterMemoryScrub (c : Fin 64) (bank : Fin 4) (w : Nat)
  /-- R107: After 16 consecutive refusals the sequencer port takes a tile-memory bank for one cycle and the tile stalls. -/
  | sequencerPortTake (t : Fin 1024) (bank : Fin 2)
  /-- R130: A sequencer write of a context descriptor word, refused for the current context or illegal AGU settings. -/
  | descriptorWrite (t : Fin 1024) (k : Fin 16) (j : Fin 8) (v : Word)
  /-- R130: A sequencer write of an instruction word, refused inside the current context's code region. -/
  | instructionWordWrite (t : Fin 1024) (i : Fin 512) (j : Fin 3) (v : Word)
  /-- R140: A write to a hardware register without a row of its own (tile map, probe, fuse controller), refused unless allowed in the present state. -/
  | registerWrite (src : Fin 78) (w : HwWrite)
  /-- R520: The governor gates an idle uncommitted cluster after 100 µs without requests, setting its gated-mask bit. -/
  | clusterPowerGate (c : Fin 64)
  /-- R232: A gated cluster finishes powering up, serves its buffered requests and clears its gated bit. -/
  | clusterWake (c : Fin 64)
  /-- R178: Command ARM moves a LOADED or STOPPED task to ARMED in RUN, waking its gated clusters first. -/
  | taskArm (q : Req) (n : Fin 256)
  /-- R188: Command CANCEL stops a task, switching its tiles to context 15, or aborts a pending multi-cluster start. -/
  | taskCancel (q : Req) (n : Fin 256)
  /-- R187: Command DRAIN moves a RUNNING task to DRAINING, closing its inputs. -/
  | taskDrain (q : Req) (n : Fin 256)
  /-- R178: Command ACK_FAULT moves a FAULTED task to LOADED. -/
  | taskAckFault (q : Req) (n : Fin 256)
  /-- R178: Command UNLOAD moves a LOADED, STOPPED or FAULTED task to ABSENT. -/
  | taskUnload (q : Req) (n : Fin 256)
  /-- R179: Command FIRE fires a HOST trigger at the edge the leader accepts it. -/
  | taskFire (q : Req) (n : Fin 256)
  /-- R179: A TIME trigger fires at the first edge at or after its time, making the task READY or pending. -/
  | triggerTime (n : Fin 256)
  /-- R179: A PERIOD trigger fires at each edge matching its period and phase. -/
  | triggerPeriod (n : Fin 256)
  /-- R179: An ANGLE trigger fires the edge after the published angle reaches its value in forward rotation. -/
  | triggerAngle (n : Fin 256)
  /-- R181: A sequencer dispatches the highest-priority READY task whose tiles are unowned, making it RUNNING. -/
  | taskDispatch (c : Fin 64)
  /-- R183: At S − 32 the leader sends COMMIT if all ACKs arrived, else ABORT, faulting the task after three aborts. -/
  | startDecision (n : Fin 256)
  /-- R183: At the start tick every committed cluster dispatches the task. -/
  | startTick (n : Fin 256)
  /-- R187: A DRAINING task whose tiles are done or starved becomes STOPPED with DRAINED. -/
  | drainComplete (n : Fin 256)
  /-- R187: DrainMax expiry stops a DRAINING task with DRAIN_TIMEOUT. -/
  | drainTimeout (n : Fin 256)
  /-- R192: One edge after a task stops its input buffers and input queue are flushed and counted. -/
  | inputFlush (n : Fin 256)
  /-- R188: The leader's CANCEL message reaches another cluster and switches the task's tiles there to context 15. -/
  | cancelMessage (n : Fin 256) (c : Fin 64)
  /-- R369: At the first ACLK edge after QUENCHED reaches the array every Z0 tile switches to context 15 and Z0 tasks stop with QUENCH. -/
  | quenchStop
  /-- R171: A write of ClusterMap for Z1 to Z7, refused with ZONE_BUSY or ZONE_CLASH. -/
  | clusterMapWrite (q : Req) (z : Fin 7) (b : List Nat)
  /-- R174: A holder of both zone leases opens a bridge between adjacent clusters. -/
  | bridgeOpen (q : Req) (k : Fin 32)
  /-- R174: A bridge close, refused with BRIDGE_IN_USE while a task routes across it. -/
  | bridgeClose (q : Req) (k : Fin 32)
  /-- R205: A target serves a read request and answers with data. -/
  | rd (n : Fin 78) (p : Packet)
  /-- R205: A target serves a write request. -/
  | wr (n : Fin 78) (p : Packet)
  /-- R203: A target serves a byte-masked write. -/
  | wrm (n : Fin 78) (p : Packet)
  /-- R203: A target swaps a word and returns the old one. -/
  | swap (n : Fin 78) (p : Packet)
  /-- R203: A target fetch-and-adds a word. -/
  | fadd (n : Fin 78) (p : Packet)
  /-- R203: A target compares and swaps a word. -/
  | cas (n : Fin 78) (p : Packet)
  /-- R203: A target appends words to the named queue, answering QUEUE_FULL when full. -/
  | qpush (n : Fin 78) (p : Packet)
  /-- R203: A target acts on a control message whose meaning belongs to its unit. -/
  | msg (n : Fin 78) (p : Packet) (m : Option StagedMsg)
  /-- R235: A member stages an ATOMIC message in a free entry or answers STAGE_FULL. -/
  | atomicStage (n : Fin 78) (q : StageReq)
  /-- R235: A member receiving COMMIT by HOLD applies its staged message at the apply edge or at once. -/
  | atomicCommit (n : Fin 78) (p : Packet)
  /-- R235: A member receiving ABORT discards its staged message. -/
  | atomicAbort (n : Fin 78) (p : Packet)
  /-- R230: A target answers CSYNC once it holds no request from the named initiator, letting the Gaffer revive the entry. -/
  | csync (n : Fin 78) (p : Packet)
  /-- R224: A guaranteed stream packet enters its flow queue, discarded whole when the queue is full. -/
  | gwr (f : Fin 64) (words : List (Fin 18446744073709551616))
  /-- R229: A response reaches its initiator, freeing the tag and returning the credit. -/
  | rsp (n : Fin 78) (p : Packet)
  /-- R228: A request's class timeout expires; a TIMEOUT response is synthesised, the tag freed with a new epoch and the credit marked lost. -/
  | requestTimeout (n : Fin 78) (k : Fin 64)
  /-- R220: A router drops a packet not allowed by the zone mask or with a bad route, answering ZONE_DENIED or ROUTE_ERR. -/
  | routerDrop (r : Fin 78) (port : Fin 6) (p : Packet)
  /-- R201: An uncorrectable flit error makes the router discard the whole packet and log NET_UE. -/
  | linkUncorrectable (r : Fin 78) (p : Packet)
  /-- R237: A write of the descriptor ring's producer word makes the NI take new transfer descriptors in order. -/
  | descriptorProducer (c : Fin 64) (v : Fin 256)
  /-- R235: At DEADLINE the initiator sends COMMIT if every member's OK counted, otherwise ABORT. -/
  | atomicDeadline (n : Fin 78) (k : Fin 64)
  /-- R235: A member still holding an uncommitted message after HOLD discards it and sends MSG MISS. -/
  | atomicHoldExpiry (n : Fin 78)
  /-- R235: A committed staged message takes effect at its apply edge. -/
  | atomicApplyEdge (n : Fin 78)
  /-- R221: At a frame boundary chosen by the Gaffer every router swaps its shadow and active slot tables. -/
  | slotTableSwap
  /-- R238: Writing CLR in PRB_CTL zeroes the probe's counters and trace pointer. -/
  | probeClear (q : Req) (k : Fin 16) (b : List Nat)
  /-- R483: A probe stopped in TRACE_STOP with its archive bit set has its trace written to the next archive slot. -/
  | traceArchive (k : Fin 16)
  /-- R256: A Header write checks MAGIC, HDRCRC, MEMBER and FORMAT, takes a staging slot and reserves library space. -/
  | stagingHeader (q : Req) (k : Fin 2) (b : List Nat)
  /-- R256: A Body segment write appends image bytes in order, starting verification on the last byte. -/
  | stagingBody (q : Req) (k : Fin 2) (off : Fin 4294967296) (last : Bool) (data : List Nat)
  /-- R257: Verification of key, signature, sections and rules completes, storing golden signatures or refusing the blank. -/
  | verificationComplete (k : Fin 2)
  /-- R254: A FromLibrary write stages a library entry into a slot for verification. -/
  | fromLibrary (q : Req) (k : Fin 2) (b : List Nat)
  /-- R258: A Prime write checks zones, footprint, tasks, flows, bridges and credits and starts writing the blank into spare slots. -/
  | prime (q : Req) (k : Fin 2) (b : List Nat)
  /-- R258: Priming finishes with a full Assay pass over the incoming slots and the slot becomes PRIMED. -/
  | primingComplete (k : Fin 2)
  /-- R261: A Go write requests activation of a PRIMED slot in IMMEDIATE, TIME or MARK mode. -/
  | go (q : Req) (k : Fin 2) (b : List Nat)
  /-- R259: A Withdraw write clears every VALID bit and reservation of a staging before ACTIVATING. -/
  | withdraw (q : Req) (k : Fin 2) (b : List Nat)
  /-- R262: The Gaffer starts the ATOMIC round to every sequencer of the blank's zones for edge E. -/
  | activationRound (k : Fin 2)
  /-- R263: At E old tiles switch to context 15, VALID bits flip, setup records run, old tasks go ABSENT and new tasks load and arm. -/
  | activationEdge (k : Fin 2)
  /-- R265: No mark fixed within MarkWait makes a MARK activation or AT_MARK apply fail with MARK_TIMEOUT or fall back to TIME. -/
  | markWaitExpiry (slot : Option (Fin 2)) (j : Nat)
  /-- R266: A Delete write removes a library entry unless it is ACTIVE or holds a staging slot. -/
  | libraryDelete (q : Req) (e : Fin 32) (b : List Nat)
  /-- R269: A FwHeader write starts a firmware upload to the slot not running. -/
  | fwHeader (q : Req) (b : List Nat)
  /-- R269: A FwBody segment streams firmware into the store and verification follows the last byte. -/
  | fwBody (q : Req) (off : Fin 4294967296) (last : Bool) (data : List Nat)
  /-- R269: A FwTrial write marks a verified image TRIAL to run at the next restart. -/
  | fwTrial (q : Req) (b : List Nat)
  /-- R272: Every ScrubPeriod the Assay checks golden signatures of every VALID and primed slot and each sequencer bank. -/
  | assayPass (us : Fin 151)
  /-- R274: The Assay rewrites a tainted slot from its library entry and sets VALID, or logs ASSAY_NO_SOURCE. -/
  | assayRepair (t : Fin 1024) (k : Fin 15)
  /-- R272: No pass within two periods raises ASSAY_LATE and drops the quench line when Z0 holds a VALID slot. -/
  | assayLate
  /-- R313: A RingEnable write sends a ring to TRAINING or OFF. -/
  | ringEnable (r : Fin 16) (on : Bool)
  /-- R313: A ring still in TRAINING after 1 s enters FAULT. -/
  | trainingTimeout (r : Fin 16)
  /-- R297: At each multiple of TimePeriod each fed end sends a TMARK, followed within 2 µs by a TIME frame. -/
  | tmarkSend (r : Fin 16)
  /-- R299: A head timestamps a TMARK arriving at its feed port for pairing. -/
  | tmark (r : Fin 16) (p : Fin 65) (portD : Bool)
  /-- R298: A head pairs a TIME frame with its TMARK, sets its feed port and corrects its local time. -/
  | timeFrame (r : Fin 16) (p : Fin 65) (b good : Bool) (ttx epoch : Nat)
  /-- R302: An armed head turns a CMARK back out of its port and forwards it; the device timestamps returned CMARKs. -/
  | cmark (r : Fin 16) (at_ : CmarkAt)
  /-- R285: An abort symbol ends a frame, which every receiver discards. -/
  | abt (r : Fin 16) (p : Fin 65)
  /-- R293: A head meeting a code violation in a forwarded frame sends ABT and then IDLE. -/
  | codeViolation (r : Fin 16) (p : Fin 65)
  /-- R308: A port losing synchronisation for 1 µs or transitions for 200 ns is declared down; the head sends LFAULT, loops back and sends PORT_DOWN. -/
  | portDownDetect (r : Fin 16) (p : Fin 65) (portD : Bool)
  /-- R308: Synchronisation held for 1 ms declares the port up; the head stops LFAULT and sends PORT_UP. -/
  | portUpDetect (r : Fin 16) (p : Fin 65) (portD : Bool)
  /-- R305: A head raises HOPS and takes its position from an outbound COUNT; the returned frame gives the device the head count. -/
  | enumCount (r : Fin 16) (b good : Bool) (at_ : CountAt) (hops base : Fin 256)
  /-- R306: Each positioned head answers DESCRIBE with its descriptor. -/
  | enumDescribe (r : Fin 16) (p : Fin 65) (good : Bool)
  /-- R311: A looped-back head with both ports up leaves loopback at the first frame boundary after CLOSE. -/
  | enumClose (r : Fin 16) (p : Fin 65) (good : Bool)
  /-- R307: The device records a head descriptor and, after enumeration, writes the head's MGMT settings. -/
  | enumDesc (r : Fin 16) (p : Fin 65) (prov good : Bool) (d : HeadDesc)
  /-- R310: The device receives a PORT_DOWN and treats it as a break. -/
  | enumPortDown (r : Fin 16) (p : Fin 65) (portD good : Bool)
  /-- R311: The device receives a PORT_UP, and when every break has healed sends CLOSE and renumbers. -/
  | enumPortUp (r : Fin 16) (p : Fin 65) (portD good : Bool)
  /-- R302: A head arms to turn the next CMARK at port U. -/
  | calArmU (r : Fin 16) (p : Fin 65) (dst : Fin 256) (good : Bool)
  /-- R302: A head arms to turn the next CMARK at port D. -/
  | calArmD (r : Fin 16) (p : Fin 65) (dst : Fin 256) (good : Bool)
  /-- R302: A head takes new DLYA and DLYB and answers CAL REPORT. -/
  | calSet (r : Fin 16) (p : Fin 65) (dst : Fin 256) (good : Bool) (a b : Fin 4294967296)
  /-- R312: The device receives a head's delays in force, releasing held events and closing the ring when all reported. -/
  | calReport (r : Fin 16) (p : Fin 65) (good : Bool) (a b : Fin 4294967296)
  /-- R304: Every CalPeriod the device measures round trips, computes delays and sends SETs within CalStepMax or raises CAL_CLOSURE. -/
  | calibrationCycle (r : Fin 16)
  /-- R24: A head forwards a frame of unknown type unchanged and does not act on it. -/
  | unknownFrame (r : Fin 16) (p : Fin 65)
  /-- R370: Every 250 µs each fed end's SAFE generator produces a frame with the Quench unit's QSTATE, SFMODE and QCAUSE. -/
  | safeFrameGenerate (r : Fin 16)
  /-- R352: A head checks and accepts a SAFE frame, refreshing its timeout, quenching or counting toward release. -/
  | safeFrame (r : Fin 16) (p : Fin 65) (good : Bool) (f : SafeFields)
  /-- R314: Every HistDecay every histogram bin is halved. -/
  | histDecay (m : Fin 4)
  /-- R314: Every 64 mains periods the controller shifts PHASE0 and trims P from the window's bursts. -/
  | mainsPhaseUpdate (m : Fin 4)
  /-- R315: A held deferrable frame is sent once the whole frame fits before the next noisy bin. -/
  | deferredFrameSend (m : Fin 4)
  /-- R320: A ring controller checks an EVENT record and appends it to the ring's queue or refuses it. -/
  | eventRecord (r : Fin 16) (zone : Fin 16) (w k : BitVec 64)
  /-- R338: A GROUP_OPEN record opens a BEST or ATOMIC group on a group slot. -/
  | groupOpen (r : Fin 16) (zone : Fin 16) (entry : Nat) (w k : BitVec 64)
  /-- R338: A GROUP_MEMBER record joins the open group on its slot. -/
  | groupMember (r : Fin 16) (zone : Fin 16) (entry : Nat) (w k : BitVec 64)
  /-- R338: A group whose members have not all arrived within 100 µs is discarded with every member failed. -/
  | groupAssemblyTimeout (r g : Fin 16)
  /-- R325: At its send instant an event gets an EID and is sent in an EVENT frame, or discarded while QUENCHED, or deferred for EVCAP. -/
  | eventSend (r : Fin 16) (p : Fin 65)
  /-- R328: ECHO_GAP after the first copy the frame is sent again with current WHENs, leaving out entries that cannot arrive. -/
  | eventEcho (r : Fin 16) (p : Fin 65)
  /-- R335: When an angle event's prediction moves beyond TrimThreshold a trim entry is sent, at most one per TrimInterval. -/
  | trimSend (r : Fin 16) (uid : Nat)
  /-- R336: At WHEN − 20 µs − LockGuard a final trim is sent twice where needed. -/
  | finalTrim (r : Fin 16) (uid : Nat)
  /-- R336: At WHEN − 20 µs the controller freezes the event; the last sent value is final. -/
  | eventFreeze (r : Fin 16) (uid : Nat)
  /-- R324: At WHEN + 1 µs a DONE completion token is pushed when RPT is set. -/
  | eventDone (r : Fin 16) (uid : Nat)
  /-- R340: At the group's send instant the controller sends STAGE with HOLD and DEADLINE, or waits when 8 groups are open. -/
  | groupSend (r g : Fin 16)
  /-- R340: After StageRetry the STAGE is resent to members without an OK. -/
  | stageRetry (r g : Fin 16)
  /-- R340: At DEADLINE the controller sends COMMIT if every member acknowledged, otherwise ABORT and GROUP_DONE. -/
  | groupDeadline (r g : Fin 16)
  /-- R340: Every 10 µs COMMIT is repeated to members without a COMMIT ACK while it can still arrive before HOLD. -/
  | commitRepeat (r g : Fin 16)
  /-- R341: At HOLD the controller sends GROUP_DONE and GROUP_UNCONFIRMED for unconfirmed members. -/
  | groupHold (r g : Fin 16)
  /-- R340: The controller counts a head's ACK to STAGE, COMMIT or ABORT. -/
  | ackFrame (r : Fin 16) (p : Fin 65) (gid kind status : Nat) (good : Bool)
  /-- R345: A bound SENSE frame is turned into chunks pushed to the bound task's queue within 1 µs. -/
  | senseFrame (r : Fin 16) (p : Fin 65) (stream fmt : Nat) (t0 : T80) (sper : Nat) (samples : List Nat) (good : Bool)
  /-- R488: The energy unit turns a head's ENERGY report into a delta added to RingEnergy and the HEADS register. -/
  | energyFrame (r : Fin 16) (p : Fin 65) (good : Bool) (ecum rcount : Nat)
  /-- R355: A head answers a MGMT read with RD_RSP or an error status. -/
  | mgmtRd (r : Fin 16) (p : Fin 65) (dst : Fin 256) (good : Bool) (tag addr : Fin 65536) (n : Fin 256)
  /-- R355: A head writes its MGMT registers, answering BUSY for protected ones unless quenched. -/
  | mgmtWr (r : Fin 16) (p : Fin 65) (dst : Fin 256) (good : Bool) (tag addr : Fin 65536) (data : List (Fin 4294967296))
  /-- R289: The device receives a head's read data. -/
  | mgmtRdRsp (r : Fin 16) (p : Fin 65) (good : Bool) (tag addr : Fin 65536) (data : List (Fin 4294967296))
  /-- R289: The device receives a head's write confirmation. -/
  | mgmtWrRsp (r : Fin 16) (p : Fin 65) (good : Bool) (tag : Fin 65536)
  /-- R289: The device receives a head's MGMT error status. -/
  | mgmtErr (r : Fin 16) (p : Fin 65) (good : Bool) (tag : Fin 65536)
  /-- R348: A head holds, duplicates-as-trim, withdraws or refuses each entry addressed to it. -/
  | eventFrame (r : Fin 16) (p : Fin 65) (dst : Fin 256) (good : Bool) (es : List EventEntry)
  /-- R349: A head in MASK stages a group and answers ACK OK, FULL or BAD. -/
  | stageFrame (r : Fin 16) (p : Fin 65) (good : Bool) (gid fseq : Fin 65536) (hold : Nat) (mask : List (Fin 65)) (es : List (Fin 65 × EventEntry))
  /-- R349: A head commits a staged group and answers OK, NOT_STAGED or LATE. -/
  | commitFrame (r : Fin 16) (p : Fin 65) (good : Bool) (gid fseq : Fin 65536) (mask : List (Fin 65))
  /-- R349: A head discards the group and answers OK. -/
  | abortFrame (r : Fin 16) (p : Fin 65) (good : Bool) (gid fseq : Fin 65536) (mask : List (Fin 65))
  /-- R349: A head discards a staged, uncommitted group when its local time reaches HOLD. -/
  | headHoldDiscard (r : Fin 16) (p : Fin 65) (gid : Fin 65536)
  /-- R337: When local time reaches WHEN − 20 µs the head locks the event, ignoring later trims. -/
  | headLockIn (r : Fin 16) (p : Fin 65) (eid : Fin 65536)
  /-- R334: At WHEN the head applies the event's action on its channel. -/
  | headFire (r : Fin 16) (p : Fin 65) (ch : Fin 16)
  /-- R333: A PULSE's channel is de-energised at WHEN + PARAM × 100 ns. -/
  | pulseEnd (r : Fin 16) (p : Fin 65) (ch : Fin 16)
  /-- R351: A head with no TIME pair for 3 × TIME_PERIOD, or a feed port down, enters COAST on its own oscillator. -/
  | coastEntry (r : Fin 16) (p : Fin 65)
  /-- R351: After COAST_MAX continuously in COAST the head self-quenches with cause COAST. -/
  | coastMaxExpiry (r : Fin 16) (p : Fin 65)
  /-- R353: SAFE_TIMEOUT passing since the last accepted SAFE frame self-quenches the head. -/
  | safeTimeoutExpiry (r : Fin 16) (p : Fin 65)
  /-- R356: Every ENERGY_PERIOD a head sends an ENERGY frame. -/
  | energyReport (r : Fin 16) (p : Fin 65) (uwh : Nat)
  /-- R356: A head sends the samples of an enabled stream within 50 µs of the last capture. -/
  | senseSend (r : Fin 16) (p : Fin 65) (stream : Fin 8) (t0 : Nat) (samples : List Nat)
  /-- R350: A head powering up is quenched, has position 0 and is not time-valid. -/
  | headPowerUp (r : Fin 16) (p : Fin 65) (d : HeadDesc) (jogCapable : Bool) (channelRegs : List (Fin 4294967296))
  /-- R378: A safety-input channel low beyond SiFilter makes its GUARD pair, or ENABLE pair in JOG, open. -/
  | siOpen (n : Fin 4) (b : Bool)
  /-- R378: A pair whose channels differ beyond SiDiscrepancy latches a discrepancy fault. -/
  | siDiscrepancy (n : Fin 4)
  /-- R378: A channel reading high through its source's whole pulse window latches a test-pulse fault. -/
  | siTestpulse (n : Fin 4) (b : Bool)
  /-- R377: Every 50 ms each TP output drops for a 500 µs test pulse, staggered by 12.5 ms. -/
  | testPulse (src : Fin 4)
  /-- R375: A RESET pair closed 100 ms to 2 s and then opened gives a reset acknowledgement when PDU_EN is 0. -/
  | siResetPress (n : Fin 4)
  /-- R393: A command safety PDU is checked and accepted or rejected, and a status PDU is written within 20 µs. -/
  | safetyPduIn (q : Req) (b : List Nat)
  /-- R393: No accepted command PDU for PduWatchdog activates PDU_TIMEOUT. -/
  | pduTimeout
  /-- R384: A comparator channel compares the oldest tokens of both copies, latching MIRROR_MISMATCH on a difference. -/
  | mirrorCompare (k : Fin 64) (parity oneCell : Bool)
  /-- R384: A token waiting 8 ACLK cycles without a partner latches MIRROR_SKEW and empties the channel queues. -/
  | mirrorSkew (k : Fin 64)
  /-- R385: No agreed KEEP on a DEMAND stream within DemandWatch activates MIRROR_WATCH. -/
  | mirrorWatch (k : Fin 64)
  /-- R395: Every 1 s each comparator channel is fed a differing and a matching test pair, failing with CMP_SELFTEST. -/
  | comparatorSelftest (failing : List (Fin 64))
  /-- R380: Every 10 s a closed QO contact is opened for 200 µs for an off-test. -/
  | qoOffTest (k : Fin 4)
  /-- R380: At the end of an off-test a still-conducting contact is QO_STUCK, or an inconclusive test is counted. -/
  | qoOffTestEnd (k : Fin 4) (res : OffTest)
  /-- R363: Every 40 µs Q the Quench unit counts TCLK edges and activates CLOCK when more than 10 % off. -/
  | clockCheck (count : Nat)
  /-- R361: A difference between QA and QB lasting more than 4 QOSC cycles activates CHANNEL_DISAGREE. -/
  | channelDisagree
  /-- R363: A monitored rail out of its window for more than 2 µs activates SUPPLY. -/
  | supply (out : Bool)
  /-- R363: A Quench sensor above 110 °C activates OVERTEMP, clearing below 105 °C. -/
  | overtemp (temp : Int)
  /-- R362: QOSC or a channel's pump stops and the contacts open within 100 µs. -/
  | qoscStop (a b : Bool)
  /-- R365: A QuenchRequest write sets or clears the HOST_REQUEST demand. -/
  | quenchRequest (q : Req) (b : List Nat)
  /-- R371: An enabled end sending no SAFE frame for 300 µs Q, or a wrong readback, activates SAFE_GEN. -/
  | safeReadbackTimeout (r : Fin 16) (b wrong : Bool)
  /-- R413: A DTLS ClientHello is answered with a cookie retry or starts a handshake, dropped beyond 4 in progress. -/
  | clientHello (conn : Nat) (cookie : Bool) (peer : List Nat) (en : Bool)
  /-- R414: A handshake completes only for an enabled credential key, or any key in commissioning with FUSE_EN high. -/
  | handshakeComplete (conn : Nat) (key : List Nat)
  /-- R413: A handshake not complete within 10 s is abandoned. -/
  | handshakeLimit (conn : Nat)
  /-- R418: A fatal DTLS alert ends the session. -/
  | dtlsFatalAlert (conn : Nat)
  /-- R416: OPEN names a role and keep-alive; the device gives a session number or refuses and closes. -/
  | openSession (conn : Nat) (role : Fin 256) (keepAlive : Fin 65536) (name : List Nat)
  /-- R418: CLOSE ends the session and the device sends close_notify. -/
  | closeSession (q : Req)
  /-- R417: PING renews the keep-alive and is answered with PONG. -/
  | ping (q : Req)
  /-- R420: READ returns an object's value, or the pending value with NEXT. -/
  | read (q : Req) (key : Fin 16777216) (next : Bool)
  /-- R421: WRITE of an object without a row of its own is checked in order and carried out or entered into the pending set. -/
  | write (q : Req) (key : Fin 16777216) (b : List Nat)
  /-- R424: SEG_READ returns a segment of a snapshot, taken at offset 0. -/
  | segRead (q : Req) (key : Fin 16777216) (off : Fin 4294967296) (len : Fin 65536)
  /-- R424: SEG_WRITE streams a segment, the LAST segment taking effect as one write. -/
  | segWrite (q : Req) (key : Fin 16777216) (off : Fin 4294967296) (last : Bool) (data : List Nat)
  /-- R424: A segmented-read snapshot unused for 10 s is discarded. -/
  | snapshotExpiry (n : Fin 9) (key : Fin 16777216)
  /-- R417: No authenticated record within the keep-alive time ends the session. -/
  | keepaliveLapse (n : Fin 9)
  /-- R431: LeaseCommand TAKE makes the session holder of a free lease and advances the epoch. -/
  | leaseTake (q : Req) (l : Fin 256)
  /-- R431: LeaseCommand RELEASE by the holder clears the holder and advances the epoch. -/
  | leaseRelease (q : Req) (l : Fin 256)
  /-- R435: LeaseCommand FENCE advances an unheld lease's epoch at once or waits for a physical acknowledgement. -/
  | leaseFence (q : Req) (l : Fin 256)
  /-- R435: FUSE_EN rising or WAKE falling begins a physical acknowledgement. -/
  | physicalAckBegin (byFuse : Bool)
  /-- R435: An acknowledgement lasting 50 ms within the window carries out every waiting fence. -/
  | physicalAckDone (byFuse held : Bool)
  /-- R435: No 50 ms acknowledgement begun within PhysAckWindow sets FenceState EXPIRED. -/
  | physAckWindowExpiry (l : Fin 256)
  /-- R408: An ApplyCommand write turns the pending set into an apply with an edge E chosen by mode. -/
  | applyCommand (q : Req) (b : List Nat)
  /-- R409: The Gaffer journals the apply and sends its ATOMIC round to the units holding its values. -/
  | applyRound (j : Nat)
  /-- R409: Every value of a committed apply takes effect at E in every unit, including credential changes. -/
  | applyEdge (j : Nat)
  /-- R410: Within 1 ms after E the Gaffer commits DICT_INFORCE and ApplyState reads APPLIED. -/
  | applyInforce (j : Nat)
  /-- R407: A PendingDiscard write empties the session's pending set. -/
  | pendingDiscard (q : Req) (b : List Nat)
  /-- R404: A RestoreDefaults write returns every persistent object to its default at the next Gaffer start. -/
  | restoreDefaults (q : Req) (b : List Nat)
  /-- R439: A Claim write claims or releases an image record. -/
  | imageClaim (q : Req) (i : Fin 16) (b : List Nat)
  /-- R441: An Enable write checks wire rate, cycle and mappings and starts the image. -/
  | imageEnable (q : Req) (i : Fin 16) (b : List Nat)
  /-- R447: A device-bound image datagram is authenticated and accepted for its boundary, late or stale. -/
  | deviceBoundImage (i : Fin 16) (n gen seq cycle : Nat) (payload : List Nat) (tagOk : Bool)
  /-- R447: At a cycle boundary the accepted device-bound image writes its changed entries. -/
  | imageBoundary (i : Fin 16)
  /-- R446: Within 20 µs after each boundary a host-bound image is sampled and sent. -/
  | hostBoundSend (i : Fin 16)
  /-- R448: No device-bound image for Watchdog boundaries raises PI_WATCHDOG and applies FailAction. -/
  | piWatchdog (i : Fin 16)
  /-- R484: A FuseProgram write journals FUSE_INTENT and starts programming one fuse word. -/
  | fuseProgram (q : Req) (b : List Nat) (e : FuseEnv)
  /-- R458: FC_CMD READ reads a fuse word's copies and combined state. -/
  | fcRead (a : Fin 1024)
  /-- R458: FC_CMD MARGIN_READ reads a word at the raised threshold. -/
  | fcMarginRead (a : Fin 1024) (clearA clearB : BitVec 40)
  /-- R463: FC_CMD SCAN classifies every word and updates FC_SCAN. -/
  | fcScan (weak : List (Fin 64))
  /-- R461: Programming ends with OK, OK_SINGLE, FAILED, WINDOW or NO_FUSE_EN and FUSE_DONE is journalled. -/
  | fuseProgramComplete (fails : BitVec 80) (pulses : Fin 9) (stop : Option (Fin 80)) (e : FuseEnv)
  /-- R468: A write of FwSvnFloor programs the next generation or completes an open one. -/
  | fwSvnFloor (q : Req) (b : List Nat) (e : FuseEnv)
  /-- R468: A write of MachineIdent programs the next generation or completes an open one. -/
  | machineIdent (q : Req) (b : List Nat) (e : FuseEnv)
  /-- R475: Every ScrubInterval the Gaffer reads every store word in the background. -/
  | storeScrub (corrected lost : List (Fin 1048576))
  /-- R475: Every 90 days, or 30 after operation above 90 °C, the library and persistence are rewritten. -/
  | storeRefresh
  /-- R474: A persistent object's coalesced value is written to its home record, at most once per 100 ms. -/
  | homeRecordWrite (key : Fin 16777216)
  /-- R486: An S0 pulse whose active level has lasted S0MinWidth is counted and converted to mWh. -/
  | s0Pulse (m : Fin 2) (active inactive : Nat)
  /-- R487: No valid pulse for S0Silence makes the source SILENT and raises S0_SILENT. -/
  | s0Silence (m : Fin 2)
  /-- R579: Loop current of 27 mA or more for 1 s reads SHORT and raises S0_LOOP. -/
  | s0LoopShort (m : Fin 2) (current : Fin 65536)
  /-- R489: Every 1 ms the device's own input power is integrated into the DEVICE source. -/
  | deviceEnergySample (va ia vb ib : Fin 65536)
  /-- R500: At a boundary the interval closes, the tariff switches, a new interval opens and three records are journalled. -/
  | demandBoundary
  /-- R497: A TariffPush write sets the pending tariff switch for a boundary. -/
  | tariffPush (q : Req) (b : List Nat)
  /-- R497: A BillingClose write closes the billing period at the next boundary. -/
  | billingClose (q : Req) (b : List Nat)
  /-- R501: Every CounterJournal the energy unit commits ENERGY_COUNTERS. -/
  | counterJournal
  /-- R502: Every second the unit computes RunningDemand, ForecastDemand and the Advisory. -/
  | forecast
  /-- R507: A provisional span longer than ProvisionalMax raises PROVISIONAL_LONG. -/
  | provisionalMax
  /-- R514: A feed at 40 V or more for FeedStable becomes POWERED and enters the budgets. -/
  | feedStable (f : Fin 2) (events : Fin 6)
  /-- R514: A POWERED feed below 37 V for more than 10 µs becomes LOST and leaves the budgets. -/
  | feedLost (f : Fin 2)
  /-- R514: A feed below 30 V becomes ABSENT and its PD interface returns to detection. -/
  | feedAbsent (f : Fin 2)
  /-- R522: Both feeds returning within 50 µs below 37 V is counted as a dip and nothing stops. -/
  | dip
  /-- R523: Both feeds below 37 V for over 50 µs fix Tcut, load the keeper, activate FEED_LOSS and shed to 3 W. -/
  | shedDecision
  /-- R521: Within 20 µs of P_est exceeding B_sup committed clusters outside Z0 are held, highest id first. -/
  | powerHold
  /-- R602: Each 1 ms above 100 °C one more committed cluster outside Z0 is held. -/
  | thermalHold (temps : List Int)
  /-- R602: Each 10 ms at or below 97 °C one thermally held cluster is released. -/
  | thermalRelease (temps : List Int)
  /-- R604: The hottest non-Quench sensor reaching 115 °C logs OVERTEMP_HALT and enters HALT. -/
  | overtempHalt (temps : List Int)
  /-- R606: Each second LifeConsumed accrues equivalent hours from the hottest sensor. -/
  | lifeSample (temps : List Int)
  /-- R538: VKEEP below 1.8 V while feeding the keeper domain clears KEEPER_VALID and stops the keeper. -/
  | vkeepLow (mv : Fin 1800)
  /-- R545: A feed POWERED continuously for BrownoutHold clears the brown-out count and refusal. -/
  | brownoutHoldExpiry
  /-- R551: A HostTransfer write queues a two-wire command, refused BUSY_RETRY when the queue is full. -/
  | hostTransfer (q : Req) (bus : Fin 2) (b : List Nat)
  /-- R552: The controller carries out a WRITE command from START to STOP and reports a result. -/
  | twWrite (bus : Fin 2) (addrAck : Bool) (acked : Fin 34) (corrupt : Bool)
  /-- R552: The controller carries out a READ command and reports the data. -/
  | twRead (bus : Fin 2) (addrAck : Bool) (data : List (Fin 256)) (corrupt : Bool)
  /-- R552: The controller writes the pointer, reads after a repeated START and reports the data. -/
  | twWriteRead (bus : Fin 2) (nack : Fin 4) (data : List (Fin 256)) (corrupt : Bool)
  /-- R556: A 1 µs to 50 µs SDA low pulse on an idle bus is recognised as a request. -/
  | twRequest (bus : Fin 2) (low : Nat)
  /-- R557: PollPeriod expiry starts a poll round. -/
  | pollPeriod (bus : Fin 2)
  /-- R557: After the current transfer the controller reads every request-capable target's poll register and pushes request tokens. -/
  | pollRound (bus : Fin 2) (reads : List (Option (Fin 4294967296))) (again : Bool)
  /-- R559: SCL held low by a target beyond StretchMax ends the command with STRETCH_TIMEOUT. -/
  | stretchTimeout (bus : Fin 2)
  /-- R560: SCL still low 1 ms after a stretch timeout puts the bus in FAULT. -/
  | twBusFault (bus : Fin 2)
  /-- R560: SCL high for 1 ms after recovery takes the bus out of FAULT. -/
  | twFaultExit (bus : Fin 2)
  /-- R556: SDA low for more than 50 µs is STUCK_SDA and starts bus recovery. -/
  | stuckSda (bus : Fin 2) (inProgress : Bool)
  /-- R561: The controller clocks SCL up to 9 times and sends STOP, repeating every 100 ms in FAULT. -/
  | busRecovery (bus : Fin 2) (sdaHigh : Bool)
  /-- R563: An outside controller writes the TWT window; IN groups become visible and a notify token is pushed at STOP. -/
  | twtWrite (data : List (Fin 256))
  /-- R564: An outside controller reads the TWT window coherently by 8-byte group, releasing a pending TWT request. -/
  | twtRead (n : Fin 4096)
  /-- R566: A TwtRequest write makes TWT pulse a request when its bus is idle. -/
  | twtRequest (q : Req) (b : List Nat)
  /-- R566: An unreleased TWT request is pulsed again every 10 ms. -/
  | twtRequestRepeat
  /-- R568: An input DIO edge is timestamped and, with no filter, accepted into EdgeRing and the stream. -/
  | dioTransition (y : Fin 24) (level : Bool) (sub : Fin 32)
  /-- R568: A new level held for FilterNs is accepted with its original timestamp. -/
  | dioFilterAccept (y : Fin 24)
  /-- R571: An OutLevel write drives an output pin within 10 µs. -/
  | outLevel (q : Req) (y : Fin 24) (b : List Nat)
  /-- R573: A ScheduleEdge write queues a timed edge, refused when in the past or the queue is full. -/
  | scheduleEdge (q : Req) (y : Fin 24) (b : List Nat)
  /-- R572: A token from the array endpoint drives the pin at once or enters the schedule queue. -/
  | streamOutToken (y : Fin 24)
  /-- R575: A queued edge drives the pin at its 125 ps grid slot. -/
  | scheduledEdgePlace (y : Fin 24)
  /-- R378: A safety-input channel that was low reads high again, ending an SI_OPEN demand and, when both channels close together, clearing a latched discrepancy. -/
  | siClosed (n : Fin 4) (b : Bool)
  /-- R533: A PHY on FA or FB gains or loses its link, updating LinkFA or LinkFB, the PTP port and the time-lock reference instant ts. -/
  | ethernetLink (p : Port) (mode : Fin 3)
  /-- R310: The device's own A RX or B RX declares its port down, which is a break that sends the ring to WRAP. -/
  | ringEndDown (r : Fin 16) (b : Bool)
  /-- R310: Two consecutive TMARKs sent on A TX fail to reach B RX within F + 1 µs, which is recognised as a break. -/
  | tmarkLoss (r : Fin 16)
  /-- R623: An uncorrectable error in Gaffer code memory is logged FATAL and the device enters HALT. -/
  | gafferCodeUe (addr : Nat)
  /-- R545: After 60 s in SERVICE or RUN without a shed, the brown-out count of consecutive shed starts returns to 0. -/
  | brownoutWindow
  deriving DecidableEq, Repr

end Sys2Proof
end

