-- ==== Sys2Proof/Decode.lean ====
section
/-!
DEFINITION. The slot decoders and encoders of the tile instruction word (04 R142 to R157), and the
command a table word spells. No row of the table gives bits, so no word spells a command.
-/

namespace Sys2Proof

/-- Bits `lo` and up, `w` of them. -/
def field {n : Nat} (x : BitVec n) (lo w : Nat) : BitVec w := x.extractLsb' lo w

/-- One bit as a flag. -/
def flag {n : Nat} (x : BitVec n) (i : Nat) : Bool := x.getLsbD i

/-- One flag as a bit. -/
def bit (b : Bool) : BitVec 1 := BitVec.ofBool b

/-! ### The MAC slot (04 R150, R151) -/

/-- OP of a multiply (04 R151). -/
def macOpcode : MacMode → MacForm → BitVec 5
  | .cmac, .acc => 0x01
  | .cmac, .sub => 0x02
  | .cmac, .mul => 0x03
  | .dmac, .acc => 0x04
  | .dmac, .sub => 0x05
  | .dmac, .mul => 0x06
  | .wmac, .acc => 0x07
  | .wmac, .sub => 0x08
  | .wmac, .mul => 0x09

/-- The mode and form an OP from 0x01 to 0x09 names (04 R151). -/
def macModeForm (op : BitVec 5) : Option (MacMode × MacForm) :=
  match op.toNat with
  | 1 => some (.cmac, .acc)
  | 2 => some (.cmac, .sub)
  | 3 => some (.cmac, .mul)
  | 4 => some (.dmac, .acc)
  | 5 => some (.dmac, .sub)
  | 6 => some (.dmac, .mul)
  | 7 => some (.wmac, .acc)
  | 8 => some (.wmac, .sub)
  | 9 => some (.wmac, .mul)
  | _ => none

/-- The 28 bits of a MAC slot (04 R150). -/
def encodeMac : MacOp → BitVec 28
  | .nop => 0
  | .mul m fm f s cj a b => macOpcode m fm ++ bit f ++ bit s ++ bit cj ++ a ++ b ++ (0 : BitVec 12)
  | .extH s r n im hi d => (0x0A : BitVec 5) ++ bit s ++ r ++ n ++ bit im ++ bit hi ++ d ++ (0 : BitVec 9)
  | .extW s r n im d => (0x0B : BitVec 5) ++ bit s ++ r ++ n ++ bit im ++ bit false ++ d ++ (0 : BitVec 9)
  | .extC s r n d => (0x0C : BitVec 5) ++ bit s ++ r ++ n ++ bit false ++ bit false ++ d ++ (0 : BitVec 9)
  | .lda s n im c a => (0x0D : BitVec 5) ++ bit s ++ (0 : BitVec 2) ++ n ++ bit im ++ bit c ++ a ++ (0 : BitVec 9)
  | .aclr re im => (0x0E : BitVec 5) ++ (0 : BitVec 8) ++ bit re ++ bit im ++ (0 : BitVec 13)
  | .asum s => (0x0F : BitVec 5) ++ bit s ++ (0 : BitVec 22)

/-- The MAC operation of 28 bits, or none where R145 makes the slot illegal by itself: an undefined
opcode, a reserved or unused bit set, CJ outside CMAC, RND 3, or RE = IM = 0 (04 R150, R151). -/
def decodeMac (x : BitVec 28) : Option MacOp :=
  let op := field x 23 5
  match op.toNat with
  | 0 => if x = 0 then some .nop else none
  | 0x0A =>
    if field x 0 9 = 0 ∧ field x 20 2 ≠ 3
    then some (.extH (flag x 22) (field x 20 2) (field x 15 5) (flag x 14) (flag x 13) (field x 9 4))
    else none
  | 0x0B =>
    if field x 0 9 = 0 ∧ field x 20 2 ≠ 3 ∧ flag x 13 = false
    then some (.extW (flag x 22) (field x 20 2) (field x 15 5) (flag x 14) (field x 9 4))
    else none
  | 0x0C =>
    if field x 0 9 = 0 ∧ field x 20 2 ≠ 3 ∧ flag x 13 = false ∧ flag x 14 = false
    then some (.extC (flag x 22) (field x 20 2) (field x 15 5) (field x 9 4))
    else none
  | 0x0D =>
    if field x 0 9 = 0 ∧ field x 20 2 = 0 ∧ (flag x 13 = true → flag x 14 = false)
    then some (.lda (flag x 22) (field x 15 5) (flag x 14) (flag x 13) (field x 9 4))
    else none
  | 0x0E =>
    if field x 15 8 = 0 ∧ field x 0 13 = 0 ∧ (flag x 14 = true ∨ flag x 13 = true)
    then some (.aclr (flag x 14) (flag x 13))
    else none
  | 0x0F => if field x 0 22 = 0 then some (.asum (flag x 22)) else none
  | _ =>
    match macModeForm op with
    | some (m, fm) =>
      if field x 0 12 = 0 ∧ (m ≠ .cmac → flag x 20 = false)
      then some (.mul m fm (flag x 22) (flag x 21) (flag x 20) (field x 16 4) (field x 12 4))
      else none
    | none => none

/-! ### The ALU slot (04 R152, R153) -/

/-- OP of a register-form operation (04 R153). -/
def aluRegCode : AluReg → BitVec 6
  | .add => 0x01 | .sub => 0x02 | .addu => 0x03 | .subu => 0x04 | .add2 => 0x05 | .sub2 => 0x06
  | .neg => 0x07 | .abs => 0x08 | .min => 0x09 | .max => 0x0A | .and => 0x0B | .or => 0x0C
  | .xor => 0x0D | .andn => 0x0E | .mov => 0x0F | .shl => 0x10 | .shr => 0x11 | .sar => 0x12
  | .ror => 0x13 | .cmp => 0x14 | .tst => 0x15 | .norm => 0x16 | .pack => 0x17 | .rds => 0x18
  | .hadd2 => 0x19 | .hsub2 => 0x1A

/-- The register-form operation an OP names (04 R153). -/
def aluRegOf (op : Nat) : Option AluReg :=
  match op with
  | 0x01 => some .add | 0x02 => some .sub | 0x03 => some .addu | 0x04 => some .subu
  | 0x05 => some .add2 | 0x06 => some .sub2 | 0x07 => some .neg | 0x08 => some .abs
  | 0x09 => some .min | 0x0A => some .max | 0x0B => some .and | 0x0C => some .or
  | 0x0D => some .xor | 0x0E => some .andn | 0x0F => some .mov | 0x10 => some .shl
  | 0x11 => some .shr | 0x12 => some .sar | 0x13 => some .ror | 0x14 => some .cmp
  | 0x15 => some .tst | 0x16 => some .norm | 0x17 => some .pack | 0x18 => some .rds
  | 0x19 => some .hadd2 | 0x1A => some .hsub2 | _ => none

/-- OP of an immediate-form operation (04 R153). -/
def aluImmCode : AluImm → BitVec 6
  | .addi => 0x20 | .andi => 0x21 | .ori => 0x22 | .xori => 0x23 | .shli => 0x24 | .shri => 0x25
  | .sari => 0x26 | .rori => 0x27 | .cmpi => 0x28 | .clrs => 0x29

/-- The immediate-form operation an OP names (04 R153). -/
def aluImmOf (op : Nat) : Option AluImm :=
  match op with
  | 0x20 => some .addi | 0x21 => some .andi | 0x22 => some .ori | 0x23 => some .xori
  | 0x24 => some .shli | 0x25 => some .shri | 0x26 => some .sari | 0x27 => some .rori
  | 0x28 => some .cmpi | 0x29 => some .clrs | _ => none

/-- Which of d, a and b a register-form operation uses; the others must be 0 (04 R145, R153). -/
def aluRegFieldsOk (op : AluReg) (d a b : Reg) : Bool :=
  match op with
  | .neg | .abs | .mov | .norm => b == 0
  | .cmp | .tst => d == 0
  | .rds => a == 0 && b == 0
  | _ => true

/-- The field rules of an immediate-form operation (04 R153). -/
def aluImmFieldsOk (op : AluImm) (u s : Bool) (d a : Reg) (i : BitVec 8) : Bool :=
  match op with
  | .shli | .shri | .sari | .rori => field i 5 3 == 0
  | .cmpi => d == 0
  | .clrs => !u && !s && d == 0 && a == 0 && field i 2 6 == 0
  | _ => true

/-- KIND of a constant form (04 R153). -/
def aluConstCode : AluConst → BitVec 2
  | .movl => 0
  | .movlu => 1
  | .movh => 2

/-- The 24 bits of an ALU slot (04 R152). -/
def encodeAlu : AluOp → BitVec 24
  | .nop => 0
  | .reg op u s d a b => aluRegCode op ++ bit u ++ bit s ++ d ++ a ++ b ++ (0 : BitVec 4)
  | .imm op u s d a i => aluImmCode op ++ bit u ++ bit s ++ d ++ a ++ i
  | .mask m => (0x2F : BitVec 6) ++ m
  | .const k d i => (3 : BitVec 2) ++ aluConstCode k ++ d ++ i

/-- The ALU operation of 24 bits, or none where R145 makes the slot illegal by itself. -/
def decodeAlu (x : BitVec 24) : Option AluOp :=
  if field x 22 2 = 3 then
    match (field x 20 2).toNat with
    | 0 => some (.const .movl (field x 16 4) (field x 0 16))
    | 1 => some (.const .movlu (field x 16 4) (field x 0 16))
    | 2 => some (.const .movh (field x 16 4) (field x 0 16))
    | _ => none
  else if x = 0 then some .nop
  else if field x 18 6 = 0x2F then some (.mask (field x 0 18))
  else
    let op := (field x 18 6).toNat
    match aluRegOf op with
    | some r =>
      if field x 0 4 = 0 ∧ aluRegFieldsOk r (field x 12 4) (field x 8 4) (field x 4 4) = true
      then some (.reg r (flag x 17) (flag x 16) (field x 12 4) (field x 8 4) (field x 4 4))
      else none
    | none =>
      match aluImmOf op with
      | some i =>
        if aluImmFieldsOk i (flag x 17) (flag x 16) (field x 12 4) (field x 8 4) (field x 0 8) = true
        then some (.imm i (flag x 17) (flag x 16) (field x 12 4) (field x 8 4) (field x 0 8))
        else none
      | none => none

/-! ### The memory slot (04 R155, R156) -/

/-- SZ of a size (04 R155). -/
def memSizeCode : MemSize → BitVec 2
  | .h => 0
  | .w => 1
  | .d => 2

/-- The size an SZ names; 3 is illegal (04 R155). -/
def memSizeOf (sz : BitVec 2) : Option MemSize :=
  match sz.toNat with
  | 0 => some .h
  | 1 => some .w
  | 2 => some .d
  | _ => none

/-- SUB of an AMOD update (04 R156). -/
def amodCode : AmodSub → BitVec 3
  | .step => 0
  | .seti => 1
  | .setb => 2
  | .setm => 3

/-- The 20 bits of a memory slot (04 R155). -/
def encodeMem : MemOp → BitVec 20
  | .nop => 0
  | .ld ag sz d pm => (1 : BitVec 4) ++ bit ag ++ memSizeCode sz ++ d ++ bit pm ++ (0 : BitVec 8)
  | .st ag sz s pm => (2 : BitVec 4) ++ bit ag ++ memSizeCode sz ++ s ++ bit pm ++ (0 : BitVec 8)
  | .ld2 da db p0 p1 => (3 : BitVec 4) ++ da ++ db ++ bit p0 ++ bit p1 ++ (0 : BitVec 6)
  | .ldr d a off => (4 : BitVec 4) ++ d ++ a ++ off
  | .str s a off => (5 : BitVec 4) ++ s ++ a ++ off
  | .amod ag sub a => (6 : BitVec 4) ++ bit ag ++ amodCode sub ++ a ++ (0 : BitVec 8)
  | .stm bk base pm => (7 : BitVec 4) ++ bit bk ++ base ++ bit pm ++ (0 : BitVec 10)
  | .ldm bk base pm => (8 : BitVec 4) ++ bit bk ++ base ++ bit pm ++ (0 : BitVec 10)
  | .mfence => (9 : BitVec 4) ++ (0 : BitVec 16)

/-- The memory operation of 20 bits, or none where R145 makes the slot illegal by itself. -/
def decodeMem (x : BitVec 20) : Option MemOp :=
  match (field x 16 4).toNat with
  | 0 => if x = 0 then some .nop else none
  | 1 =>
    match memSizeOf (field x 13 2) with
    | some sz => if field x 0 8 = 0 then some (.ld (flag x 15) sz (field x 9 4) (flag x 8)) else none
    | none => none
  | 2 =>
    match memSizeOf (field x 13 2) with
    | some sz => if field x 0 8 = 0 then some (.st (flag x 15) sz (field x 9 4) (flag x 8)) else none
    | none => none
  | 3 => if field x 0 6 = 0 then some (.ld2 (field x 12 4) (field x 8 4) (flag x 7) (flag x 6)) else none
  | 4 => some (.ldr (field x 12 4) (field x 8 4) (field x 0 8))
  | 5 => some (.str (field x 12 4) (field x 8 4) (field x 0 8))
  | 6 =>
    if field x 0 8 = 0 then
      match (field x 12 3).toNat with
      | 0 => if field x 8 4 = 0 then some (.amod (flag x 15) .step 0) else none
      | 1 => some (.amod (flag x 15) .seti (field x 8 4))
      | 2 => some (.amod (flag x 15) .setb (field x 8 4))
      | 3 => some (.amod (flag x 15) .setm (field x 8 4))
      | _ => none
    else none
  | 7 =>
    if field x 0 10 = 0 ∧ (flag x 15 = false → field x 12 3 = 0)
    then some (.stm (flag x 15) (field x 11 4) (flag x 10)) else none
  | 8 =>
    if field x 0 10 = 0 ∧ (flag x 15 = false → field x 12 3 = 0)
    then some (.ldm (flag x 15) (field x 11 4) (flag x 10)) else none
  | 9 => if field x 0 16 = 0 then some .mfence else none
  | _ => none

/-! ### The flow/switch slot (04 R154, R157, R159) -/

/-- The 24 bits of a flow/switch slot (04 R157). -/
def encodeFlow : FlowOp → BitVec 24
  | .nop => 0
  | .sw rx rxp rxd tx txp txs =>
    (0 : BitVec 4) ++ bit rx ++ rxp ++ rxd ++ bit tx ++ txp ++ txs ++ (0 : BitVec 4)
  | .alu2Reg op s d a b => (1 : BitVec 4) ++ aluRegCode op ++ bit s ++ d ++ a ++ b ++ (0 : BitVec 1)
  | .alu2Imm op s d a n => (1 : BitVec 4) ++ aluImmCode op ++ bit s ++ d ++ a ++ n
  | .jmp u c t => (2 : BitVec 4) ++ (0 : BitVec 3) ++ bit u ++ c ++ (0 : BitVec 3) ++ t
  | .call ind a t => (3 : BitVec 4) ++ (0 : BitVec 6) ++ a ++ bit ind ++ t
  | .ret => (4 : BitVec 4) ++ (0 : BitVec 20)
  | .reps len c => (5 : BitVec 4) ++ len ++ c
  | .repr a e => (6 : BitVec 4) ++ (0 : BitVec 4) ++ a ++ (0 : BitVec 3) ++ e
  | .brk => (7 : BitVec 4) ++ (0 : BitVec 20)
  | .ctx s => (8 : BitVec 4) ++ (0 : BitVec 16) ++ s
  | .trap c => (9 : BitVec 4) ++ (0 : BitVec 12) ++ c

/-- The ALU2 operation of the 20 operand bits, or none where it is illegal (04 R154). -/
def decodeAlu2 (x : BitVec 24) : Option FlowOp :=
  let op := (field x 14 6).toNat
  match aluRegOf op with
  | some r =>
    if flag x 0 = false ∧ aluRegFieldsOk r (field x 9 4) (field x 5 4) (field x 1 4) = true
    then some (.alu2Reg r (flag x 13) (field x 9 4) (field x 5 4) (field x 1 4)) else none
  | none =>
    match aluImmOf op with
    | some i =>
      if 0x24 ≤ op ∧ op ≤ 0x27 then some (.alu2Imm i (flag x 13) (field x 9 4) (field x 5 4) (field x 0 5))
      else none
    | none => none

/-- The flow/switch operation of 24 bits, or none where R145 makes the slot illegal by itself. -/
def decodeFlow (x : BitVec 24) : Option FlowOp :=
  match (field x 20 4).toNat with
  | 0 =>
    if x = 0 then some .nop
    else if field x 0 4 = 0 ∧ (flag x 19 = false → field x 16 3 = 0 ∧ field x 12 4 = 0)
        ∧ (flag x 11 = false → field x 8 3 = 0 ∧ field x 4 4 = 0)
    then some (.sw (flag x 19) (field x 16 3) (field x 12 4) (flag x 11) (field x 8 3) (field x 4 4))
    else none
  | 1 => decodeAlu2 x
  | 2 =>
    if field x 17 3 = 0 ∧ field x 9 3 = 0
        ∧ (field x 12 4 = 0 ∨ field x 12 4 = 15 → flag x 16 = false)
    then some (.jmp (flag x 16) (field x 12 4) (field x 0 9)) else none
  | 3 =>
    if field x 14 6 = 0 ∧ (flag x 9 = true → field x 0 9 = 0) ∧ (flag x 9 = false → field x 10 4 = 0)
    then some (.call (flag x 9) (field x 10 4) (field x 0 9)) else none
  | 4 => if field x 0 20 = 0 then some .ret else none
  | 5 => some (.reps (field x 16 4) (field x 0 16))
  | 6 =>
    if field x 16 4 = 0 ∧ field x 9 3 = 0 then some (.repr (field x 12 4) (field x 0 9)) else none
  | 7 => if field x 0 20 = 0 then some .brk else none
  | 8 => if field x 4 16 = 0 then some (.ctx (field x 0 4)) else none
  | 9 => if field x 8 12 = 0 then some (.trap (field x 0 8)) else none
  | _ => none

/-! ### The instruction word (04 R142) -/

/-- The 96 bits of four slots (04 R142). -/
def joinWord (mac : BitVec 28) (alu : BitVec 24) (mem : BitVec 20) (flow : BitVec 24) : BitVec 96 :=
  mac ++ alu ++ mem ++ flow

/-- A decoded instruction word: its four slots (04 R142). -/
structure TileWord where
  mac : MacOp
  alu : AluOp
  mem : MemOp
  flow : FlowOp
  deriving DecidableEq, Repr

/-- The four slots of 96 bits, or none where a slot is illegal by itself (04 R142, R145). -/
def decodeWord (x : BitVec 96) : Option TileWord :=
  match decodeMac (field x 68 28), decodeAlu (field x 44 24), decodeMem (field x 24 20),
    decodeFlow (field x 0 24) with
  | some m, some a, some d, some f => some ⟨m, a, d, f⟩
  | _, _, _, _ => none

/-- The 96 bits of a decoded word. -/
def encodeWord (w : TileWord) : BitVec 96 :=
  joinWord (encodeMac w.mac) (encodeAlu w.alu) (encodeMem w.mem) (encodeFlow w.flow)

/-! ### The table's words -/

/-- The command that a table word spells: the table gives no row any bits, so none. -/
def decodeTableWord (_nbits _w : Nat) : Option Instr := none

end Sys2Proof
end

