-- ==== Sys2Proof/Config.lean ====
section
/-!
DEFINITION. What the spec leaves open: free values that nothing constrains, as constants without a body.
Each is applied to the state's count of free values taken, or to the operands it depends on.
-/

namespace Sys2Proof.Config

/-- A free natural number, for a value the spec does not state (log 2). -/
opaque freeNat : Nat → Nat

/-- The filtered offset of the servo from its accepted samples, newest first, in ps: the spec bounds the
servo and gives no filter (02 R63, log 20). -/
opaque offsetFilter : List (Int × Int) → Int

/-- The learned frequency after an accepted sample, from the one before and the accepted samples' offsets and
times: the spec bounds the servo and gives no algorithm (02 R48, R63, log 20). -/
opaque learnedFrequency : Int → List (Int × Int) → Int

/-- What the slew adds to the learned frequency for a filtered offset in ps, before the limit of 10 ppm
(02 R63, log 20). -/
opaque slewFrequency : Int → Int

/-- How the temperature model adjusts F in HOLDOVER, from the junction in 0.1 °C: its coefficients are
factory words whose layout the spec does not give (02 R61, log 21). -/
opaque temperatureModel : Int → Int

/-- The circular mean of offsets within a period, all in ns: the spec names it and gives no rounding (08 R314,
log 27). -/
opaque circularMean : List Nat → Nat → Nat

/-- The keeper's error over an elapsed time in ns, within the bound of 02 R51 (log 22). -/
opaque keeperError : Nat → Int

/-- The drift of a head's own oscillator over a time in ns, within ±50 ppm (09 R351, log 23). -/
opaque coastDrift : Nat → Nat → Int

/-- SHA-512 over octets (07 R252, R253): the standard's function, not given by the spec (log 24). -/
opaque sha512 : List Nat → List Nat

/-- Whether an Ed25519 signature (key, message, signature) verifies (07 R252, R267, log 24). -/
opaque ed25519 : List Nat → List Nat → List Nat → Bool

/-- The first 32 bytes of SHA-512 of Pladar's two firmware keys, which the boot ROM holds (07 R267, log 24). -/
opaque firmwareKeyHash : Nat → List Nat

/-- The device's own Ed25519 public key, 32 octets (11 R414, log 25). -/
opaque deviceKey : List Nat

/-- Factory values of identity objects by object key: serial-independent numbers, dates, MAC addresses
and versions that the spec names and gives no value (11 R451, log 25). -/
opaque identity : Nat → Nat

/-- *LeaseName* of a lease, 16 octets: the spec names the object and gives no text (11 R451, log 25). -/
opaque leaseName : Nat → List Nat

/-- The code by which T.FAULT shows PEER_FAULT: R189 names the cause and no table gives its code (log 26). -/
opaque peerFaultCode : Nat

end Sys2Proof.Config
end

