-- ==== Sys2Proof/Machine/Tables.lean ====
section
/-!
DEFINITION. Reading and writing the sparse tables, with what an unlisted key stands for given by the
reader, and small list and number helpers.
-/

namespace Sys2Proof.Machine

/-- The value at key `k`; `d` where none is listed. -/
def tget {α : Type} (d : α) : Tab α → Nat → α
  | [], _ => d
  | (j, v) :: t, k => if j = k then v else tget d t k

/-- Lists value `v` at key `k`, keys strictly rising. -/
def tput {α : Type} (k : Nat) (v : α) : Tab α → Tab α
  | [] => [(k, v)]
  | (j, u) :: t => if k < j then (k, v) :: (j, u) :: t else if k = j then (k, v) :: t else (j, u) :: tput k v t

/-- Removes key `k`. -/
def tdel {α : Type} (k : Nat) (t : Tab α) : Tab α := t.filter (fun p => p.1 ≠ k)

/-- Sets key `k` to `v`, listing nothing equal to what an unlisted key stands for. -/
def tset {α : Type} [DecidableEq α] (d : α) (t : Tab α) (k : Nat) (v : α) : Tab α :=
  if v = d then tdel k t else tput k v t

/-- The canonical form: keys strictly rising and no entry equal to `d`. -/
def twf {α : Type} [DecidableEq α] (d : α) : Tab α → Bool
  | [] => true
  | [(_, v)] => v ≠ d
  | (j, v) :: (k, u) :: t => v ≠ d && decide (j < k) && twf d ((k, u) :: t)

/-- Changes the value at key `k`. -/
def tmod {α : Type} [DecidableEq α] (d : α) (t : Tab α) (k : Nat) (f : α → α) : Tab α :=
  tset d t k (f (tget d t k))

/-- Applies `f` to every listed value, dropping what becomes equal to `d`. -/
def tmap {α : Type} [DecidableEq α] (d : α) (f : Nat → α → α) : Tab α → Tab α
  | [] => []
  | (k, v) :: t => let u := f k v; if u = d then tmap d f t else (k, u) :: tmap d f t

/-- The value under key `k` of an association list, or none. -/
def alook {α : Type} : List (Nat × α) → Nat → Option α
  | [], _ => none
  | (j, v) :: t, k => if j = k then some v else alook t k

/-- A counter of `w` bits that stops at its largest value. -/
def satInc (w n : Nat) : Nat := if n + 1 < 2 ^ w then n + 1 else 2 ^ w - 1

/-- A counter of 32 bits that wraps. -/
def inc32 (n : Nat) : Nat := (n + 1) % 2 ^ 32

/-- A number of `w` bits as two's complement. -/
def toSigned (w n : Nat) : Int := if n < 2 ^ (w - 1) then (n : Int) else (n : Int) - 2 ^ w

/-- An integer wrapped into `w` bits of two's complement. -/
def wrapSigned (w : Nat) (v : Int) : Int := toSigned w (v.emod (2 ^ w)).toNat

/-- `lo` to `hi`. -/
def clampInt (lo hi v : Int) : Int := if v < lo then lo else if v > hi then hi else v

/-- Division rounded to the nearest integer, ties to even; the divisor is positive (02 R82). -/
def divNearEven (n d : Int) : Int :=
  let q := n.fdiv d
  let r := n - q * d
  if 2 * r > d ∨ (2 * r = d ∧ q.emod 2 = 1) then q + 1 else q

/-- The bytes of `v`, `n` of them, least significant first (00 R12). -/
def bytesLE : Nat → Nat → List Nat
  | 0, _ => []
  | n + 1, v => v % 256 :: bytesLE n (v / 256)

/-- The bytes of `v`, `n` of them, most significant first (00 R12). -/
def bytesBE (n v : Nat) : List Nat := (bytesLE n v).reverse

/-- The number that bytes spell, least significant first. -/
def ofBytesLE : List Nat → Nat
  | [] => 0
  | b :: t => b + 256 * ofBytesLE t

/-- The number that bytes spell, most significant first. -/
def ofBytesBE (l : List Nat) : Nat := ofBytesLE l.reverse

/-- A 64-bit mask as the list of its set bits, ascending. -/
def maskBits (n : Nat) : Nat → List Nat
  | 0 => []
  | w + 1 => maskBits n w ++ (if n.testBit w then [w] else [])

/-- A list of bit numbers as a mask. -/
def bitsMask (l : List Nat) : Nat := l.foldl (fun m k => m ||| 2 ^ k) 0

end Sys2Proof.Machine
end

