-- ==== Sys2Proof/Machine/Units/Session.lean ====
section
/-!
DEFINITION. The dictionary's values, the sessions, the leases and the process images.
-/

namespace Sys2Proof.Machine

/-- The roles, in code order 1 to 6 (11 R411). -/
inductive Role where
  | operator
  | pattern
  | energy
  | maintenance
  | safety
  | observer
  deriving DecidableEq, Repr

/-- The abort codes (11 R438); `ok` stands for an answer that is no abort. -/
inductive Abort where
  | ok
  | badMessage
  | unknownType
  | notOpen
  | sessionsFull
  | roleTaken
  | badRole
  | busyRetry
  | tooLarge
  | segmentErr
  | unitTimeout
  | internal
  | noObject
  | noAccess
  | readOnly
  | writeOnly
  | typeMismatch
  | reservedSet
  | range
  | wrongState
  | classMismatch
  | pendingFull
  | needPhysical
  | writesExhausted
  | storeError
  | notHolder
  | staleEpoch
  | leaseHeld
  | zoneBusy
  | zoneClash
  | bridgeInUse
  | tasksFull
  | stagingBusy
  | blankFormat
  | blankMember
  | blankVersion
  | blankKey
  | blankSig
  | libraryFull
  | swcfgBad
  | zoneMismatch
  | contextClash
  | tdmFull
  | creditsFull
  | mirrorBad
  | mapBad
  | cycleBad
  | imagesFull
  | fuseWindow
  | programFailed
  deriving DecidableEq, Repr

/-- An answer kept for a RID (11 R422): the abort code or `ok`, and the value it carried. -/
structure Answer where
  /-- U16, 11 R419: RID. -/
  rid : Nat
  /-- U16, 11 R438: the abort code, or `ok`. -/
  code : Abort
  /-- U16, 11 R438: DETAIL. -/
  detail : Nat := 0
  /-- 11 R420: the payload's value where the answer carries one. -/
  value : Option Val := none
  deriving DecidableEq, Repr

/-- One write waiting in a pending set or in an apply (11 R407). -/
structure PendingWrite where
  /-- object key, index * 256 + sub-index, 11 R407. -/
  key : Nat
  /-- 11 R407: the value written. -/
  value : Val
  /-- lease number, 11 R434: the lease the write was checked against. -/
  lease : Option Nat
  /-- U32, 11 R434: the epoch it was stamped with. -/
  epoch : Nat
  deriving DecidableEq, Repr

/-- The states of an apply, in value order (11 R410). -/
inductive ApplyState where
  | idle
  | waiting
  | applied
  | failed
  | markTimeout
  deriving DecidableEq, Repr

/-- The modes of an apply or of an activation, in value order (11 R408, 07 R261). -/
inductive EdgeMode where
  | atOnce
  | atTime
  | atMark
  deriving DecidableEq, Repr

/-- An apply (11 R408 to R410). -/
structure Apply where
  /-- session, 11 R410: the session that asked; it may have ended since. -/
  session : SessionNo
  /-- enum, 11 R408: MODE. -/
  mode : EdgeMode
  /-- 11 R408: FALLBACK is TIME, at this T64. -/
  fallback : Option T64
  /-- 11 R408: the apply's set. -/
  set : List PendingWrite
  /-- T64, 11 R408: the edge E; none while an AT_MARK apply waits for its mark. -/
  edge : Option T64
  /-- ns, 11 R408: since when MarkWait is counted. -/
  since : Nat
  /-- count, 11 R409: rounds aborted. -/
  aborted : Nat
  /-- 11 R409: the round's STAGE is out, COMMIT is decided, or the values have taken effect. -/
  stage : Nat
  /-- U64, 12 R478: the JSEQ of its DICT_APPLY record. -/
  jseq : Nat
  deriving DecidableEq, Repr

/-- A segmented read's snapshot (11 R424). -/
structure Snapshot where
  /-- object key, 11 R424. -/
  key : Nat
  /-- bytes, 11 R424: the object as it was at OFFSET 0. -/
  data : List Nat
  /-- ns, 11 R424: the last SEG_READ of it. -/
  usedAt : Nat
  deriving DecidableEq, Repr

/-- A segmented write in progress (11 R424). -/
structure SegWrite where
  /-- object key, 11 R424. -/
  key : Nat
  /-- U32, 11 R424: the OFFSET that the last SEG_WRITE_RSP named. -/
  next : Nat
  /-- bytes, 11 R424: the data so far; empty where the object streams into the store. -/
  data : List Nat
  deriving DecidableEq, Repr

/-- One session (11 R416, objects `1200 + s` and `1210`). -/
structure Session where
  /-- enum sub 02, 11 R411: Role. -/
  role : Role
  /-- U8 sub 03, 11 R451: Credential; 0xFF commissioning. -/
  credential : Nat
  /-- connection, 11 R413: the DTLS connection it runs over. -/
  conn : Nat
  /-- U16 s sub 05, 11 R417: KeepAlive. -/
  keepAlive : Nat
  /-- T64 sub 06, 11 R451: OpenedAt. -/
  openedAt : T64
  /-- ns, 11 R417: LastHeard. -/
  lastHeard : Nat
  /-- OCTET[16] sub 0C, 11 R416: ClientName. -/
  clientName : List Nat
  /-- OCTET[18] sub 04, 11 R451: PeerAddress. -/
  peer : List Nat
  /-- up to 8 RIDs, 11 R423: the requests outstanding. -/
  inFlight : List Nat := []
  /-- U32 sub 09, 11 R451: Requests. -/
  requests : Nat := 0
  /-- U32 sub 0A, 11 R451: Aborts. -/
  aborts : Nat := 0
  /-- U32 sub 0B, 11 R451: BusyRetries. -/
  busyRetries : Nat := 0
  /-- up to 32, 11 R422: the kept answers, newest first. -/
  kept : List Answer := []
  /-- up to 64, 11 R407: the pending set, oldest first. -/
  pendingSet : List PendingWrite := []
  /-- U16 `1210:04`, 11 R433: PendingLost. -/
  pendingLost : Nat := 0
  /-- enum `1210:06`, 11 R410: ApplyState. -/
  applyState : ApplyState := .idle
  /-- T64 `1210:07`, 11 R410: ApplyEdge. -/
  applyEdge : T64 := 0
  /-- U32 `1210:08`, 11 R410: ApplyFailObject. -/
  failObject : Nat := 0
  /-- `1210:09`, 11 R410: ApplyFailCode. -/
  failCode : Abort := .ok
  /-- U8 `1210:0A`, 11 R426: NotifyMask. -/
  notifyMask : Nat := 0
  /-- U32 `1210:0B`, 11 R426: NotifySeq. -/
  notifySeq : Nat := 0
  /-- 11 R424: the live snapshots. -/
  snapshots : List Snapshot := []
  /-- 11 R424: the open segmented write. -/
  segWrite : Option SegWrite := none
  deriving DecidableEq, Repr

/-- A DTLS handshake or a connection not yet open as a session (11 R413 to R416). -/
structure Handshake where
  /-- count, 11 R413: the connection its packets come on. -/
  conn : Nat
  /-- ns, 11 R413: the first ClientHello with a valid cookie. -/
  since : Nat
  /-- 11 R415: FUSE_EN was high when the ClientHello arrived. -/
  fuseEn : Bool
  /-- OCTET[18], 11 R451: the peer's address and port. -/
  peer : List Nat
  /-- 11 R416: complete, with this credential (0xFF commissioning), and waiting for OPEN. -/
  credential : Option Nat
  deriving DecidableEq, Repr

/-- The fence states, in value order (11 R435). -/
inductive FenceState where
  | none
  | waitAck
  | done
  | expired
  deriving DecidableEq, Repr

/-- One lease (11 R427 to R435, objects `1400 + n`). -/
structure Lease where
  /-- U8 sub 02, 11 R431: Holder; reset 0. -/
  holder : SessionNo := 0
  /-- U32 sub 03, 11 R432: Epoch, kept in the store, never 0; reset 1 (log 3). -/
  epoch : Nat := 1
  /-- enum sub 06, 11 R435: FenceState; reset NONE. -/
  fence : FenceState := .none
  /-- ns, 11 R435: the FENCE request whose window runs; reset 0. -/
  fenceAt : Nat := 0
  /-- U32 sub 07, 11 R451: Changes; reset 0. -/
  changes : Nat := 0
  /-- ns list, 12 R474: the changes of the last second, newest first; reset empty. -/
  recent : List Nat := []
  deriving DecidableEq, Repr

/-- One process-image record (11 R439, objects `A000 + i`). -/
structure ImageRec where
  /-- U8 sub 01, 11 R439: Owner; reset 0. -/
  owner : SessionNo := 0
  /-- sub 03, 11 R451: Direction 1, to the host; reset 1. -/
  toHost : Bool := true
  /-- U16 sub 04, 11 R440: CycleUnits; reset 32. -/
  cycleUnits : Nat := 32
  /-- U32 ns sub 05, 11 R440: Phase; reset 0. -/
  phase : Nat := 0
  /-- U8 sub 06, 11 R451: Port; reset 2. -/
  port : Nat := 2
  /-- BOOL sub 07, 11 R441: Enable; reset 0. -/
  enable : Bool := false
  /-- U16 sub 08, 11 R442: Length; reset 0. -/
  length : Nat := 0
  /-- U8 sub 09, 11 R448: Watchdog; reset 3. -/
  watchdog : Nat := 3
  /-- sub 0A, 11 R448: FailAction is ZERO; reset 0. -/
  failZero : Bool := false
  /-- U16 sub 0B, 11 R451: PeerPort; reset 50,111. -/
  peerPort : Nat := 50111
  /-- U64 x128 `A100 + i`, 11 R442: the mapping entries; reset 0. -/
  map : Tab Nat := []
  /-- U32 sub 0C, 11 R451: Images; reset 0. -/
  images : Nat := 0
  /-- U32 sub 0D, 11 R447: Late; reset 0. -/
  late : Nat := 0
  /-- U32 sub 0E, 11 R447: Stale; reset 0. -/
  stale : Nat := 0
  /-- U32 sub 0F, 11 R445: AuthFail; reset 0. -/
  authFail : Nat := 0
  /-- U32 sub 10, 11 R445: Replays; reset 0. -/
  replays : Nat := 0
  /-- U32 sub 11, 11 R447: MapWriteErrors; reset 0. -/
  mapErrors : Nat := 0
  /-- U32 sub 12, 11 R448: WatchdogTrips; reset 0. -/
  trips : Nat := 0
  /-- U16, 11 R445: GEN, the key generation; reset 0. -/
  gen : Nat := 0
  /-- U64, 11 R445: SEQ of the last image sent; reset 0. -/
  seq : Nat := 0
  /-- up to 65, 11 R445: the sequence numbers accepted, highest first; reset empty. -/
  window : List Nat := []
  /-- 11 R447: accepted images that wait for their boundaries: boundary, CYCLE and payload, oldest first; reset none. -/
  waiting : List (Nat × Nat × List Nat) := []
  /-- T64, 11 R440: the last boundary that has been served; reset none. -/
  boundary : Option Nat := none
  /-- ns, 11 R447: the last record of a failed mapped write; reset none. -/
  mapLoggedAt : Option Nat := none
  /-- U64, 11 R447: CYCLE of the image that last took effect; reset none. -/
  lastCycle : Option Nat := none
  /-- bytes, 11 R447: the payload that last took effect; reset empty. -/
  last : List Nat := []
  /-- count, 11 R448: boundaries missed in a row; reset 0. -/
  missed : Nat := 0
  /-- 11 R448: the watchdog has tripped and no image has come since; reset 0. -/
  tripped : Bool := false
  deriving DecidableEq, Repr

/-- The dictionary, the sessions, the leases and the images. -/
structure SessionUnit where
  /-- objects' values in force where they differ from their defaults, 11 R403 R404; reset empty. -/
  inForce : Tab Val := []
  /-- 11 R406: values of RESTART objects stored for the next Gaffer start; reset empty. -/
  stored : Tab Val := []
  /-- 11 R404 `1010:03`: RestoreDefaults is written; reset 0. -/
  restoreDefaults : Bool := false
  /-- 8 sessions, 11 R416: the open sessions by number; reset none. -/
  sessions : List (Nat × Session) := []
  /-- at most 4 in progress, 11 R413: handshakes and connections waiting for OPEN; reset none. -/
  handshakes : List Handshake := []
  /-- U32 `1102:07`, 11 R413: HandshakesDropped; reset 0. -/
  handshakesDropped : Nat := 0
  /-- 54 leases, 11 R427; reset unheld. -/
  leases : Tab Lease := []
  /-- ns, 11 R435: when FUSE_EN's physical acknowledgement in progress began; reset none. -/
  ackFuse : Option Nat := none
  /-- ns, 11 R435: when WAKE's physical acknowledgement in progress began; reset none. -/
  ackWake : Option Nat := none
  /-- T64 `1480:02`, 11 R451: PhysAckSeen; reset 0. -/
  ackSeen : T64 := 0
  /-- applies in progress and done, 11 R408; reset none. -/
  applies : List Apply := []
  /-- 16 records, 11 R439; reset free. -/
  images : Tab ImageRec := []
  /-- 8 KiB, 11 R449 `A800:01`: the process-data area; reset 0 (log 5). -/
  pda : Tab Nat := []
  /-- T64 x32 `1500 + c`:05, 11 R451: LastUsed of each credential; reset 0. -/
  lastUsed : Tab Nat := []
  deriving DecidableEq, Repr

end Sys2Proof.Machine
end

