-- ==== Sys2Proof/Machine/Objects.lean ====
section
/-!
DEFINITION. The object dictionary's rows: where each object lies, its type, who may write it, its commit
class, its default and its range (11 R401 to R406, and each chapter's table of objects).
-/

namespace Sys2Proof.Machine

/-- The data types (11 R402). -/
inductive VType where
  | bool
  | u8
  | u16
  | u32
  | u64
  | i16
  | i32
  | t64
  | t80
  | oct (n : Nat)
  | octets
  | str (n : Nat)
  deriving DecidableEq, Repr

/-- The accesses (11 R403). -/
inductive Access where
  | ro
  | rw
  | wo
  deriving DecidableEq, Repr

/-- The commit classes, in code order (11 R405, R406). -/
inductive Commit where
  | now
  | apply
  | slot
  | boundary
  | restart
  deriving DecidableEq, Repr

/-- Whom an object's table admits as a writer (11 R403, R428). -/
inductive Writers where
  | roles (l : List Role)
  | zoneOr (l : List Role)
  | zone
  | bridge
  | staging
  | image
  deriving DecidableEq, Repr

/-- One row of the dictionary: indices `lo` to `hi`, sub-indices `s1` to `s2`. -/
structure ObjRow where
  lo : Nat
  hi : Nat
  s1 : Nat
  s2 : Nat
  ty : VType
  acc : Access
  who : Writers := .roles []
  commit : Commit := .now
  dflt : Val := .num 0
  range : Option (Int × Int) := none
  deriving DecidableEq, Repr

/-- The key of an object. -/
def okey (idx sub : Nat) : Nat := idx * 256 + sub

/-- MAINTENANCE alone (RW-M). -/
def rM : List Role := [.maintenance]

/-- OPERATOR or MAINTENANCE (RW-OM). -/
def rOM : List Role := [.operator, .maintenance]

/-- ENERGY or MAINTENANCE (RW-E, 13 R510). -/
def rE : List Role := [.energy, .maintenance]

/-- SAFETY alone (RW-S of 10 R398). -/
def rS : List Role := [.safety]

/-- OPERATOR, MAINTENANCE or SAFETY (10 R398). -/
def rOMS : List Role := [.operator, .maintenance, .safety]

/-- Every role. -/
def rAny : List Role := [.operator, .pattern, .energy, .maintenance, .safety, .observer]

/-- Every role but OBSERVER (11 R451). -/
def rNotObs : List Role := [.operator, .pattern, .energy, .maintenance, .safety]

/-- PATTERN, OPERATOR, SAFETY or MAINTENANCE (07 R276). -/
def rStage : List Role := [.operator, .pattern, .maintenance, .safety]

/-- A read-only row. -/
def oRO (lo hi s1 s2 : Nat) (ty : VType) : ObjRow := { lo, hi, s1, s2, ty, acc := .ro }

/-- A read-write row with a numeric default. -/
def oRW (lo hi s1 s2 : Nat) (ty : VType) (l : List Role) (c : Commit) (d : Int)
    (range : Option (Int × Int) := none) : ObjRow :=
  { lo, hi, s1, s2, ty, acc := .rw, who := .roles l, commit := c, dflt := .num d, range }

/-- A write-only row of class NOW. -/
def oWO (lo hi s1 s2 : Nat) (ty : VType) (l : List Role) : ObjRow :=
  { lo, hi, s1, s2, ty, acc := .wo, who := .roles l }

/-- Octets of a default, all zero. -/
def zeros (n : Nat) : Val := .oct (List.replicate n 0)

/-- Identity, communication, sessions, leases, credentials (11 R451), power (14 R544), thermal (16 R612). -/
def objects1 : List ObjRow := [
  oRO 0x1000 0x1000 1 2 .u16, oRO 0x1000 0x1000 3 3 .u8, oRO 0x1000 0x1000 4 4 .u64,
  oRO 0x1000 0x1000 5 6 .u32, oRO 0x1000 0x1000 7 7 .u16, oRO 0x1000 0x1000 8 8 (.str 16),
  oRO 0x1000 0x1000 9 9 .t64, oRO 0x1000 0x1000 10 10 (.oct 32), oRO 0x1000 0x1000 11 11 .u8,
  { oRW 0x1000 0x1000 12 12 (.str 32) rM .apply 0 with dflt := zeros 32 },
  oRO 0x1001 0x1001 1 1 .u16, oRO 0x1001 0x1001 2 2 .u32, oRO 0x1001 0x1001 3 3 .octets,
  oRO 0x1010 0x1010 1 1 .u8, oWO 0x1010 0x1010 2 2 .u8 rOM,
  { oWO 0x1010 0x1010 3 3 .bool rM with commit := .restart },
  oRO 0x1010 0x1010 4 4 .u8, oRO 0x1010 0x1010 5 5 .u32,
  oRW 0x1020 0x1020 1 1 .u8 rM .apply 0 (some (0, 1)), oRO 0x1020 0x1020 2 3 .u16, oRO 0x1020 0x1020 4 5 .u8,
  oRO 0x1020 0x1020 6 6 .u64, oRO 0x1020 0x1020 7 8 .u16, oRW 0x1020 0x1020 9 9 .u16 rM .now 0 (some (0, 0)),
  oRO 0x1020 0x1020 10 10 .u32]

/-- The rest of 14 R544 and 16 R612, and the communication objects of 11 R451. -/
def objects2 : List ObjRow := [
  oRO 0x1021 0x1022 1 2 .u8, oRO 0x1021 0x1022 3 5 .u16, oRO 0x1021 0x1022 6 6 .u32,
  oRO 0x1023 0x1023 1 2 .u32, oRO 0x1023 0x1023 3 3 .t64, oRO 0x1023 0x1023 4 4 .u8,
  oRW 0x1023 0x1023 5 5 .u16 rM .apply 30 (some (5, 600)), oRO 0x1023 0x1023 6 6 .bool,
  oRO 0x1023 0x1023 7 7 (.oct 256), oRO 0x1023 0x1023 8 8 .u8,
  oRO 0x1025 0x1025 1 1 .i16, oRW 0x1025 0x1025 2 2 .i16 rM .now 0 (some (0, 0)), oRO 0x1025 0x1025 3 3 .u64,
  oRO 0x1025 0x1025 4 6 .u32, oRO 0x1025 0x1025 7 7 (.oct 138),
  oRO 0x1100 0x1100 1 3 (.oct 6), oRO 0x1100 0x1100 4 5 .u8,
  oRW 0x1101 0x1101 1 1 .u8 rM .restart 2 (some (0, 2)), oRW 0x1101 0x1101 2 2 .u32 rM .restart 0,
  oRW 0x1101 0x1101 3 3 .u8 rM .restart 0, oRW 0x1101 0x1101 4 4 .u32 rM .restart 0,
  oRW 0x1101 0x1101 5 5 .u8 rM .restart 1 (some (0, 2)),
  { oRW 0x1101 0x1101 6 6 (.oct 16) rM .restart 0 with dflt := zeros 16 },
  oRW 0x1101 0x1101 7 7 .u8 rM .restart 0,
  { oRW 0x1101 0x1101 8 8 (.str 32) rM .restart 0 with dflt := .oct [] },
  oRW 0x1102 0x1102 1 1 .u16 rM .restart 50110, oRW 0x1102 0x1102 2 2 .u16 rM .restart 50111,
  oRW 0x1102 0x1102 3 3 .u16 rM .apply 0 (some (0, 4094)), oRW 0x1102 0x1102 4 4 .u8 rM .apply 5 (some (0, 7)),
  oRW 0x1102 0x1102 5 5 .u8 rM .apply 0 (some (0, 7)), oRW 0x1102 0x1102 6 6 .u8 rM .restart 7 (some (0, 7)),
  oRO 0x1102 0x1102 7 7 .u32, oRW 0x1102 0x1102 8 8 .u16 rM .apply 10 (some (1, 600))]

/-- Session, own-session, lease, credential and image objects (11 R451). -/
def objects3 : List ObjRow := [
  oRO 0x1201 0x1208 1 3 .u8, oRO 0x1201 0x1208 4 4 (.oct 18), oRO 0x1201 0x1208 5 5 .u16,
  oRO 0x1201 0x1208 6 7 .t64, oRO 0x1201 0x1208 8 8 .u8, oRO 0x1201 0x1208 9 11 .u32,
  oRO 0x1201 0x1208 12 12 (.str 16), oRO 0x1201 0x1208 13 13 .u8,
  oRO 0x1210 0x1210 1 2 .u8, oWO 0x1210 0x1210 3 3 .bool rAny, oRO 0x1210 0x1210 4 4 .u16,
  oWO 0x1210 0x1210 5 5 (.oct 24) rNotObs, oRO 0x1210 0x1210 6 6 .u8, oRO 0x1210 0x1210 7 7 .t64,
  oRO 0x1210 0x1210 8 8 .u32, oRO 0x1210 0x1210 9 9 .u16, oRW 0x1210 0x1210 10 10 .u8 rAny .now 0,
  oRO 0x1210 0x1210 11 11 .u32,
  oRO 0x1400 0x140B 1 1 (.str 16), oRO 0x1410 0x1417 1 1 (.str 16), oRO 0x1420 0x1441 1 1 (.str 16),
  oRO 0x1400 0x140B 2 2 .u8, oRO 0x1410 0x1417 2 2 .u8, oRO 0x1420 0x1441 2 2 .u8,
  oRO 0x1400 0x140B 3 4 .u32, oRO 0x1410 0x1417 3 4 .u32, oRO 0x1420 0x1441 3 4 .u32,
  oWO 0x1400 0x140B 5 5 .u8 rNotObs, oWO 0x1410 0x1417 5 5 .u8 rNotObs, oWO 0x1420 0x1441 5 5 .u8 rNotObs,
  oRO 0x1400 0x140B 6 6 .u8, oRO 0x1410 0x1417 6 6 .u8, oRO 0x1420 0x1441 6 6 .u8,
  oRO 0x1400 0x140B 7 7 .u32, oRO 0x1410 0x1417 7 7 .u32, oRO 0x1420 0x1441 7 7 .u32,
  oRW 0x1480 0x1480 1 1 .u16 rM .apply 30 (some (5, 300)), oRO 0x1480 0x1480 2 2 .t64,
  { oRW 0x1500 0x151F 1 1 (.oct 32) rM .apply 0 with dflt := zeros 32 },
  oRW 0x1500 0x151F 2 2 .u8 rM .apply 0,
  { oRW 0x1500 0x151F 3 3 (.str 16) rM .apply 0 with dflt := zeros 16 },
  oRW 0x1500 0x151F 4 4 .bool rM .apply 0, oRO 0x1500 0x151F 5 5 .t64,
  oRO 0xA000 0xA00F 1 1 .u8, oWO 0xA000 0xA00F 2 2 .bool rAny,
  { oRW 0xA000 0xA00F 3 3 .u8 rAny .now 1 (some (0, 1)) with who := .image },
  { oRW 0xA000 0xA00F 4 4 .u16 rAny .now 32 (some (1, 3200)) with who := .image },
  { oRW 0xA000 0xA00F 5 5 .u32 rAny .now 0 with who := .image },
  { oRW 0xA000 0xA00F 6 6 .u8 rAny .now 2 (some (0, 2)) with who := .image },
  { oRW 0xA000 0xA00F 7 7 .bool rAny .now 0 with who := .image },
  oRO 0xA000 0xA00F 8 8 .u16,
  { oRW 0xA000 0xA00F 9 9 .u8 rAny .now 3 (some (1, 255)) with who := .image },
  { oRW 0xA000 0xA00F 10 10 .u8 rAny .now 0 (some (0, 1)) with who := .image },
  { oRW 0xA000 0xA00F 11 11 .u16 rAny .now 50111 with who := .image },
  oRO 0xA000 0xA00F 12 18 .u32,
  { oRW 0xA100 0xA10F 1 128 .u64 rAny .now 0 with who := .image },
  oRO 0xA800 0xA800 1 1 (.oct 8192)]

/-- Time and angle objects (02 R71, R89). -/
def objects4 : List ObjRow := [
  oRO 0x1300 0x1300 1 2 .u8, oRO 0x1300 0x1300 3 4 .i32, oRO 0x1300 0x1300 5 5 .u32, oRO 0x1300 0x1300 6 6 .i16,
  oRO 0x1300 0x1300 7 7 (.oct 8), oRO 0x1300 0x1300 8 8 .t80, oRO 0x1300 0x1300 9 9 .u8,
  oRW 0x1301 0x1301 1 1 .u8 rM .restart 0 (some (0, 2)), oRW 0x1301 0x1301 2 2 .u8 rM .restart 0 (some (0, 1)),
  oRW 0x1301 0x1301 3 3 .u8 rM .restart 1 (some (0, 2)), oRW 0x1301 0x1301 4 4 .u8 rM .restart 0,
  oRW 0x1301 0x1301 5 5 .u8 rM .restart 1 (some (0, 1)), oRW 0x1301 0x1301 6 6 .bool rM .restart 0,
  oRW 0x1301 0x1301 7 8 .u8 rM .restart 255, oRW 0x1301 0x1301 9 9 .u8 rM .restart 248,
  oRW 0x1302 0x1302 1 2 .i32 rM .apply 0,
  oRW 0x1303 0x1303 1 1 .u32 rM .apply 200 (some (20, 100000)), oRW 0x1303 0x1303 2 2 .u8 rM .apply 4 (some (2, 16)),
  oRW 0x1303 0x1303 3 3 .u16 rM .apply 300 (some (60, 3600)), oRW 0x1303 0x1303 4 4 .u32 rM .apply 1000000,
  oRW 0x1303 0x1303 5 5 .u16 rM .apply 2000, oRO 0x1304 0x1304 1 4 .u32,
  oRW 0x5000 0x5001 1 1 .u8 rM .apply 0 (some (0, 2)), oRW 0x5000 0x5001 2 2 .u16 rM .apply 4096 (some (1, 4096)),
  oRW 0x5000 0x5001 3 3 .u8 rM .apply 0 (some (0, 1)), oRW 0x5000 0x5001 4 4 .u32 rM .apply 0,
  oRW 0x5000 0x5001 5 5 .u8 rM .apply 8 (some (6, 9)), oRW 0x5000 0x5001 6 6 .u16 rM .apply 100 (some (10, 10000)),
  oRW 0x5000 0x5001 7 7 .u8 rM .apply 40 (some (0, 200)),
  oRO 0x5010 0x5011 1 2 .u8, oRO 0x5010 0x5011 3 3 .u64, oRO 0x5010 0x5011 4 4 .i32, oRO 0x5010 0x5011 5 5 .bool,
  oRO 0x5010 0x5011 6 9 .u32, oRW 0x5010 0x5011 10 10 .u32 rOM .now 0 (some (0, 0)),
  { oWO 0x5020 0x5020 1 1 .u8 rOM with range := some (0, 1) },
  oRW 0x5030 0x5030 1 1 .u32 rM .boundary 0, oRW 0x5030 0x5030 2 2 .u8 rM .boundary 0 (some (0, 1)),
  oRW 0x5030 0x5030 3 3 .u16 rM .boundary 1 (some (1, 4096)), oRW 0x5030 0x5030 4 4 .u32 rM .boundary 0,
  oRW 0x5030 0x5030 5 5 .u16 rM .boundary 50 (some (10, 1000)),
  oRO 0x5031 0x5031 1 1 .t64, oRO 0x5031 0x5031 2 3 .u32]

/-- Safety objects (10 R398). -/
def objects5 : List ObjRow := [
  oRO 0x2000 0x2000 1 2 .u8, oRO 0x2000 0x2000 3 3 (.oct 32), oRO 0x2000 0x2000 4 4 .u8,
  oRW 0x2000 0x2000 5 5 .bool rOMS .now 0, oRO 0x2000 0x2000 6 6 .u32, oRO 0x2000 0x2000 7 7 .t64,
  oRO 0x2000 0x2000 8 8 .u32, oRO 0x2001 0x2001 1 4 .u8, oRO 0x2002 0x2002 1 2 .u8, oRO 0x2002 0x2002 3 3 .u32,
  oRW 0x2010 0x2010 1 1 .u16 rS .apply 750 (some (500, 5000)),
  oWO 0x2100 0x2100 1 1 (.oct 16) rS, oRO 0x2100 0x2100 2 2 (.oct 16), oRO 0x2100 0x2100 3 4 .u32,
  oRW 0x2200 0x2200 1 1 .u32 rS .apply 1000 (some (10, 100000)), oRO 0x2200 0x2200 2 2 .u8,
  oRO 0x2200 0x2200 3 3 .u32, oRO 0x2200 0x2200 4 4 .u16, oRO 0x2200 0x2200 5 5 .u32,
  oRO 0x2300 0x2300 1 8 .u32]

/-- Zone, bridge and task objects (05 R196), network objects (06 R239). -/
def objects6 : List ObjRow := [
  oRO 0x3000 0x3000 1 1 .u64, oRW 0x3001 0x3007 1 1 .u64 rOM .apply 0, oRO 0x3000 0x3007 2 4 .u8,
  oRO 0x3000 0x3007 5 5 .u32,
  { oRW 0x3010 0x302F 1 2 .u8 rAny .now 0xFF with who := .bridge },
  { oRW 0x3010 0x302F 3 3 .u8 rAny .now 0 (some (0, 2)) with who := .bridge },
  { oRW 0x3010 0x302F 4 4 .bool rAny .now 0 with who := .bridge },
  oRO 0x3010 0x302F 5 5 .u8, oRO 0x3010 0x302F 6 6 .u32,
  oRO 0x3100 0x31FF 1 1 .u8, oRO 0x3100 0x31FF 2 2 .u64,
  { oRW 0x3100 0x31FF 3 3 .u8 rAny .now 0 with who := .zoneOr rM },
  oRO 0x3100 0x31FF 4 5 .u8,
  { oRW 0x3100 0x31FF 6 6 .u8 rAny .now 0 (some (0, 7)) with who := .zoneOr rM },
  { oRW 0x3100 0x31FF 7 7 .u64 rAny .now 0 with who := .zoneOr rM },
  { oWO 0x3100 0x31FF 8 8 .u8 rAny with who := .zoneOr [] },
  oRO 0x3100 0x31FF 9 12 .u32, oRO 0x3100 0x31FF 13 13 .u8, oRO 0x3100 0x31FF 14 14 .u16,
  oRO 0x3100 0x31FF 15 15 .t64,
  { oRW 0x3100 0x31FF 16 16 .u16 rAny .now 64 (some (64, 4096)) with who := .zoneOr rM },
  { oRW 0x3100 0x31FF 17 17 .u16 rAny .now 100 (some (1, 10000)) with who := .zoneOr rM },
  { oRW 0x3100 0x31FF 18 18 .bool rAny .now 0 with who := .zoneOr rM },
  oRO 0x3200 0x3200 1 1 .u16, oRO 0x3200 0x3200 2 2 .u32,
  oRW 0x7001 0x7001 1 1 .u32 rM .apply 6 (some (1, 100000)), oRW 0x7001 0x7001 2 2 .u32 rM .apply 20 (some (1, 100000)),
  oRW 0x7001 0x7001 3 3 .u32 rM .apply 200 (some (10, 100000)),
  oRW 0x7001 0x7001 4 4 .u32 rM .apply 2000 (some (100, 100000)),
  oRW 0x7001 0x7001 5 5 .u32 rM .apply 8 (some (4, 1000)), oRW 0x7001 0x7001 6 6 .u8 rM .apply 50 (some (0, 75)),
  oRO 0x7002 0x7002 1 1 .u64, oRO 0x7002 0x7002 2 2 .u16, oRO 0x7003 0x7003 1 3 .u32,
  oRO 0x7010 0x705D 1 1 .u8, oRO 0x7010 0x705D 2 4 .u32, oRO 0x7010 0x705D 5 5 .u8, oRO 0x7010 0x705D 6 6 .u16,
  oRO 0x7010 0x705D 7 7 .u8, oRO 0x7060 0x709F 1 5 .u8, oRO 0x7060 0x709F 6 6 .u32,
  { oRW 0x70A0 0x70A7 1 1 .u8 rAny .apply 0 with who := .zone },
  oRW 0x7100 0x710F 1 8 .u64 rM .now 0, oRO 0x7100 0x710F 9 13 .u64, oRO 0x7100 0x710F 32 32 (.oct 4096)]

/-- Ring, head, link and noise objects (08 R316), event objects (09 R358). -/
def objects7 : List ObjRow := [
  oRW 0x4000 0x400F 1 1 .bool rM .apply 0, oRO 0x4000 0x400F 2 5 .u8, oRO 0x4000 0x400F 6 6 .u64,
  oRO 0x4000 0x400F 7 12 .u32, oRO 0x4000 0x400F 13 13 .i32, oRO 0x4000 0x400F 14 15 .u8,
  oRO 0x4100 0x44FF 1 1 .bool, oRO 0x4100 0x44FF 2 3 .u16, oRO 0x4100 0x44FF 4 4 .u32, oRO 0x4100 0x44FF 5 8 .u8,
  oRO 0x4100 0x44FF 9 9 .u16, oRO 0x4100 0x44FF 10 11 .u32, oRO 0x4100 0x44FF 12 12 .bool,
  oRO 0x4100 0x44FF 13 13 .u8,
  oRW 0x4600 0x4600 1 1 .u16 rM .apply 1000 (some (250, 10000)), oRW 0x4600 0x4600 2 2 .u16 rM .apply 10 (some (1, 3600)),
  oRW 0x4600 0x4600 3 3 .u16 rM .apply 250,
  oRW 0x4700 0x4703 1 1 .u8 rM .apply 0 (some (0, 2)), oRW 0x4700 0x4703 2 2 .u8 rM .apply 0 (some (0, 1)),
  oRW 0x4700 0x4703 3 3 .u8 rM .apply 0 (some (0, 23)), oRW 0x4700 0x4703 4 4 .bool rM .apply 1,
  oRW 0x4700 0x4703 5 5 .u8 rM .apply 1 (some (0, 4)), oRW 0x4700 0x4703 6 6 .u16 rM .apply 60 (some (10, 3600)),
  oRO 0x4700 0x4703 7 7 .u32, oRO 0x4700 0x4703 8 8 .t64, oRO 0x4700 0x4703 9 9 (.oct 256),
  oRO 0x4700 0x4703 10 10 .u64, oRO 0x4700 0x4703 11 11 .u32,
  oRW 0x5100 0x510F 1 1 .u8 rOM .apply 0, oRO 0x5100 0x510F 2 3 .u16, oRO 0x5100 0x510F 4 9 .u32,
  oRO 0x5100 0x510F 10 10 .u8, oRO 0x5100 0x510F 11 13 .u32,
  oRW 0x5200 0x5200 1 1 .u32 rM .apply 1000 (some (100, 50000)), oRW 0x5200 0x5200 2 2 .u16 rM .apply 300 (some (50, 2000)),
  oRW 0x5200 0x5200 3 3 .u16 rM .apply 250 (some (125, 10000)), oRW 0x5200 0x5200 4 4 .u8 rM .apply 10 (some (1, 100)),
  oRW 0x5200 0x5200 5 5 .u8 rM .apply 8 (some (6, 50)), oRW 0x5200 0x5200 6 6 .u16 rM .apply 200 (some (50, 5000)),
  oRW 0x5200 0x5200 7 7 .u16 rM .apply 2000 (some (500, 10000))]

/-- Energy objects (13 R510). -/
def objects8 : List ObjRow := [
  oRW 0x6000 0x6000 1 1 .u8 rE .apply 15, oRW 0x6000 0x6000 2 2 .u8 rE .apply 0 (some (0, 1)),
  oRW 0x6000 0x6000 3 3 .u8 rE .apply 1 (some (1, 8)), oRW 0x6000 0x6000 4 4 .u8 rE .apply 1 (some (0, 15)),
  oRW 0x6000 0x6000 5 5 .u32 rE .apply 0, oRW 0x6000 0x6000 6 6 .u8 rE .apply 90 (some (50, 100)),
  oRW 0x6000 0x6000 7 7 .u16 rE .apply 60 (some (10, 600)), oRW 0x6000 0x6000 8 8 .u16 rE .apply 60 (some (10, 3600)),
  oRW 0x6000 0x6000 9 9 .u16 rE .apply 24 (some (1, 720)),
  oRO 0x6001 0x6001 1 1 .u8, oRO 0x6001 0x6001 2 2 .t64, oRO 0x6001 0x6001 3 3 (.oct 32), oRO 0x6001 0x6001 4 5 .u32,
  oRO 0x6001 0x6001 6 7 .u8, oRO 0x6001 0x6001 8 8 (.oct 32), oRO 0x6001 0x6001 9 10 .t64, oRO 0x6001 0x6001 11 11 .u32,
  oRW 0x6010 0x6011 1 1 .bool rE .apply 0, oRW 0x6012 0x6013 1 1 .bool rE .apply 1,
  oRW 0x6010 0x6011 2 2 .u32 rE .apply 1000 (some (1, 100000)), oRW 0x6010 0x6011 3 3 .u8 rE .apply 30 (some (10, 100)),
  oRW 0x6010 0x6011 4 4 .u16 rE .apply 15 (some (1, 1440)),
  oRW 0x6012 0x6013 2 2 .u32 rE .apply 0 (some (1, 0)), oRW 0x6012 0x6013 3 3 .u8 rE .apply 0 (some (1, 0)),
  oRW 0x6012 0x6013 4 4 .u16 rE .apply 0 (some (1, 0)),
  oRO 0x6010 0x6013 5 5 .u8, oRO 0x6010 0x6013 6 6 .u64, oRO 0x6010 0x6013 7 9 .u32,
  { oRW 0x6020 0x6027 1 1 (.str 16) rE .apply 0 with dflt := zeros 16 },
  oRO 0x6020 0x6027 2 5 .u64, oRO 0x6020 0x6027 6 6 .u32, oRO 0x6020 0x6027 7 7 .t64,
  { oRW 0x6030 0x6030 1 64 (.oct 16) rE .apply 0 with dflt := zeros 16 },
  oWO 0x6031 0x6031 1 1 (.oct 16) rE, oRO 0x6031 0x6031 2 2 (.oct 16), oWO 0x6031 0x6031 3 3 .bool rE,
  oRO 0x6040 0x604C 1 2 .t64, oRO 0x6040 0x604C 3 3 (.oct 256), oRO 0x6040 0x604C 4 4 (.oct 96),
  oRO 0x6050 0x605F 1 1 .u64, oRO 0x6050 0x605F 2 2 .u8, oRO 0x6050 0x605F 3 4 .u32,
  oRO 0x6060 0x6060 1 1 .octets, oRO 0x6060 0x6060 2 2 .u32]

/-- Fuse and store objects (12 R484), blank, library, Assay and firmware objects (07 R276). -/
def objects9 : List ObjRow := [
  oRO 0x8000 0x8000 1 4 .u16, oRO 0x8000 0x8000 5 5 (.oct 256), oRO 0x8000 0x8000 6 6 .u8, oRO 0x8000 0x8000 7 8 .bool,
  oRO 0x8000 0x8000 9 9 .u16, oRO 0x8000 0x8000 10 10 .i16,
  oWO 0x8001 0x8001 1 1 (.oct 8) [.maintenance, .safety], oRO 0x8001 0x8001 2 2 (.oct 16), oRO 0x8001 0x8001 3 3 (.oct 64),
  oRO 0x8002 0x8002 1 1 (.oct 8192),
  oRW 0x8020 0x8020 1 1 .u16 rM .now 0, oRO 0x8020 0x8020 2 2 .u16,
  { oRW 0x8021 0x8021 1 1 (.str 16) rM .now 0 with dflt := zeros 16 }, oRO 0x8021 0x8021 2 2 .u16,
  oRO 0x8030 0x8030 1 5 .u32, oRO 0x8030 0x8030 6 6 .t64, oRO 0x8030 0x8030 7 7 .u64, oRO 0x8030 0x8030 8 10 .u32,
  oRW 0x8031 0x8031 1 1 .u16 rM .apply 24 (some (1, 168)),
  oRO 0x8040 0x8040 1 1 (.oct 229376), oRO 0x8040 0x8040 2 3 (.oct 16384),
  oRW 0x8050 0x8050 1 1 .u16 rM .apply 0, oRO 0x8050 0x8050 2 2 .u8, oRO 0x8100 0x817F 1 1 (.oct 8192),
  oRO 0x8400 0x8400 1 1 .u8, oRO 0x8400 0x8400 2 2 .u16, oRO 0x8400 0x8400 3 3 .u32,
  oRW 0x8400 0x8400 4 4 .u32 rM .apply 100 (some (20, 10000)), oRW 0x8400 0x8400 5 5 .u16 rM .apply 30 (some (1, 3600)),
  oRO 0x8400 0x8400 6 6 .u8, oRO 0x8402 0x8402 1 8 .u8, oRO 0x8410 0x8411 1 3 .u8,
  oWO 0x8410 0x8411 4 4 (.oct 64) rStage,
  { oWO 0x8410 0x8411 5 5 .octets rStage with who := .staging },
  oWO 0x8410 0x8411 6 6 .u8 rStage,
  { oWO 0x8410 0x8411 7 7 .bool rStage with who := .staging },
  { oRW 0x8410 0x8411 8 8 .u8 rStage .now 0 (some (0, 2)) with who := .staging },
  { oRW 0x8410 0x8411 9 9 .t64 rStage .now 0 with who := .staging },
  { oRW 0x8410 0x8411 10 10 .u8 rStage .now 0 (some (0, 1)) with who := .staging },
  { oRW 0x8410 0x8411 11 11 .t64 rStage .now 0 with who := .staging },
  { oWO 0x8410 0x8411 12 13 .bool rStage with who := .staging },
  oRO 0x8410 0x8411 14 14 .u8, oRO 0x8410 0x8411 15 15 .u64, oRO 0x8410 0x8411 16 16 .t64, oRO 0x8410 0x8411 17 17 .u16,
  oRO 0x8420 0x843F 1 1 .u8, oRO 0x8420 0x843F 2 3 .u32, oRO 0x8420 0x843F 4 4 .u8, oRO 0x8420 0x843F 5 5 .u32,
  oRO 0x8420 0x843F 6 6 .u8, oRO 0x8420 0x843F 7 7 (.oct 64), oRO 0x8420 0x843F 8 8 (.str 24),
  oWO 0x8420 0x843F 9 9 .bool rStage, oRO 0x8420 0x843F 10 10 .t64,
  oRW 0x8500 0x8500 1 1 .u16 rM .apply 10 (some (1, 1000)), oRW 0x8500 0x8500 2 2 .u8 rM .apply 0 (some (0, 1)),
  oRO 0x8500 0x8500 3 7 .u32, oRO 0x8501 0x8501 1 2 (.oct 128),
  oRO 0x8600 0x8600 1 1 .u8, oRO 0x8600 0x8600 2 3 .u32, oRO 0x8600 0x8600 4 5 .u8,
  oWO 0x8600 0x8600 6 7 .octets rM, { oWO 0x8600 0x8600 8 8 .bool rM with commit := .restart }]

/-- Two-wire and direct-I/O objects (15 R580). -/
def objects10 : List ObjRow := [
  oRW 0x9000 0x9001 1 1 .u8 rOM .apply 1 (some (0, 2)), oRW 0x9000 0x9001 2 2 .bool rOM .apply 1,
  oRW 0x9000 0x9001 3 3 .u32 rOM .apply 10000 (some (100, 100000)), oRW 0x9000 0x9001 4 4 .u16 rOM .apply 0 (some (0, 60000)),
  oRO 0x9000 0x9001 5 5 .u8, oWO 0x9000 0x9001 6 6 (.oct 40) rOM, oRO 0x9000 0x9001 7 7 (.oct 384),
  oRO 0x9000 0x9001 8 14 .u32,
  oRW 0x9010 0x901F 1 1 .u8 rOM .apply 0xFF, oRW 0x9010 0x901F 2 2 .bool rOM .apply 0, oRW 0x9010 0x901F 3 3 .u8 rOM .apply 0,
  oRW 0x9010 0x901F 4 4 .u8 rOM .apply 1 (some (1, 4)), oRW 0x9010 0x901F 5 5 .u32 rOM .apply 0xFFFFFFFF,
  oRW 0x9010 0x901F 6 6 .u8 rOM .apply 0xFF, oRO 0x9010 0x901F 7 8 .u32,
  oRW 0x9040 0x9040 1 1 .bool rOM .apply 0, oRW 0x9040 0x9040 2 2 .u8 rOM .apply 0x4C (some (8, 0x77)),
  { oRW 0x9040 0x9040 3 3 (.oct 128) rOM .now 0 with dflt := zeros 128 }, oRO 0x9040 0x9040 4 4 (.oct 128),
  oRW 0x9040 0x9040 5 5 .u8 rOM .apply 0xFF, oWO 0x9040 0x9040 6 6 .bool rOM, oRO 0x9040 0x9040 7 9 .u32,
  oRW 0x9100 0x9117 1 1 .u8 rOM .apply 0 (some (0, 4)), oRW 0x9100 0x9117 2 2 .u8 rOM .apply 0 (some (0, 1)),
  oRW 0x9100 0x9117 3 3 .u32 rOM .apply 0 (some (0, 10000000)), oRW 0x9100 0x9117 4 4 .u8 rOM .apply 0 (some (0, 1)),
  oRW 0x9100 0x9117 5 5 .u8 rOM .apply 0 (some (0, 2)), oRO 0x9100 0x9117 6 6 .bool, oWO 0x9100 0x9117 7 7 .bool rOM,
  oWO 0x9100 0x9117 8 8 (.oct 12) rOM, oRO 0x9100 0x9117 9 9 (.oct 1024), oRO 0x9100 0x9117 10 14 .u32,
  oRO 0x9100 0x9117 15 15 .u8,
  oRO 0x9200 0x9201 1 1 .u8, oRO 0x9200 0x9201 2 2 .u16, oRO 0x9200 0x9201 3 3 .u32]

/-- The whole dictionary. -/
def objects : List ObjRow :=
  objects1 ++ objects2 ++ objects3 ++ objects4 ++ objects5 ++ objects6 ++ objects7 ++ objects8 ++ objects9 ++ objects10

/-- The row of an object, or none where the index and sub-index are not in use (11 R401). -/
def objRow (key : Nat) : Option ObjRow :=
  objects.find? (fun r => decide (r.lo ≤ key / 256 ∧ key / 256 ≤ r.hi ∧ r.s1 ≤ key % 256 ∧ key % 256 ≤ r.s2))

/-- The highest sub-index in use at an index; 0 where the index is not in use (11 R401). -/
def topSub (idx : Nat) : Nat :=
  (objects.filter (fun r => decide (r.lo ≤ idx ∧ idx ≤ r.hi))).foldl (fun m r => max m r.s2) 0

/-- Bytes of a value of fixed size; none for OCTET (11 R402). -/
def VType.size : VType → Option Nat
  | .bool | .u8 => some 1
  | .u16 | .i16 => some 2
  | .u32 | .i32 => some 4
  | .u64 | .t64 => some 8
  | .t80 => some 10
  | .oct n | .str n => some n
  | .octets => none

/-- Whether a type's values are octets. -/
def VType.isOct : VType → Bool
  | .oct _ | .octets | .str _ => true
  | _ => false

/-- Whether an object is reached by segmented transfer only (11 R424). -/
def VType.segmented : VType → Bool
  | .octets => true
  | .oct n => decide (n > 1024)
  | _ => false

/-- The value that wire bytes of a type spell (11 R402). -/
def VType.decode (ty : VType) (b : List Nat) : Val :=
  match ty with
  | .oct _ | .octets | .str _ => .oct b
  | .i16 => .num (toSigned 16 (ofBytesBE b))
  | .i32 => .num (toSigned 32 (ofBytesBE b))
  | _ => .num (ofBytesBE b)

/-- The wire bytes of a value of a type (11 R402). -/
def VType.encode (ty : VType) (v : Val) : List Nat :=
  match v with
  | .oct b => b
  | .num n =>
    match ty.size with
    | some k => bytesBE k (n.emod (2 ^ (8 * k))).toNat
    | none => []

/-- Whether a STRING value is legal: printable ASCII, then zeros to the end (11 R402). -/
def legalString (b : List Nat) : Bool :=
  let rest := b.dropWhile (fun c => c ≠ 0)
  (b.takeWhile (fun c => c ≠ 0)).all (fun c => decide (0x20 ≤ c ∧ c ≤ 0x7E)) && rest.all (fun c => c == 0)

/-- Whether a value lies in an object's range (11 R402, and each chapter's table). -/
def ObjRow.inRange (r : ObjRow) (v : Val) : Bool :=
  match r.ty, v with
  | .bool, .num n => n == 0 || n == 1
  | .str _, .oct b => legalString b
  | _, .num n => match r.range with
    | some (a, b) => decide (a ≤ n ∧ n ≤ b)
    | none => true
  | _, _ => true

/-- The group of an index (11 R430); an object a zone, bridge, staging or image lease governs has none. -/
def groupOf (idx : Nat) : Option Nat :=
  if 0x1000 ≤ idx ∧ idx ≤ 0x11FF then some 0
  else if 0x1300 ≤ idx ∧ idx ≤ 0x13FF then some 1
  else if 0x1400 ≤ idx ∧ idx ≤ 0x15FF then some 2
  else if 0x2000 ≤ idx ∧ idx ≤ 0x2FFF then some 3
  else if 0x3000 ≤ idx ∧ idx ≤ 0x3007 then some 4
  else if 0x4000 ≤ idx ∧ idx ≤ 0x4FFF then some 5
  else if 0x5000 ≤ idx ∧ idx ≤ 0x50FF then some 6
  else if 0x5100 ≤ idx ∧ idx ≤ 0x5FFF then some 7
  else if 0x6000 ≤ idx ∧ idx ≤ 0x6FFF then some 8
  else if (0x7000 ≤ idx ∧ idx ≤ 0x709F) ∨ (0x70A8 ≤ idx ∧ idx ≤ 0x7FFF) then some 9
  else if 0x8000 ≤ idx ∧ idx ≤ 0x8FFF then some 10
  else if 0x9000 ≤ idx ∧ idx ≤ 0x9FFF then some 11
  else none

/-- The lease of the unit an object belongs to, for objects whose table admits a lease's holder (11 R427,
R428). -/
def holderLease (w : Writers) (idx zone : Nat) : Option Nat :=
  match w with
  | .roles _ | .image => none
  | .zoneOr _ => some (0x10 + zone)
  | .zone => some (0x10 + (idx - 0x70A0))
  | .bridge => some (0x20 + (idx - 0x3010))
  | .staging => some (0x40 + (idx - 0x8410))

/-- Whether a commit class allows an apply mode (11 R406). -/
def Commit.allows (c : Commit) (m : EdgeMode) : Bool :=
  match c, m with
  | .now, _ => false
  | .apply, _ | .restart, _ => true
  | .slot, .atOnce => false
  | .slot, _ => true
  | .boundary, .atMark => true
  | .boundary, _ => false

/-- Whether an object is persistent (11 R404). -/
def ObjRow.persistent (r : ObjRow) : Bool := r.acc == .rw && r.commit != .now

end Sys2Proof.Machine
end

