-- ==== Sys2Proof/Machine/Units/Angle.lean ====
section
/-!
DEFINITION. The two angle channels and the course marks.
-/

namespace Sys2Proof.Machine

/-- The angle channel states, in value order (02 R78). -/
inductive AngState where
  | locked
  | suspect
  | lost
  | stopped
  deriving DecidableEq, Repr

/-- The reasons of the channel states, in value order (02 R79). -/
inductive AngReason where
  | none
  | illegal
  | notHomed
  | noMotion
  | illegalRun
  | signalLoss
  | zMismatch
  deriving DecidableEq, Repr

/-- The encoder signals (02 R73). -/
inductive EncSignal where
  | a
  | b
  deriving DecidableEq, Repr

/-- One angle channel, ANG0 or ANG1 (02 R72). -/
structure AngleChannel where
  /-- enum `5010:01`, 02 R78: AngleState; reset STOPPED. -/
  state : AngState := .stopped
  /-- enum `5010:02`, 02 R79: StateReason; reset NOT_HOMED. -/
  reason : AngReason := .notHomed
  /-- BOOL `5010:05`, 02 R75: Homed; reset 0. -/
  homed : Bool := false
  /-- count, 02 R73 R76: q in RS-422 mode, 65,536 n + ph in sin/cos mode; reset 0 (log 3). -/
  pos : Nat := 0
  /-- 24 bits, 02 R76: the revolution count before the carry of ZeroOffset; reset 0 (log 3). -/
  rev : Nat := 0
  /-- pin levels, 02 R73: A and B; reset low (log 3). -/
  levelA : Bool := false
  /-- pin level, 02 R73: B; reset low (log 3). -/
  levelB : Bool := false
  /-- T80, 02 R73: the last accepted edge of A; reset none. -/
  edgeA : Option T80 := none
  /-- T80, 02 R73: the last accepted edge of B; reset none. -/
  edgeB : Option T80 := none
  /-- T80, 02 R73: the last accepted edge of Z; reset none. -/
  edgeZ : Option T80 := none
  /-- counts, 02 R73: what the last accepted edge added to q, undone when its pair is illegal; reset 0. -/
  lastDelta : Int := 0
  /-- 02 R75 R91: the last motion was forward; reset 0. -/
  forward : Bool := false
  /-- count, 02 R78: consecutive legal line crossings; reset 0. -/
  legalRun : Nat := 0
  /-- T80 of up to 17, 02 R82: the times of the last line crossings, newest first; reset empty. -/
  crossings : List T80 := []
  /-- counts of travel, 02 R78: total travel; reset 0. -/
  travel : Nat := 0
  /-- up to 9, 02 R78: the travel at each of the last illegal transitions, newest first; reset empty. -/
  illegalAt : List Nat := []
  /-- T80, 02 R78: the last illegal transition; reset 0. -/
  lastIllegal : T80 := 0
  /-- T80, 02 R82: an edge taken since the previous grid instant; reset none. -/
  gridEdge : Option T80 := none
  /-- 02 R81: the next measurement is the first after SUSPECT; reset 0. -/
  resuming : Bool := false
  /-- 88 bits, LSB 2^-48 rev, 02 R82: θ; reset 0 (log 3). -/
  th : Int := 0
  /-- 64 bits, LSB 2^-56 rev/ns, 02 R82: ω; reset 0 (log 3). -/
  w : Int := 0
  /-- 64 bits, LSB 2^-80 rev/ns², 02 R82: a; reset 0 (log 3). -/
  a : Int := 0
  /-- T80, 02 R82: ts; reset 0 (log 3). -/
  ts : T80 := 0
  /-- 64 bits, 02 R80 R82: the speed at the last LOCKED instant; reset 0. -/
  wLocked : Int := 0
  /-- A56, 02 R80: the angle held while LOST; reset 0. -/
  held : Nat := 0
  /-- squared amplitude, 02 R74: the value calibrated at lock; reset 0 (log 3). -/
  ampCal : Nat := 0
  /-- U32 `5010:06`, 02 R89: IllegalTotal; reset 0. -/
  illegalTotal : Nat := 0
  /-- U32 `5010:07`, 02 R81: Slips; reset 0. -/
  slips : Nat := 0
  /-- U32 `5010:08`, 02 R89: SuspectEntries; reset 0. -/
  suspectEntries : Nat := 0
  /-- U32 `5010:09`, 02 R89: LostEntries; reset 0. -/
  lostEntries : Nat := 0
  /-- U32 2^-32 rev `5010:0A`, 02 R85: FiringResidualMax; reset 0. -/
  residualMax : Nat := 0
  /-- 02 R91: its angle events stand suspended; reset 0. -/
  suspended : Bool := false
  deriving DecidableEq, Repr

/-- A fixed course mark (02 R87). -/
structure FixedMark where
  /-- T64, 02 R87: its edge. -/
  edge : T64
  /-- U32, 02 R87: its course number. -/
  course : Nat
  deriving DecidableEq, Repr

/-- The angle unit. -/
structure AngleUnit where
  /-- 2 channels, 02 R72: ANG0 and ANG1; reset under R78. -/
  ch : Tab AngleChannel := []
  /-- mark, 02 R87: the mark fixed and not yet taken place; reset none. -/
  mark : Option FixedMark := none
  /-- T64 `5031:01`, 02 R87: NextMarkTime; reset 0 (log 3). -/
  nextMarkTime : T64 := 0
  /-- U32 `5031:02`, 02 R87: CourseNumber; reset 0 (log 3). -/
  courseNumber : Nat := 0
  /-- U32 `5031:03`, 02 R88: MarksSkipped; reset 0 (log 3). -/
  marksSkipped : Nat := 0
  /-- A56, 02 R88: the mark that is awaited and not yet fixed; reset none. -/
  awaited : Option Nat := none
  /-- edges, 02 R86: the marks that have taken place; reset 0. -/
  marksTaken : Nat := 0
  deriving DecidableEq, Repr

end Sys2Proof.Machine
end

