-- ==== Sys2Proof/Machine/Units/Op.lean ====
section
/-!
DEFINITION. The operational state, the reset sources, the Gaffer and the control pins.
-/

namespace Sys2Proof.Machine

/-- The seven operational states (01 R35). -/
inductive OpState where
  | off
  | reset
  | boot
  | service
  | run
  | sleep
  | halt
  deriving DecidableEq, Repr

/-- The reset sources, in code order 1 to 4 (14 R528). -/
inductive ResetSource where
  | powerOn
  | feedLoss
  | nreset
  | command
  deriving DecidableEq, Repr

/-- The two firmware slots (07 R267, R268). -/
inductive FwSlot where
  | a
  | b
  deriving DecidableEq, Repr

/-- What the Gaffer processor runs (01 R30, 07 R268, R270). -/
inductive GafferPhase where
  | held
  | bootRom
  | selected (slot : FwSlot)
  | running (slot : FwSlot)
  | recovery
  deriving DecidableEq, Repr

/-- Why the Gaffer last started (01 R30): only a start by the watchdog keeps the expiry count. -/
inductive GafferCause where
  | reset
  | watchdog
  | command
  | fault
  deriving DecidableEq, Repr

/-- The operational state and the units that decide it. -/
structure OpUnit where
  /-- enum, 01 R35: the operational state; reset RESET (log 1). -/
  state : OpState := .reset
  /-- 4 bits with their assertion instants, 14 R528: the reset sources asserted; reset POWER_ON (log 1). -/
  sources : List (ResetSource × Nat) := [(.powerOn, 0)]
  /-- U8 `1010:04`, 14 R528: LastResetCause; reset 1, POWER_ON (log 1). -/
  lastResetCause : Nat := 1
  /-- pin, 14 R529: NRESET is low; reset 0. -/
  nresetLow : Bool := false
  /-- enum, 01 R30: what the Gaffer runs; reset held, 14 R530. -/
  gaffer : GafferPhase := .held
  /-- enum, 01 R30: why the Gaffer last started; reset RESET. -/
  gafferCause : GafferCause := .reset
  /-- 0 to 3, 01 R30: consecutive watchdog expiries; reset 0. -/
  watchdogCount : Nat := 0
  /-- ns, 01 R30: since when the running image has served its watchdog; reset 0. -/
  servedSince : Nat := 0
  /-- slot, 07 R268: the slot whose image last expired; reset none. -/
  expiredSlot : Option FwSlot := none
  /-- 07 R268: the image selected or running was marked TRIAL when it was selected; reset 0. -/
  trial : Bool := false
  /-- ns, 07 R268: when a TRIAL image began to run in SERVICE or RUN; reset none. -/
  trialSince : Option Nat := none
  /-- ns, 11 R451 `1010:05`: the release of RESET from which Uptime counts; reset 0. -/
  bootAt : Nat := 0
  /-- ns, 12 R475: when power went away, in OFF; reset none. -/
  offAt : Option Nat := none
  /-- U16, 01 R46: the FATAL fault recorded in RESET that the boot ROM judges; reset none. -/
  fatalSeen : Option Nat := none
  /-- ns, 14 R545: the last SERVICE entry from BOOT; reset none. -/
  serviceAt : Option Nat := none
  /-- 14 R545: the 60 s window after this start's SERVICE entry is still open; reset 0. -/
  brownoutOpen : Bool := false
  /-- pin, 14 R536: WAKE is low; reset 0. -/
  wakeLow : Bool := false
  /-- ns, 14 R536: the last falling edge of WAKE; reset none. -/
  wakeFellAt : Option Nat := none
  /-- ns, 14 R535: entry to SLEEP; reset none. -/
  sleepAt : Option Nat := none
  /-- U8 `1023:08`, 14 R536: WakeCause; reset 0. -/
  wakeCause : Nat := 0
  /-- pin, 12 R459: FUSE_EN is high; reset 0. -/
  fuseEn : Bool := false
  /-- U8 `1100:04`, `1100:05`, 11 R451, 14 R533: LinkFA, LinkFB; reset 0. -/
  link : Tab Nat := []
  /-- port, 14 R533: the port that carries PTP, none while both are down; reset none. -/
  ptpPort : Option Port := none
  /-- ns, 14 R533: ts, the later of SERVICE entry and link-up on the PTP port; reset none. -/
  lockRef : Option Nat := none
  deriving DecidableEq, Repr

end Sys2Proof.Machine
end

