-- ==== Sys2Proof/Machine/Units/Blank.lean ====
section
/-!
DEFINITION. Staging slots, the library, firmware slots and the Assay.
-/

namespace Sys2Proof.Machine

/-- The staging states (07 R254); `empty` for a free slot or entry. -/
inductive StageState where
  | empty
  | receiving
  | verifying
  | verified
  | priming
  | primed
  | activating
  | active
  | retired
  deriving DecidableEq, Repr

/-- The results of an activation, in value order (07 R276). -/
inductive ActResult where
  | none
  | active
  | failed
  | markTimeout
  deriving DecidableEq, Repr

/-- One staging slot (07 R255, objects `8410 + s`). -/
structure StageSlot where
  /-- enum sub 01, 07 R254: SlotState; reset 0. -/
  state : StageState := .empty
  /-- U8 sub 02, 07 R255: Owner; reset 0. -/
  owner : SessionNo := 0
  /-- U8 sub 03, 07 R276: Entry; reset 0xFF. -/
  entry : Nat := 0xFF
  /-- bytes, 07 R256: TOTAL of the image being received; reset 0. -/
  total : Nat := 0
  /-- 07 R254: a prime is requested; reset 0. -/
  primeWanted : Bool := false
  /-- U8 sub 08, 07 R261: ActMode; reset 0. -/
  actMode : Nat := 0
  /-- T64 sub 09, 07 R261: ActTime; reset 0. -/
  actTime : T64 := 0
  /-- U8 sub 0A, 07 R265: ActFallback; reset 0. -/
  actFallback : Nat := 0
  /-- T64 sub 0B, 07 R265: ActFallbackTime; reset 0. -/
  actFallbackTime : T64 := 0
  /-- enum sub 0E, 07 R264: Result; reset NONE. -/
  result : ActResult := .none
  /-- U64 sub 0F, 07 R264: FailureMask, as cluster ids; reset none. -/
  failureMask : List Nat := []
  /-- T64 sub 10, 07 R276: ActivatedAt; reset 0. -/
  activatedAt : T64 := 0
  /-- U16 sub 11, 07 R276: Refusal; reset 0. -/
  refusal : Abort := .ok
  /-- T64, 07 R261: the edge E of the activation in progress; reset none. -/
  edge : Option T64 := none
  /-- enum, 07 R261: the mode in force of the activation, a fallback included; reset atOnce. -/
  mode : EdgeMode := .atOnce
  /-- count, 07 R264: rounds aborted; reset 0. -/
  aborted : Nat := 0
  /-- ns, 07 R265: since when MarkWait counts; reset 0. -/
  since : Nat := 0
  /-- 07 R262: the round's COMMIT has gone out; reset 0. -/
  committed : Bool := false
  /-- task numbers, 07 R258: reserved for its tasks; reset none. -/
  taskNos : List Nat := []
  deriving DecidableEq, Repr

/-- One library entry (07 R266, objects `8420 + e`). -/
structure LibEntry where
  /-- enum sub 01, 07 R254: State; reset empty. -/
  state : StageState := .empty
  /-- bytes, 07 R266: the image; header fields are read from it; reset empty. -/
  image : List Nat := []
  /-- bytes, 07 R256: the library space reserved; reset 0. -/
  reserved : Nat := 0
  /-- T64 sub 0A, 07 R276: ActiveSince; reset 0. -/
  activeSince : T64 := 0
  /-- CRC-32C by tile * 16 + slot, 07 R257: the golden signatures; reset none. -/
  golden : Tab Nat := []
  deriving DecidableEq, Repr

/-- The marks of a firmware slot, in value order (07 R276). -/
inductive FwMark where
  | none
  | trial
  | confirmed
  | invalid
  deriving DecidableEq, Repr

/-- One firmware slot (07 R267, R268). -/
structure FwImage where
  /-- enum, 07 R268: SlotMark; kept; reset NONE (log 3). -/
  mark : FwMark := .none
  /-- bytes, 07 R267: the image; kept; reset empty (log 3). -/
  image : List Nat := []
  /-- 07 R267: the image verifies; kept; reset 0 (log 3). -/
  verifies : Bool := false
  /-- U32, 07 R276: VERSION; kept; reset 0 (log 3). -/
  version : Nat := 0
  /-- U16, 07 R267: SVN; kept; reset 0 (log 3). -/
  svn : Nat := 0
  deriving DecidableEq, Repr

/-- A firmware upload in progress (07 R269). -/
structure FwUpload where
  /-- 07 R269: the slot written. -/
  slot : FwSlot
  /-- bytes, 07 R267: TOTAL. -/
  total : Nat
  /-- bytes, 07 R269: what has arrived. -/
  data : List Nat
  deriving DecidableEq, Repr

/-- The Assay (07 R271 to R275). -/
structure AssayUnit where
  /-- U32 `8500:03`, 07 R276: PassesCompleted; reset 0. -/
  passes : Nat := 0
  /-- U32 `8500:04`, 07 R276: LastPassUs; reset 0. -/
  lastPassUs : Nat := 0
  /-- U32 `8500:05`, 07 R276: TaintsFound; reset 0. -/
  taints : Nat := 0
  /-- U32 `8500:06`, 07 R276: Repairs; reset 0. -/
  repairs : Nat := 0
  /-- U32 `8500:07`, 07 R276: RepairFailures; reset 0. -/
  failures : Nat := 0
  /-- ns, 07 R272: when the last pass completed; reset 0. -/
  lastPassAt : Nat := 0
  /-- CRC-32C by tile * 16 + slot, 07 R271: the golden signatures in force; reset none. -/
  golden : Tab Nat := []
  /-- tile * 16 + slot, 07 R273: the tainted slots, whose tiles make TaintedTileMap; reset none. -/
  tainted : List Nat := []
  /-- tile * 16 + slot, 07 R273: tainted slots whose repair is deferred; reset none. -/
  deferred : List Nat := []
  /-- ns by tile, 07 R275: the repairs of the last hour, newest first; reset none. -/
  history : Tab (List Nat) := []
  /-- tiles, 07 R275: FailedTileMap; reset none. -/
  failed : List Nat := []
  /-- tile * 16 + slot, 07 R263: incoming slots that get VALID when their repair completes; reset none. -/
  validAfter : List Nat := []
  deriving DecidableEq, Repr

/-- Blanks, library, firmware and the Assay. -/
structure BlankUnit where
  /-- 2 staging slots, 07 R255. -/
  slots : Tab StageSlot := []
  /-- 32 entries, 07 R266; kept in the store; reset empty (log 3). -/
  library : Tab LibEntry := []
  /-- U8 x8 `8402`, 07 R276: ActiveEntry of each zone; reset 0xFF. -/
  active : Tab Nat := []
  /-- slot A, 07 R267; kept. -/
  fwA : FwImage := {}
  /-- slot B, 07 R267; kept. -/
  fwB : FwImage := {}
  /-- 07 R269: the firmware upload in progress; reset none. -/
  upload : Option FwUpload := none
  /-- FwTrial is written: this slot is marked TRIAL at the next Gaffer start, 07 R269; reset none. -/
  trialStored : Option FwSlot := none
  /-- setup records by staging slot * 64 + cluster, 07 R258: the second program banks; reset empty. -/
  secondBank : Tab (Tab Nat) := []
  /-- the Assay, 07 R271. -/
  assay : AssayUnit := {}
  deriving DecidableEq, Repr

end Sys2Proof.Machine
end

