-- ==== Sys2Proof/Machine/Units/Store.lean ====
section
/-!
DEFINITION. The fuse bank with its controller, and the persistent store with its journal.
-/

namespace Sys2Proof.Machine

/-- The results of a programming, in code order (12 R458). -/
inductive FuseOutcome where
  | ok
  | okSingle
  | failed
  | window
  | noFuseEn
  | notSubset
  | protectedWord
  deriving DecidableEq, Repr

/-- The states of a fuse word, in code order (12 R453, R458). -/
inductive FuseState where
  | blank
  | good
  | bad
  deriving DecidableEq, Repr

/-- A programming in progress (12 R460). -/
structure FuseProgram where
  /-- 10 bits, 12 R458: ADDR. -/
  addr : Nat
  /-- 32 bits, 12 R458: DATA. -/
  data : Nat
  /-- addresses and data still to program after this word, 12 R466. -/
  rest : List (Nat × Nat)
  /-- session, 12 R484: who asked; 0 for the controller's own register. -/
  session : SessionNo
  /-- U16, 11 R419: the RID to answer at the end. -/
  rid : Nat
  deriving DecidableEq, Repr

/-- The fuse bank and its controller. -/
structure FuseUnit where
  /-- 40 bits by address, 12 R452: copy A; kept; reset 0 (log 3). -/
  copyA : Tab (BitVec 40) := []
  /-- 40 bits by address, 12 R452: copy B; kept; reset 0 (log 3). -/
  copyB : Tab (BitVec 40) := []
  /-- 12 R458: the programming in progress; reset none. -/
  prog : Option FuseProgram := none
  /-- 3 bits FC_STATUS, 12 R458: RESULT; reset OK. -/
  result : FuseOutcome := .ok
  /-- 3 bits FC_STATUS, 12 R458: PHASE; reset 0. -/
  phase : Nat := 0
  /-- 40 bits FC_STATUS, 12 R458: failed bits of copy A; reset 0. -/
  failA : BitVec 40 := 0
  /-- 40 bits FC_FAILB, 12 R458; reset 0. -/
  failB : BitVec 40 := 0
  /-- 43 bits FC_RDATA, 12 R458; reset 0. -/
  rdata : Nat := 0
  /-- 40 bits FC_RCOPYA, 12 R458; reset 0. -/
  rcopyA : BitVec 40 := 0
  /-- 40 bits FC_RCOPYB, 12 R458; reset 0. -/
  rcopyB : BitVec 40 := 0
  /-- 16 bits FC_ENV, 12 R458: the 1.8 V rail in mV; reset 1800 (log 3). -/
  rail : Nat := 1800
  /-- 16 bits FC_ENV, 12 R458: the junction in 0.1 °C; reset 250 (log 3). -/
  temp : Int := 250
  /-- four counts FC_SCAN, 12 R463: GOOD, BAD, SINGLE and WEAK words; reset 0 (log 3). -/
  scan : Nat × Nat × Nat × Nat := (0, 0, 0, 0)
  /-- addresses, 12 R463: the words with a WEAK bit at the last check; reset none. -/
  weak : List Nat := []
  /-- 32 words by address, 12 R455: the critical words as their users hold them; reset 0 (log 3). -/
  latched : Tab Nat := []
  /-- 12 R455 R464: states of the critical words at the last release, 1 GOOD, 2 BAD; reset BLANK. -/
  latchedState : Tab Nat := []
  /-- U16, 12 R470: *FwSvnFloor* as the boot ROM read it at the last release; reset 0. -/
  floor : Nat := 0
  /-- OCTET[16] `8001:02`, 12 R484: FuseResult: address, RESULT, slowest pulses, failed bits; reset 0. -/
  last : Nat × Nat × Nat × Nat × Nat := (0, 0, 0, 0, 0)
  /-- up to 8 of (address, target) `8001:03`, 12 R465: FuseIncomplete; reset none. -/
  incomplete : List (Nat × Nat) := []
  deriving DecidableEq, Repr

/-- An energy counters record (13 R509). -/
structure CountersRec where
  /-- T64, 13 R509: STAMP. -/
  stamp : T64
  /-- U8, 13 R509: TARIFF. -/
  tariff : Nat
  /-- U8, 13 R509: CFLAGS. -/
  flags : Nat
  /-- U64 by 4 t + s, 13 R509: REG. -/
  regs : Tab Nat
  /-- U64 by s, 13 R509: PROV. -/
  prov : Tab Nat
  deriving DecidableEq, Repr

/-- An energy interval record (13 R509). -/
structure IntervalRec where
  /-- T64, 13 R509: START. -/
  start : T64
  /-- T64, 13 R509: END. -/
  stop : T64
  /-- T64, 13 R509: TCUT. -/
  tcut : T64 := 0
  /-- U8, 13 R509: TARIFF. -/
  tariff : Nat
  /-- U8, 13 R509: IFLAGS. -/
  flags : Nat
  /-- U8, 13 R509: MINUTES. -/
  minutes : Nat
  /-- U32, 13 R509: COUNT. -/
  count : Nat := 1
  /-- U64 by s, 13 R509: ENERGY. -/
  energy : Tab Nat
  /-- U32 by s, 13 R509: DEMAND. -/
  demand : Tab Nat
  deriving DecidableEq, Repr

/-- A tariff state record (13 R509). -/
structure TariffRec where
  /-- T64, 13 R509: AT. -/
  at_ : T64
  /-- U8, 13 R509: TARIFF. -/
  tariff : Nat
  /-- U8, 13 R509: PREVIOUS. -/
  previous : Nat
  /-- U8, 13 R509: CAUSE. -/
  cause : Nat
  /-- U8, 13 R509: TFLAGS. -/
  flags : Nat
  deriving DecidableEq, Repr

/-- What a journal record says (12 R478). -/
inductive JBody where
  | dictApply (set : List (Nat × Val))
  | dictInforce (jseq : Nat) (edge : T64)
  | time (t : T64) (state quality : Nat)
  | timeStep (size : Int) (before after : T64)
  | counters (c : CountersRec)
  | interval (r : IntervalRec)
  | tariff (r : TariffRec)
  | fuseIntent (addr data : Nat)
  | fuseDone (addr result : Nat)
  | shed (t : T64) (cause : Nat)
  | start (cause origin first : Nat)
  | activate (zones entry : Nat) (edge : T64)
  | checkpoint (jseq : Nat)
  deriving DecidableEq, Repr

/-- One committed journal record (12 R477). -/
structure JRec where
  /-- U64, 12 R477: JSEQ. -/
  jseq : Nat
  /-- T64, 12 R477: STAMP. -/
  stamp : T64
  /-- 12 R478: type and payload. -/
  body : JBody
  /-- 12 R480: BSEQ of its block, counted in blocks. -/
  block : Nat
  deriving DecidableEq, Repr

/-- The persistent store. -/
structure StoreUnit where
  /-- 64-bit words by word address, 12 R471: words written over the network; kept; reset 0 (log 5). -/
  words : Tab Nat := []
  /-- words with an upset, 12 R472: 1 correctable, 2 not; reset none. -/
  upsets : Tab Nat := []
  /-- records, 12 R477: the journal, newest first; kept; reset empty. -/
  journal : List JRec := []
  /-- U64, 12 R477: the next JSEQ; kept; reset 1 (log 3). -/
  nextJseq : Nat := 1
  /-- 12 R480: the block being written; kept; reset 0. -/
  block : Nat := 0
  /-- bytes, 12 R477: used in that block; kept; reset 16. -/
  used : Nat := 16
  /-- 12 R480: the block of the last CHECKPOINT; kept; reset 0. -/
  cpBlock : Nat := 0
  /-- objects' home records, 12 R476; kept; reset empty. -/
  homes : Tab Val := []
  /-- objects whose home record waits to be written, 12 R474; reset none. -/
  dirty : List Nat := []
  /-- ns by object, 12 R474: the last write of its home record; reset none. -/
  homeAt : Tab Nat := []
  /-- U32 `8030:01`, 12 R484: StoreCorrected; reset 0. -/
  corrected : Nat := 0
  /-- U32 `8030:02`, 12 R484: StoreUncorrected; reset 0. -/
  uncorrected : Nat := 0
  /-- U32 `8030:03`, 12 R484: LastUeOffset; reset 0. -/
  lastUe : Nat := 0
  /-- U32 `8030:04`, 12 R484: ScrubPasses; reset 0. -/
  scrubs : Nat := 0
  /-- U32 `8030:05`, 12 R484: RefreshPasses; reset 0. -/
  refreshes : Nat := 0
  /-- T64 `8030:06`, 12 R484: LastRefresh; reset 0. -/
  lastRefresh : T64 := 0
  /-- U32 `8030:08`, 12 R481: JournalTorn; reset 0. -/
  torn : Nat := 0
  /-- U32 `8030:09`, 12 R481: JournalGaps; reset 0. -/
  gaps : Nat := 0
  /-- U32 `8030:0A`, 12 R481: ReplayedRecords; reset 0. -/
  replayed : Nat := 0
  /-- ns, 12 R475: the last scrub pass; reset 0. -/
  scrubAt : Nat := 0
  /-- ns of powered time, 12 R475: since the last refresh; kept; reset 0. -/
  refreshAt : Nat := 0
  /-- 12 R475: the hottest sensor has read above 90 °C since the last refresh; kept; reset 0. -/
  hot : Bool := false
  /-- 12 R475: a full refresh must run before RUN; reset 0. -/
  refreshDue : Bool := false
  /-- bytes of 128 archive slots, 12 R483; kept; reset empty. -/
  archive : Tab (List Nat) := []
  /-- U8 `8050:02`, 12 R484: ArchiveNext; reset 0. -/
  archiveNext : Nat := 0
  /-- U32, 12 R483: ASEQ of the next archive; reset 0 (log 3). -/
  aseq : Nat := 0
  deriving DecidableEq, Repr

end Sys2Proof.Machine
end

