-- ==== Sys2Proof/Machine/Units/Energy.lean ====
section
/-!
DEFINITION. The energy unit.
-/

namespace Sys2Proof.Machine

/-- One source (13 R485, objects `6010 + s`). -/
structure EnergySource where
  /-- 13 R487: the source is SILENT; reset 0. -/
  silent : Bool := false
  /-- U32 W sub 07, 13 R510: Power of DEVICE; the spec gives the other sources' Power no rule; reset 0. -/
  power : Nat := 0
  /-- U32 sub 08, 13 R510: Counts; reset 0. -/
  counts : Nat := 0
  /-- U32 sub 09, 13 R510: Glitches; reset 0. -/
  glitches : Nat := 0
  /-- count, 13 R487: N, the pulses since the constant was last set; reset 0. -/
  n : Nat := 0
  /-- ns, 13 R487: the last valid pulse; reset 0. -/
  lastPulse : Nat := 0
  /-- µWh below 1 mWh carried forward, 13 R488; for DEVICE in nJ below 1 mWh, 13 R489; reset 0. -/
  carry : Nat := 0
  deriving DecidableEq, Repr

/-- What the energy unit keeps of one head serial (13 R488). -/
structure HeadMeter where
  /-- U64 µWh, 13 R488: the last accepted ECUM. -/
  ecum : Nat
  /-- U16, 13 R488: the last RCOUNT. -/
  rcount : Nat
  deriving DecidableEq, Repr

/-- One billing period (13 R498, objects `6040 + p`). -/
structure BillingPeriod where
  /-- T64 :01, 13 R498: PeriodStart; reset 0. -/
  start : T64 := 0
  /-- T64 :02, 13 R498: PeriodEnd; reset 0. -/
  stop : T64 := 0
  /-- U64 by 4 t + s :03, 13 R498: PeriodRegisters; reset 0. -/
  regs : Tab Nat := []
  /-- (W, T64) by tariff :04, 13 R499: PeriodMaxDemand; reset 0. -/
  maxDemand : Tab (Nat × T64) := []
  deriving DecidableEq, Repr

/-- One ring's head energy (13 R488, objects `6050 + n`). -/
structure RingMeter where
  /-- U64 mWh :01, 13 R488: RingEnergy; reset 0. -/
  energy : Nat := 0
  /-- µWh below 1 mWh carried forward, 13 R488; reset 0. -/
  carry : Nat := 0
  /-- U32 :03, 13 R488: HeadRestarts; reset 0. -/
  restarts : Nat := 0
  /-- U32 :04, 13 R488: ReportsDropped; reset 0. -/
  dropped : Nat := 0
  /-- serials :02, 13 R510: those that HeadsReporting counts; reset none. -/
  reporting : List Nat := []
  deriving DecidableEq, Repr

/-- A pending tariff push (13 R497). -/
structure TariffPush where
  /-- T64, 13 R497: TIME; 0 for the next boundary. -/
  time : T64
  /-- U8, 13 R497: TARIFF. -/
  tariff : Nat
  deriving DecidableEq, Repr

/-- The energy unit. -/
structure EnergyUnit where
  /-- 4 sources, 13 R485. -/
  sources : Tab EnergySource := []
  /-- U64 mWh by 4 t + s `6020 + t`, 13 R495: the registers; reset 0. -/
  regs : Tab Nat := []
  /-- U8 `6001:01`, 13 R495: CurrentTariff; reset 0. -/
  tariff : Nat := 0
  /-- T64 `6001:02`, 13 R491: IntervalStart; reset 0 (log 3). -/
  start : T64 := 0
  /-- T64, 13 R491: the boundary that closes the open interval; reset 0 (log 3). -/
  stop : T64 := 0
  /-- U8, 13 R493: IntervalMinutes of the grid in force; reset 15. -/
  minutes : Nat := 15
  /-- BOOL, 13 R493: Alignment of the grid in force is TAI; reset 0. -/
  tai : Bool := false
  /-- U64 mWh by s `6001:03`, 13 R510: IntervalEnergy; reset 0. -/
  energy : Tab Nat := []
  /-- IFLAGS, 13 R509: flags the open interval carries; reset 0. -/
  flags : Nat := 0
  /-- T64, 13 R492: the last boundary processed; reset 0. -/
  lastBoundary : T64 := 0
  /-- U32 W `6001:04`, 13 R502: RunningDemand; reset 0. -/
  running : Nat := 0
  /-- U32 W `6001:05`, 13 R502: ForecastDemand; reset 0. -/
  forecast : Nat := 0
  /-- U8 `6001:06`, 13 R503: Advisory; reset 0. -/
  advisory : Nat := 0
  /-- enum `6001:07`, 13 R507: EnergyState is PROVISIONAL; reset 0. -/
  provisional : Bool := false
  /-- U64 mWh by s `6001:08`, 13 R507: ProvisionalEnergy; reset 0. -/
  provEnergy : Tab Nat := []
  /-- T64 `6001:09`, 13 R510: LastCut; reset 0. -/
  lastCut : T64 := 0
  /-- T64 `6001:0A`, 13 R510: LastRestore; reset 0. -/
  lastRestore : T64 := 0
  /-- ns, 13 R507: when the energy unit started again; reset 0. -/
  restoreAt : Nat := 0
  /-- U32 `6001:0B`, 13 R510: Outages; reset 0. -/
  outages : Nat := 0
  /-- 13 R505: energy is accepted, that is the unit runs and no shed has been decided; reset 0 (log 1). -/
  accepting : Bool := false
  /-- 13 R497: the pending push; reset none. -/
  push : Option TariffPush := none
  /-- 13 R497: BillingClose waits for the next boundary; reset 0. -/
  closeDue : Bool := false
  /-- entries by sub-index, 13 R496: schedule entries that have acted; reset none. -/
  acted : List Nat := []
  /-- 13 periods, 13 R498; reset 0. -/
  periods : Tab BillingPeriod := []
  /-- 16 rings, 13 R488. -/
  rings : Tab RingMeter := []
  /-- head serials, 13 R488; reset none. -/
  heads : Tab (Option HeadMeter) := []
  /-- up to 1,024 `6060:01`, 13 R510: IntervalHistory, newest first; reset empty. -/
  history : List IntervalRec := []
  /-- U32 `6060:02`, 13 R510: IntervalCount; reset 0. -/
  intervals : Nat := 0
  /-- (ns, mWh), 13 R502: the billing energy of the last ForecastWindow, newest first; reset none. -/
  recent : List (Nat × Nat) := []
  /-- ns, 13 R501: the last ENERGY_COUNTERS; reset 0. -/
  countersAt : Nat := 0
  /-- ns, 13 R502: the last forecast; reset 0. -/
  forecastAt : Nat := 0
  /-- ns, 13 R489: the last DEVICE sample; reset 0. -/
  sampleAt : Nat := 0
  /-- up to 64 KiB, 13 R501: records held while the Gaffer restarts, oldest first; reset none. -/
  backlog : List JBody := []
  /-- 13 R507: the provisional span began at a first start, with no interval cut before it; reset 0. -/
  firstStart : Bool := false
  /-- 13 R507: PROVISIONAL_LONG has been raised; reset 0. -/
  longRaised : Bool := false
  deriving DecidableEq, Repr

end Sys2Proof.Machine
end

