-- ==== Sys2Proof/Machine/Units/Io.lean ====
section
/-!
DEFINITION. The two-wire unit, the direct-I/O unit and the S0 loops.
-/

namespace Sys2Proof.Machine

/-- The states of a two-wire bus, in value order (15 R580). -/
inductive TwState where
  | idle
  | busy
  | polling
  | fault
  deriving DecidableEq, Repr

/-- The results of a two-wire command, in code order (15 R553). -/
inductive TwStatus where
  | ok
  | nackAddr
  | nackData
  | stretchTimeout
  | busFault
  | stuckSda
  | bad
  deriving DecidableEq, Repr

/-- Who issued a two-wire command (15 R551). -/
inductive TwIssuer where
  | task
  | host
  deriving DecidableEq, Repr

/-- A queued two-wire command (15 R550). -/
structure TwCommand where
  /-- 15 R551: a task's or a host's. -/
  issuer : TwIssuer
  /-- 1 to 5 words, 15 R550: the record. -/
  words : List Nat
  deriving DecidableEq, Repr

/-- One bus-table entry's results (15 R554, R557, objects `9010 + 8b + e`). -/
structure TwEntry where
  /-- U32 sub 07, 15 R557: LastPoll; reset 0. -/
  lastPoll : Nat := 0
  /-- U32 sub 08, 15 R557: RequestCount; reset 0. -/
  requests : Nat := 0
  deriving DecidableEq, Repr

/-- One two-wire controller (15 R546 to R561, objects `9000 + b`). -/
structure TwBus where
  /-- enum sub 05, 15 R580: BusState; reset IDLE. -/
  state : TwState := .idle
  /-- up to 16, 15 R551: the queue, oldest first; reset empty. -/
  queue : List TwCommand := []
  /-- 8 of 48 bytes sub 07, 15 R553: HostResults, oldest first; reset 0. -/
  results : List (List Nat) := []
  /-- U32 sub 08, 15 R580: Commands; reset 0. -/
  commands : Nat := 0
  /-- U32 sub 09, 15 R580: Nacks; reset 0. -/
  nacks : Nat := 0
  /-- U32 sub 0A, 15 R580: StretchTimeouts; reset 0. -/
  stretches : Nat := 0
  /-- U32 sub 0B, 15 R580: Requests; reset 0. -/
  requests : Nat := 0
  /-- U32 sub 0C, 15 R561: Recoveries; reset 0. -/
  recoveries : Nat := 0
  /-- U32 sub 0D, 15 R553: ResultsLost; reset 0. -/
  lost : Nat := 0
  /-- U32 sub 0E, 15 R557: PollNacks; reset 0. -/
  pollNacks : Nat := 0
  /-- 8 entries, 15 R554. -/
  entries : Tab TwEntry := []
  /-- T64, 15 R557: the request recognised that waits for a round; reset none. -/
  request : Option T64 := none
  /-- 15 R557: a round is due; reset 0. -/
  roundDue : Bool := false
  /-- ns, 15 R557: the last PollPeriod expiry; reset 0. -/
  pollAt : Nat := 0
  /-- ns, 15 R560: the stretch timeout after which SCL has not risen; reset none. -/
  stretchAt : Option Nat := none
  /-- ns, 15 R561: the last recovery in FAULT; reset 0. -/
  recoverAt : Nat := 0
  /-- 15 R561: recovery is due; reset 0. -/
  recoverDue : Bool := false
  deriving DecidableEq, Repr

/-- The target port TWT (15 R562 to R566, objects `9040`). -/
structure Twt where
  /-- 128 bytes sub 03, 15 R563: the OUT area; reset 0. -/
  outArea : Tab Nat := []
  /-- 128 bytes sub 04, 15 R563: the IN area as the device sees it; reset 0. -/
  inArea : Tab Nat := []
  /-- 8 bits, 15 R563: the pointer; reset 0. -/
  pointer : Nat := 0
  /-- 15 R566: a request is wanted; reset 0. -/
  request : Bool := false
  /-- ns, 15 R566: the last request pulse; reset none. -/
  pulseAt : Option Nat := none
  /-- U32 sub 07, 15 R580: TwtReads; reset 0. -/
  reads : Nat := 0
  /-- U32 sub 08, 15 R580: TwtWrites; reset 0. -/
  writes : Nat := 0
  /-- U32 sub 09, 15 R563: TwtRoWrites; reset 0. -/
  roWrites : Nat := 0
  /-- U32, 15 R565: notify tokens that could not be delivered; reset 0. -/
  lost : Nat := 0
  deriving DecidableEq, Repr

/-- One accepted transition in an EdgeRing (15 R569). -/
structure EdgeRec where
  /-- U32, 15 R569: ESEQ. -/
  eseq : Nat
  /-- T80, 15 R569: the edge. -/
  at_ : T80
  /-- U8, 15 R569: the new level. -/
  level : Bool
  deriving DecidableEq, Repr

/-- One DIO pin (15 R567 to R576, objects `9100 + y`). -/
structure DioPin where
  /-- BOOL sub 06, 15 R569: Level, filtered; reset 0. -/
  level : Bool := false
  /-- pin, 15 R568: the unfiltered level; reset 0 (log 3). -/
  raw : Bool := false
  /-- T80, 15 R568: the transition that waits for its filter; reset none. -/
  waiting : Option T80 := none
  /-- 64 records sub 09, 15 R569: EdgeRing, newest first; reset empty. -/
  edges : List EdgeRec := []
  /-- U32 sub 0A, 15 R569: EdgeCount, which is also the last ESEQ; reset 0. -/
  edgeCount : Nat := 0
  /-- U32 sub 0B, 15 R568: Glitches; reset 0. -/
  glitches : Nat := 0
  /-- U32 sub 0C, 15 R574: LateEdges; reset 0. -/
  late : Nat := 0
  /-- U32 sub 0D, 15 R570: StreamOverruns; reset 0. -/
  overruns : Nat := 0
  /-- U32 sub 0E, 15 R572: BadTokens; reset 0. -/
  badTokens : Nat := 0
  /-- up to 16 of (grid slot in 125 ps, level), 15 R573: the schedule queue in time order; reset empty. -/
  queue : List (Nat × Bool) := []
  /-- pin, 15 R571: the level driven; none while Z; reset none. -/
  drive : Option Bool := none
  /-- grid slot, 15 R575: the slot of the last scheduled edge placed; reset none. -/
  placedAt : Option Nat := none
  /-- up to 16, 15 R570: tokens the lane cannot yet take, oldest first; reset empty. -/
  tokens : List Word := []
  /-- tokens at the E endpoint not yet taken, 05 R169; reset empty. -/
  outTokens : List Word := []
  /-- ns, 15 R574: the last alarm DIO_LATE; reset none. -/
  lateAlarmAt : Option Nat := none
  deriving DecidableEq, Repr

/-- The states of an S0 loop, in value order (15 R580). -/
inductive LoopState where
  | unsupplied
  | off
  | on
  | short
  deriving DecidableEq, Repr

/-- One S0 loop (15 R579, objects `9200 + m`). -/
structure S0Loop where
  /-- enum sub 01, 15 R579: LoopState; reset UNSUPPLIED. -/
  state : LoopState := .unsupplied
  /-- U16 0.1 mA sub 02, 15 R580: LoopCurrent; reset 0. -/
  current : Nat := 0
  /-- U32 sub 03, 15 R580: LoopFaults; reset 0. -/
  faults : Nat := 0
  deriving DecidableEq, Repr

/-- The I/O units. -/
structure IoUnit where
  /-- 2 controllers, 15 R546. -/
  buses : Tab TwBus := []
  /-- the target port, 15 R562. -/
  twt : Twt := {}
  /-- 24 pins, 15 R567. -/
  dio : Tab DioPin := []
  /-- 2 loops, 15 R579. -/
  loops : Tab S0Loop := []
  deriving DecidableEq, Repr

end Sys2Proof.Machine
end

