-- ==== Sys2Proof/Machine/Units/Log.lean ====
section
/-!
DEFINITION. The fault log, the alarms that stand, and what leaves the block.
-/

namespace Sys2Proof.Machine

/-- The classes of fault-log records, in class order (17 R621). -/
inductive LogClass where
  | fatal
  | safety
  | fault
  | alarm
  | power
  | time
  | config
  | info
  deriving DecidableEq, Repr

/-- One fault-log record; its CRC is computed from these fields when it is read (17 R620). -/
structure LogRecord where
  /-- T64, 17 R620: the happening's STAMP; 0 when the timebase was not running. -/
  stamp : Nat := 0
  /-- U32, 17 R620: LSEQ, one more than the area's previous record. -/
  lseq : Nat := 0
  /-- U8, 17 R621: CLASS. -/
  cls : LogClass := .info
  /-- U8, 17 R620: SOURCE, an NI number, 0x80 Quench unit, 0x81 boot ROM, 0x82 keeper domain. -/
  source : Nat := 0
  /-- U16, 17 R622: CODE. -/
  code : Nat := 0
  /-- U16, 17 R624: COUNT of occurrences, saturating. -/
  count : Nat := 1
  /-- U8, 17 R620: TSTATE. -/
  tstate : Nat := 0
  /-- U8, 17 R620: OPSTATE code. -/
  opstate : Nat := 0
  /-- U8, 17 R620: SAFESTATE, 1 when ARMED. -/
  safestate : Nat := 0
  /-- U8, 17 R620: the session whose request caused the record, otherwise 0. -/
  session : Nat := 0
  /-- OCTET[32], 17 R622: DETAIL bytes; zero beyond the list. -/
  detail : List Nat := []
  deriving DecidableEq, Repr

/-- One ring of fault-log slots (12 R482): the records, newest first, and the next LSEQ. -/
structure LogArea where
  /-- slots, 12 R482: the valid records, newest first; reset empty. -/
  records : List LogRecord := []
  /-- U32, 17 R620: the LSEQ the next record takes; continues across RESET; reset 1 (log 3). -/
  nextSeq : Nat := 1
  deriving DecidableEq, Repr

/-- The three areas of the fault log (12 R482) and the alarms that stand. -/
structure LogUnit where
  /-- 3,584 slots, 12 R482: the general area; reset empty. -/
  general : LogArea := {}
  /-- 256 slots, 12 R482: the Gaffer reserve; reset empty. -/
  reserve : LogArea := {}
  /-- 256 slots, 12 R473 R482: the Quench pool; reset empty. -/
  quench : LogArea := {}
  /-- set of (CODE, index), 17 R622: the alarms that stand; reset none. -/
  alarms : List (Nat × Nat) := []
  deriving DecidableEq, Repr

end Sys2Proof.Machine
end

