-- ==== Sys2Proof/Machine/Units/Net.lean ====
section
/-!
DEFINITION. The packet network: NIs, routers, flows, ATOMIC rounds and probes.
-/

namespace Sys2Proof.Machine

/-- The response status codes, in code order (06 R204). -/
inductive NetStatus where
  | ok
  | timeout
  | zoneDenied
  | addrErr
  | memUe
  | targetDown
  | staleEpoch
  | stageFull
  | notStaged
  | queueFull
  | unsupported
  | routeErr
  deriving DecidableEq, Repr

/-- One record of an NI's target table (06 R210). -/
structure NetEntry where
  /-- 7 bits, 06: the target NI; reset 0. -/
  target : Nat := 0
  /-- U8, 06 R210: the allotment; 0 invalid; reset 0, R213. -/
  allot : Nat := 0
  /-- U8, 06 R209: credits held; reset 0. -/
  credits : Nat := 0
  /-- 48 bits, 06 R215: the route string, 0 for XY; reset 0. -/
  route : Nat := 0
  /-- count, 06 R230: consecutive timeouts; reset 0. -/
  timeouts : Nat := 0
  /-- 06 R230: marked down; reset 0. -/
  down : Bool := false
  /-- 07 R259, R263: its blank is active; reset 0. -/
  live : Bool := false
  /-- 07 R263: its blank has been replaced, and it goes when no request through it is outstanding; reset 0. -/
  closing : Bool := false
  /-- library entry, 07 R258: the blank that names it; reset 0. -/
  blank : Nat := 0
  deriving DecidableEq, Repr

/-- What a transaction is for. -/
inductive TagUse where
  | descriptor (k : Nat)
  | round (jseq slot : Nat) (apply : Bool)
  | start (task : Nat)
  deriving DecidableEq, Repr

/-- A transaction outstanding on a tag (06 R209, R228, R233). -/
structure NetTag where
  /-- (target, entry), 06 R209: the targets that have not answered; entry 64 for the Gaffer's and the sequencers'
  own traffic. -/
  waiting : List (Nat × Nat)
  /-- NIs, 06 R234: the targets that have answered OK. -/
  oks : List Nat := []
  /-- 4 bits, 06 R228: its EPO. -/
  epo : Nat
  /-- ns, 06 R228: when its head flit left the NI. -/
  issuedAt : Nat
  /-- NIs, 06 R228: targets that were gated at issue or have become gated since. -/
  gated : List Nat := []
  /-- 06 R237: what waits for it. -/
  use : TagUse
  /-- 06 R235: COMMIT or ABORT has been sent. -/
  decided : Bool := false
  deriving DecidableEq, Repr

/-- A request held at a target (06 R210, R231). -/
inductive NetReq where
  | packet (p : Packet)
  | stage (q : StageReq)
  deriving DecidableEq, Repr

/-- One staging entry of a member (06 R235). -/
structure StagedEntry where
  /-- 7 bits, 06 R235: the initiator. -/
  src : Nat
  /-- 6 bits, 06 R235: the initiator's tag. -/
  tag : Nat
  /-- 06 R235: the message. -/
  msg : StagedMsg
  /-- T64, 06 R235: HOLD. -/
  hold : Nat
  /-- T64, 06 R235: the apply edge. -/
  applyAt : Nat
  /-- 06 R235: ONCOMMIT. -/
  onCommit : Bool
  /-- 06 R235: COMMIT has arrived. -/
  committed : Bool
  deriving DecidableEq, Repr

/-- One network interface (06 R209 to R212, objects `7010 + n`). -/
structure Ni where
  /-- 64 tags, 06 R209: the transactions outstanding; reset none. -/
  tags : Tab (Option NetTag) := []
  /-- 64 x 4 bits, 06 R228: the next EPO of each tag; reset 0. -/
  epos : Tab Nat := []
  /-- (tag, EPO, entry, target), 06 R228: unresolved timeouts; reset none. -/
  unresolved : List (Nat × Nat × Nat × Nat) := []
  /-- 64 entries, 06 R210; reset empty, R213. -/
  entries : Tab NetEntry := []
  /-- up to 32 requests, 06 R210: held at this target, oldest first; reset none. -/
  requests : List NetReq := []
  /-- up to 4, 06 R235: staging entries; reset none. -/
  staged : List StagedEntry := []
  /-- U8 sub 07, 06 R233: MulticastsOpen; reset 0. -/
  multicasts : Nat := 0
  /-- U32 sub 02, 06 R239: Timeouts; reset 0. -/
  timeouts : Nat := 0
  /-- U32 sub 03, 06 R229: LateDropped; reset 0. -/
  late : Nat := 0
  /-- U32 sub 04, 06 R239: ZoneDenied; reset 0. -/
  denied : Nat := 0
  /-- zones as a mask, 07 R247, 06 R219: those that GRANT records admit; reset 0. -/
  grants : Nat := 0
  /-- cluster offset, 06 R237: the descriptor ring's base; reset 0. -/
  ringBase : Nat := 0
  /-- 0 to 256, 06 R237: its size; reset 0. -/
  ringSize : Nat := 0
  /-- 06 R237: the producer word; reset 0. -/
  producer : Nat := 0
  /-- 06 R237: the next descriptor to take; reset 0. -/
  consumer : Nat := 0
  /-- descriptors, 06 R211: taken and waiting for a tag or a credit, in ring order; reset none. -/
  held : List Nat := []
  deriving DecidableEq, Repr

/-- What an ATOMIC round of the Gaffer carries (06 R236). -/
inductive RoundKind where
  | applySet (jseq : Nat)
  | activation (slot : Nat)
  deriving DecidableEq, Repr

/-- An ATOMIC round in progress at its initiator (06 R235). -/
structure AtomicRound where
  /-- 06 R235: what it carries. -/
  kind : RoundKind
  /-- 6 bits, 06 R233: its tag. -/
  tag : Nat
  /-- NIs, 06 R235: the members. -/
  members : List Nat
  /-- NIs, 06 R235: those whose OK counted. -/
  oks : List Nat
  /-- T64, 06 R235: DEADLINE. -/
  deadline : Nat
  /-- T64, 06 R235: HOLD. -/
  hold : Nat
  /-- T64, 06 R235: the apply edge. -/
  edge : Nat
  /-- object and abort code, 11 R409 R410: values that failed their repeated checks; reset none. -/
  fails : List (Nat × Abort) := []
  deriving DecidableEq, Repr

/-- One guaranteed flow (06 R224, objects `7060 + f`). -/
structure Flow where
  /-- U8 sub 01, 06 R239: Source; reset 0. -/
  source : Nat := 0
  /-- U8 sub 02, 06 R239: Target; reset 0. -/
  target : Nat := 0
  /-- U8 sub 03, 06 R239: RunsPerFrame; reset 0. -/
  runs : Nat := 0
  /-- U8 sub 04, 06 R239: RunLength; reset 0. -/
  runLength : Nat := 0
  /-- U8 sub 05, 06 R239: FirstSlot; reset 0. -/
  firstSlot : Nat := 0
  /-- U32 sub 06, 06 R224: Overruns; reset 0. -/
  overruns : Nat := 0
  /-- words, 06 R224: the flow queue at the target; reset empty. -/
  queue : List Nat := []
  /-- words, 06 R224: its size; reset 0. -/
  size : Nat := 0
  /-- 24 bits, 07 R250: its flow queue's word address at the target; reset 0. -/
  addr : Nat := 0
  /-- library entry, 07 R250: the blank that declares it; reset 0. -/
  blank : Nat := 0
  /-- up to 64 slots, 06 R224: the first slot of each of its runs; reset none. -/
  starts : List Nat := []
  deriving DecidableEq, Repr

/-- One probe (06 R238). -/
structure Probe where
  /-- 64 bits PRB_CTL, 06 R238; reset 0. -/
  ctl : Nat := 0
  /-- 64 bits PRB_SEL, 06 R238; reset 0. -/
  sel : Nat := 0
  /-- 64 bits PRB_FSRC, 06 R238; reset 0. -/
  fsrc : Nat := 0
  /-- 64 bits PRB_FDST, 06 R238; reset 0. -/
  fdst : Nat := 0
  /-- 64 bits PRB_FVC, 06 R238; reset 0x3F. -/
  fvc : Nat := 0x3F
  /-- 64 bits PRB_FOPC, 06 R238; reset 0xFFFF_FFFF. -/
  fopc : Nat := 0xFFFFFFFF
  /-- 64 bits PRB_AMASK, 06 R238; reset 0. -/
  amask : Nat := 0
  /-- 64 bits PRB_AMATCH, 06 R238; reset 0. -/
  amatch : Nat := 0
  /-- 32 bits PRB_CNT, 06 R238: packets matched; reset 0. -/
  cnt : Nat := 0
  /-- 1 bit PRB_CNT [32], 06 R238: wrapped; reset 0. -/
  cntWrap : Bool := false
  /-- 40 bits PRB_FLITS, 06 R238; reset 0. -/
  flits : Nat := 0
  /-- 48 bits PRB_WAIT, 06 R238; reset 0. -/
  wait : Nat := 0
  /-- 4 bits PRB_AGEMAX, 06 R238; reset 0. -/
  ageMax : Nat := 0
  /-- 1 bit PRB_AGEMAX [8], 06 R238: URG seen; reset 0. -/
  urgSeen : Bool := false
  /-- 256 records of (flit, NCLK count, VC and AGE), 06 R238: the trace, oldest first; reset empty. -/
  trace : List (Nat × Nat × Nat) := []
  /-- 8 bits PRB_TPTR [7:0], 06 R238: the next record; reset 0. -/
  tptr : Nat := 0
  /-- 1 bit PRB_TPTR [8], 06 R238: buffer wrapped; reset 0. -/
  wrapped : Bool := false
  /-- T64, 12 R483: stopped full at; reset none. -/
  stoppedAt : Option T64 := none
  /-- NCLK, 06 R238: the count since EN was set; reset 0. -/
  enAt : Nat := 0
  /-- ns, 12 R483: the last archive of this probe; reset none. -/
  archivedAt : Option Nat := none
  /-- 12 R483: the trace it has stopped with is archived; reset 0. -/
  saved : Bool := false
  deriving DecidableEq, Repr

/-- The packet network. -/
structure NetUnit where
  /-- 78 NIs, 06 R199. -/
  nis : Tab Ni := []
  /-- 9-bit allow masks by router * 8 + port, 06 R219: reset SYS only (R213), 0x100. -/
  allow : Tab Nat := []
  /-- active slot tables by (router * 8 + port) * 256 + slot, 06 R221: input port + 1; reset empty. -/
  slots : Tab Nat := []
  /-- shadow slot tables, 06 R221; reset empty. -/
  shadow : Tab Nat := []
  /-- 64 flows, 06 R224. -/
  flows : Tab Flow := []
  /-- ATOMIC rounds of the Gaffer, 06 R235; reset none. -/
  rounds : List AtomicRound := []
  /-- 16 probes, 06 R238. -/
  probes : Tab Probe := []
  /-- U32 `7003:01`, 06 R201: LinkCorrected; reset 0. -/
  linkCorrected : Nat := 0
  /-- U32 `7003:02`, 06 R201: LinkUncorrected; reset 0. -/
  linkUncorrected : Nat := 0
  /-- U32 `7003:03`, 06 R220: RouterDrops; reset 0. -/
  routerDrops : Nat := 0
  /-- GT packets discarded at gated clusters, 06 R225; reset 0. -/
  gtDropped : Nat := 0
  deriving DecidableEq, Repr

end Sys2Proof.Machine
end

