-- ==== Sys2Proof/Machine/Units/Ring.lean ====
section
/-!
DEFINITION. The Ezvas rings, their event queues and groups, the ring controllers, and the heads.
-/

namespace Sys2Proof.Machine

/-- The ring states, in value order (08 R313, R316). -/
inductive RingState where
  | off
  | training
  | closed
  | wrap
  | renumber
  | fault
  deriving DecidableEq, Repr

/-- The two ends of a ring (08 R278). -/
inductive RingEnd where
  | a
  | b
  deriving DecidableEq, Repr

/-- The two ports of a head (08 R279). -/
inductive HeadPort where
  | u
  | d
  deriving DecidableEq, Repr

/-- The contents of a ring frame (08 R289, R290). -/
inductive FrameBody where
  | time (ttx : T80) (tstate quality epoch : Nat) (phase0 mperiod noiseMap : Nat)
  | cal (op dlyA dlyB : Nat)
  | enumOut (op hops base : Nat)
  | enumHead (op pos : Nat) (provisional portD : Bool) (desc : HeadDesc)
  | event (entries : List EventEntry)
  | stage (gid : Nat) (mask : List Nat) (hold : T64) (entries : List (Nat × EventEntry))
  | commit (gid : Nat) (mask : List Nat)
  | abort (gid : Nat) (mask : List Nat)
  | ack (gid kind status afseq : Nat)
  | sense (stream fmt : Nat) (t0 : T80) (sper : Nat) (samples : List Nat)
  | energy (stamp : T64) (ecum pmean rcount : Nat)
  | mgmt (op tag addr status : Nat) (data : List Nat)
  | safe (sseq : Nat) (stime : T64) (quench test : Bool) (sfmode qcause scrc : Nat)
  deriving DecidableEq, Repr

/-- A head object of the device (08 R316, `4100 + 64n + (p − 1)`). -/
structure HeadRec where
  /-- BOOL sub 01, 08 R316: Present; reset 0. -/
  present : Bool := false
  /-- sub 02 to 09, 08 R307: the descriptor; reset 0 (log 3). -/
  desc : HeadDesc := {}
  /-- U32 sub 0A, 2^-16 ns, 08 R316: DelayA in force; reset 0. -/
  delayA : Nat := 0
  /-- U32 sub 0B, 2^-16 ns, 08 R316: DelayB in force; reset 0. -/
  delayB : Nat := 0
  /-- BOOL sub 0C, 08 R305: Provisional; reset 0. -/
  provisional : Bool := false
  /-- U8 sub 0D, 08 R316: PreviousPosition, 0 if unchanged; reset 0. -/
  previous : Nat := 0
  /-- 08 R312: its CAL REPORT has confirmed its delays since it was placed; reset 0. -/
  confirmed : Bool := false
  deriving DecidableEq, Repr

/-- One side of a break of a ring (08 R310). -/
inductive BreakSide where
  | head (pos : Nat) (port : HeadPort)
  | endDown (e : RingEnd)
  | tmark
  deriving DecidableEq, Repr

/-- The stations of a pending event (09 R325 to R336). -/
inductive EventStage where
  | queued
  | sent
  | frozen
  deriving DecidableEq, Repr

/-- The key of an event: its instant as T64, or as A56 on an angle channel (09 R319). -/
inductive EventKey where
  | time (t : T64)
  | angle (ach : Nat) (a : Nat)
  deriving DecidableEq, Repr

/-- One pending event of a ring (09 R317 to R337). -/
structure QEvent where
  /-- model's own: its number of acceptance on the ring. -/
  uid : Nat
  /-- serial of its head, 08 R312: what it is matched by across renumbering. -/
  serial : Nat
  /-- 1 to 64, 09 R319: position. -/
  pos : Nat
  /-- 4 bits, 09 R319: channel. -/
  ch : Nat
  /-- U8, 09 R319: ACT. -/
  act : Nat
  /-- U16, 09 R319: PARAM. -/
  param : Nat
  /-- 09 R319: its key. -/
  key : EventKey
  /-- 1 bit, 09 R319: RPT. -/
  rpt : Bool
  /-- U8, 09 R319: TASK. -/
  task : Nat
  /-- U16, 09 R319: TAG. -/
  tag : Nat
  /-- 4 bits, 06 R202: the zone of the packet that brought it. -/
  zone : Nat
  /-- group slot, 09 R338: the group it is a member of. -/
  group : Option Nat := none
  /-- enum, 09 R325 R336: queued, sent or frozen. -/
  stage : EventStage := .queued
  /-- U16, 09 R326: its wire EID, 0 before its first send. -/
  eid : Nat := 0
  /-- T80, 09 R335: the WHEN last sent; before, the key's time. -/
  when_ : T80 := 0
  /-- ns, 09 R328: when it was first sent. -/
  sentAt : Nat := 0
  /-- ns, 09 R335: when its last trim was sent. -/
  trimAt : Nat := 0
  /-- 09 R328: its echo has been sent or left out. -/
  echoed : Bool := false
  /-- 1 bit, 09 R328: NOECHO. -/
  noEcho : Bool := false
  /-- 09 R344: the channel was SUSPECT at its lock-in. -/
  suspect : Bool := false
  /-- T64, 09 R329: when it was accepted. -/
  acceptedAt : T64 := 0
  deriving DecidableEq, Repr

/-- The stations of a group (09 R338 to R342). -/
inductive GroupStage where
  | assembling
  | waiting
  | staged
  | committed
  deriving DecidableEq, Repr

/-- A firing group on a group slot (09 R338). -/
structure Group where
  /-- 1 bit, 09 R338: CLASS is ATOMIC. -/
  atomic : Bool
  /-- 1 to 28, 09 R338: N. -/
  n : Nat
  /-- µs, 09 R338: AckWindow; 0 for the default. -/
  ackWindow : Nat
  /-- U8, 09 R338: TASK. -/
  task : Nat
  /-- U16, 09 R338: TAG. -/
  tag : Nat
  /-- 06 R202: the zone it came from. -/
  zone : Nat
  /-- 09 R338: the initiator and entry it came through. -/
  entry : Nat
  /-- ns, 09 R338: when it opened. -/
  openedAt : Nat
  /-- enum, 09 R338. -/
  stage : GroupStage := .assembling
  /-- uids, 09 R338: its members. -/
  members : List Nat := []
  /-- positions, 09 R338: its members' positions. -/
  mask : List Nat := []
  /-- U16, 09 R340: GID. -/
  gid : Nat := 0
  /-- T64, 09 R340: HOLD. -/
  hold : Nat := 0
  /-- T64, 09 R340: DEADLINE. -/
  deadline : Nat := 0
  /-- positions, 09 R340: members whose OK to STAGE counted. -/
  oks : List Nat := []
  /-- positions, 09 R341: members that answered COMMIT with OK. -/
  commits : List Nat := []
  /-- ns, 09 R340: when STAGE was first sent. -/
  stagedAt : Nat := 0
  /-- 09 R340: STAGE has been repeated. -/
  retried : Bool := false
  /-- ns, 09 R340: when COMMIT was last sent. -/
  commitAt : Nat := 0
  /-- positions, 09 R339: BEST members sent both copies. -/
  delivered : List Nat := []
  deriving DecidableEq, Repr

/-- One ring with its event queue. -/
structure Ring where
  /-- enum sub 02, 08 R313: RingState; reset OFF. -/
  state : RingState := .off
  /-- U8 sub 03, 08 R316: HeadCount; reset 0. -/
  headCount : Nat := 0
  /-- U8 sub 04, 08 R316: SegmentAEnd; reset 0. -/
  segAEnd : Nat := 0
  /-- U8 sub 05, 08 R316: SegmentBStart; reset 0. -/
  segBStart : Nat := 0
  /-- U64 sub 06, 08 R316: IslandMask as positions; reset none. -/
  island : List Nat := []
  /-- U32 sub 07, 08 R316: CodeErrors; reset 0. -/
  codeErrors : Nat := 0
  /-- U32 sub 08, 08 R316: Aborts; reset 0. -/
  aborts : Nat := 0
  /-- U32 sub 09, 08 R316: FcsErrors; reset 0. -/
  fcsErrors : Nat := 0
  /-- U32 sub 0A, 08 R316: Wraps; reset 0. -/
  wraps : Nat := 0
  /-- ps sub 0B, 08 R302: ForwardTotal F; reset 0. -/
  fTotal : Nat := 0
  /-- ps sub 0C, 08 R302: ReverseTotal V; reset 0. -/
  vTotal : Nat := 0
  /-- ps sub 0D, 08 R302: Closure; reset 0. -/
  closure : Int := 0
  /-- U8 sub 0F, 08 R316: FaultCause; reset 0. -/
  faultCause : Nat := 0
  /-- U16 of each end, 08 R287: FSEQ; reset 0 (log 3). -/
  fseqA : Nat := 0
  /-- U16, 08 R287: FSEQ of the B end; reset 0 (log 3). -/
  fseqB : Nat := 0
  /-- U32, 08 R290: SSEQ of the last SAFE frame; reset 0 (log 3). -/
  sseq : Nat := 0
  /-- ns, 08 R313: when TRAINING was entered; reset 0. -/
  trainAt : Nat := 0
  /-- sides, 08 R310 R311: the breaks not yet healed; reset none. -/
  breaks : List BreakSide := []
  /-- 08 R310: the B end is fed as well; reset 0. -/
  fedB : Bool := false
  /-- 08 R311: CLOSE has been sent and not yet followed by a count; reset 0. -/
  closing : Bool := false
  /-- count of each end, 09 R372: consecutive SAFE frames with QUENCH = 0 sent; reset 0. -/
  goodSafeA : Nat := 0
  /-- 09 R372: the same of the B end; reset 0. -/
  goodSafeB : Nat := 0
  /-- ns of each end, 10 R371: the last SAFE frame sent; reset 0. -/
  safeAtA : Nat := 0
  /-- ns, 10 R371: the same of the B end; reset 0. -/
  safeAtB : Nat := 0
  /-- T64, 08 R297: the last multiple of TimePeriod sent on; reset 0. -/
  tmarkAt : Nat := 0
  /-- serials by position, 08 R307: the table of the last CLOSED state, kept in the store; reset empty. -/
  serials : Tab Nat := []
  /-- 08 R310: N_last, the last full count; reset 0. -/
  lastCount : Nat := 0
  /-- 08 R310: the segment counts learned since the last break; reset none. -/
  countA : Option Nat := none
  /-- 08 R310: the count from the B end; reset none. -/
  countB : Option Nat := none
  /-- ps by position, 08 R302: RTTA; reset none. -/
  rttA : Tab Nat := []
  /-- ps by position, 08 R302: RTTB; reset none. -/
  rttB : Tab Nat := []
  /-- ps, 08 R304: the last asym; reset 0. -/
  asym : Int := 0
  /-- ps by hop, 08 R304: the last r and c of each hop; reset none. -/
  hops : Tab (Int × Int) := []
  /-- ns, 08 R304: the last calibration; reset 0. -/
  calAt : Nat := 0
  /-- 08 R302: round trips are being measured; reset 0. -/
  calBusy : Bool := false
  /-- ps, 08 R302: F as measured in this calibration; reset none. -/
  calF : Option Nat := none
  /-- ps, 08 R302: V as measured in this calibration; reset none. -/
  calV : Option Nat := none
  /-- positions, 08 R306: those that have answered DESCRIBE since it was last sent; reset none. -/
  described : List Nat := []
  /-- positions, 08 R311: those that have sent CAL REPORT since the heads were enumerated; reset none. -/
  reported : List Nat := []
  /-- U16, 08 R290: TAG of the last MGMT frame; reset 0 (log 3). -/
  mgmtTag : Nat := 0
  /-- (TAG, position, ADDR), 08 R289: MGMT requests without an answer; reset none. -/
  mgmtOpen : List (Nat × Nat × Nat) := []
  /-- 64 head records by position, 08 R316; reset absent. -/
  recs : Tab HeadRec := []
  /-- up to 4,096, 09 R321: the pending events, in order of acceptance; reset none. -/
  events : List QEvent := []
  /-- model's own: the next acceptance number; reset 0. -/
  nextUid : Nat := 0
  /-- U16, 09 R326: the EID counter; reset 0 (log 3). -/
  nextEid : Nat := 0
  /-- EIDs completed within the last ms, with their instants, 09 R326; reset none. -/
  recentEids : List (Nat × Nat) := []
  /-- 16 group slots, 09 R338; reset free. -/
  groups : List (Nat × Group) := []
  /-- (slot, entry, members still to come, ns), 09 R338: refused GROUP_OPENs whose members are refused; reset
  none. -/
  refusedOpens : List (Nat × Nat × Nat × Nat) := []
  /-- U16, 09 R340: the GID counter; reset 0 (log 3). -/
  nextGid : Nat := 0
  /-- U16 `5100`:03, 09 R358: PendingHigh; reset 0. -/
  pendingHigh : Nat := 0
  /-- U32 :04, 09 R358: EvqFull; reset 0. -/
  evqFull : Nat := 0
  /-- U32 :05, 09 R358: Missed; reset 0. -/
  missed : Nat := 0
  /-- U32 :06, 09 R358: Unreachable; reset 0. -/
  unreachable : Nat := 0
  /-- U32 :07, 09 R358: EchoSkipped; reset 0. -/
  echoSkipped : Nat := 0
  /-- U32 :08, 09 R358: TrimsSent; reset 0. -/
  trimsSent : Nat := 0
  /-- U32 :09, 09 R324: CompletionsLost; reset 0. -/
  completionsLost : Nat := 0
  /-- U32 :0B, 09 R358: AtomicCommitted; reset 0. -/
  atomicCommitted : Nat := 0
  /-- U32 :0C, 09 R358: AtomicAborted; reset 0. -/
  atomicAborted : Nat := 0
  /-- U32 :0D, 09 R345: SenseLost; reset 0. -/
  senseLost : Nat := 0
  /-- count, 09 R345: unbound SENSE frames; reset 0. -/
  senseUnbound : Nat := 0
  /-- ns, 09 R321: the last alarm EVQ_FULL; reset none. -/
  evqAlarmAt : Option Nat := none
  deriving DecidableEq, Repr

/-- One ring controller's noise shaping (08 R314, R315, objects `4700 + m`). -/
structure RingController where
  /-- 64 x U32 sub 09, 08 R314: Histogram; reset 0. -/
  hist : Tab Nat := []
  /-- 64 x U32, 08 R314: the histogram of the other nominal period while AUTO decides; reset 0. -/
  other : Tab Nat := []
  /-- ns sub 07, 08 R314 R316: MainsPeriod P; reset 20,000,000 (log 30). -/
  period : Nat := 20000000
  /-- 08 R314: AUTO has decided; reset 0. -/
  decided : Bool := false
  /-- T64 sub 08, 08 R314: PHASE0; reset 0. -/
  phase0 : T64 := 0
  /-- U32 sub 0B, 08 R316: HeldFrames; reset 0. -/
  heldFrames : Nat := 0
  /-- T64, 08 R314: the last error; reset none. -/
  lastError : Option T64 := none
  /-- count, 08 R314: bursts since the histogram was new; reset 0. -/
  bursts : Nat := 0
  /-- T64 list, 08 R314: the bursts of the present window; reset none. -/
  window : List T64 := []
  /-- ns, 08 R314: the last halving; reset 0. -/
  decayAt : Nat := 0
  /-- ns, 08 R314: the last phase update; reset 0. -/
  phaseAt : Nat := 0
  /-- T64, 08 R314: the last rising edge of the mains input; reset none. -/
  mainsEdge : Option T64 := none
  /-- (ring, B end, DST, payload), 08 R315: deferrable frames held for a gap, oldest first; reset none. -/
  deferred : List (Nat × Bool × Nat × FrameBody) := []
  deriving DecidableEq, Repr

/-- An event held by a head (09 R348). -/
structure HeldEvent where
  /-- 08 R290: its entry, WHEN as it stands. -/
  entry : EventEntry
  /-- 09 R334: order of arrival of its first copy. -/
  arrival : Nat
  /-- 09 R337: locked in. -/
  locked : Bool := false
  deriving DecidableEq, Repr

/-- A group staged at a head (09 R349). -/
structure StagedGroup where
  /-- U16, 09 R349: GID. -/
  gid : Nat
  /-- T64, 09 R349: HOLD. -/
  hold : T64
  /-- 09 R349: its entries for this head. -/
  entries : List EventEntry
  deriving DecidableEq, Repr

/-- One channel of a head (09 R333, R334). -/
structure HeadChannel where
  /-- 0 to 65,535, 09 R333: the drive level; 0 is de-energised; reset 0. -/
  level : Nat := 0
  /-- T80, 09 R333: when a PULSE ends; reset none. -/
  pulseEnd : Option T80 := none
  /-- T80, 10 R389: the last firing; reset none. -/
  lastFire : Option T80 := none
  /-- ACT and PARAM of the head-defined action last applied, 09 R333; reset none. -/
  custom : Option (Nat × Nat) := none
  deriving DecidableEq, Repr

/-- A head, outside the device, whose steps the table gives rows (09 R347 to R356). -/
structure Head where
  /-- 09 R350: a head stands here and has power; reset 0. -/
  powered : Bool := false
  /-- 08 R290: its descriptor; reset 0 (log 3). -/
  desc : HeadDesc := {}
  /-- 10 R389, 09 R352: it supports JOG; reset 0 (log 3). -/
  jogCapable : Bool := false
  /-- CHANNEL c registers, 09 R355; reset 0 (log 3). -/
  channelRegs : Tab Nat := []
  /-- 0 to 64, 08 R305: position; reset 0. -/
  pos : Nat := 0
  /-- 08 R305: position provisional; reset 0. -/
  provisional : Bool := false
  /-- enum, 08 R298: feed port; reset U (log 3). -/
  feed : HeadPort := .u
  /-- 08 R308: port U is declared down; reset 0. -/
  downU : Bool := false
  /-- 08 R308: port D is declared down; reset 0. -/
  downD : Bool := false
  /-- 08 R309: loopback; reset 0. -/
  loopback : Bool := false
  /-- 2^-16 ns, 08 R302: DLYA; reset none. -/
  dlyA : Option Nat := none
  /-- 2^-16 ns, 08 R302: DLYB; reset none. -/
  dlyB : Option Nat := none
  /-- 08 R299: it is time-valid; reset 0. -/
  timeValid : Bool := false
  /-- T80, 08 R299: its local time when last set; reset 0. -/
  localBase : Int := 0
  /-- ns, 08 R299: when that was; reset 0. -/
  localAt : Nat := 0
  /-- U8, 08 R301: the EPOCH last seen; reset none. -/
  epoch : Option Nat := none
  /-- ns, 08 R298: the last TMARK on port U; reset none. -/
  tmarkU : Option Nat := none
  /-- ns, 08 R298: the last TMARK on port D; reset none. -/
  tmarkD : Option Nat := none
  /-- ns, 09 R351: the last accepted TIME pair; reset 0. -/
  pairAt : Nat := 0
  /-- ns, 08 R302: armed for a CMARK at port U; reset none. -/
  armU : Option Nat := none
  /-- ns, 08 R302: armed for a CMARK at port D; reset none. -/
  armD : Option Nat := none
  /-- 09 R351: COAST; reset 0. -/
  coast : Bool := false
  /-- ns, 09 R351: since when; reset 0. -/
  coastAt : Nat := 0
  /-- 09 R350: quenched; reset 1. -/
  quenched : Bool := true
  /-- 3 bits, 09 R355: cause; reset 0, power-up. -/
  cause : Nat := 0
  /-- 09 R354: a QUENCH = 1 frame has been accepted since it became quenched; reset 0. -/
  quenchSeen : Bool := false
  /-- 0 to 4, 09 R354: QUENCH = 0 frames accepted one after another since; reset 0. -/
  goodFrames : Nat := 0
  /-- U32, 09 R352: the last accepted SSEQ; reset none. -/
  lastSseq : Option Nat := none
  /-- ns, 09 R353: the last accepted SAFE frame; reset none. -/
  safeAt : Option Nat := none
  /-- 10 R389: the mode of the last accepted SAFE frame is JOG; reset 0. -/
  jog : Bool := false
  /-- U16 µs MGMT 0003, 09 R353: SAFE_TIMEOUT; reset 750. -/
  safeTimeout : Nat := 750
  /-- U16 µs MGMT 0004, 09 R351: COAST_MAX; reset 2,000. -/
  coastMax : Nat := 2000
  /-- U16 µs MGMT 0005, 09 R355: TIME_PERIOD; reset 1,000 (log 3). -/
  timePeriod : Nat := 1000
  /-- U16 ms MGMT 0006, 09 R355: ENERGY_PERIOD; reset 1,000. -/
  energyPeriod : Nat := 1000
  /-- 09 R348: the events it holds, oldest first; reset none. -/
  held : List HeldEvent := []
  /-- 09 R349: its staged groups; reset none. -/
  staged : List StagedGroup := []
  /-- GID and HOLD, 09 R349: the groups it has committed; reset none. -/
  committed : List (Nat × T64) := []
  /-- count, 09 R334: entries taken so far; reset 0. -/
  arrivals : Nat := 0
  /-- 16 channels, 09 R333; reset de-energised. -/
  channels : Tab HeadChannel := []
  /-- 11 counters by 0 to 10, MGMT 0010 to 001A, 09 R355; reset 0. -/
  counters : Tab Nat := []
  /-- STREAM s registers, 09 R355; reset 0 (log 3). -/
  streams : Tab Nat := []
  /-- vendor registers, 09 R355; reset 0 (log 3). -/
  vendorRegs : Tab Nat := []
  /-- U64 µWh, 08 R290: ECUM; reset 0. -/
  ecum : Nat := 0
  /-- U16, 08 R290: RCOUNT; reset 0. -/
  rcount : Nat := 0
  /-- ns, 09 R356: the last ENERGY report; reset 0. -/
  energyAt : Nat := 0
  /-- U16, 08 R287: FSEQ of its own frames; reset 0. -/
  fseq : Nat := 0
  /-- 08 R293: it has met a violation in the frame it forwards and sends IDLE; reset 0. -/
  idling : Bool := false
  /-- 08 R305, R313: a COUNT left it without a position because 64 heads precede it; reset 0. -/
  overfull : Bool := false
  /-- (stream, samples, start), 09 R333: captures that SAMPLE has started; reset none. -/
  captures : List (Nat × Nat × T80) := []
  deriving DecidableEq, Repr

/-- One event template of a blank (09 R322). -/
structure EventTemplate where
  /-- U8, 09 R322: RING. -/
  ring : Nat
  /-- U8, 09 R322: POS. -/
  pos : Nat
  /-- U8, 09 R322: CH. -/
  ch : Nat
  /-- U8, 09 R322: ACT. -/
  act : Nat
  /-- U16, 09 R322: PARAM. -/
  param : Nat
  deriving DecidableEq, Repr

/-- One sense binding of a blank (09 R322). -/
structure SenseBinding where
  /-- U8, 09 R322: RING. -/
  ring : Nat
  /-- U8, 09 R322: POS. -/
  pos : Nat
  /-- U8, 09 R322: STREAM. -/
  stream : Nat
  /-- U8, 09 R322: TREF. -/
  tref : Nat
  deriving DecidableEq, Repr

/-- The EVENTS section of an active blank (09 R322). -/
structure EventsSection where
  /-- zones, 09 R320: the blank's zones. -/
  zones : List Nat
  /-- up to 1,024, 09 R322: templates in number order. -/
  templates : List EventTemplate
  /-- up to 256, 09 R322: sense bindings. -/
  bindings : List SenseBinding
  deriving DecidableEq, Repr

/-- The rings. -/
structure RingUnit where
  /-- 16 rings, 08 R278. -/
  rings : Tab Ring := []
  /-- 4 ring controllers, 08 R278. -/
  rcs : Tab RingController := []
  /-- heads by ring * 128 + place counted from the A end, 08 R279; reset none. -/
  heads : Tab Head := []
  /-- EVENTS sections in effect by library entry, 09 R322; reset none. -/
  sections : List (Nat × EventsSection) := []
  /-- U8, 08 R290: EPOCH of the timebase's steps; reset 0 (log 3). -/
  epoch : Nat := 0
  deriving DecidableEq, Repr

end Sys2Proof.Machine
end

