-- ==== Sys2Proof/Machine/Units/Out.lean ====
section
/-!
DEFINITION. What leaves the block and its heads: frames, packets, answers, notices and pulses.
-/

namespace Sys2Proof.Machine

/-- A ring frame with its header (08 R287). -/
structure Frame where
  /-- 0 to 15, 08 R287: the ring it travels on. -/
  ring : Nat
  /-- 08 R287: END. -/
  end_ : RingEnd
  /-- 08 R287: UP. -/
  up : Bool := false
  /-- 08 R287: ECHO. -/
  echo : Bool := false
  /-- U8, 08 R287: DST. -/
  dst : Nat
  /-- U8, 08 R287: SRC. -/
  src : Nat := 0
  /-- U16, 08 R287: FSEQ. -/
  fseq : Nat
  /-- 08 R290: the payload. -/
  body : FrameBody
  deriving DecidableEq, Repr

/-- Something that leaves the block, or a head of a ring. -/
inductive Output where
  | frame (f : Frame)
  | ringAbort (ring place : Nat)
  | mark (ring : Nat) (e : RingEnd) (calibration : Bool)
  | turned (ring : Nat) (place : Nat) (port : HeadPort)
  | counted (ring place hops : Nat)
  | channel (ring place ch level : Nat)
  | lfault (ring place : Nat) (port : HeadPort)
  | packet (ni : Nat) (p : Packet)
  | stage (ni dst : Nat) (q : StageReq)
  | answer (session : SessionNo) (a : Answer)
  | opened (conn : Nat) (session : SessionNo) (keepAlive : Nat) (now : T64)
  | refusedOpen (conn : Nat) (code : Abort)
  | cookieRetry (conn : Nat)
  | established (conn : Nat)
  | closeNotify (conn : Nat)
  | notify (session : SessionNo) (seq : Nat) (r : LogRecord)
  | image (i gen seq : Nat) (cycle : Nat) (payload : List Nat)
  | ptp (port : Port) (correction : Int)
  | twPulse
  | twtBytes (l : List Nat)
  | twStart (bus op addr reg : Nat) (data : List Nat)
  | twStop (bus : Nat)
  | linkUp (port : Port)
  deriving DecidableEq, Repr

end Sys2Proof.Machine
end

