-- ==== Sys2Proof/Machine/Units/Power.lean ====
section
/-!
DEFINITION. The feeds, the power governor and the thermal hold.
-/

namespace Sys2Proof.Machine

/-- The feed states, in value order (14 R514). -/
inductive FeedState where
  | absent
  | powered
  | lost
  deriving DecidableEq, Repr

/-- One feed (14 R511 to R514, objects `1021 + f`). -/
structure Feed where
  /-- enum sub 01, 14 R514: FeedState; reset ABSENT. -/
  state : FeedState := .absent
  /-- U8 sub 02, 14 R512: ClassEvents; reset 0. -/
  classEvents : Nat := 0
  /-- U16 sub 04, 10 mV, 14 R544: FeedVoltage; reset 0. -/
  voltage : Nat := 0
  /-- U16 sub 05, mA, 14 R544: FeedCurrent; reset 0. -/
  current : Nat := 0
  /-- U32 sub 06, 14 R544: Losses; reset 0. -/
  losses : Nat := 0
  /-- ns, 14 R545: since when the feed has been POWERED; reset none. -/
  poweredSince : Option Nat := none
  deriving DecidableEq, Repr

/-- The power unit. -/
structure PowerUnit where
  /-- 2 feeds, 14 R511: FA at 0 and FB at 1; reset ABSENT. -/
  feeds : Tab Feed := []
  /-- count, 16 R603: clusters the power hold counts; reset 0. -/
  powerHeld : Nat := 0
  /-- count, 16 R602: clusters the thermal hold counts; reset 0. -/
  thermalHeld : Nat := 0
  /-- U64 `1020:06`, 14 R521, 16 R603: the clusters either hold holds, highest first; HeldMask and ThermalHeldMask are
  its first powerHeld and thermalHeld; reset none. -/
  held : List Nat := []
  /-- U16 `1020:08` 0.1 W, 14 R544: DrawNow; reset 0. -/
  drawNow : Nat := 0
  /-- U16 `1020:09` 0.1 W, 14 R544: DrawPeak; reset 0. -/
  drawPeak : Nat := 0
  /-- U32 `1020:0A`, 14 R544: HoldEvents; reset 0. -/
  holdEvents : Nat := 0
  /-- U32 `1023:01`, 14 R522: Dips; reset 0. -/
  dips : Nat := 0
  /-- U32 `1023:02`, 14 R523: Sheds; reset 0. -/
  sheds : Nat := 0
  /-- T64 `1023:03`, 14 R523: LastShed; reset 0. -/
  lastShed : T64 := 0
  /-- 14 R523: the device is shed to 3 W; reset 0. -/
  shed : Bool := false
  /-- U8 `1023:04`, 14 R545: BrownoutCount, held in persistence; reset 0. -/
  brownoutCount : Nat := 0
  /-- 14 R525: the holdup store is charged; reset 0 (log 1). -/
  holdup : Bool := false
  /-- mV, 14 R537: the voltage on VKEEP; reset 0 (log 3). -/
  vkeep : Nat := 0
  /-- I16 0.1 °C `1025:01`, 16 R602: JunctionTemp, the hottest non-Quench sensor; reset 250 (log 3). -/
  junction : Int := 250
  /-- I16 0.1 °C `1025:02`, 16 R612: JunctionTempPeak; reset 250 (log 3). -/
  junctionPeak : Int := 250
  /-- ns, 16 R602: the last thermal hold or release; reset none. -/
  thermalAt : Option Nat := none
  /-- U32 `1025:06`, 16 R612: ThermalHoldEvents; reset 0. -/
  thermalEvents : Nat := 0
  /-- h scaled by 3600 * 2^20, 16 R606: LifeConsumed, kept; reset 0 (log 3). -/
  life : Nat := 0
  /-- s, 16 R612 `1025:05`: time above 95 °C, kept; reset 0 (log 3). -/
  above95 : Nat := 0
  /-- 16 R606: LIFE_REACHED has been raised; reset 0. -/
  lifeRaised : Bool := false
  /-- OCTET[138] `1025:07` 0.1 °C, 16 R612: SensorMap; reset empty (log 3). -/
  sensors : Tab Int := []
  deriving DecidableEq, Repr

end Sys2Proof.Machine
end

