-- ==== Sys2Proof/Machine/Units/Quench.lean ====
section
/-!
DEFINITION. The Quench unit: its two channels, its causes, its pins, the safety PDU and the comparator.
-/

namespace Sys2Proof.Machine

/-- The modes of a safety input pair, in SITYPE order (10 R367). -/
inductive SiType where
  | unused
  | guard
  | enable
  | reset
  deriving DecidableEq, Repr

/-- One safety-input pair (10 R376, R378). -/
structure SiPair where
  /-- pin, 10 R378: channel A is open; reset 1 (log 3). -/
  openA : Bool := true
  /-- pin, 10 R378: channel B is open; reset 1 (log 3). -/
  openB : Bool := true
  /-- ns Q, 10 R378: since when the channels have differed; reset none. -/
  differSince : Option Nat := none
  /-- 10 R378: a discrepancy stands latched; reset 0. -/
  discrepancy : Bool := false
  /-- 10 R378: both channels have been open together since the discrepancy; reset 0. -/
  openedTogether : Bool := false
  /-- 10 R378: a test-pulse fault of channel A or B stands latched; reset 0. -/
  tpFault : Bool := false
  /-- 10 R373: channel A has passed a test pulse since it last closed; reset 0. -/
  passedA : Bool := false
  /-- 10 R373: channel B has passed a test pulse since it last closed; reset 0. -/
  passedB : Bool := false
  /-- ns Q, 10 R375: since when both channels have been closed; reset none. -/
  closedSince : Option Nat := none
  deriving DecidableEq, Repr

/-- One QO contact (10 R379, R380). -/
structure QoContact where
  /-- 10 R379: the contact conducts; reset 0. -/
  conducts : Bool := false
  /-- ns Q, 10 R380: the off-test in progress began; reset none. -/
  testAt : Option Nat := none
  /-- ns Q, 10 R380: the last off-test began; reset none. -/
  lastTest : Option Nat := none
  /-- 10 R398: stuck; reset 0. -/
  stuck : Bool := false
  /-- count, 10 R380: consecutive inconclusive tests; reset 0. -/
  inconclusive : Nat := 0
  deriving DecidableEq, Repr

/-- One comparator channel (10 R383, R384). -/
structure CmpChannel where
  /-- tile * 8 + port, 10 R383: the copy-A port. -/
  portA : Nat := 0
  /-- tile * 8 + port, 10 R383: the copy-B port. -/
  portB : Nat := 0
  /-- 10 R383: a DEMAND stream. -/
  demand : Bool := false
  /-- up to 8 of (token, ns), 10 R384: side A, oldest first. -/
  queueA : List (Word × Nat) := []
  /-- up to 8 of (token, ns), 10 R384: side B, oldest first. -/
  queueB : List (Word × Nat) := []
  /-- ns, 10 R385: the last agreed KEEP, or the start of the watch. -/
  watchAt : Nat := 0
  /-- 10 R373: an agreed KEEP has been delivered since the watch first started. -/
  kept : Bool := false
  /-- bit number, 10 R395: the bit the next self-test pair differs in. -/
  testBit : Nat := 0
  /-- 10 R385: the last agreed token was not KEEP. -/
  demanding : Bool := false
  /-- 10 R385: the watch has expired since the last agreed KEEP. -/
  late : Bool := false
  deriving DecidableEq, Repr

/-- The Quench unit. -/
structure QuenchUnit where
  /-- 10 R361: channel QA commands ARMED; reset 0. -/
  qa : Bool := false
  /-- 10 R361: channel QB commands ARMED; reset 0. -/
  qb : Bool := false
  /-- 10 R362: QA's clock or pump has stopped; reset 0. -/
  stoppedA : Bool := false
  /-- 10 R362: QB's clock or pump has stopped; reset 0. -/
  stoppedB : Bool := false
  /-- set of codes `2000:03`, 10 R365: the active causes; reset NOT_RUN. -/
  active : List Nat := [1]
  /-- set of codes, 10 R364: the FAULT causes whose conditions still hold; reset none. -/
  standing : List Nat := []
  /-- U8 `2000:02`, 10 R366: QuenchCause; reset 0x01. -/
  cause : Nat := 1
  /-- U32 `2000:06`, 10 R366: QuenchCount; reset 0. -/
  count : Nat := 0
  /-- T64 `2000:07`, 10 R398: ArmedSince; reset 0. -/
  armedSince : T64 := 0
  /-- U32 `2000:08`, 10 R375: ReleaseRefused; reset 0. -/
  refused : Nat := 0
  /-- enum `2000:04`, 10 R388: SfMode is JOG; reset 0. -/
  jog : Bool := false
  /-- BOOL `2000:05`, 10 R365: QuenchRequest; reset 0. -/
  request : Bool := false
  /-- 4 pairs, 10 R376. -/
  si : Tab SiPair := []
  /-- ns Q by source, 10 R377: the last test pulse; reset none. -/
  pulseAt : Tab (Option Nat) := []
  /-- 4 contacts QO0A, QO0B, QO1A, QO1B, 10 R379. -/
  qo : Tab QoContact := []
  /-- U32 `2002:03`, 10 R398: QoTestsInconclusive; reset 0. -/
  inconclusive : Nat := 0
  /-- OCTET[16] `2100:02`, 10 R392: the status PDU; reset empty (log 3). -/
  pduOut : List Nat := []
  /-- U16, 10 R393: the last accepted CNT; reset none, any CNT is accepted. -/
  lastCnt : Option Nat := none
  /-- U16, 10 R392: CNT the status PDU shows; reset 0 (log 3). -/
  shownCnt : Nat := 0
  /-- 1 bit, 10 R391: RUN_PERMIT of the last accepted PDU; reset 0. -/
  runPermit : Bool := false
  /-- 1 bit, 10 R391: JOG_REQ of the last accepted PDU; reset 0. -/
  jogReq : Bool := false
  /-- 1 bit, 10 R375: RESET_ACK of the last accepted PDU; reset none. -/
  resetAck : Option Bool := none
  /-- 4 bytes, 10 R391: Z0ID of the last accepted PDU; reset 0. -/
  z0id : Nat := 0
  /-- ns Q, 10 R393: the last accepted PDU, or the start of the watch; reset 0. -/
  pduAt : Nat := 0
  /-- U32 `2100:03`, 10 R393: PduAccepted; reset 0. -/
  accepted : Nat := 0
  /-- U32 `2100:04`, 10 R393: PduRejected; reset 0. -/
  rejected : Nat := 0
  /-- up to 64, 10 R383: comparator channels by number; reset none. -/
  cmp : List (Nat × CmpChannel) := []
  /-- U32 `2200:03`, 10 R398: Mismatches; reset 0. -/
  mismatches : Nat := 0
  /-- U16 `2200:04`, 10 R398: LastMismatch; reset 0. -/
  lastMismatch : Nat := 0
  /-- U32 `2200:05`, 10 R398: ComparatorTestsPassed; reset 0. -/
  testsPassed : Nat := 0
  /-- 8 words by 0 to 7 `2300`, 10 R367: the Quench fuse words as read at the last release; reset 0 (log 3). -/
  words : Tab Nat := []
  /-- 10 R394: the built-in self-test of this BOOT has run; reset 0. -/
  bistRun : Bool := false
  /-- ns Q, 10 R395: the last comparator self-test; reset 0. -/
  selfTestAt : Nat := 0
  /-- ns Q, 10 R363: the last clock check; reset 0. -/
  clockAt : Nat := 0
  /-- 0.1 °C, 10 R363: the Quench unit's own sensor; reset 250 (log 3). -/
  temp : Int := 250
  /-- edge, 10 R369: a quench stop is due at the array; reset 0. -/
  stopDue : Bool := false
  deriving DecidableEq, Repr

end Sys2Proof.Machine
end

