-- ==== Sys2Proof/Machine/Units/Tile.lean ====
section
/-!
DEFINITION. The tiles, the clusters, the zones, the bridges and the stream tasks.
-/

namespace Sys2Proof.Machine

/-- One physical register window (03 R94, R111). -/
structure Window where
  /-- 16 x 32 bits, 03 R94: d0 to d15; reset 0. -/
  d : Tab Word := []
  /-- 40 bits, 03 R94: ACCRE; reset 0. -/
  accRe : BitVec 40 := 0
  /-- 40 bits, 03 R94: ACCIM; reset 0. -/
  accIm : BitVec 40 := 0
  /-- 9 bits, 03 R111: LNK; reset 0. -/
  lnk : BitVec 9 := 0
  deriving DecidableEq, Repr

/-- One address-generation unit (03 R103, R129). -/
structure Agu where
  /-- 20 bits, 03 R103: the byte base; reset 0. -/
  base : BitVec 20 := 0
  /-- 2 bits, 03 R129: ESZ code; reset 0. -/
  esz : BitVec 2 := 0
  /-- 2 bits, 03 R129: MODE; reset 0. -/
  mode : BitVec 2 := 0
  /-- 13 bits, 03 R129: L, 0 for 8,192; reset 0. -/
  len : BitVec 13 := 0
  /-- 13 bits, 03 R129: the signed step; reset 0. -/
  step : BitVec 13 := 0
  /-- 13 bits, 03 R103: the index; reset 0. -/
  idx : BitVec 13 := 0
  deriving DecidableEq, Repr

/-- The flags of one ALU (03 R100). -/
structure AluFlags where
  /-- 1 bit, 03 R100: Z; reset 0. -/
  z : Bool := false
  /-- 1 bit, 03 R100: N; reset 0. -/
  n : Bool := false
  /-- 1 bit, 03 R100: C; reset 0. -/
  c : Bool := false
  /-- 1 bit, 03 R100: V; reset 0. -/
  v : Bool := false
  deriving DecidableEq, Repr

/-- T.STATUS (03 R100). -/
structure TileStatus where
  /-- 4 bits, 03 R100: ZA NA CA VA; reset 0. -/
  a : AluFlags := {}
  /-- 4 bits, 03 R100: ZB NB CB VB; reset 0. -/
  b : AluFlags := {}
  /-- 1 bit, 03 R100: SAT; reset 0. -/
  sat : Bool := false
  /-- 1 bit, 03 R100: OVF; reset 0. -/
  ovf : Bool := false
  /-- 1 bit, 03 R100: MV; reset 0. -/
  mv : Bool := false
  deriving DecidableEq, Repr

/-- One entry of the repeat stack (03 R124). -/
structure RepEntry where
  /-- 9 bits, 03 R124: START. -/
  start : BitVec 9
  /-- 9 bits, 03 R124: END. -/
  stop : BitVec 9
  /-- 5 bits, 03 R124: the frame number. -/
  frame : Nat
  /-- 16 bits, 03 R124: COUNT. -/
  count : BitVec 16
  deriving DecidableEq, Repr

/-- T.MPROG (03 R121). -/
structure MProg where
  /-- 16 bits, 03 R121: DONE_D; reset 0. -/
  doneD : BitVec 16 := 0
  /-- 2 bits, 03 R121: DONE_ACC; reset 0. -/
  doneAcc : BitVec 2 := 0
  /-- 9 bits, 03 R121: MPC; reset 0. -/
  mpc : BitVec 9 := 0
  /-- 1 bit, 03 R121: LOAD; reset 0. -/
  load : Bool := false
  /-- 1 bit, 03 R121: ACTIVE; reset 0. -/
  active : Bool := false
  deriving DecidableEq, Repr

/-- The tile fault causes (03 R138, 05 R167). -/
inductive TileCause where
  | none
  | illegal
  | pcRange
  | align
  | address
  | memUe
  | imemUe
  | stackDepth
  | stackUnder
  | rptDepth
  | rptNest
  | rptExit
  | spillUe
  | ctxEmpty
  | trap
  | laneUnrouted
  | laneParity
  | peerFault
  deriving DecidableEq, Repr

/-- The reasons in T.CTX, in value order (03 R139). -/
inductive CtxReason where
  | none
  | instr
  | dispatch
  | commit
  | fault
  | cancel
  | quench
  deriving DecidableEq, Repr

/-- Data of a cluster-memory load still in flight (03 R110). -/
structure PendingLoad where
  /-- physical window, 03 R110. -/
  win : Nat
  /-- registers with the data the bank has read for them, 03 R110. -/
  regs : List (Nat × Word)
  deriving DecidableEq, Repr

/-- One tile (03 R92 to R141). -/
structure Tile where
  /-- 4 bits T.CTX, 03 R139: the current context; reset 15. -/
  ctx : Nat := 15
  /-- 4 bits T.CTX, 03 R139: the previous context; reset 15. -/
  prev : Nat := 15
  /-- 4 bits T.CTX, 03 R139: the reason; reset NONE. -/
  reason : CtxReason := .none
  /-- 9 bits T.PC, 03 R139: PC; reset 0. -/
  pc : BitVec 9 := 0
  /-- 11 bits T.STATUS, 03 R100; reset 0. -/
  status : TileStatus := {}
  /-- 2 bits T.WIN, 03 R139: CWP; reset 0. -/
  cwp : BitVec 2 := 0
  /-- 5 bits T.WIN, 03 R139: FRAMES; reset 1. -/
  frames : Nat := 1
  /-- 3 bits T.WIN, 03 R139: RES; reset 1. -/
  res : Nat := 1
  /-- 32 bits T.MPROG, 03 R121; reset 0. -/
  mprog : MProg := {}
  /-- 1 bit T.FAULT [31], 03 R139: valid; reset 0. -/
  faultValid : Bool := false
  /-- 8 bits T.FAULT, 03 R138: cause; reset NONE. -/
  faultCause : TileCause := .none
  /-- 9 bits T.FAULT, 03 R139: faulting PC; reset 0. -/
  faultPc : BitVec 9 := 0
  /-- 8 bits T.TRAPC, 03 R139: the code of the last TRAP; reset 0. -/
  trapc : BitVec 8 := 0
  /-- 16 bits T.ECCN, 03 R139: corrected errors, saturating; reset 0. -/
  eccn : Nat := 0
  /-- 1 bit T.ECCN [31], 03 R139: the count saturated; reset 0. -/
  eccSat : Bool := false
  /-- 32 bits T.CYC, 03 R139; reset 0. -/
  cyc : BitVec 32 := 0
  /-- 32 bits T.SWCNT, 03 R139; reset 0. -/
  swcnt : BitVec 32 := 0
  /-- 4 entries, 03 R124: the repeat stack, top first; reset empty. -/
  rep : List RepEntry := []
  /-- 73 bits, 03 R103: AGU0; reset 0. -/
  agu0 : Agu := {}
  /-- 73 bits, 03 R103: AGU1; reset 0. -/
  agu1 : Agu := {}
  /-- 4 windows, 03 R94: W0 to W3; reset 0. -/
  win : Tab Window := []
  /-- 16 x 8 words by 8 s + j, 03 R129: the context store; reset 0. -/
  desc : Tab Word := []
  /-- 512 x 96 bits, 03 R139: instruction memory; reset undefined, read as 0 (log 5). -/
  imem : Tab (BitVec 96) := []
  /-- 16 KiB, 03 R106: tile memory; reset undefined, read as 0 (log 5). -/
  mem : List (Nat × BitVec 8) := []
  /-- words with an upset, 03 R108: 1 correctable, 2 not; reset none. -/
  upsets : Tab Nat := []
  /-- instruction words with an uncorrectable upset, 03 R138; reset none. -/
  imemUe : List Nat := []
  /-- 8 x 2 entries, 05 R162: the input buffers by port, oldest first; reset empty. -/
  inbuf : Tab (List Word) := []
  /-- 03 R110: the cluster loads in flight, oldest first; reset none. -/
  loads : List PendingLoad := []
  /-- 03 R137: a sequencer HOLD; reset 0. -/
  held : Bool := false
  /-- 96 bits, 03 R115: the CALL or RET whose window trap is in progress; reset none. -/
  trapping : Option (BitVec 96) := none
  /-- slot and reason, 03 R134: the switch that waits for a trap; reset none. -/
  waiting : Option (Nat × CtxReason) := none
  /-- slot, 03 R135: the scheduled switch the sequencer has armed; reset none. -/
  armed : Option Nat := none
  /-- 03 R135: the 40-cycle guard before the armed edge has begun; reset 0. -/
  guarded : Bool := false
  /-- bank, 03 R108: the bank still busy with a 16-bit store; reset none. -/
  busyBank : Option Nat := none
  /-- count by bank, 03 R107: consecutive cycles the tile has kept the sequencer port out; reset 0. -/
  refused : Tab Nat := []
  /-- 32 bits, 03 R123: what an LDM has loaded for its own base register; reset none. -/
  baseHeld : Option Word := none
  /-- port, 05 R187: the tile is held on an RX of this empty port; reset none. -/
  rxHeld : Option Nat := none
  /-- port, 05 R167, model's own: the next token that enters it has a parity error; reset none. -/
  parityPort : Option Nat := none
  /-- 05 R167: a token with a parity error has entered and been discarded; reset 0. -/
  parityHit : Bool := false
  /-- task number, 05 R177: the task that owns the tile; reset none. -/
  owner : Option Nat := none
  deriving DecidableEq, Repr

/-- A pending header write or a request waiting at a gated cluster is held in the network; a cluster
holds its memory and its sequencer (03 R93). -/
structure Cluster where
  /-- 256 KiB, 03 R93: cluster memory, spill regions included; reset undefined, read as 0 (log 5). -/
  mem : List (Nat × BitVec 8) := []
  /-- 64-bit words with an upset, 03 R93: 1 correctable, 2 not; reset none. -/
  upsets : Tab Nat := []
  /-- 1 bit of GatedMask, 05 R172, 06 R231: power-gated; reset 0 (log 3). -/
  gated : Bool := false
  /-- ns, 14 R520: since when its NI has held no request; reset 0. -/
  idleSince : Nat := 0
  /-- count, 03 R93: ECC scrub bursts run; reset 0. -/
  scrubs : Nat := 0
  /-- setup records, 07 R248: the sequencer's active program bank, by record number; reset empty. -/
  program : Tab Nat := []
  /-- CRC-32C, 07 R271: the golden signature of the active bank; reset none. -/
  golden : Option Nat := none
  /-- Generation of the zone's blank in this cluster, 07 R277; reset 0. -/
  gen : Nat := 0
  deriving DecidableEq, Repr

/-- The task states, in value order (05 R178, R196). -/
inductive TaskState where
  | absent
  | loaded
  | armed
  | ready
  | running
  | draining
  | stopped
  | faulted
  deriving DecidableEq, Repr

/-- The reasons of STOPPED, in value order (05 R196). -/
inductive TaskReason where
  | none
  | done
  | cancelledPre
  | cancelled
  | drained
  | drainTimeout
  | quench
  deriving DecidableEq, Repr

/-- The trigger kinds, in value order (05 R179). -/
inductive TriggerKind where
  | immediate
  | time
  | period
  | angle
  | course
  | queue
  | chain
  | host
  deriving DecidableEq, Repr

/-- A multi-cluster start in progress (05 R183). -/
structure StartRound where
  /-- ns, 05 R183: the start tick S. -/
  tick : Nat
  /-- 6 bits, 06 R233: the tag of the leader's STAGE; none where it had no free tag. -/
  tag : Option Nat := none
  /-- clusters whose ACK has arrived, 05 R183. -/
  acks : List Nat
  /-- 05 R183: COMMIT has been sent. -/
  committed : Bool
  /-- clusters that hold COMMIT, 05 R185. -/
  holders : List Nat
  /-- 05 R184: a cancel has been accepted after the decision edge. -/
  drainAtStart : Bool
  deriving DecidableEq, Repr

/-- One stream task (05 R175, objects `3100 + n`). -/
structure Task where
  /-- U8 sub 01, 05 R175: Zone; reset 0. -/
  zone : Nat := 0
  /-- 05 R175: its tiles, each with its context slot; reset none. -/
  tiles : List (Nat × Nat) := []
  /-- U8 sub 03, 05 R175: Priority; reset 0. -/
  priority : Nat := 0
  /-- enum sub 04, 05 R178: TaskState; reset ABSENT. -/
  state : TaskState := .absent
  /-- enum sub 05, 05 R196: StateReason; reset NONE. -/
  reason : TaskReason := .none
  /-- enum sub 06, 05 R179: TriggerKind; reset IMMEDIATE (log 3). -/
  kind : TriggerKind := .immediate
  /-- U64 sub 07, 05 R179: TriggerParam; reset 0 (log 3). -/
  param : Nat := 0
  /-- BOOL sub 12, 05 R186: Rearm; reset 0 (log 3). -/
  rearm : Bool := false
  /-- 05 R178: AUTOARM; reset 0. -/
  autoarm : Bool := false
  /-- 05 R195: MIRROR; reset 0. -/
  mirror : Bool := false
  /-- 05 R180: the pending flag; reset 0. -/
  pending : Bool := false
  /-- U32 sub 09, 05 R180: TriggerCount; reset 0. -/
  triggers : Nat := 0
  /-- U32 sub 0A, 05 R180: Overruns; reset 0. -/
  overruns : Nat := 0
  /-- U32 sub 0B, 05 R196: CancelledPre; reset 0. -/
  cancelledPre : Nat := 0
  /-- U32 sub 0C, 05 R192: FlushedTokens; reset 0. -/
  flushed : Nat := 0
  /-- U8 sub 0D, 05 R189: FaultCause; reset NONE. -/
  faultCause : Nat := 0
  /-- U16 sub 0E, 05 R189: FaultTile; reset 0. -/
  faultTile : Nat := 0
  /-- T64 or A56, 05 R179: the instant or the value its TIME, PERIOD or ANGLE trigger last fired for; reset none. -/
  firedAt : Option Nat := none
  /-- T64 sub 0F, 05 R196: LastStart; reset 0. -/
  lastStart : T64 := 0
  /-- U16 cycles sub 10, 05 R183: StartLead; reset 64. -/
  startLead : Nat := 64
  /-- U16 µs sub 11, 05 R187: DrainMax; reset 100. -/
  drainMax : Nat := 100
  /-- ns, 05 R181: the READY edge; reset 0. -/
  readyAt : Nat := 0
  /-- ns, 05 R187: the drain edge; reset 0. -/
  drainAt : Nat := 0
  /-- 05 R183: consecutive aborted starts; reset 0. -/
  aborts : Nat := 0
  /-- 05 R183: the start in progress; reset none. -/
  start : Option StartRound := none
  /-- tiles, 05 R186: those that reached context 15 by CTX; reset none. -/
  ended : List Nat := []
  /-- words, 05 R175: the input queue, oldest first; reset empty. -/
  queue : List Nat := []
  /-- U8, 07 R249: QUEUE, its input queue's number, 0xFF for none; reset 0xFF. -/
  queueNo : Nat := 0xFF
  /-- words, 05 R175: the input queue's size; reset 0. -/
  queueSize : Nat := 0
  /-- 05 R192: a flush of its buffers is due one edge after the stop; reset 0. -/
  flushDue : Bool := false
  /-- 05 R194: ARM waits for these gated clusters; reset none. -/
  waking : List Nat := []
  /-- U8, 07 R247: the blank's task reference; reset 0. -/
  tref : Nat := 0
  /-- library entry, 07 R247: the blank that defines it; reset 0. -/
  entry : Nat := 0
  deriving DecidableEq, Repr

/-- One bridge record (05 R173, objects `3010 + k`). -/
structure Bridge where
  /-- U8 sub 01, 05 R196: ClusterA; reset 0xFF. -/
  a : Nat := 0xFF
  /-- U8 sub 02, 05 R196: ClusterB; reset 0xFF. -/
  b : Nat := 0xFF
  /-- U8 sub 03, 05 R196: Direction, 0 both, 1 A to B, 2 B to A; reset 0. -/
  dir : Nat := 0
  /-- BOOL sub 04, 05 R174: Open; reset 0. -/
  opened : Bool := false
  deriving DecidableEq, Repr

/-- The array with its tasks and bridges. -/
structure ArrayUnit where
  /-- 1,024 tiles by tile id, 03 R92; reset under R128, R139. -/
  tiles : Tab Tile := []
  /-- 64 clusters by cluster id, 03 R93. -/
  clusters : Tab Cluster := []
  /-- 256 tasks by task number, 05 R175; reset ABSENT. -/
  tasks : Tab Task := []
  /-- 32 bridge records, 05 R173; reset closed. -/
  bridges : Tab Bridge := []
  /-- U32 `3200:02`, 05 R193: DispatchDiscards; reset 0. -/
  discards : Nat := 0
  deriving DecidableEq, Repr

end Sys2Proof.Machine
end

