-- ==== Sys2Proof/Machine/Units/Time.lean ====
section
/-!
DEFINITION. The timebase, its servo and the keeper.
-/

namespace Sys2Proof.Machine

/-- The timebase states, in value order (02 R58). -/
inductive TbState where
  | free
  | disciplined
  | holdover
  deriving DecidableEq, Repr

/-- The time qualities, in value order (02 R58). -/
inductive TbQuality where
  | none
  | coarse
  | fine
  deriving DecidableEq, Repr

/-- The origins of T64, in value order (02 R71 `1300:09`). -/
inductive TbOrigin where
  | keeper
  | journal
  | ptp
  deriving DecidableEq, Repr

/-- One accepted or candidate PTP sample (02 R60, R63). -/
structure PtpSample where
  /-- ps, 02 R60: the measured offset, master minus device, net of DelayAsymmetry. -/
  offset : Int
  /-- ps, 02 R60: the path delay as measured. -/
  delay : Int
  /-- ns, 02 R63: its receipt time. -/
  at_ : Nat
  /-- ps, 02 R60: how far the servo had moved device time when the sample was taken. -/
  moved : Int
  deriving DecidableEq, Repr

/-- The keeper of the VKEEP domain (02 R51, 14 R538). -/
structure Keeper where
  /-- T64, 14 R538: the T64 loaded at the shed; reset 0 (log 3). -/
  t64 : Nat := 0
  /-- ns, 02 R51: when it was loaded; reset 0 (log 3). -/
  loadedAt : Nat := 0
  /-- BOOL `1023:06`, 14 R538: KEEPER_VALID; reset 0 (log 3). -/
  valid : Bool := false
  /-- 16 entries of (TYPE, T64, copy mark), oldest first, 14 R538: the tamper log; reset empty. -/
  tamper : List (Nat × Nat × Bool) := []
  deriving DecidableEq, Repr

/-- The timebase and its servo. -/
structure TimeUnit where
  /-- U64, 02 R49 R67: T64; reset 0 (log 3). -/
  t64 : T64 := 0
  /-- enum `1300:01`, 02 R58: TimebaseState; reset FREE. -/
  state : TbState := .free
  /-- enum `1300:02`, 02 R58: TimeQuality; reset NONE. -/
  quality : TbQuality := .none
  /-- I32 ps `1300:03`, 02 R71: OffsetEstimate; reset 0. -/
  offset : Int := 0
  /-- 40-bit signed, 02 R48: F, the fractional word of the PLL; reset 0, 14 R532. -/
  f : Int := 0
  /-- 40-bit signed, 02 R63: the learned frequency; reset 0, 14 R532. -/
  learned : Int := 0
  /-- 40-bit signed, 02 R48: the value F moves toward, 1 ppm per second at most; reset 0. -/
  fTarget : Int := 0
  /-- ns, 02 R48: when F stood at `f`; reset 0. -/
  fAt : Nat := 0
  /-- ns, 02 R61: when HOLDOVER was entered; reset 0. -/
  holdoverAt : Nat := 0
  /-- I16 s `1300:06`, 02 R57: CurrentUtcOffset; reset 37. -/
  utcOffset : Int := 37
  /-- OCTET[8] `1300:07`, 02 R71: GrandmasterIdentity; reset 0. -/
  gmIdentity : Nat := 0
  /-- enum `1300:09`, 02 R71: TimeOrigin; reset JOURNAL (log 3). -/
  origin : TbOrigin := .journal
  /-- 16, 02 R60: the last accepted samples, newest first; reset empty. -/
  accepted : List PtpSample := []
  /-- 8, 02 R63: the consecutive samples judged for agreement, newest first; reset empty. -/
  candidates : List PtpSample := []
  /-- count, 02 R61: consecutive rejected samples; reset 0. -/
  rejectRun : Nat := 0
  /-- count, 02 R58: consecutive samples within ±100 ns since entry; reset 0. -/
  coarseRun : Nat := 0
  /-- count, 02 R58: consecutive samples within ±4 ns since entry; reset 0. -/
  fineRun : Nat := 0
  /-- ns, 02 R61: the last change of grandmaster; reset none. -/
  gmChangedAt : Option Nat := none
  /-- ps, 02 R60: the sum by which steps and slews have moved device time; reset 0. -/
  moved : Int := 0
  /-- ns, 02 R61: the last valid Sync; reset none. -/
  lastSync : Option Nat := none
  /-- log2 s, 02 R56: the Sync interval in use; reset 0 (log 3). -/
  syncLog : Int := 0
  /-- ns, 14 R532: when DISCIPLINED was entered; reset none. -/
  disciplinedAt : Option Nat := none
  /-- ns, 14 R532: when the learned frequency was last saved; reset none. -/
  savedAt : Option Nat := none
  /-- 40-bit signed, 14 R532: the learned frequency held in persistence; reset 0. -/
  saved : Int := 0
  /-- U32 x4 `1304:01` to `1304:04`, 02 R71: outliers, holdover entries, grandmaster changes, steps; reset 0. -/
  outliers : Nat := 0
  /-- U32 `1304:02`, 02 R71: holdover entries; reset 0. -/
  holdovers : Nat := 0
  /-- U32 `1304:03`, 02 R71: grandmaster changes; reset 0. -/
  gmChanges : Nat := 0
  /-- U32 `1304:04`, 02 R71: steps; reset 0. -/
  steps : Nat := 0
  /-- ns, 12 R478: the last TIME record; reset 0. -/
  journalAt : Nat := 0
  /-- 14 R532: the internal supply has stood throughout the RESET; reset 0 (log 1). -/
  supplyStood : Bool := false
  /-- VKEEP domain, 02 R51: the keeper; reset not valid. -/
  keeper : Keeper := {}
  deriving DecidableEq, Repr

end Sys2Proof.Machine
end

