-- ==== Sys2Proof/Machine/State.lean ====
section
/-!
DEFINITION. The state of the block, its faults and refusals, and the state right after reset.
-/

namespace Sys2Proof.Machine

/-- The whole block, with the heads on its rings and the queue of waiting commands. -/
structure State where
  /-- ns, model's own: the device's monotonic clock, which every timed command is judged by; reset 0. -/
  now : Nat := 0
  /-- 01, 14: operational state, reset sources, Gaffer and control pins. -/
  op : OpUnit := {}
  /-- 02: the timebase, its servo and the keeper. -/
  time : TimeUnit := {}
  /-- 02: angle channels and course marks. -/
  angle : AngleUnit := {}
  /-- 14, 16: feeds, governor, temperature and life. -/
  power : PowerUnit := {}
  /-- 12, 17: the fault log and the alarms. -/
  log : LogUnit := {}
  /-- 11: dictionary, sessions, leases and images. -/
  sess : SessionUnit := {}
  /-- 03, 04, 05: tiles, clusters, tasks and bridges. -/
  array : ArrayUnit := {}
  /-- 06: the packet network. -/
  net : NetUnit := {}
  /-- 07: blanks, library, firmware and the Assay. -/
  blank : BlankUnit := {}
  /-- 08, 09: rings, event queues, ring controllers and heads. -/
  ring : RingUnit := {}
  /-- 10: the Quench unit. -/
  quench : QuenchUnit := {}
  /-- 12: the fuse bank and its controller. -/
  fuse : FuseUnit := {}
  /-- 12: the persistent store and its journal. -/
  store : StoreUnit := {}
  /-- 13: the energy unit. -/
  energy : EnergyUnit := {}
  /-- 15: two-wire buses, direct I/O and S0 loops. -/
  io : IoUnit := {}
  /-- model's own: what has left the block, newest first; reset none. -/
  out : List Output := []
  /-- model's own: how many free values have been taken; reset 0 (log 2). -/
  free : Nat := 0
  /-- model's own: the commands that wait, first in first; reset none. -/
  pending : List Instr := []
  deriving DecidableEq, Repr

/-- Why the block stops with a fault: never. Every fault the spec describes is an effect on State. -/
inductive Fault where
  deriving DecidableEq, Repr

/-- Why a command has no meaning. -/
inductive Refusal where
  /-- Raised by the dispatch for a command whose meaning has not been written; safe. -/
  | notModelled (mnemonic : String)
  deriving DecidableEq, Repr

/-- The block right after reset: RESET is held by POWER_ON, every field at its reset value. -/
def State.reset : State := {}

end Sys2Proof.Machine
end

