-- ==== Sys2Proof/Machine/Ops.lean ====
section
/-!
DEFINITION. The named operations every family shares: values in force, the fault log and its notices, the
journal, and the serving of a session's request.
-/

namespace Sys2Proof.Machine

/-! ### Values in force -/

/-- The value of an object of the dictionary that is in force (11 R404). -/
def State.val (s : State) (key : Nat) : Val :=
  match alook s.sess.inForce key with
  | some v => v
  | none => match objRow key with
    | some r => r.dflt
    | none => .num 0

/-- A numeric setting in force, `d` being its default. -/
def State.setting (s : State) (idx sub : Nat) (d : Int) : Int :=
  match alook s.sess.inForce (okey idx sub) with
  | some (.num n) => n
  | _ => d

/-- A setting that is never negative. -/
def State.num (s : State) (idx sub d : Nat) : Nat := (s.setting idx sub d).toNat

/-- A BOOL setting. -/
def State.flagOn (s : State) (idx sub : Nat) (d : Bool) : Bool := s.num idx sub (if d then 1 else 0) ≠ 0

/-- Puts a value in force, listing nothing that equals its default. -/
def SessionUnit.force (u : SessionUnit) (key : Nat) (v : Val) : SessionUnit :=
  { u with inForce := match objRow key with
      | some r => tset r.dflt u.inForce key v
      | none => tput key v u.inForce }

/-- The safety state is ARMED: both channels command it (10 R361, R373). -/
def State.armed (s : State) : Bool := s.quench.qa && s.quench.qb

/-- Device time as T80 (02 R67). -/
def State.t80 (s : State) : T80 := s.time.t64 * 65536

/-- The timebase runs: in RESET for as long as the internal supply has stood, and in every powered state after it
(01 R29, 14 R530, R532). -/
def State.timeRuns (s : State) : Bool :=
  s.op.state != .off && (s.op.state != .reset || s.time.supplyStood)

/-- Firmware of the Gaffer runs (01 R30). -/
def State.gafferRuns (s : State) : Bool :=
  match s.op.gaffer with
  | .running _ => true
  | _ => false

/-- Takes one free value (log 2). -/
def State.takeFree (s : State) : Nat × State := (Config.freeNat s.free, { s with free := s.free + 1 })

/-- One more thing leaves the block. -/
def State.emit (s : State) (o : Output) : State := { s with out := o :: s.out }

/-- One TCLK edge with nothing commanded: 4 ns pass on the device's clock, and on T64 while the timebase runs
(02 R49). -/
def State.tick (s : State) : State :=
  { s with now := s.now + 4, time := if s.timeRuns then { s.time with t64 := s.time.t64 + 4 } else s.time }

/-! ### The fault log -/

/-- The three areas (12 R482). -/
inductive AreaName where
  | general
  | reserve
  | quench
  deriving DecidableEq, Repr

/-- CLASS as a number (17 R621). -/
def LogClass.code : LogClass → Nat
  | .fatal => 0
  | .safety => 1
  | .fault => 2
  | .alarm => 3
  | .power => 4
  | .time => 5
  | .config => 6
  | .info => 7

/-- Whether repeats of a class are coalesced (17 R624). -/
def LogClass.coalesces : LogClass → Bool
  | .alarm | .power | .time | .info => true
  | _ => false

/-- OPSTATE of a record: *OpState* with 0 for BOOT and 1 for RESET (17 R620); OFF writes no record. -/
def OpState.code : OpState → Nat
  | .boot => 0
  | .reset => 1
  | .off => 2
  | .service => 3
  | .run => 4
  | .sleep => 5
  | .halt => 6

/-- *TimebaseState* as a number (02 R58). -/
def TbState.code : TbState → Nat
  | .free => 0
  | .disciplined => 1
  | .holdover => 2

/-- *TimeQuality* as a number (02 R58). -/
def TbQuality.code : TbQuality → Nat
  | .none => 0
  | .coarse => 1
  | .fine => 2

/-- TSTATE: *TimebaseState* and *TimeQuality* (08 R290, 17 R620). -/
def TimeUnit.tstate (t : TimeUnit) : Nat := t.state.code + 4 * t.quality.code

/-- Slots of an area (12 R482). -/
def AreaName.slots : AreaName → Nat
  | .general => 3584
  | _ => 256

/-- An area of the log. -/
def LogUnit.area (l : LogUnit) : AreaName → LogArea
  | .general => l.general
  | .reserve => l.reserve
  | .quench => l.quench

/-- Sets an area of the log. -/
def LogUnit.setArea (l : LogUnit) (n : AreaName) (a : LogArea) : LogUnit :=
  match n with
  | .general => { l with general := a }
  | .reserve => { l with reserve := a }
  | .quench => { l with quench := a }

/-- Whether a record repeats the area's newest one and is coalesced with it (17 R624). -/
def LogArea.coalesced (a : LogArea) (r : LogRecord) : Bool :=
  match a.records with
  | [] => false
  | h :: _ => r.cls.coalesces && h.code == r.code && h.source == r.source && decide (r.stamp ≤ h.stamp + 1000000000)

/-- Adds a record to an area: coalesced, or in a slot of its own, the oldest giving way (12 R482, 17 R624). -/
def LogArea.add (bound : Nat) (a : LogArea) (r : LogRecord) : LogArea :=
  match a.records with
  | h :: t =>
    if a.coalesced r then { a with records := { h with count := min 65535 (h.count + 1) } :: t }
    else { records := ({ r with lseq := a.nextSeq } :: a.records).take bound, nextSeq := inc32 a.nextSeq }
  | [] => { records := [{ r with lseq := a.nextSeq }], nextSeq := inc32 a.nextSeq }

/-- Changes one open session. -/
def State.modSession (s : State) (n : SessionNo) (f : Session → Session) : State :=
  { s with sess := { s.sess with sessions := s.sess.sessions.map (fun p => if p.1 = n then (p.1, f p.2) else p) } }

/-- An open session (11 R416). -/
def State.session? (s : State) (n : SessionNo) : Option Session := alook s.sess.sessions n

/-- One NOTIFY with a record to one session when its mask selects the class (11 R426). -/
def State.notifyOne (s : State) (r : LogRecord) (n : SessionNo) : State :=
  match s.session? n with
  | none => s
  | some ss =>
    if ss.notifyMask.testBit r.cls.code then
      (s.modSession n (fun x => { x with notifySeq := inc32 x.notifySeq })).emit (.notify n (inc32 ss.notifySeq) r)
    else s

/-- A NOTIFY with a record to every session whose mask selects the class (11 R426). -/
def State.notify (s : State) (r : LogRecord) : State :=
  (s.sess.sessions.map (·.1)).foldl (fun t n => t.notifyOne r n) s

/-- The record that a happening writes now (17 R620). -/
def State.mkRecord (s : State) (cls : LogClass) (source code : Nat) (detail : List Nat) (session : Nat) : LogRecord :=
  { stamp := if s.timeRuns then s.time.t64 else 0
    cls, source, code, session, detail
    tstate := if s.timeRuns then s.time.tstate else 0xFF
    opstate := s.op.state.code
    safestate := if s.armed then 1 else 0 }

/-- Writes a fault-log record, with a NOTIFY unless it is coalesced (17 R620, R624, 11 R426). -/
def State.record (s : State) (area : AreaName) (cls : LogClass) (source code : Nat) (detail : List Nat)
    (session : Nat := 0) : State :=
  let r := s.mkRecord cls source code detail session
  let a := s.log.area area
  let b := a.add area.slots r
  let s1 := { s with log := s.log.setArea area b }
  if a.coalesced r then s1 else s1.notify (b.records.headD r)

/-- The NI of the Gaffer (06 R199). -/
def niGaffer : Nat := 64

/-- Records and lets an alarm stand under its code and index (17 R622). -/
def State.alarm (s : State) (cls : LogClass) (code idx : Nat) (detail : List Nat) : State :=
  let s1 := s.record .general cls niGaffer code detail
  { s1 with log := { s1.log with alarms := if (code, idx) ∈ s1.log.alarms then s1.log.alarms
                                           else (code, idx) :: s1.log.alarms } }

/-- An alarm stands no more. -/
def State.clearAlarm (s : State) (code idx : Nat) : State :=
  { s with log := { s.log with alarms := s.log.alarms.filter (· ≠ (code, idx)) } }

/-- Whether an alarm stands. -/
def State.alarmOn (s : State) (code idx : Nat) : Bool := s.log.alarms.contains (code, idx)

/-! ### The journal -/

/-- Payload bytes of a journal record, a multiple of 8 (12 R477, R478, 13 R509). -/
def JBody.len : JBody → Nat
  | .dictApply set => (set.map (fun p => 8 + ((match objRow p.1 with
      | some r => r.ty.size.getD 0
      | none => 0) + 7) / 8 * 8)).sum
  | .counters _ => 304
  | .interval _ => 80
  | .time _ _ _ | .dictInforce _ _ | .tariff _ | .shed _ _ | .start _ _ _ | .activate _ _ _ => 16
  | .timeStep _ _ _ => 24
  | .fuseIntent _ _ | .fuseDone _ _ | .checkpoint _ => 8

/-- Commits one record: JSEQ rises, a full block gives way to a new one, and 64 blocks are kept
(12 R477, R479, R480). -/
def StoreUnit.commit1 (u : StoreUnit) (t : T64) (b : JBody) : StoreUnit :=
  let size := 32 + b.len
  let fresh := decide (u.used + size > 4096)
  let blk := if fresh then u.block + 1 else u.block
  { u with journal := { jseq := u.nextJseq, stamp := t, body := b, block := blk } ::
                      (if fresh then u.journal.filter (fun r => decide (blk < r.block + 64)) else u.journal)
           nextJseq := u.nextJseq + 1
           block := blk
           used := if fresh then 16 + size else u.used + size }

/-- Writes the home records that wait, then commits a CHECKPOINT (12 R474, R480). -/
def State.checkpoint (s : State) : State :=
  let homes := s.store.dirty.foldl (fun h k => tput k (s.val k) h) s.store.homes
  let u := { s.store with homes := homes, dirty := [],
                          homeAt := s.store.dirty.foldl (fun h k => tput k s.now h) s.store.homeAt }
  let u1 := u.commit1 s.time.t64 (.checkpoint (u.nextJseq - 1))
  { s with store := { u1 with cpBlock := u1.block } }

/-- Commits a journal record, and a CHECKPOINT when 16 blocks have been started since the last
(12 R479, R480). -/
def State.commit (s : State) (b : JBody) : State :=
  let s1 := { s with store := s.store.commit1 s.time.t64 b }
  if s1.store.cpBlock + 16 ≤ s1.store.block then s1.checkpoint else s1

/-- The JSEQ of the record committed last (12 R484 `8030:07`). -/
def State.journalHead (s : State) : Nat := s.store.nextJseq - 1

/-! ### Serving a request -/

/-- Counts and keeps an answer, and sends it; BUSY_RETRY is not kept (11 R419, R422, R423). -/
def State.reply (s : State) (n : SessionNo) (a : Answer) : State :=
  (s.modSession n (fun x =>
    { x with inFlight := x.inFlight.erase a.rid
             requests := inc32 x.requests
             aborts := if a.code = .ok then x.aborts else inc32 x.aborts
             busyRetries := if a.code = .busyRetry then inc32 x.busyRetries else x.busyRetries
             kept := if a.code = .busyRetry then x.kept else (a :: x.kept).take 32 })).emit (.answer n a)

/-- What carrying out a request gives: its abort code and DETAIL, a value for the answer, and the state. -/
structure Served where
  code : Abort := .ok
  detail : Nat := 0
  value : Option Val := none
  /-- The request stays outstanding; it is answered later. -/
  later : Bool := false
  state : State

/-- Serves a request of an open session (11 R417, R422, R423): a kept answer is sent again, a request still
outstanding is discarded, a ninth is refused BUSY_RETRY, and anything else is carried out and answered. -/
def State.serve (s : State) (q : Req) (run : State → Session → Served) : State :=
  match s.session? q.session with
  | none => s.emit (.answer q.session { rid := q.rid, code := .notOpen })
  | some ss =>
    let s1 := s.modSession q.session (fun x => { x with lastHeard := s.now })
    match ss.kept.find? (fun a => a.rid = q.rid) with
    | some a => s1.emit (.answer q.session a)
    | none =>
      if q.rid ∈ ss.inFlight then s1
      else if ss.inFlight.length ≥ 8 then s1.reply q.session { rid := q.rid, code := .busyRetry }
      else
        let r := run s1 ss
        if r.later then r.state.modSession q.session (fun x => { x with inFlight := x.inFlight ++ [q.rid] })
        else r.state.reply q.session { rid := q.rid, code := r.code, detail := r.detail, value := r.value }

/-- A refusal: nothing is carried out. -/
def refuse (s : State) (c : Abort) (detail : Nat := 0) : Served := { code := c, detail, state := s }

/-! ### The governing lease (11 R427 to R434) -/

/-- A lease. -/
def State.lease (s : State) (n : Nat) : Lease := tget {} s.sess.leases n

/-- Whether a role may take a lease (11 R411, R427, R430). -/
def mayTake (r : Role) (lease : Nat) : Bool :=
  if lease < 12 then
    (match lease with
     | 3 => r == .safety
     | 4 | 7 | 11 => r == .operator || r == .maintenance
     | 8 => r == .energy || r == .maintenance
     | _ => r == .maintenance)
  else if lease = 0x10 then r == .safety
  else if lease < 0x18 then r == .operator || r == .pattern || r == .maintenance
  else if lease < 0x40 then r == .operator || r == .pattern || r == .maintenance || r == .safety
  else r == .operator || r == .pattern || r == .maintenance || r == .safety

/-- The check of EPOCH against a governing lease (11 R434). -/
def State.epochCheck (s : State) (lease : Nat) (n : SessionNo) (epoch : Nat) : Abort × Nat :=
  let l := s.lease lease
  if epoch = 0 then (.notHolder, lease)
  else if epoch ≠ l.epoch then (.staleEpoch, lease)
  else if l.holder ≠ n then (.notHolder, lease)
  else (.ok, 0)

/-- The zone of the task a task object belongs to. -/
def State.zoneOfObject (s : State) (idx : Nat) : Nat := (tget {} s.array.tasks (idx - 0x3100)).zone

/-- The lease that governs a write by this session, or none (11 R428); *FuseProgram* by a SAFETY session needs the
lease of Z0 (12 R484). -/
def State.governing (s : State) (n : SessionNo) (role : Role) (key : Nat) (r : ObjRow) : Option Nat :=
  let group := if r.commit = .now then none else groupOf (key / 256)
  if key = okey 0x8001 1 then (if role = .safety then some 0x10 else none)
  else match r.who, holderLease r.who (key / 256) (s.zoneOfObject (key / 256)) with
  | .zoneOr l, some h => if (s.lease h).holder = n ∨ role ∉ l then some h else group
  | _, some h => some h
  | _, none => group

/-- Whether a role may write an object at all (11 R403, R421 step 3). -/
def State.roleAdmitted (s : State) (role : Role) (key : Nat) (r : ObjRow) : Bool :=
  match r.who with
  | .roles l => role ∈ l
  | .zoneOr l => role ∈ l || mayTake role (0x10 + s.zoneOfObject (key / 256))
  | .zone => mayTake role (0x10 + (key / 256 - 0x70A0))
  | .bridge => mayTake role 0x20
  | .staging => mayTake role 0x40
  | .image => true

/-- What the recovery service of HALT serves (07 R270). -/
def haltServes (key : Nat) : Bool :=
  (decide (okey 0x1000 1 ≤ key ∧ key ≤ okey 0x1000 11)) || key == okey 0x1010 1 || key == okey 0x1010 4 ||
    key == okey 0x1010 2 || (decide (okey 0x8040 1 ≤ key ∧ key ≤ okey 0x8040 3)) ||
    (decide (okey 0x8600 1 ≤ key ∧ key ≤ okey 0x8600 8))

/-- Steps 1 to 4 of R421: the object, the direction, the role and the governing lease. -/
def State.gate (s : State) (n : SessionNo) (role : Role) (key epoch : Nat) : Abort × Nat :=
  if s.op.state = .halt ∧ !haltServes key then (.noObject, 0)
  else match objRow key with
  | none => if key % 256 = 0 ∧ topSub (key / 256) ≠ 0 then (.readOnly, 0) else (.noObject, 0)
  | some r =>
    if r.acc = .ro then (.readOnly, 0)
    else if !s.roleAdmitted role key r then (.noAccess, 0)
    else match s.governing n role key r with
      | some l => s.epochCheck l n epoch
      | none => if epoch = 0 then (.ok, 0) else (.badMessage, 0)

/-- A reserved byte that an object's table checks (11 R408, 12 R484, 13 R496), by the first byte's offset. -/
def reservedByte (key : Nat) (b : List Nat) : Option Nat :=
  if key = okey 0x1210 5 then (b.zipIdx.find? (fun p => decide (2 ≤ p.2 ∧ p.2 ≤ 7 ∧ p.1 ≠ 0))).map (·.2) else
  if key = okey 0x8001 1 then (b.zipIdx.find? (fun p => decide ((p.2 = 2 ∨ p.2 = 3) ∧ p.1 ≠ 0))).map (·.2) else
  if key / 256 = 0x6030 ∨ key = okey 0x6031 1 then (b.zipIdx.find? (fun p => decide (p.2 ≥ 10 ∧ p.1 ≠ 0))).map (·.2) else none

/-- Steps 5 to 7 of R421 for wire bytes: the length, the reserved fields and the range. -/
def bytesCheck (key : Nat) (r : ObjRow) (b : List Nat) : Abort × Nat :=
  if r.ty.segmented then (.tooLarge, 0)
  else if r.ty.size ≠ some b.length then (.typeMismatch, 0)
  else match reservedByte key b with
    | some o => (.reservedSet, o)
    | none => if r.inRange (r.ty.decode b) then (.ok, 0) else (.range, 0)

/-- Objects held by a unit that SLEEP gates: the clusters, RC0 to RC3, the angle, two-wire, direct-I/O and
probe units (14 R535). -/
def sleepGated (key : Nat) : Bool :=
  let i := key / 256
  decide ((0x3001 ≤ i ∧ i ≤ 0x3FFF) ∨ (0x4000 ≤ i ∧ i ≤ 0x5FFF) ∨ (0x7100 ≤ i ∧ i ≤ 0x710F) ∨
    (0x9000 ≤ i ∧ i ≤ 0x9117))

/-- Serves a write of an object with a row of its own: steps 1 to 4 of R421, then the object's own checks in
order, and only when all pass its effect (11 R421, 14 R535). -/
def State.serveWrite (s : State) (q : Req) (key : Nat) (check : State → Session → Abort × Nat)
    (effect : State → Session → Served) : State :=
  s.serve q (fun t ss =>
    match t.gate q.session ss.role key q.epoch with
    | (.ok, _) => match check t ss with
      | (.ok, _) => if t.op.state = .sleep ∧ sleepGated key then refuse t .wrongState else effect t ss
      | (c, d) => refuse t c d
    | (c, d) => refuse t c d)

/-- The first check that fails. -/
def firstFail : List (Bool × Abort × Nat) → Abort × Nat
  | [] => (.ok, 0)
  | (bad, c, d) :: rest => if bad then (c, d) else firstFail rest

/-- Steps 1 to 7 of R421 for an object with a row of its own, then the object's own checks, and its effect with
the value written. -/
def State.serveBytes (s : State) (q : Req) (key : Nat) (b : List Nat)
    (check : State → Session → Val → Abort × Nat) (effect : State → Session → Val → Served) : State :=
  match objRow key with
  | none => s.serve q (fun t _ => refuse t .noObject)
  | some r =>
    let v := r.ty.decode b
    s.serveWrite q key (fun t ss =>
      match bytesCheck key r b with
      | (.ok, _) => check t ss v
      | e => e) (fun t ss => effect t ss v)

/-- No further check. -/
def noCheck (_ : State) (_ : Session) (_ : Val) : Abort × Nat := (.ok, 0)

/-- The number of a value; 0 for octets. -/
def valNat : Val → Nat
  | .num n => n.toNat
  | .oct _ => 0

/-- The octets of a value; none for a number. -/
def valBytes : Val → List Nat
  | .num _ => []
  | .oct b => b

end Sys2Proof.Machine
end

