-- ==== Sys2Proof/Machine/AngleOps.lean ====
section
/-!
DEFINITION. The operations on the angle channels: position and A56, the predictor, the state changes, and
course marks (02 R72 to R91).
-/

namespace Sys2Proof.Machine

/-! ### A channel and its settings -/

/-- An angle channel. -/
def State.angleCh (s : State) (c : Nat) : AngleChannel := tget {} s.angle.ch c

/-- Changes one angle channel. -/
def State.modAngle (s : State) (c : Nat) (f : AngleChannel → AngleChannel) : State :=
  { s with angle := { s.angle with ch := tmod {} s.angle.ch c f } }

/-- The settings of a channel (02 R89). -/
structure AngleCfg where
  mode : Nat
  lines : Nat
  reversed : Bool
  zero : Nat
  k : Nat
  stopTime : T80
  filter : T80
  deriving DecidableEq, Repr

/-- The settings of channel `c` in force; a line count of 0 cannot be written (02 R89). -/
def State.angleCfg (s : State) (c : Nat) : AngleCfg :=
  { mode := s.num (0x5000 + c) 1 0
    lines := max 1 (s.num (0x5000 + c) 2 4096)
    reversed := s.num (0x5000 + c) 3 0 ≠ 0
    zero := s.num (0x5000 + c) 4 0
    k := s.num (0x5000 + c) 5 8
    stopTime := s.num (0x5000 + c) 6 100 * 1000000 * 65536
    filter := s.num (0x5000 + c) 7 40 * 65536 }

/-- Positions of one line: quadrature counts, or phase units (02 R73, R76). -/
def AngleCfg.perLine (g : AngleCfg) : Nat := if g.mode = 2 then 65536 else 4

/-- Positions of one revolution. -/
def AngleCfg.perRev (g : AngleCfg) : Nat := g.lines * g.perLine

/-- K_L (02 R76). -/
def AngleCfg.kL (g : AngleCfg) : Nat := (2 ^ 48 + g.lines / 2) / g.lines

/-- u of a position (02 R76). -/
def AngleCfg.units (g : AngleCfg) (pos : Nat) : Nat := if g.mode = 2 then pos else pos * 16384

/-- The angle of the lower bound of a position in revolution `rev`, in 2^-48 rev (02 R76). -/
def AngleCfg.angle48 (g : AngleCfg) (rev pos : Nat) : Int :=
  (rev * 2 ^ 48 + g.units pos * g.kL / 2 ^ 16 + g.zero * 2 ^ 16 : Nat)

/-- A56 of an angle in 2^-48 rev (02 R77). -/
def a56 (v : Int) : Nat := ((v.fdiv (2 ^ 16)).emod (2 ^ 56)).toNat

/-- A difference of angles in 2^-48 rev as signed56 (02 R82). -/
def signed56 (v : Int) : Int := wrapSigned 72 v

/-! ### The predictor (02 R82 to R84) -/

/-- θ predicted at a time (02 R82). -/
def AngleChannel.thAt (x : AngleChannel) (t : T80) : Int :=
  let tau : Int := (t : Int) - x.ts
  x.th + divNearEven (x.w * tau) (2 ^ 24) + divNearEven (x.a * tau * tau) (2 ^ 65)

/-- ω predicted at a time (02 R82). -/
def AngleChannel.wAt (x : AngleChannel) (t : T80) : Int :=
  x.w + divNearEven (x.a * ((t : Int) - x.ts)) (2 ^ 40)

/-- G_TH as a 48-bit fraction (02 R82). -/
def gainTh (k : Nat) : Int := 2 ^ 48 - ((2 : Int) ^ k - 1) ^ 3 * 2 ^ (48 - 3 * k)

/-- G_W as a 48-bit fraction (02 R82). -/
def gainW (k : Nat) : Int := 3 * ((2 : Int) ^ (k + 1) - 1) * 2 ^ (47 - 3 * k)

/-- G_A as a 48-bit fraction (02 R82). -/
def gainA (k : Nat) : Int := 2 ^ (48 - 3 * k)

/-- The predictor takes a measurement (02 R82). -/
def AngleChannel.measured (x : AngleChannel) (g : AngleCfg) (tg : T80) (m : Int) : AngleChannel :=
  let thP := x.thAt tg
  let wP := x.wAt tg
  let e := signed56 (m - thP)
  { x with th := wrapSigned 88 (thP + divNearEven (gainTh g.k * e) (2 ^ 48))
           w := wrapSigned 64 (wP + divNearEven (gainW g.k * e * 2 ^ 8) (200 * 2 ^ 48))
           a := wrapSigned 64 (x.a + divNearEven (gainA g.k * e * 2 ^ 32) (40000 * 2 ^ 48))
           ts := tg }

/-- The predictor runs on in SUSPECT (02 R80, R82). -/
def AngleChannel.extrapolated (x : AngleChannel) (tg : T80) : AngleChannel :=
  { x with th := wrapSigned 88 (x.thAt tg), w := x.wLocked, a := 0, ts := tg }

/-- The measured angle of a channel, in 2^-48 rev (02 R76). -/
def AngleChannel.angle (x : AngleChannel) (g : AngleCfg) : Int := g.angle48 x.rev x.pos

/-- The RS-422 measurement at a grid instant: an edge's boundary carried on, kept within the bounds of the
current count (02 R82). -/
def AngleChannel.measureRs (x : AngleChannel) (g : AngleCfg) (tg : T80) : Int :=
  let low := x.angle g
  let high := low + 2 ^ 48 / (4 * g.lines)
  let base := x.th - signed56 (x.th - low)
  let boundary := if x.lastDelta < 0 then base + (high - low) else base
  let m := match x.gridEdge with
    | some te => boundary + divNearEven (x.w * ((tg : Int) - te)) (2 ^ 24)
    | none => x.thAt tg
  clampInt base (base + (high - low)) m

/-- What `predict_time` gives (02 R84). -/
inductive Prediction where
  | passed
  | none
  | at_ (t : T80)
  deriving DecidableEq, Repr

/-- W_MIN, 0.5 rpm in 2^-56 rev/ns (02 R84). -/
def wMin : Int := 600480

/-- One refinement of the time to a target, in 2^-32 ns (02 R84). -/
def refine (w a d x : Int) : Int :=
  let f := w * x + (a * x * x).fdiv (2 ^ 57) - d * 2 ^ 40
  let slope := w + (a * x).fdiv (2 ^ 56)
  if slope = 0 then x else x - f.fdiv slope

/-- `predict_time` for a target A56 at a time (02 R84). -/
def AngleChannel.predictTime (x : AngleChannel) (target : Nat) (t : T80) : Prediction :=
  if x.state ≠ .locked ∧ x.state ≠ .suspect then .none
  else
    let w := x.wAt t
    let d := ((target : Int) * 2 ^ 16 - x.thAt t).emod (2 ^ 72)
    if d ≥ 2 ^ 71 then .passed
    else if w < wMin then .none
    else
      let x2 := refine w x.a d (refine w x.a d ((d * 2 ^ 40).fdiv w))
      let slope := w + (x.a * x2).fdiv (2 ^ 56)
      if x2 > 50000000 * 2 ^ 32 ∨ 2 * slope < w then .none
      else .at_ (t + (divNearEven x2 (2 ^ 16)).toNat)

/-- The published A56 of a channel (02 R77, R80, R83). -/
def State.publishedAngle (s : State) (c : Nat) : Nat :=
  let x := s.angleCh c
  match x.state with
  | .locked | .suspect => a56 (x.thAt s.t80)
  | .lost => x.held
  | .stopped => a56 (x.angle (s.angleCfg c))

/-- Whether a channel turns forward at 0.5 rpm or more with predictions made (02 R84, R88). -/
def State.angleForward (s : State) (c : Nat) : Bool :=
  let x := s.angleCh c
  (x.state == .locked || x.state == .suspect) && decide (x.wAt s.t80 ≥ wMin)

/-! ### State changes (02 R78 to R81) -/

/-- The channel is STOPPED and not homed. -/
def AngleChannel.unhome (x : AngleChannel) : AngleChannel :=
  { x with state := .stopped, reason := .notHomed, homed := false, legalRun := 0, crossings := [], w := 0, a := 0,
           illegalAt := [], gridEdge := none, resuming := false }

/-- The channel is LOST: it holds its last published angle (02 R78, R80). -/
def State.angleLost (s : State) (c : Nat) (r : AngReason) : State :=
  let held := s.publishedAngle c
  (s.modAngle c (fun x =>
    { x with state := .lost, reason := r, held := held, lostEntries := inc32 x.lostEntries, legalRun := 0,
             crossings := [] })).alarm .time 0x0504 c [c]

/-- Whether nine illegal transitions lie within one revolution of travel (02 R78). -/
def AngleChannel.ninth (x : AngleChannel) (g : AngleCfg) : Bool :=
  match x.illegalAt[8]? with
  | some v => decide (x.travel - v ≤ g.perRev)
  | none => false

/-- An illegal transition at a time (02 R78). -/
def State.illegalTransition (s : State) (c : Nat) (t : T80) : State :=
  let g := s.angleCfg c
  let s1 := s.modAngle c (fun x =>
    { x with illegalTotal := inc32 x.illegalTotal, lastIllegal := t, legalRun := 0, crossings := []
             illegalAt := (x.travel :: x.illegalAt).take 9 })
  let x := s1.angleCh c
  if (x.state = .locked ∨ x.state = .suspect) ∧ x.ninth g then s1.angleLost c .illegalRun
  else if x.state = .locked then
    s1.modAngle c (fun y => { y with state := .suspect, reason := .illegal, suspectEntries := inc32 y.suspectEntries
                                     wLocked := y.w })
  else s1

/-- The mean speed over the last sixteen line crossings, in 2^-56 rev/ns, signed by direction (02 R82). -/
def AngleChannel.meanSpeed (x : AngleChannel) (g : AngleCfg) : Int :=
  let l := x.crossings.take 16
  match l with
  | [] => 0
  | newest :: _ =>
    let oldest := l.getLastD newest
    let span : Int := (newest : Int) - oldest
    if span = 0 then 0
    else
      let v := divNearEven (((l.length - 1 : Nat) : Int) * 2 ^ 72) (span * g.lines)
      if x.forward then v else -v

/-- Whether a line period has passed since the last illegal transition (02 R78, R81). -/
def AngleChannel.periodPassed (x : AngleChannel) (g : AngleCfg) (t : T80) : Bool :=
  decide (((t : Int) - x.lastIllegal) * x.wLocked.natAbs * g.lines ≥ 2 ^ 72)

/-- A legal crossing of a line boundary at a time: it counts toward lock and toward the return from SUSPECT
(02 R78, R81, R82). -/
def AngleChannel.lineCrossed (x : AngleChannel) (g : AngleCfg) (boundary : Int) (t : T80) (forward : Bool)
    (amp : Nat) : AngleChannel :=
  let y := { x with legalRun := x.legalRun + 1
                    crossings := if forward = x.forward then (t :: x.crossings).take 17 else [t]
                    forward := forward }
  match x.state with
  | .stopped =>
    if x.homed ∧ y.legalRun ≥ 16 then
      { y with state := .locked, reason := .none, th := boundary, w := y.meanSpeed g, a := 0, ts := t,
               wLocked := y.meanSpeed g, ampCal := amp, illegalAt := [], resuming := false, gridEdge := none }
    else y
  | .suspect =>
    if y.legalRun ≥ 2 ∧ x.periodPassed g t then { y with state := .locked, reason := .none, resuming := true }
    else y
  | _ => y

/-- The first measurement after SUSPECT loads the predictor when it differs by more than a quarter of a line
(02 R81). -/
def AngleChannel.takeMeasurement (x : AngleChannel) (g : AngleCfg) (tg : T80) (m : Int) : AngleChannel :=
  let e := signed56 (m - x.thAt tg)
  if x.resuming then
    let y := { x with resuming := false }
    if e.natAbs * 4 * g.lines > 2 ^ 48 then
      { y with th := m, w := x.wAt tg, ts := tg, slips := inc32 x.slips }
    else y.measured g tg m
  else x.measured g tg m

/-- Moves the position by `d` within the revolution, with the revolution count (02 R76). -/
def AngleChannel.move (x : AngleChannel) (g : AngleCfg) (d : Int) : AngleChannel :=
  let p := (x.pos : Int) + d
  let n := g.perRev
  { x with pos := (p.emod n).toNat
           rev := (((x.rev : Int) + p.fdiv n).emod (2 ^ 24)).toNat
           travel := x.travel + d.natAbs }

/-! ### RS-422 edges (02 R73, R75) -/

/-- An edge of A or B to a level at a time (02 R73, R78). -/
def State.encoderEdge (s : State) (c : Nat) (sig : EncSignal) (level : Bool) (t : T80) : State :=
  let g := s.angleCfg c
  let x := s.angleCh c
  let prev := match sig with
    | .a => x.edgeA
    | .b => x.edgeB
  let other := match sig with
    | .a => x.edgeB
    | .b => x.edgeA
  let near : Option T80 → Bool := fun o => match o with
    | some u => decide (t < u + g.filter)
    | none => false
  let now : Bool := match sig with
    | .a => x.levelA
    | .b => x.levelB
  if g.mode ≠ 1 ∨ x.state = .lost ∨ near prev = true ∨ level = now then s
  else
    let y := match sig with
      | .a => { x with levelA := level, edgeA := some t }
      | .b => { x with levelB := level, edgeB := some t }
    if near other = true then
      let z := { y.move g (-x.lastDelta) with lastDelta := 0 }
      (s.modAngle c (fun _ => z)).illegalTransition c t
    else
      let fwd : Bool := (match sig with
        | .a => y.levelA != y.levelB
        | .b => y.levelA == y.levelB) != g.reversed
      let d : Int := if fwd then 1 else -1
      let z := { y.move g d with lastDelta := d, gridEdge := some t }
      let crossed := if fwd then z.pos % 4 == 0 else x.pos % 4 == 0
      let boundary := if fwd then z.angle g else x.angle g
      s.modAngle c (fun _ => if crossed then z.lineCrossed g boundary t fwd 0 else { z with forward := fwd })

/-- How far a position lies from zero, either way round (02 R75). -/
def AngleChannel.fromZero (x : AngleChannel) (g : AngleCfg) : Nat := min x.pos (g.perRev - x.pos)

/-- The mismatch limit at Z: one count, or an eighth of a line (02 R75). -/
def AngleCfg.zLimit (g : AngleCfg) : Nat := if g.mode = 2 then 8192 else 1

/-- A Z edge at a time: the first in forward rotation homes the channel; later ones check it (02 R75, R78). -/
def State.zEdge (s : State) (c : Nat) (t : T80) : State :=
  let g := s.angleCfg c
  let x := s.angleCh c
  let near : Bool := match x.edgeZ with
    | some u => decide (t < u + g.filter)
    | none => false
  if g.mode = 0 ∨ near = true then s
  else
    let s1 := s.modAngle c (fun y => { y with edgeZ := some t })
    if !x.forward ∨ x.state = .lost then s1
    else if !x.homed then
      s1.modAngle c (fun y => { y with homed := true, pos := if g.mode = 2 then y.pos % 65536 else 0, legalRun := 0
                                       crossings := [], reason := .noMotion })
    else if x.fromZero g > g.zLimit then s1.angleLost c .zMismatch
    else s1

/-! ### Sin/cos samples (02 R74) -/

/-- The phase within a line that the predictor gives at a time (02 R74). -/
def AngleChannel.predictedPhase (x : AngleChannel) (g : AngleCfg) (t : T80) : Int :=
  ((((x.thAt t - (g.zero : Int) * 2 ^ 16).emod (2 ^ 48)) * (g.lines : Int)).fdiv (2 ^ 32)) % 65536

/-- Whether a sample is an illegal transition (02 R74). -/
def AngleChannel.sampleIllegal (x : AngleChannel) (g : AngleCfg) (t : T80) (ph amp : Nat) : Bool :=
  (x.ampCal != 0 && decide (4 * amp < x.ampCal ∨ 4 * amp > 9 * x.ampCal)) ||
    ((x.state == .locked || x.state == .suspect) &&
      decide ((wrapSigned 16 ((ph : Int) - x.predictedPhase g t)).natAbs > 16384))

/-- A sample moves the position and may cross a line boundary (02 R76, R78). -/
def AngleChannel.takeSample (x : AngleChannel) (g : AngleCfg) (t : T80) (ph amp : Nat) : AngleChannel :=
  let old := x.pos % 65536
  let d : Int := if ph + 32768 < old then (ph : Int) + 65536 - old
    else if ph > old + 32768 then (ph : Int) - 65536 - old
    else (ph : Int) - old
  let y := x.move g d
  let crossed := x.pos / 65536 != y.pos / 65536
  if crossed then y.lineCrossed g (y.angle g) t (decide (d > 0)) amp
  else if d = 0 then y else { y with forward := decide (d > 0) }

/-- The predictor's update at a grid instant (02 R82). -/
def AngleChannel.gridUpdate (x : AngleChannel) (g : AngleCfg) (tg : T80) (m : Int) : AngleChannel :=
  match x.state with
  | .locked => { x.takeMeasurement g tg m with gridEdge := none }
  | .suspect => { x.extrapolated tg with gridEdge := none }
  | _ => { x with gridEdge := none }

/-- A grid instant of a channel; a sample's phase and squared amplitude count in sin/cos mode (02 R74,
R82). -/
def State.gridInstant (s : State) (c : Nat) (ph amp : Nat) : State :=
  let g := s.angleCfg c
  let tg := s.time.t64 / 200 * 200 * 65536
  let x := s.angleCh c
  if g.mode = 0 then s
  else if g.mode = 1 then s.modAngle c (fun y => y.gridUpdate g tg (y.measureRs g tg))
  else if x.state = .lost then s
  else if x.sampleIllegal g tg ph amp then
    (s.illegalTransition c tg).modAngle c (fun y => if y.state = .suspect then y.extrapolated tg else y)
  else
    s.modAngle c (fun y =>
      let z := y.takeSample g tg ph amp
      let m := z.th - signed56 (z.th - z.angle g)
      if y.state = .stopped then z else z.gridUpdate g tg m)

/-- The channel has stood still for StopTime (02 R78). -/
def State.stopTimePassed (s : State) (c : Nat) : Bool :=
  let x := s.angleCh c
  match x.crossings with
  | t :: _ => decide (t + (s.angleCfg c).stopTime ≤ s.t80)
  | [] => decide (x.lastIllegal + (s.angleCfg c).stopTime ≤ s.t80)

/-! ### Course marks (02 R86 to R88) -/

/-- CourseMarkChannel. -/
def State.markChannel (s : State) : Nat := s.num 0x5030 2 0

/-- The revolution of the next course mark at or after revolution `r0` (02 R86). -/
def markRev (base period r0 : Nat) : Nat :=
  let m := (((r0 : Int) - base).emod (2 ^ 24)).toNat
  let add := (period - m % period) % period
  (r0 + (if m + add ≥ 2 ^ 24 then 2 ^ 24 - m else add)) % 2 ^ 24

/-- The A56 and course number of the next course mark (02 R86, R87). -/
def State.nextMark (s : State) : Nat × Nat :=
  let angle := s.num 0x5030 1 0
  let period := max 1 (s.num 0x5030 3 1)
  let base := s.num 0x5030 4 0 % 2 ^ 24
  let now := s.publishedAngle s.markChannel
  let r0 := if now % 2 ^ 32 < angle then now / 2 ^ 32 else now / 2 ^ 32 + 1
  let r := markRev base period r0
  (r * 2 ^ 32 + angle, (((r : Int) - base).emod (2 ^ 24)).toNat / period)

/-- The next course mark, when MarkLead before it has come (02 R87). -/
def State.markDue (s : State) : Option FixedMark :=
  let x := s.angleCh s.markChannel
  let m := s.nextMark
  match x.predictTime m.1 s.t80 with
  | .at_ t =>
    if t ≤ s.t80 + s.num 0x5030 5 50 * 1000 * 65536 then some ⟨(t + 65535) / 65536, m.2⟩ else none
  | _ => none

end Sys2Proof.Machine
end

