-- ==== Sys2Proof/Machine/NiOps.lean ====
section
/-!
DEFINITION. Network interfaces: their tags, the packets they send, and the sequencers' and the Gaffer's ATOMIC
rounds (06 R209, R228, R233 to R236).
-/

namespace Sys2Proof.Machine

/-- A network interface. -/
def State.ni (s : State) (n : Nat) : Ni := tget {} s.net.nis n

/-- Changes one network interface. -/
def State.modNi (s : State) (n : Nat) (f : Ni → Ni) : State :=
  { s with net := { s.net with nis := tmod {} s.net.nis n f } }

/-- The response status as a number (06 R204). -/
def NetStatus.code : NetStatus → Nat
  | .ok => 0
  | .timeout => 1
  | .zoneDenied => 2
  | .addrErr => 3
  | .memUe => 4
  | .targetDown => 5
  | .staleEpoch => 6
  | .stageFull => 7
  | .notStaged => 8
  | .queueFull => 9
  | .unsupported => 10
  | .routeErr => 11

/-- An NI that belongs to a gated cluster (06 R231). -/
def State.niGated (s : State) (n : Nat) : Bool := decide (n < 64) && (tget {} s.array.clusters n).gated

/-- The EPO a tag is issued with next: one without an unresolved timeout (06 R228, R229). -/
def Ni.epoFor (x : Ni) (k : Nat) : Option Nat :=
  ((List.range 16).map (fun i => (tget 0 x.epos k + i) % 16)).find? (fun e =>
    !x.unresolved.any (fun u => u.1 == k && u.2.1 == e))

/-- The lowest free tag that can be issued, with its EPO (06 R209, R229). -/
def Ni.freeTag (x : Ni) : Option (Nat × Nat) :=
  (List.range 64).findSome? (fun k => if tget none x.tags k = none then (x.epoFor k).map (fun e => (k, e)) else none)

/-- Takes a tag for a transaction (06 R209, R228). -/
def State.takeTag (s : State) (n k epo : Nat) (waiting : List (Nat × Nat)) (use : TagUse) : State :=
  s.modNi n (fun x =>
    { x with epos := tset 0 x.epos k epo
             tags := tset none x.tags k (some
               { waiting := waiting, epo := epo, issuedAt := s.now, use := use
                 gated := (waiting.map (·.1)).filter s.niGated }) })

/-- The entry number that the Gaffer's and the sequencers' own traffic stands for. -/
def controlEntry : Nat := 64

/-- The initiator of an ATOMIC multicast sends STAGE to every member; the tag taken, or none where none is free
(06 R233, R235). -/
def State.sendStage (s : State) (n : Nat) (members : List Nat) (use : TagUse) (msg : StagedMsg) (hold applyOfs : Nat)
    (onCommit : Bool) : Option Nat × State :=
  match (s.ni n).freeTag with
  | none => (none, s)
  | some (k, e) =>
    let s1 := s.takeTag n k e (members.map (fun m => (m, controlEntry))) use
    let q : StageReq := { src := n, tag := k, epo := e, msg := msg, hold := hold % 2 ^ 32, applyOfs := applyOfs, onCommit := onCommit }
    (some k, members.foldl (fun t m => t.emit (.stage n m q)) s1)

/-- The initiator sends COMMIT (0x0A) or ABORT (0x0B) to every member, and waits for their answers (06 R235). -/
def State.sendDecision (s : State) (n tag zone : Nat) (members : List Nat) (commit : Bool) : State :=
  match tget none (s.ni n).tags tag with
  | none => s
  | some x =>
    let s1 := s.modNi n (fun y => { y with tags := tset none y.tags tag (some
      { x with waiting := members.map (fun m => (m, controlEntry)), oks := [], decided := true, issuedAt := s.now
               gated := members.filter s.niGated }) })
    members.foldl (fun t m => t.emit (.packet n
      { opc := if commit then 0x0A else 0x0B, zone := zone, urg := true, mc := true, dst := m, src := n, tag := tag
        epo := x.epo, addr := 0 })) s1

/-- Frees a tag (06 R209). -/
def State.freeTagOf (s : State) (n k : Nat) : State := s.modNi n (fun x => { x with tags := tset none x.tags k none })

/-- The members' OKs to a tag's STAGE so far; none where the tag is not in use. -/
def State.tagOks (s : State) (n k : Nat) : List Nat :=
  match tget none (s.ni n).tags k with
  | some t => t.oks
  | none => []

/-- A staged message leaves a member. -/
def State.unstage (s : State) (n : Nat) (p : StagedEntry → Bool) : State :=
  s.modNi n (fun x => { x with staged := x.staged.filter (fun e => !p e) })

/-- ZONE of a packet of SYS (06 R202). -/
def zoneSys : Nat := 8

end Sys2Proof.Machine
end

