-- ==== Sys2Proof/Machine/Flags.lean ====
section
/-!
DEFINITION. The arithmetic of the MAC unit and of the ALUs, with every flag they set
(03 R95 to R101, 04 R151, R153).
-/

namespace Sys2Proof.Machine

/-! ### The MAC unit -/

/-- A 40-bit accumulator value with what its check set (03 R96 fit40). -/
structure Fit where
  val : BitVec 40
  mv : Bool
  sat : Bool
  ovf : Bool
  deriving DecidableEq, Repr

/-- Fits an exact sum into 40 bits (03 R96). -/
def fit40 (v : Int) (s : Bool) : Fit :=
  if -(2 : Int) ^ 39 ≤ v ∧ v ≤ 2 ^ 39 - 1 then ⟨BitVec.ofInt 40 v, false, false, false⟩
  else if s then ⟨BitVec.ofInt 40 (if v < 0 then -(2 : Int) ^ 39 else 2 ^ 39 - 1), true, true, false⟩
  else ⟨BitVec.ofInt 40 v, true, false, true⟩

/-- The signed low half of a register (03 R94). -/
def lowHalf (a : Word) : Int := (a.extractLsb' 0 16).toInt

/-- The signed high half of a register (03 R94). -/
def highHalf (a : Word) : Int := (a.extractLsb' 16 16).toInt

/-- The exact products a MAC mode forms, real or low part first (03 R96). -/
def macProducts (mode : MacMode) (cj f : Bool) (a b : Word) : Int × Int :=
  match mode with
  | .cmac =>
    let br := lowHalf b
    let bi := if cj then -(highHalf b) else highHalf b
    let pr := lowHalf a * br - highHalf a * bi
    let pi := lowHalf a * bi + highHalf a * br
    if f then (pr * 2, pi * 2) else (pr, pi)
  | .dmac =>
    let pr := lowHalf a * lowHalf b
    let pi := highHalf a * highHalf b
    if f then (pr * 2, pi * 2) else (pr, pi)
  | .wmac => ((a.toInt * lowHalf b).fdiv (2 ^ (if f then 15 else 16)), 0)

/-- What a MAC slot writes: the accumulators, MV, a half or a whole register, and sticky bits. -/
structure MacOut where
  re : Option (BitVec 40) := none
  im : Option (BitVec 40) := none
  mv : Option Bool := none
  reg : Option (Reg × Word) := none
  sat : Bool := false
  ovf : Bool := false
  deriving DecidableEq, Repr

/-- The multiply operations in their three forms (03 R96). -/
def macMultiply (mode : MacMode) (form : MacForm) (f s cj : Bool) (a b : Word) (re im : BitVec 40) : MacOut :=
  let p := macProducts mode cj f a b
  let sgn : Int := if form = .sub then -1 else 1
  let r0 : Int := if form = .mul then 0 else re.toInt
  let i0 : Int := if form = .mul then 0 else im.toInt
  let r := fit40 (r0 + sgn * p.1) s
  let i := fit40 (i0 + sgn * p.2) s
  match mode with
  | .wmac => { re := some r.val, mv := some r.mv, sat := r.sat, ovf := r.ovf }
  | _ => { re := some r.val, im := some i.val, mv := some (r.mv || i.mv), sat := r.sat || i.sat,
           ovf := r.ovf || i.ovf }

/-- An extracted value with what its check set (03 R97). -/
structure Ext where
  val : Int
  sat : Bool
  ovf : Bool
  deriving DecidableEq, Repr

/-- Extraction with rounding and saturation (03 R97, R98). -/
def extract (acc : BitVec 40) (n : Nat) (rnd : BitVec 2) (width : Nat) (s : Bool) : Ext :=
  let v := acc.toInt
  let q0 := v.fdiv (2 ^ n)
  let rem := v - q0 * 2 ^ n
  let q :=
    if n = 0 then q0
    else
      let half : Int := 2 ^ (n - 1)
      if rnd = 1 ∧ rem ≥ half then q0 + 1
      else if rnd = 2 ∧ (rem > half ∨ (rem = half ∧ q0.emod 2 = 1)) then q0 + 1
      else q0
  let lo : Int := -(2 ^ (width - 1))
  let hi : Int := 2 ^ (width - 1) - 1
  if q < lo ∨ q > hi then
    if s then ⟨if q < lo then lo else hi, true, false⟩ else ⟨wrapSigned width q, false, true⟩
  else ⟨q, false, false⟩

/-- A register whose chosen half takes a value (03 R97, 04 R153 MOVH). -/
def putHalf (old : Word) (hi : Bool) (v : BitVec 16) : Word :=
  if hi then v ++ old.extractLsb' 0 16 else old.extractLsb' 16 16 ++ v

/-- What a MAC slot does from the registers and accumulators as they stood (04 R151). -/
def macSlot (op : MacOp) (rd : Reg → Word) (re im : BitVec 40) : MacOut :=
  match op with
  | .nop => {}
  | .mul mode form f s cj a b => macMultiply mode form f s cj (rd a) (rd b) re im
  | .extH s r n useIm hi d =>
    let e := extract (if useIm then im else re) n.toNat r 16 s
    { reg := some (d, putHalf (rd d) hi (BitVec.ofInt 16 e.val)), sat := e.sat, ovf := e.ovf }
  | .extW s r n useIm d =>
    let e := extract (if useIm then im else re) n.toNat r 32 s
    { reg := some (d, BitVec.ofInt 32 e.val), sat := e.sat, ovf := e.ovf }
  | .extC s r n d =>
    let e := extract re n.toNat r 16 s
    let g := extract im n.toNat r 16 s
    { reg := some (d, BitVec.ofInt 16 g.val ++ BitVec.ofInt 16 e.val), sat := e.sat || g.sat,
      ovf := e.ovf || g.ovf }
  | .lda s n useIm c a =>
    if c then
      let r := fit40 (lowHalf (rd a) * 2 ^ n.toNat) s
      let i := fit40 (highHalf (rd a) * 2 ^ n.toNat) s
      { re := some r.val, im := some i.val, mv := some (r.mv || i.mv), sat := r.sat || i.sat,
        ovf := r.ovf || i.ovf }
    else
      let r := fit40 ((rd a).toInt * 2 ^ n.toNat) s
      { re := if useIm then none else some r.val, im := if useIm then some r.val else none,
        mv := some r.mv, sat := r.sat, ovf := r.ovf }
  | .aclr cre cim =>
    { re := if cre then some 0 else none, im := if cim then some 0 else none, mv := some false }
  | .asum s =>
    let r := fit40 (re.toInt + im.toInt) s
    { re := some r.val, mv := some r.mv, sat := r.sat, ovf := r.ovf }

/-! ### The ALUs -/

/-- What an ALU operation gives: the value, the flags after it, and sticky bits. -/
structure AluOut where
  val : Word
  flags : AluFlags
  sat : Bool := false
  ovf : Bool := false
  deriving DecidableEq, Repr

/-- Z and N of a result, C and V as they stood (03 R101). -/
def flagsZN (f : AluFlags) (v : Word) : AluFlags := { f with z := v == 0, n := v.getLsbD 31 }

/-- An exact signed result in 32 bits, saturating or wrapping (03 R99, R101). -/
def fitSigned (f : AluFlags) (exact : Int) (c s : Bool) : AluOut :=
  let outs := decide (exact < -(2 : Int) ^ 31 ∨ exact > 2 ^ 31 - 1)
  let v := BitVec.ofInt 32 (if outs && s then (if exact < 0 then -(2 : Int) ^ 31 else 2 ^ 31 - 1) else exact)
  { val := v, flags := { flagsZN f v with c := c, v := outs }, sat := outs && s, ovf := outs && !s }

/-- An exact unsigned result in 32 bits, saturating or wrapping (03 R101). -/
def fitUnsigned (f : AluFlags) (exact : Int) (c s : Bool) : AluOut :=
  let outs := decide (exact < 0 ∨ exact > 2 ^ 32 - 1)
  let v := BitVec.ofInt 32 (if outs && s then (if exact < 0 then 0 else 2 ^ 32 - 1) else exact)
  { val := v, flags := { flagsZN f v with c := c, v := outs }, sat := outs && s, ovf := outs && !s }

/-- The carry of a + b (03 R100). -/
def carryAdd (w a b : Nat) : Bool := decide (a + b ≥ 2 ^ w)

/-- The carry of a - b: 1 when no borrow occurs (03 R100). -/
def carrySub (a b : Nat) : Bool := decide (a ≥ b)

/-- One signed 16-bit half, saturating or wrapping: value and overflow (03 R101). -/
def fitHalf (exact : Int) (s : Bool) : BitVec 16 × Bool :=
  let outs := decide (exact < -(2 : Int) ^ 15 ∨ exact > 2 ^ 15 - 1)
  (BitVec.ofInt 16 (if outs && s then (if exact < 0 then -(2 : Int) ^ 15 else 2 ^ 15 - 1) else exact), outs)

/-- A paired 16-bit result: Z of both halves, N and C of the high half, V of either (03 R101). -/
def pairOut (f : AluFlags) (lo hi : BitVec 16 × Bool) (c s : Bool) : AluOut :=
  let v : Word := hi.1 ++ lo.1
  let outs := lo.2 || hi.2
  { val := v, flags := { f with z := v == 0, n := v.getLsbD 31, c := c, v := outs },
    sat := outs && s, ovf := outs && !s }

/-- A result that leaves C and V as they were (03 R101). -/
def plainOut (f : AluFlags) (v : Word) : AluOut := { val := v, flags := flagsZN f v }

/-- Shift left: V when significant bits are lost; S then clamps as an arithmetic value (04 R153). -/
def shlOut (f : AluFlags) (a : Word) (n : Nat) (s : Bool) : AluOut :=
  let exact := a.toInt * 2 ^ n
  let r := fitSigned f exact f.c s
  { r with flags := { r.flags with c := f.c } }

/-- The number of redundant sign bits of a, 0 to 31 (04 R153 NORM): how many of bits 30 down to `w`
equal the sign before the first that differs. -/
def signRun (a : Word) : Nat → Nat
  | 0 => 0
  | w + 1 => if a.getLsbD w = a.getLsbD 31 then signRun a w + 1 else 0

/-- T.STATUS as a word (03 R100). -/
def statusWord (t : TileStatus) : Word :=
  let b (x : Bool) (k : Nat) : Word := if x then BitVec.ofNat 32 (2 ^ k) else 0
  b t.a.z 0 ||| b t.a.n 1 ||| b t.a.c 2 ||| b t.a.v 3 ||| b t.b.z 4 ||| b t.b.n 5 ||| b t.b.c 6 |||
    b t.b.v 7 ||| b t.sat 8 ||| b t.ovf 9 ||| b t.mv 10

/-- The register-form operations (04 R153). -/
def aluReg (op : AluReg) (s : Bool) (a b : Word) (f : AluFlags) (st : TileStatus) : AluOut :=
  match op with
  | .add => fitSigned f (a.toInt + b.toInt) (carryAdd 32 a.toNat b.toNat) s
  | .sub | .cmp => fitSigned f (a.toInt - b.toInt) (carrySub a.toNat b.toNat) s
  | .addu => fitUnsigned f (a.toNat + b.toNat) (carryAdd 32 a.toNat b.toNat) s
  | .subu => fitUnsigned f ((a.toNat : Int) - b.toNat) (carrySub a.toNat b.toNat) s
  | .add2 =>
    pairOut f (fitHalf (lowHalf a + lowHalf b) s) (fitHalf (highHalf a + highHalf b) s)
      (carryAdd 16 (a.toNat / 65536) (b.toNat / 65536)) s
  | .sub2 =>
    pairOut f (fitHalf (lowHalf a - lowHalf b) s) (fitHalf (highHalf a - highHalf b) s)
      (carrySub (a.toNat / 65536) (b.toNat / 65536)) s
  | .neg => fitSigned f (-a.toInt) (carrySub 0 a.toNat) s
  | .abs => let r := fitSigned f (if a.toInt < 0 then -a.toInt else a.toInt) f.c s
            { r with flags := { r.flags with c := f.c } }
  | .min => plainOut f (if a.toInt ≤ b.toInt then a else b)
  | .max => plainOut f (if a.toInt ≤ b.toInt then b else a)
  | .and | .tst => plainOut f (a &&& b)
  | .or => plainOut f (a ||| b)
  | .xor => plainOut f (a ^^^ b)
  | .andn => plainOut f (a &&& ~~~b)
  | .mov => plainOut f a
  | .shl => shlOut f a (b.toNat % 32) s
  | .shr => plainOut f (a >>> (b.toNat % 32))
  | .sar => plainOut f (a.sshiftRight (b.toNat % 32))
  | .ror => plainOut f (a.rotateRight (b.toNat % 32))
  | .norm => plainOut f (BitVec.ofNat 32 (signRun a 31))
  | .pack => plainOut f (b.extractLsb' 0 16 ++ a.extractLsb' 0 16)
  | .rds => { val := statusWord st, flags := f }
  | .hadd2 =>
    plainOut f (BitVec.ofInt 16 ((highHalf a + highHalf b).fdiv 2) ++
      BitVec.ofInt 16 ((lowHalf a + lowHalf b).fdiv 2))
  | .hsub2 =>
    plainOut f (BitVec.ofInt 16 ((highHalf a - highHalf b).fdiv 2) ++
      BitVec.ofInt 16 ((lowHalf a - lowHalf b).fdiv 2))

/-- The immediate-form operations other than CLRS (04 R153). -/
def aluImm (op : AluImm) (s : Bool) (a : Word) (i : BitVec 8) (f : AluFlags) (st : TileStatus) : AluOut :=
  match op with
  | .addi => aluReg .add s a (i.signExtend 32) f st
  | .andi => aluReg .and s a (i.zeroExtend 32) f st
  | .ori => aluReg .or s a (i.zeroExtend 32) f st
  | .xori => aluReg .xor s a (i.zeroExtend 32) f st
  | .shli => aluReg .shl s a (i.zeroExtend 32) f st
  | .shri => aluReg .shr s a (i.zeroExtend 32) f st
  | .sari => aluReg .sar s a (i.zeroExtend 32) f st
  | .rori => aluReg .ror s a (i.zeroExtend 32) f st
  | .cmpi => aluReg .cmp s a (i.signExtend 32) f st
  | .clrs => { val := 0, flags := f }

/-- Whether a register-form operation writes d (04 R153). -/
def aluRegWrites : AluReg → Bool
  | .cmp | .tst => false
  | _ => true

/-- Whether an immediate-form operation writes d (04 R153). -/
def aluImmWrites : AluImm → Bool
  | .cmpi | .clrs => false
  | _ => true

/-- What an ALU slot or an ALU2 does: a register, the flags of the ALU it ran on, sticky bits. -/
structure AluSlotOut where
  reg : Option (Reg × Word) := none
  flags : Option (Bool × AluFlags) := none
  sat : Bool := false
  ovf : Bool := false
  clrSat : Bool := false
  clrOvf : Bool := false
  deriving DecidableEq, Repr

/-- The flags of the ALU that U names (04 R152). -/
def aluFlagsOf (st : TileStatus) (u : Bool) : AluFlags := if u then st.b else st.a

/-- One register-form operation on the ALU that U names. -/
def runAluReg (op : AluReg) (u s : Bool) (d a b : Reg) (rd : Reg → Word) (st : TileStatus) : AluSlotOut :=
  let o := aluReg op s (rd a) (rd b) (aluFlagsOf st u) st
  { reg := if aluRegWrites op then some (d, o.val) else none, flags := some (u, o.flags),
    sat := o.sat, ovf := o.ovf }

/-- One immediate-form operation on the ALU that U names. -/
def runAluImm (op : AluImm) (u s : Bool) (d a : Reg) (i : BitVec 8) (rd : Reg → Word) (st : TileStatus) :
    AluSlotOut :=
  if op = .clrs then { clrSat := i.getLsbD 0, clrOvf := i.getLsbD 1 }
  else
    let o := aluImm op s (rd a) i (aluFlagsOf st u) st
    { reg := if aluImmWrites op then some (d, o.val) else none, flags := some (u, o.flags),
      sat := o.sat, ovf := o.ovf }

/-- What an ALU slot does (04 R152, R153). -/
def aluSlot (op : AluOp) (rd : Reg → Word) (st : TileStatus) : AluSlotOut :=
  match op with
  | .nop | .mask _ => {}
  | .reg o u s d a b => runAluReg o u s d a b rd st
  | .imm o u s d a i => runAluImm o u s d a i rd st
  | .const .movl d i => { reg := some (d, i.signExtend 32) }
  | .const .movlu d i => { reg := some (d, i.zeroExtend 32) }
  | .const .movh d i => { reg := some (d, putHalf (rd d) true i) }

/-- The ALU an ALU2 runs on: B, unless the ALU slot's register or immediate form uses B (04 R154). -/
def alu2Unit (alu : AluOp) : Bool :=
  match alu with
  | .reg _ u _ _ _ _ => !u
  | .imm _ u _ _ _ _ => !u
  | _ => true

/-- Whether a condition holds on the flags as they stood (04 R158). -/
def condHolds (u : Bool) (cond : BitVec 4) (st : TileStatus) : Bool :=
  let f := aluFlagsOf st u
  match cond.toNat with
  | 0 => true
  | 1 => f.z
  | 2 => !f.z
  | 3 => f.n != f.v
  | 4 => f.n == f.v
  | 5 => !f.z && f.n == f.v
  | 6 => f.z || f.n != f.v
  | 7 => !f.c
  | 8 => f.c
  | 9 => f.c && !f.z
  | 10 => !f.c || f.z
  | 11 => f.n
  | 12 => !f.n
  | 13 => f.v
  | 14 => !f.v
  | _ => st.sat

end Sys2Proof.Machine
end

