-- ==== Sys2Proof/Machine/Operands.lean ====
section
/-!
DEFINITION. The operand forms of a tile's memory slot: AGU addresses and indices, the data address
space, and the images of STM and LDM (03 R103 to R109, R119, R120, 04 R155, R156).
-/

namespace Sys2Proof.Machine

/-- L of an AGU; 0 stands for 8,192 (03 R129). -/
def Agu.length (g : Agu) : Nat := if g.len = 0 then 8192 else g.len.toNat

/-- ESZ in bytes (03 R129); code 3 is illegal and never reaches an access. -/
def Agu.bytes (g : Agu) : Nat := 2 ^ (g.esz.toNat + 1)

/-- The address of an access: base + index x ESZ in the 20-bit space (03 R103). -/
def Agu.address (g : Agu) : Nat := (g.base.toNat + g.idx.toNat * g.bytes) % 2 ^ 20

/-- The low k bits of v in reverse order (03 R104). -/
def revBits : Nat → Nat → Nat
  | 0, _ => 0
  | k + 1, v => (v % 2) * 2 ^ k + revBits k (v / 2)

/-- The next index by a step, per mode (03 R104). -/
def nextIndex (i : Nat) (step : Int) (l : Nat) (mode : BitVec 2) : Nat :=
  match mode.toNat with
  | 0 => (((i : Int) + step).emod 8192).toNat
  | 1 => (((i : Int) + step).emod l).toNat
  | _ =>
    let k := l.log2
    revBits k ((revBits k i + revBits k (step.emod (2 ^ k)).toNat) % l)

/-- Whether ESZ and MODE are legal and BITREV meets its rule (03 R105, R129). -/
def Agu.legal (g : Agu) : Bool :=
  g.esz != 3 && g.mode != 3 &&
    (g.mode != 2 ||
      (decide (2 ≤ g.length ∧ g.length ≤ 4096 ∧ 2 ^ g.length.log2 = g.length) &&
        decide (g.base.toNat % (g.length * g.bytes) = 0)))

/-- The AGU with its index advanced by the step (03 R103, R104). -/
def Agu.advance (g : Agu) : Agu :=
  { g with idx := BitVec.ofNat 13 (nextIndex g.idx.toNat g.step.toInt g.length g.mode) }

/-- The AGU with its index advanced by a number of bytes over ESZ (04 R155, PM of STM and LDM). -/
def Agu.advanceBytes (g : Agu) (n : Nat) : Agu :=
  { g with idx := BitVec.ofNat 13 (nextIndex g.idx.toNat ((n / g.bytes : Nat) : Int) g.length g.mode) }

/-- The AGU after an AMOD (04 R156). -/
def Agu.amod (g : Agu) (sub : AmodSub) (a : Word) : Agu :=
  match sub with
  | .step => g.advance
  | .seti =>
    let i := a.toNat % 8192
    { g with idx := BitVec.ofNat 13 (if g.mode = 0 then i else i % g.length) }
  | .setb => { g with base := a.extractLsb' 0 20, esz := a.extractLsb' 20 2, mode := a.extractLsb' 22 2 }
  | .setm => { g with len := a.extractLsb' 0 13, step := a.extractLsb' 16 13 }

/-- The AGU fields of descriptor words 2 and 3, or 4 and 5, with the index at 0 (03 R129, R131). -/
def Agu.ofWords (w2 w3 : Word) : Agu :=
  (({} : Agu).amod .setb w2).amod .setm w3

/-- T.AnB: base, ESZ and MODE in the word-2 layout (03 R139). -/
def Agu.wordB (g : Agu) : Nat := g.base.toNat + g.esz.toNat * 2 ^ 20 + g.mode.toNat * 2 ^ 22

/-- T.AnM: L and step in the word-3 layout (03 R139). -/
def Agu.wordM (g : Agu) : Nat := g.len.toNat + g.step.toNat * 2 ^ 16

/-- Where a data address lies (03 R106). -/
inductive DataSpace where
  | tile (offset : Nat)
  | cluster (offset : Nat)
  | none
  deriving DecidableEq, Repr

/-- The data address space of a tile; a spill region belongs to none (03 R106, R116). -/
def dataSpace (addr : Nat) : DataSpace :=
  if addr < 0x4000 then .tile addr
  else if 0x40000 ≤ addr ∧ addr < 0x80000 then
    (if addr % 0x10000 ≥ 0xF000 then .none else .cluster (addr - 0x40000))
  else .none

/-- Bytes of an access size (04 R155). -/
def memBytes : MemSize → Nat
  | .h => 2
  | .w => 4
  | .d => 8

/-- The address of LDR and STR (04 R155). -/
def regOffset (a : Word) (off : BitVec 8) : Nat :=
  ((((a.toNat % 2 ^ 20 : Nat) : Int) + 4 * off.toInt).emod (2 ^ 20)).toNat

/-- The tile-memory bank of an address (03 R107). -/
def tileBank (addr : Nat) : Nat := addr / 8 % 2

/-! ### STM and LDM images -/

/-- One element of an STM or LDM image: a register, or an accumulator (03 R119). -/
inductive MultElem where
  | reg (r : Nat)
  | accRe
  | accIm
  deriving DecidableEq, Repr

/-- The registers a mask selects, ascending (03 R119). -/
def maskRegs (m : BitVec 18) : List Nat := maskBits (m.toNat % 65536) 16

/-- The elements of an image with their offsets, in ascending address order (03 R119). -/
def multImage (m : BitVec 18) : List (Nat × MultElem) :=
  let regs := maskRegs m
  let rl := (regs.zipIdx).map (fun p => (4 * p.2, MultElem.reg p.1))
  let base := (4 * regs.length + 7) / 8 * 8
  let re := if m.getLsbD 16 then [(base, MultElem.accRe)] else []
  let im := if m.getLsbD 17 then [(base + 8 * re.length, MultElem.accIm)] else []
  rl ++ re ++ im

/-- The image's length, rounded up to a multiple of 8 bytes (04 R155). -/
def multLength (m : BitVec 18) : Nat :=
  let regs := (maskRegs m).length
  (4 * regs + 7) / 8 * 8 + (if m.getLsbD 16 then 8 else 0) + (if m.getLsbD 17 then 8 else 0)

/-- Whether progress marks an element done (03 R121). -/
def MProg.isDone (p : MProg) : MultElem → Bool
  | .reg r => p.doneD.getLsbD r
  | .accRe => p.doneAcc.getLsbD 0
  | .accIm => p.doneAcc.getLsbD 1

/-- Progress with an element marked done (03 R121). -/
def MProg.mark (p : MProg) : MultElem → MProg
  | .reg r => { p with doneD := p.doneD ||| BitVec.ofNat 16 (2 ^ r) }
  | .accRe => { p with doneAcc := p.doneAcc ||| 1 }
  | .accIm => { p with doneAcc := p.doneAcc ||| 2 }

/-- T.MPROG as a word (03 R121). -/
def MProg.word (p : MProg) : Nat :=
  p.doneD.toNat + p.doneAcc.toNat * 2 ^ 16 + p.mpc.toNat * 2 ^ 18 + (if p.load then 2 ^ 30 else 0) +
    (if p.active then 2 ^ 31 else 0)

/-- The elements of the next beat: those of the first aligned 8-byte word with one not yet done
(03 R120, R122). -/
def nextBeat (m : BitVec 18) (p : MProg) : List (Nat × MultElem) :=
  match (multImage m).filter (fun e => !p.isDone e.2) with
  | [] => []
  | e :: t => e :: t.filter (fun x => x.1 / 8 = e.1 / 8)

/-- How many beats an image takes (03 R120). -/
def beatCount (m : BitVec 18) : Nat := multLength m / 8

end Sys2Proof.Machine
end

