-- ==== Sys2Proof/Machine/TileOps.lean ====
section
/-!
DEFINITION. The operations on tiles, clusters and lanes: where a tile lies, its memories, its switch, its
context changes (03 R92, R106 to R118, R131 to R137, 05 R162 to R170).
-/

namespace Sys2Proof.Machine

/-! ### Units of the array by number -/

/-- A tile. -/
def State.tile (s : State) (t : Nat) : Tile := tget {} s.array.tiles t

/-- Changes one tile. -/
def State.modTile (s : State) (t : Nat) (f : Tile → Tile) : State :=
  { s with array := { s.array with tiles := tmod {} s.array.tiles t f } }

/-- A cluster. -/
def State.cluster (s : State) (c : Nat) : Cluster := tget {} s.array.clusters c

/-- Changes one cluster. -/
def State.modCluster (s : State) (c : Nat) (f : Cluster → Cluster) : State :=
  { s with array := { s.array with clusters := tmod {} s.array.clusters c f } }

/-- A task. -/
def State.task (s : State) (n : Nat) : Task := tget {} s.array.tasks n

/-- Changes one task. -/
def State.modTask (s : State) (n : Nat) (f : Task → Task) : State :=
  { s with array := { s.array with tasks := tmod {} s.array.tasks n f } }

/-- A bridge record. -/
def State.bridge (s : State) (k : Nat) : Bridge := tget {} s.array.bridges k

/-- Changes one bridge record. -/
def State.modBridge (s : State) (k : Nat) (f : Bridge → Bridge) : State :=
  { s with array := { s.array with bridges := tmod {} s.array.bridges k f } }

/-! ### Where things lie -/

/-- The cluster of a tile (03 R92). -/
def tileCluster (t : Nat) : Nat := 8 * (t / 32 / 4) + t % 32 / 4

/-- The local index of a tile in its cluster (03 R92). -/
def localIndex (t : Nat) : Nat := t % 32 % 4 + 4 * (t / 32 % 4)

/-- The tiles of a cluster, by local index (03 R92). -/
def clusterTiles (c : Nat) : List Nat :=
  (List.range 16).map (fun i => 32 * (4 * (c / 8) + i / 4) + 4 * (c % 8) + i % 4)

/-- The cluster offset of a tile's spill region (03 R116). -/
def spillBase (t : Nat) : Nat := 0x10000 * (localIndex t / 4) + 0xF000 + 0x400 * (localIndex t % 4)

/-- Z0's cluster map, from the Quench fuse words Z0MAP_LO and Z0MAP_HI (01 R33, 10 R367). -/
def State.z0Map (s : State) : Nat := tget 0 s.quench.words 0 + tget 0 s.quench.words 1 * 2 ^ 32

/-- ClusterMap of a zone (05 R170). -/
def State.zoneMap (s : State) (z : Nat) : Nat := if z = 0 then s.z0Map else s.num (0x3000 + z) 1 0

/-- The zone a cluster lies in, if any (05 R170). -/
def State.zoneOfCluster (s : State) (c : Nat) : Option Nat :=
  (List.range 8).find? (fun z => (s.zoneMap z).testBit c)

/-- The clusters of a zone, ascending. -/
def State.zoneClusters (s : State) (z : Nat) : List Nat := maskBits (s.zoneMap z) 64

/-- The leader of a zone: its lowest-numbered cluster (05 R172). -/
def State.leader (s : State) (z : Nat) : Option Nat := (s.zoneClusters z).head?

/-! ### Addressed memories -/

/-- The canonical form of an addressed memory: addresses strictly rising, and no entry equal to the 0 that an
unlisted address reads as (log 5). -/
def Memory.wf (m : List Host.Cell) : Bool := twf 0 m

/-- `n` bytes from an address as a number, least significant byte first (00 R12). -/
def readBytes (m : List (Nat × Byte)) (a n : Nat) : Nat :=
  ofBytesLE ((List.range n).map (fun i => (tget 0 m (a + i)).toNat))

/-- Writes the `n` low bytes of a number from an address, least significant byte first (00 R12). -/
def writeBytes (m : List (Nat × Byte)) (a : Nat) : Nat → Nat → List (Nat × Byte)
  | 0, _ => m
  | n + 1, v => writeBytes (tset 0 m a (BitVec.ofNat 8 v)) (a + 1) n (v / 256)

/-- Removes the upset marks of words `lo` to `lo + n - 1`: their check bits are written anew. -/
def clearUpsets (u : Tab Nat) (lo n : Nat) : Tab Nat := u.filter (fun p => p.1 < lo || lo + n ≤ p.1)

/-- The worst upset among words `lo` to `lo + n - 1`, and how many are correctable. -/
def upsetsIn (u : Tab Nat) (lo n : Nat) : Bool × Nat :=
  let l := (List.range n).map (fun i => tget 0 u (lo + i))
  (l.any (fun x => decide (x ≥ 2)), (l.filter (· = 1)).length)

/-- Reads `n` bytes for a tile: the value and the corrected errors of tile memory, or MEM_UE
(03 R93, R108). -/
def State.readSpace (s : State) (t : Nat) (sp : DataSpace) (n : Nat) : Except TileCause (Nat × Nat) :=
  match sp with
  | .tile a =>
    let tl := s.tile t
    let u := upsetsIn tl.upsets (a / 4) ((a + n - 1) / 4 - a / 4 + 1)
    if u.1 then .error .memUe else .ok (readBytes tl.mem a n, u.2)
  | .cluster a =>
    let c := s.cluster (tileCluster t)
    if (upsetsIn c.upsets (a / 8) ((a + n - 1) / 8 - a / 8 + 1)).1 then .error .memUe
    else .ok (readBytes c.mem a n, 0)
  | .none => .error .address

/-- Whether a tile's store of `n` bytes is refused with MEM_UE: the read half of a 16-bit store meets an
uncorrectable word (03 R108). -/
def State.storeUe (s : State) (t : Nat) (sp : DataSpace) (n : Nat) : Bool :=
  match sp with
  | .tile a => decide (n < 4) && (upsetsIn (s.tile t).upsets (a / 4) 1).1
  | _ => false

/-- Stores the `n` low bytes of `v` for a tile; whole words get fresh check bits (03 R93, R108). -/
def State.writeSpace (s : State) (t : Nat) (sp : DataSpace) (n v : Nat) : State :=
  match sp with
  | .tile a => s.modTile t (fun x =>
      { x with mem := writeBytes x.mem a n v, upsets := clearUpsets x.upsets (a / 4) ((n + 3) / 4) })
  | .cluster a => s.modCluster (tileCluster t) (fun x =>
      { x with mem := writeBytes x.mem a n v
               upsets := if n = 8 then clearUpsets x.upsets (a / 8) 1 else x.upsets })
  | .none => s

/-! ### Registers of a tile -/

/-- A physical window. -/
def Tile.window (x : Tile) (w : Nat) : Window := tget {} x.win w

/-- Changes one physical window. -/
def Tile.modWindow (x : Tile) (w : Nat) (f : Window → Window) : Tile := { x with win := tmod {} x.win w f }

/-- Register `r` of window `w`. -/
def Tile.reg (x : Tile) (w r : Nat) : Word := tget 0 (x.window w).d r

/-- Writes register `r` of window `w`. -/
def Tile.setReg (x : Tile) (w r : Nat) (v : Word) : Tile :=
  x.modWindow w (fun y => { y with d := tset 0 y.d r v })

/-- Register `r` of the current window (03 R94). -/
def Tile.rd (x : Tile) (r : Reg) : Word := x.reg x.cwp.toNat r.toNat

/-- Word `j` of the descriptor of slot `k`; slot 15 is all zero (03 R128, R139). -/
def Tile.descWord (x : Tile) (k j : Nat) : Word := if k = 15 then 0 else tget 0 x.desc (8 * k + j)

/-- VALID of a slot (03 R129). -/
def Tile.slotValid (x : Tile) (k : Nat) : Bool := (x.descWord k 0).getLsbD 29

/-- CBASE of the current context (03 R129). -/
def Tile.cbase (x : Tile) : Nat := ((x.descWord x.ctx 0).extractLsb' 9 9).toNat

/-- CLIMIT of the current context (03 R129). -/
def Tile.climit (x : Tile) : Nat := ((x.descWord x.ctx 0).extractLsb' 18 9).toNat

/-- Whether an instruction address lies in the current code region (03 R130). -/
def Tile.inCode (x : Tile) (p : Nat) : Bool := decide (x.cbase ≤ p ∧ p ≤ x.climit)

/-- SWCFG of the current context (05 R164). -/
def Tile.swcfg (x : Tile) : BitVec 64 := x.descWord x.ctx 7 ++ x.descWord x.ctx 6

/-- T.MPROG, T.STATUS and PC as the spill header holds them, with the cause (03 R117). -/
def spillHeader (x : Tile) (cause : Nat) : List (Nat × Nat) :=
  [(0, x.ctx + x.frames * 2 ^ 4 + cause * 2 ^ 16), (4, x.pc.toNat), (8, x.mprog.word),
   (12, (statusWord x.status).toNat)]

/-- The fault cause codes of R138 and R167; the spec gives PEER_FAULT no code (log 26). -/
def TileCause.code : TileCause → Nat
  | .none => 0x00
  | .illegal => 0x01
  | .pcRange => 0x02
  | .align => 0x03
  | .address => 0x04
  | .memUe => 0x05
  | .imemUe => 0x06
  | .stackDepth => 0x07
  | .stackUnder => 0x08
  | .rptDepth => 0x09
  | .rptNest => 0x0A
  | .rptExit => 0x0B
  | .spillUe => 0x0C
  | .ctxEmpty => 0x0D
  | .trap => 0x0E
  | .laneUnrouted => 0x10
  | .laneParity => 0x11
  | .peerFault => Config.peerFaultCode

/-- Writes the header beat of a tile's spill region (03 R117, R137). -/
def State.writeSpillHeader (s : State) (t cause : Nat) : State :=
  (spillHeader (s.tile t) cause).foldl
    (fun u p => u.modCluster (tileCluster t) (fun c => { c with mem := writeBytes c.mem (spillBase t + p.1) 4 p.2 })) s

/-! ### The lane fabric (05 R162 to R170) -/

/-- Where an output port leads (05 R163, R169). -/
inductive LaneEnd where
  | tile (t q : Nat)
  | dio (y : Nat)
  | none
  deriving DecidableEq, Repr

/-- The port that faces port `p` across its lane (04 R159). -/
def facing (p : Nat) : Nat := 4 * (p / 4) + (p % 4 + 2) % 4

/-- The tile that port `p` of tile `t` reaches, when it lies in the array; S is +y (04 R159, 05 R163,
06 R198). -/
def laneTile (t p : Nat) : Option Nat :=
  let d := if p ≥ 4 then 4 else 1
  let x := t % 32
  let y := t / 32
  match p % 4 with
  | 0 => if y ≥ d then some (t - 32 * d) else none
  | 1 => if x + d < 32 then some (t + d) else none
  | 2 => if y + d < 32 then some (t + 32 * d) else none
  | _ => if x ≥ d then some (t - d) else none

/-- Where output port `p` of tile `t` leads (05 R163, R169). -/
def laneEnd (t p : Nat) : LaneEnd :=
  match laneTile t p with
  | some u => .tile u (facing p)
  | none => if p = 1 ∧ t % 32 = 31 ∧ t / 32 < 24 then .dio (t / 32) else .none

/-- Whether an open bridge serves lanes from cluster `a` to cluster `b` (05 R173). -/
def State.bridged (s : State) (a b : Nat) : Bool :=
  s.array.bridges.any (fun e => e.2.opened &&
    ((e.2.a == a && e.2.b == b && e.2.dir != 2) || (e.2.a == b && e.2.b == a && e.2.dir != 1)))

/-- Whether a lane between two tiles carries tokens: its clusters share a zone, or a bridge serves it
(05 R170). -/
def State.laneOpen (s : State) (t u : Nat) : Bool :=
  let a := tileCluster t
  let b := tileCluster u
  (match s.zoneOfCluster a with
   | some z => (s.zoneMap z).testBit b
   | none => a == b) || s.bridged a b

/-- OSEL of an output port (05 R164). -/
def osel (cfg : BitVec 64) (p : Nat) : Nat := (cfg.extractLsb' (4 * p) 4).toNat

/-- The outputs that an input port feeds (05 R164). -/
def feeds (cfg : BitVec 64) (q : Nat) : List Nat := (List.range 8).filter (fun p => osel cfg p = 8 + q)

/-- SINK of an input port (05 R164). -/
def sinkOn (cfg : BitVec 64) (q : Nat) : Bool := cfg.getLsbD (40 + q)

/-- CMP of an output port (05 R164). -/
def cmpOn (cfg : BitVec 64) (p : Nat) : Bool := cfg.getLsbD (48 + p)

/-- Whether the tile's task no longer takes tokens from outside: it is draining (05 R187). -/
def State.closedIn (s : State) (t : Nat) : Bool :=
  match (s.tile t).owner with
  | some n => (s.task n).state == .draining
  | none => false

/-- Whether an output's far end has room for a token (05 R162, R165, R168, R170, R187). -/
def State.hasRoom (s : State) (t p : Nat) : Bool :=
  match laneEnd t p with
  | .tile u q =>
    let x := s.tile u
    x.ctx != 15 && s.laneOpen t u && !(s.cluster (tileCluster u)).gated &&
      (sinkOn x.swcfg q || decide ((tget [] x.inbuf q).length < 2)) &&
      !(s.closedIn u && s.zoneOfCluster (tileCluster t) != s.zoneOfCluster (tileCluster u))
  | .dio y =>
    s.num (0x9100 + y) 1 0 == 4 && decide ((tget {} s.io.dio y).outTokens.length < 2)
  | .none => false

/-- The comparator side a tile's output port feeds: channel number and whether it is side B (10 R383). -/
def State.cmpSide (s : State) (t p : Nat) : Option (Nat × Bool) :=
  match s.quench.cmp.find? (fun c => c.2.portA == t * 8 + p || c.2.portB == t * 8 + p) with
  | some c => some (c.1, c.2.portA != t * 8 + p)
  | none => none

/-- Whether the comparator can take a token of an output (10 R384). -/
def State.cmpRoom (s : State) (t p : Nat) : Bool :=
  match s.cmpSide t p with
  | some (k, b) => match alook s.quench.cmp k with
    | some c => decide ((if b then c.queueB else c.queueA).length < 8)
    | none => true
  | none => true

/-- Changes one comparator channel. -/
def State.modCmp (s : State) (k : Nat) (f : CmpChannel → CmpChannel) : State :=
  { s with quench := { s.quench with cmp := s.quench.cmp.map (fun p => if p.1 = k then (p.1, f p.2) else p) } }

/-- A token that leaves an output with CMP enters its comparator queue (10 R384). -/
def State.toComparator (s : State) (t p : Nat) (v : Word) : State :=
  match s.cmpSide t p with
  | some (k, true) => s.modCmp k (fun c => { c with queueB := c.queueB ++ [(v, s.now)] })
  | some (k, false) => s.modCmp k (fun c => { c with queueA := c.queueA ++ [(v, s.now)] })
  | none => s

/-- Changes one DIO pin. -/
def State.modPin (s : State) (y : Nat) (f : DioPin → DioPin) : State :=
  { s with io := { s.io with dio := tmod {} s.io.dio y f } }

/-- A token arrives at input port `q` of tile `u`: discarded with a parity error, discarded and counted with
SINK, otherwise buffered (05 R162, R165, R167). -/
def State.arrive (s : State) (u q : Nat) (v : Word) : State :=
  let x := s.tile u
  if x.parityPort = some q then s.modTile u (fun y => { y with parityPort := none, parityHit := true })
  else if sinkOn x.swcfg q then
    match x.owner with
    | some n => s.modTask n (fun k => { k with flushed := inc32 k.flushed })
    | none => s
  else s.modTile u (fun y => { y with inbuf := tmod [] y.inbuf q (· ++ [v]) })

/-- A token leaves output port `p` of tile `t` onto its lane (05 R163, R169). -/
def State.sendLane (s : State) (t p : Nat) (v : Word) : State :=
  match laneEnd t p with
  | .tile u q => s.arrive u q v
  | .dio y => s.modPin y (fun d => { d with outTokens := d.outTokens ++ [v] })
  | .none => s

/-- A token leaves output port `p`: to the comparator when CMP is set, and to its lane unless the port's
OSEL is off (05 R164, 10 R383). -/
def State.leave (s : State) (t p : Nat) (v : Word) : State :=
  let cfg := (s.tile t).swcfg
  let s1 := if cmpOn cfg p then s.toComparator t p v else s
  if osel cfg p = 0 then s1 else s1.sendLane t p v

/-- Whether output port `p` can send a token now. -/
def State.outReady (s : State) (t p : Nat) : Bool :=
  let cfg := (s.tile t).swcfg
  (!cmpOn cfg p || s.cmpRoom t p) && (osel cfg p == 0 || s.hasRoom t p)

/-- The first input port of a tile whose oldest token can move on: through the switch, or into SINK
(05 R165). -/
def State.movable (s : State) (t : Nat) : Option Nat :=
  let x := s.tile t
  if x.ctx = 15 ∨ x.inbuf = [] then none
  else (List.range 8).find? (fun q =>
    !(tget [] x.inbuf q).isEmpty &&
      (sinkOn x.swcfg q || (!(feeds x.swcfg q).isEmpty && (feeds x.swcfg q).all (s.outReady t))))

/-- Moves the oldest token of input port `q` on (05 R165). -/
def State.passOne (s : State) (t q : Nat) : State :=
  match tget [] (s.tile t).inbuf q with
  | [] => s
  | v :: rest =>
    let s1 := s.modTile t (fun x => { x with inbuf := tset [] x.inbuf q rest })
    if sinkOn (s.tile t).swcfg q then s1.arrive t q v
    else (feeds (s.tile t).swcfg q).foldl (fun u p => u.leave t p v) s1

/-- A token that a STREAM_IN pin holds can enter the W port of its tile (05 R169, 15 R570). -/
def State.pinReady (s : State) (t : Nat) : Bool :=
  let x := s.tile t
  decide (t % 32 = 0 ∧ t / 32 < 24) && !(tget {} s.io.dio (t / 32)).tokens.isEmpty &&
    s.num (0x9100 + t / 32) 1 0 == 3 && x.ctx != 15 && !s.closedIn t && !(s.cluster (tileCluster t)).gated &&
    (sinkOn x.swcfg 3 || decide ((tget [] x.inbuf 3).length < 2))

/-- The oldest token of a STREAM_IN pin enters the W port of its tile (15 R570). -/
def State.pinToLane (s : State) (t : Nat) : State :=
  match (tget {} s.io.dio (t / 32)).tokens with
  | [] => s
  | v :: rest => (s.modPin (t / 32) (fun d => { d with tokens := rest })).arrive t 3 v

/-- The tiles whose lanes meet tile `t`. -/
def laneNeighbours (t : Nat) : List Nat := (List.range 8).filterMap (laneTile t)

/-- Lets tokens pass through the switches of the listed tiles, and of those that their moves free or
reach, until none can move or the bound is met (05 R165, log 31). -/
def settle : Nat → List Nat → State → State
  | 0, _, s => s
  | _ + 1, [], s => s
  | n + 1, t :: w, s =>
    match s.movable t with
    | some q => settle n (t :: laneNeighbours t ++ w) (s.passOne t q)
    | none => if s.pinReady t then settle n (t :: w) (s.pinToLane t) else settle n w s

/-- The bound on moves that one command lets through. -/
def settleBound : Nat := 4096

/-- Settles the lanes around one tile. -/
def State.settleAt (s : State) (t : Nat) : State := settle settleBound (t :: laneNeighbours t) s

/-! ### Context changes (03 R131 to R137) -/

/-- The rank of a switch trigger by its reason, 1 highest (03 R133). -/
def CtxReason.rank : CtxReason → Nat
  | .quench => 1
  | .cancel => 2
  | .fault => 3
  | .commit => 4
  | .dispatch => 5
  | .instr => 6
  | .none => 7

/-- A tile enters a slot: a fresh entry, or context 15, where registers and progress stand as they are
(03 R118, R131, R136). -/
def Tile.enter (x : Tile) (k : Nat) (r : CtxReason) : Tile :=
  let y := { x with ctx := k, prev := x.ctx, reason := r, swcnt := x.swcnt + 1, trapping := none,
                    waiting := none, rxHeld := none }
  if k = 15 then y
  else
    let w0 := x.descWord k 0
    { y with pc := w0.extractLsb' 0 9, cwp := w0.extractLsb' 27 2, frames := 1, res := 1, rep := [],
             mprog := {}, baseHeld := none,
             agu0 := Agu.ofWords (x.descWord k 2) (x.descWord k 3),
             agu1 := Agu.ofWords (x.descWord k 4) (x.descWord k 5),
             status := { x.status with sat := false, ovf := false } }

/-- Sends a tile to context 15 at once, lanes settling after; behind a window trap it waits (03 R134). -/
def State.stopTile (s : State) (t : Nat) (r : CtxReason) : State :=
  let x := s.tile t
  if x.trapping.isSome then
    s.modTile t (fun y => { y with waiting := match y.waiting with
      | some (k, q) => if r.rank < q.rank then some (15, r) else some (k, q)
      | none => some (15, r) })
  else (s.modTile t (fun y => y.enter 15 r)).settleAt t

/-- T.FAULT of a tile stopped by a fault. -/
def Tile.setFault (x : Tile) (c : TileCause) : Tile :=
  { x with faultValid := true, faultCause := c, faultPc := x.pc }

end Sys2Proof.Machine
end

