-- ==== Sys2Proof/Machine/TaskOps.lean ====
section
/-!
DEFINITION. The operations on stream tasks: triggers, dispatch, ends, stops and faults, and the tile faults
that cause them (03 R133 to R138, 05 R175 to R195).
-/

namespace Sys2Proof.Machine

/-! ### What a task is made of -/

/-- The clusters a task's tiles lie in, ascending (05 R175). -/
def Task.clusters (k : Task) : List Nat :=
  (List.range 64).filter (fun c => k.tiles.any (fun p => tileCluster p.1 == c))

/-- Whether a task's tiles lie in more than one cluster (05 R182, R183). -/
def Task.multi (k : Task) : Bool := decide (1 < k.clusters.length)

/-- The clusters in which a stop of a task acts at once: its own cluster, or its zone leader's
(05 R188, R189). -/
def State.homeClusters (s : State) (n : Nat) : List Nat :=
  let k := s.task n
  if k.multi then (s.leader k.zone).toList else k.clusters

/-- Whether a task is ARMED, READY, RUNNING or DRAINING. -/
def Task.live (k : Task) : Bool :=
  k.state == .armed || k.state == .ready || k.state == .running || k.state == .draining

/-- Whether a task owns its tiles (05 R177). -/
def Task.owning (k : Task) : Bool := k.state == .running || k.state == .draining

/-- A task number as the index of an alarm or a record. -/
def State.taskList (s : State) : List Nat := s.array.tasks.map (·.1)

/-! ### Triggers (05 R179, R180, R183) -/

/-- The leader of a multi-cluster task chooses the start tick and sends STAGE to the task's clusters (05 R183,
06 R235, R236). -/
def State.stageStart (s : State) (n : Nat) : State :=
  let k := s.task n
  let tick := s.now + k.startLead
  let z := (s.leader k.zone).getD 0
  let x := s.sendStage z k.clusters (.start n) (.taskStart n tick) (s.time.t64 + k.startLead - 1) 1 false
  x.2.modTask n (fun y =>
    { y with start := some { tick := tick, tag := x.1, acks := [], committed := false, holders := [], drainAtStart := false } })

/-- The leader sends COMMIT or ABORT to the clusters of a start (06 R235). -/
def State.decideStart (s : State) (n : Nat) (commit : Bool) : State :=
  let k := s.task n
  let z := (s.leader k.zone).getD 0
  match k.start.bind (·.tag) with
  | some tag => s.sendDecision z tag k.zone k.clusters commit
  | none => s

/-- A task becomes READY; the leader of a multi-cluster task starts its round (05 R182, R183). -/
def State.becomeReady (s : State) (n : Nat) : State :=
  let s1 := s.modTask n (fun k => { k with state := .ready, readyAt := s.now, start := none })
  if (s.task n).multi then s1.stageStart n else s1

/-- A trigger of a task fires (05 R180). -/
def State.fireTrigger (s : State) (n : Nat) : State :=
  let k := s.task n
  if k.live then
    let s1 := s.modTask n (fun x => { x with triggers := inc32 x.triggers })
    if k.state = .armed then s1.becomeReady n
    else if k.pending then s1.modTask n (fun x => { x with overruns := inc32 x.overruns })
    else s1.modTask n (fun x => { x with pending := true })
  else s

/-- A task becomes ARMED; an IMMEDIATE trigger fires (05 R178, R179). -/
def State.armTask (s : State) (n : Nat) : State :=
  let s1 := s.modTask n (fun k => { k with state := .armed, reason := .none, waking := [], pending := false })
  if (s1.task n).kind = .immediate then s1.fireTrigger n else s1

/-- The triggers of the CHAIN successors of a task that has ended (05 R179, R186). -/
def State.fireChain (s : State) (n : Nat) : State :=
  s.taskList.foldl (fun u m =>
    let k := u.task m
    if k.kind = .chain ∧ k.param % 256 = n ∧ k.zone = (u.task n).zone then u.fireTrigger m else u) s

/-- Appends words to a task's input queue, or none when they do not fit or the queue takes no word
(05 R187, 06 R203); a QUEUE trigger fires when the threshold is reached (05 R179). -/
def State.pushQueue (s : State) (n : Nat) (words : List Nat) : Option State :=
  let k := s.task n
  if k.state = .absent ∨ k.state = .draining ∨ k.queue.length + words.length > k.queueSize then none
  else
    let s1 := s.modTask n (fun x => { x with queue := x.queue ++ words })
    let th := k.param % 65536
    if k.kind = .queue ∧ k.queue.length < th ∧ th ≤ k.queue.length + words.length then some (s1.fireTrigger n)
    else some s1

/-! ### Stops (05 R187 to R192) -/

/-- Switches the listed tiles to context 15 and frees them; when another tile's fault is the cause they
record PEER_FAULT (05 R188, R189). -/
def State.stopTiles (s : State) (ts : List Nat) (r : CtxReason) (peer : Bool) : State :=
  ts.foldl (fun u t =>
    let u1 := if peer then u.modTile t (fun x => x.setFault .peerFault) else u
    (u1.stopTile t r).modTile t (fun x => { x with owner := none })) s

/-- The tiles of a task that it owns in the given clusters. -/
def State.ownedIn (s : State) (n : Nat) (cs : List Nat) : List Nat :=
  ((s.task n).tiles.map (·.1)).filter (fun t => (s.tile t).owner == some n && cs.contains (tileCluster t))

/-- The record a task keeps of a stop: its pending flag and start are gone and a flush is due (05 R188,
R192). -/
def Task.stopped (k : Task) (st : TaskState) (r : TaskReason) : Task :=
  { k with state := st, reason := r, pending := false, start := none, ended := [], flushDue := true,
           aborts := 0, waking := [] }

/-- A task is stopped: its tiles in the named clusters switch to context 15 now, the others when the
leader's message reaches them (05 R187, R188, R190). -/
def State.stopTask (s : State) (n : Nat) (cs : List Nat) (r : TaskReason) (q : CtxReason) : State :=
  let owned := if (s.task n).owning then s.ownedIn n cs else []
  (s.stopTiles owned q false).modTask n (fun k => k.stopped .stopped r)

/-- A task becomes FAULTED (05 R183, R185, R189). -/
def State.faultTask (s : State) (n : Nat) (cause tile : Nat) : State :=
  s.modTask n (fun k => { k.stopped .faulted .none with faultCause := cause, faultTile := tile })

/-- A cancel of a task in ARMED or READY (05 R184, R188). -/
def State.cancelPre (s : State) (n : Nat) : State :=
  (s.stopTask n [] .cancelledPre .cancel).modTask n (fun k => { k with cancelledPre := inc32 k.cancelledPre })

/-- The drain edge of a RUNNING task (05 R187). -/
def State.drainTask (s : State) (n : Nat) (at_ : Nat) : State :=
  s.modTask n (fun k => { k with state := .draining, drainAt := at_ })

/-- A task of Z0 takes a quench stop (05 R190). -/
def State.quenchTask (s : State) (n : Nat) : State :=
  if (s.task n).zone = 0 ∧ (s.task n).live then
    s.modTask n (fun k => k.stopped .stopped .quench)
  else s

/-- The quench stop: every tile of Z0 switches to context 15 at rank 1, and Z0 tasks stop with QUENCH
(05 R190, 10 R369). -/
def State.quenchStop (s : State) : State :=
  let tiles := (s.zoneClusters 0).flatMap clusterTiles
  let s1 := tiles.foldl (fun u t => (u.stopTile t .quench).modTile t (fun x => { x with owner := none })) s
  let s2 := s1.taskList.foldl State.quenchTask s1
  { s2 with quench := { s2.quench with stopDue := false } }

/-! ### Faults (03 R137, 05 R189) -/

/-- Bytes of a number in the store's order (00 R12). -/
def le (n v : Nat) : List Nat := bytesLE n v

/-- The fault-log record of a tile fault (17 R622). -/
def State.recordTileFault (s : State) (t : Nat) (c : TileCause) : State :=
  let x := s.tile t
  s.record .general .fault (tileCluster t) (0x0200 + c.code)
    (le 2 t ++ le 2 x.pc.toNat ++ le 1 (x.owner.getD 0) ++ le 1 x.ctx ++ le 1 ((x.descWord x.ctx 1).toNat % 256))

/-- A fault in a tile of a task: the task's other tiles in that cluster stop, and the task is FAULTED
(05 R189). -/
def State.taskFault (s : State) (n t : Nat) (c : TileCause) : State :=
  if (s.task n).owning then
    let others := (s.ownedIn n [tileCluster t]).filter (· ≠ t)
    ((s.stopTiles others .cancel true).modTile t (fun x => { x with owner := none })).faultTask n c.code t
  else s.modTile t (fun x => { x with owner := none })

/-- A tile faults: T.FAULT, the spill header, the record, the switch at rank 3, and its task (03 R137,
05 R189). -/
def State.tileFault (s : State) (t : Nat) (c : TileCause) : State :=
  let own := (s.tile t).owner
  let s1 := ((s.modTile t (fun x => x.setFault c)).writeSpillHeader t c.code).recordTileFault t c
  let s2 := s1.stopTile t .fault
  match own with
  | some n => s2.taskFault n t c
  | none => s2

/-! ### Switches and ends (03 R133, 05 R186) -/

/-- Every tile of the task has reached context 15 by its own CTX: the task ends (05 R186). -/
def State.taskEnd (s : State) (n : Nat) : State :=
  let k := s.task n
  let s1 := (k.tiles.map (·.1)).foldl (fun u t => u.modTile t (fun x =>
    if x.owner = some n then { x with owner := none } else x)) s
  let s2 := s1.modTask n (fun x => { x with ended := [], flushDue := true, pending := false })
  let s3 :=
    if k.rearm then
      if k.pending then (s2.modTask n (fun x => { x with reason := .none })).becomeReady n else s2.armTask n
    else s2.modTask n (fun x => { x with state := .stopped, reason := .done })
  s3.fireChain n

/-- A tile has reached context 15 by its own CTX (05 R186). -/
def State.tileEnded (s : State) (t : Nat) : State :=
  match (s.tile t).owner with
  | none => s
  | some n =>
    let s1 := s.modTask n (fun k => { k with ended := if t ∈ k.ended then k.ended else t :: k.ended })
    let k := s1.task n
    if k.state = .running ∧ (k.tiles.map (·.1)).all (fun u => u ∈ k.ended) then s1.taskEnd n else s1

/-- A switch trigger takes effect at a tile: behind a window trap it waits by rank, to an invalid slot it
faults with CTX_EMPTY, otherwise the tile enters the slot (03 R131, R133, R134). -/
def State.switchTile (s : State) (t k : Nat) (r : CtxReason) : State :=
  let x := s.tile t
  if x.trapping.isSome then
    s.modTile t (fun y => { y with waiting := match y.waiting with
      | some (j, q) => if r.rank < q.rank then some (k, r) else some (j, q)
      | none => some (k, r) })
  else if k ≠ 15 ∧ !x.slotValid k then s.tileFault t .ctxEmpty
  else
    let s1 := (s.modTile t (fun y => y.enter k r)).settleAt t
    if k = 15 ∧ r = .instr then s1.tileEnded t else s1

/-! ### Dispatch (05 R181 to R186) -/

/-- Whether every tile of a task is unowned. -/
def State.tilesFree (s : State) (n : Nat) : Bool :=
  (s.task n).tiles.all (fun p => (s.tile p.1).owner.isNone)

/-- Every tile of a task takes its dispatch, and the task is RUNNING (05 R182, R183). -/
def State.startTask (s : State) (n : Nat) : State :=
  let s1 := s.modTask n (fun k =>
    { k with state := .running, reason := .none, lastStart := s.time.t64, ended := [], start := none,
             aborts := 0 })
  let s2 := (s.task n).tiles.foldl (fun u p => u.modTile p.1 (fun x => { x with owner := some n })) s1
  (s.task n).tiles.foldl (fun u p => u.switchTile p.1 p.2 .dispatch) s2

/-- Whether task `a` is dispatched before task `b`: higher priority, then earlier READY edge, then lower
number (05 R181). -/
def State.before (s : State) (a b : Nat) : Bool :=
  let x := s.task a
  let y := s.task b
  decide (x.priority > y.priority) ||
    (x.priority == y.priority && (decide (x.readyAt < y.readyAt) || (x.readyAt == y.readyAt && decide (a < b))))

/-- The task that a cluster's sequencer dispatches next (05 R181, R182). -/
def State.nextDispatch (s : State) (c : Nat) : Option Nat :=
  (s.taskList.filter (fun n =>
    let k := s.task n
    k.state == .ready && k.clusters == [c] && decide (k.readyAt < s.now) && s.tilesFree n)).foldl
    (fun best n => match best with
      | some b => if s.before n b then some n else some b
      | none => some n) none

/-- A start failure: the tiles that started are cancelled and the task is FAULTED with a record
(05 R183, R185). -/
def State.startFail (s : State) (n : Nat) (code c : Nat) : State :=
  let z := (s.leader (s.task n).zone).getD 0
  let s1 := s.record .general .fault z (0x0200 + code) [n, z, c]
  let s2 := if (s1.task n).owning then s1.stopTiles (s1.ownedIn n (s1.task n).clusters) .cancel false else s1
  s2.faultTask n code 0

end Sys2Proof.Machine
end

