-- ==== Sys2Proof/Machine/RingOps.lean ====
section
/-!
DEFINITION. The operations on rings and ring controllers: their ends, the frames they send, the noisy window,
and breaks (08 R280 to R315).
-/

namespace Sys2Proof.Machine

/-! ### Rings and controllers by number -/

/-- A ring. -/
def State.ringAt (s : State) (r : Nat) : Ring := tget {} s.ring.rings r

/-- Changes one ring. -/
def State.modRing (s : State) (r : Nat) (f : Ring → Ring) : State :=
  { s with ring := { s.ring with rings := tmod {} s.ring.rings r f } }

/-- A ring controller. -/
def State.rc (s : State) (m : Nat) : RingController := tget {} s.ring.rcs m

/-- Changes one ring controller. -/
def State.modRc (s : State) (m : Nat) (f : RingController → RingController) : State :=
  { s with ring := { s.ring with rcs := tmod {} s.ring.rcs m f } }

/-- A head record of the device. -/
def Ring.headRec (x : Ring) (p : Nat) : HeadRec := tget {} x.recs p

/-- Changes one head record. -/
def Ring.modRec (x : Ring) (p : Nat) (f : HeadRec → HeadRec) : Ring := { x with recs := tmod {} x.recs p f }

/-- A head, by ring and place counted from the A end. -/
def State.headAt (s : State) (r p : Nat) : Head := tget {} s.ring.heads (r * 128 + p)

/-- Changes one head. -/
def State.modHead (s : State) (r p : Nat) (f : Head → Head) : State :=
  { s with ring := { s.ring with heads := tmod {} s.ring.heads (r * 128 + p) f } }

/-- The NI of ring controller m (06 R199). -/
def niRc (m : Nat) : Nat := [72, 73, 76, 77].getD m 72

/-! ### What a ring sends (08 R287, R296, R310, R313) -/

/-- An end that the device feeds (08 R280, R310). -/
def Ring.feeds (x : Ring) (e : RingEnd) : Bool :=
  x.state != .off && (match e with
    | .a => true
    | .b => x.fedB)

/-- The ends that the device feeds. -/
def Ring.fedEnds (x : Ring) : List RingEnd := [RingEnd.a, RingEnd.b].filter x.feeds

/-- The end that feeds a position: B for segment B in WRAP (08 R280, R310). -/
def Ring.endOf (x : Ring) (p : Nat) : RingEnd :=
  if x.state = .wrap ∧ x.segBStart ≠ 0 ∧ x.segBStart ≤ p then .b else .a

/-- Sends one frame on an end: FSEQ rises for each frame the sender originates there (08 R287). -/
def State.sendFrame (s : State) (r : Nat) (e : RingEnd) (dst : Nat) (body : FrameBody) (echo : Bool := false) :
    State :=
  let x := s.ringAt r
  let q := match e with
    | .a => (x.fseqA + 1) % 65536
    | .b => (x.fseqB + 1) % 65536
  (s.modRing r (fun y => match e with
    | .a => { y with fseqA := q }
    | .b => { y with fseqB := q })).emit (.frame { ring := r, end_ := e, echo, dst, fseq := q, body })

/-- Sends one frame to a position, on the end that feeds it. -/
def State.sendTo (s : State) (r p : Nat) (body : FrameBody) (echo : Bool := false) : State :=
  s.sendFrame r ((s.ringAt r).endOf p) p body echo

/-- Sends one frame to every head, on every end the device feeds. -/
def State.sendAll (s : State) (r : Nat) (body : FrameBody) : State :=
  (s.ringAt r).fedEnds.foldl (fun u e => u.sendFrame r e 0xFF body) s

/-- Whether a ring carries events to a position (08 R310, R313). -/
def Ring.reaches (x : Ring) (p : Nat) : Bool :=
  match x.state with
  | .closed => decide (1 ≤ p ∧ p ≤ x.headCount)
  | .wrap => decide (1 ≤ p ∧ p ≤ x.segAEnd) || (x.segBStart != 0 && decide (x.segBStart ≤ p ∧ p ≤ x.lastCount))
  | .renumber => decide (1 ≤ p ∧ p ≤ x.headCount)
  | _ => false

/-- The delay from the feeding end to a position, in 2^-16 ns: D_p (08 R299). -/
def Ring.delayTo (x : Ring) (p : Nat) : Nat :=
  match x.endOf p with
  | .a => (x.headRec p).delayA
  | .b => (x.headRec p).delayB

/-- A ring controller treats the safety state as QUENCHED until the fourth QUENCH = 0 frame on every fed end
(10 R372). -/
def State.ringQuenched (s : State) (r : Nat) : Bool :=
  let x := s.ringAt r
  !s.armed || decide (x.goodSafeA < 4) || (x.fedB && decide (x.goodSafeB < 4))

/-! ### Noise shaping (08 R314, R315) -/

/-- Bursts held in all 64 bins. -/
def histTotal (h : Tab Nat) : Nat := ((List.range 64).map (tget 0 h)).sum

/-- A noisy bin holds at least 8 bursts and at least 4 times the mean of all bins (08 R315). -/
def noisyBin (h : Tab Nat) (i : Nat) : Bool :=
  decide (8 ≤ tget 0 h i ∧ 4 * histTotal h ≤ 64 * tget 0 h i)

/-- Whether bin `i` lies in the window: a noisy bin lies within `g` bins of it (08 R315). -/
def windowBin (h : Tab Nat) (g i : Nat) : Bool :=
  (List.range (2 * g + 1)).any (fun k => noisyBin h ((i + 64 + k - g) % 64))

/-- GuardBins of a controller (08 R316). -/
def State.guardBins (s : State) (m : Nat) : Nat := min 4 (s.num (0x4700 + m) 5 1)

/-- The bins of a controller's noisy window (08 R315). -/
def State.windowBins (s : State) (m : Nat) : List Nat :=
  (List.range 64).filter (windowBin (s.rc m).hist (s.guardBins m))

/-- Shaping in force: enabled, and a window that covers no more than 32 bins (08 R315). -/
def State.shaping (s : State) (m : Nat) : Bool :=
  s.flagOn (0x4700 + m) 4 true && decide ((s.windowBins m).length ≤ 32) && !(s.windowBins m).isEmpty

/-- NOISEMAP of a TIME frame: no bit while shaping is off or suspended (08 R290, R315). -/
def State.noiseMap (s : State) (m : Nat) : Nat := if s.shaping m then bitsMask (s.windowBins m) else 0

/-- How far a time lies into its mains period (08 R314). -/
def RingController.offset (c : RingController) (t : T64) : Nat :=
  (((t : Int) - c.phase0).emod (max 1 c.period)).toNat

/-- The mains-phase bin of a time (08 R314). -/
def RingController.bin (c : RingController) (t : T64) : Nat := 64 * c.offset t / max 1 c.period

/-- Whether a time lies in the noisy window of a controller in force. -/
def State.inWindow (s : State) (m : Nat) (t : T64) : Bool :=
  s.shaping m && (s.windowBins m).contains ((s.rc m).bin t)

/-- How many window bins precede bin `i` without a gap. -/
def runBefore (w : List Nat) : Nat → Nat → Nat
  | 0, _ => 0
  | n + 1, i => if w.contains ((i + 63) % 64) then runBefore w n ((i + 63) % 64) + 1 else 0

/-- How many window bins follow bin `i` without a gap, itself included. -/
def runFrom (w : List Nat) : Nat → Nat → Nat
  | 0, _ => 0
  | n + 1, i => if w.contains i then runFrom w n ((i + 1) % 64) + 1 else 0

/-- The last bin boundary before the window that a time lies in (09 R329). -/
def State.windowStart (s : State) (m : Nat) (t : T64) : Int :=
  let c := s.rc m
  let b := c.bin t
  let k : Int := (b : Int) - runBefore (s.windowBins m) 64 b
  (t : Int) - c.offset t + (k * c.period).fdiv 64

/-- The beginning of the first bin after the window that a time lies in (09 R329). -/
def State.windowEnd (s : State) (m : Nat) (t : T64) : Int :=
  let c := s.rc m
  let b := c.bin t
  (t : Int) - c.offset t + (((b + runFrom (s.windowBins m) 64 b : Nat) : Int) * c.period).fdiv 64

/-- Symbols of a frame with a payload of `len` bytes, at 5 ns each (08 R283, R286). -/
def frameTime (len : Nat) : Nat := 5 * (len + 14)

/-- Whether a deferrable frame of `len` payload bytes may start now: the whole frame fits before the next noisy
bin begins (08 R315). -/
def State.mayDefer (s : State) (m len : Nat) : Bool :=
  let t := s.time.t64
  !s.shaping m || (List.range (frameTime len + 1)).all (fun d => !s.inWindow m (t + d))

/-- The other nominal period: 20 ms or 16.667 ms (08 R314). -/
def otherNominal (p : Nat) : Nat := if p < 18000000 then 20000000 else 16666667

/-- AUTO keeps the histogram whose largest bin holds the greater share after 256 bursts (08 R314). -/
def RingController.judge (c : RingController) : RingController :=
  if c.decided ∨ c.bursts < 256 then c
  else
    let top := fun (h : Tab Nat) => (List.range 64).foldl (fun m i => max m (tget 0 h i)) 0
    if top c.hist * histTotal c.other ≥ top c.other * histTotal c.hist then { c with decided := true, other := [] }
    else { c with decided := true, hist := c.other, other := [], period := otherNominal c.period }

/-- A burst adds 1 to the bin of its first error, and while AUTO decides to the bin of the other period (08 R314). -/
def RingController.burst (c : RingController) (auto : Bool) (t : T64) : RingController :=
  let p2 := otherNominal c.period
  let b2 := 64 * (((t : Int) - c.phase0).emod p2).toNat / p2
  let c1 := { c with lastError := some t, bursts := c.bursts + 1, window := t :: c.window
                     hist := tset 0 c.hist (c.bin t) (tget 0 c.hist (c.bin t) + 1)
                     other := if auto ∧ !c.decided then tset 0 c.other b2 (tget 0 c.other b2 + 1) else c.other }
  if auto then c1.judge else c1

/-- Alarm NOISE_WIDE stands while the window covers more than 32 bins, and shaping is suspended (08 R315). -/
def State.noiseWide (s : State) (m : Nat) : State :=
  if (s.windowBins m).length ≤ 32 then s.clearAlarm 0x0405 m
  else if s.alarmOn 0x0405 m then s
  else s.alarm .alarm 0x0405 m [4 * m]

/-- An error at one of a controller's receivers: it starts or extends a burst (08 R314). -/
def State.ringError (s : State) (m : Nat) : State :=
  let t := s.time.t64
  let fresh := match (s.rc m).lastError with
    | some u => decide (u + 2000 ≤ t)
    | none => true
  (s.modRc m (fun x => if fresh then x.burst (s.num (0x4700 + m) 1 0 == 0) t else { x with lastError := some t })).noiseWide m

/-- A frame with an error is not accepted: it is counted and starts or extends a burst (08 R288, R314). -/
def State.badFrame (s : State) (r : Nat) : State :=
  (s.modRing r (fun x => { x with fcsErrors := inc32 x.fcsErrors })).ringError (r / 4)

/-- The nominal mains period of a controller: as *MainsNominal* says, or the one AUTO keeps (08 R314). -/
def State.nominalPeriod (s : State) (m : Nat) : Nat :=
  match s.num (0x4700 + m) 1 0 with
  | 1 => 20000000
  | 2 => 16666667
  | _ => if (s.rc m).period < 18000000 then 16666667 else 20000000

/-- The mains periods within ±0.5 Hz of a nominal one, in ns (08 R314). -/
def periodRange (nominal : Nat) : Nat × Nat := if nominal < 18000000 then (16528926, 16806722) else (19801981, 20202020)

/-- The rising edge of an input that a controller takes its mains phase from: PHASE0, and P where it lies within
±0.5 Hz of nominal (08 R314). -/
def State.mainsEdge (s : State) (m : Nat) (t : T64) : State :=
  let r := periodRange (s.nominalPeriod m)
  s.modRc m (fun c =>
    let p : Nat := match c.mainsEdge with
      | some u => t - u
      | none => 0
    { c with mainsEdge := some t, phase0 := t, period := if r.1 ≤ p ∧ p ≤ r.2 then p else c.period })

/-- A rising edge of a DIO input reaches the controllers that take their mains phase from it (08 R314, 15 R570). -/
def State.mainsEdges (s : State) (y : Nat) (t : T64) : State :=
  (List.range 4).foldl (fun u m =>
    if u.num (0x4700 + m) 2 0 = 1 ∧ u.num (0x4700 + m) 3 0 = y then u.mainsEdge m t else u) s

end Sys2Proof.Machine
end

