-- ==== Sys2Proof/Machine/EventOps.lean ====
section
/-!
DEFINITION. The operations on event queues and firing groups: records, completion tokens, predictions, sends,
withdrawals and the groups' ends (09 R317 to R345, 02 R91).
-/

namespace Sys2Proof.Machine

/-! ### Records (09 R319, R333, R338) -/

/-- Bits `lo` to `lo + n - 1` of a record word. -/
def fieldOf (w : BitVec 64) (lo n : Nat) : Nat := (w.extractLsb' lo n).toNat

/-- Whether an action code is defined (09 R333). -/
def actDefined (a : Nat) : Bool := decide (1 ≤ a ∧ a ≤ 5 ∨ 0x80 ≤ a ∧ a ≤ 0xFF)

/-- The EVENTS section of the active blank of a zone (09 R320, R322). -/
def State.sectionOf (s : State) (zone : Nat) : Option EventsSection :=
  (s.ring.sections.find? (fun e => e.2.zones.contains zone)).map (·.2)

/-- The position, channel, action and parameter an event record names: its own fields, or those of its
template; none where no template fits (09 R319, R320). -/
def State.recordTarget (s : State) (r zone : Nat) (w : BitVec 64) : Option EventTemplate :=
  if w.getLsbD 13 then
    match s.sectionOf zone with
    | some x => match x.templates[fieldOf w 0 10]? with
      | some t => if t.ring = r ∧ fieldOf w 16 8 = 0 ∧ fieldOf w 24 16 = 0 then some t else none
      | none => none
    | none => none
  else some { ring := r, pos := fieldOf w 4 6 + 1, ch := fieldOf w 0 4, act := fieldOf w 16 8, param := fieldOf w 24 16 }

/-- The key of an event record, none where a field that must be 0 is not (09 R319). -/
def recordKey (w k : BitVec 64) : Option EventKey :=
  if w.getLsbD 10 then
    (if k.extractLsb' 56 8 = 0 then some (.angle (if w.getLsbD 11 then 1 else 0) k.toNat) else none)
  else if w.getLsbD 11 then none
  else some (.time k.toNat)

/-- Whether a key's angle channel is off (09 R320). -/
def State.keyOff (s : State) : EventKey → Bool
  | .time _ => false
  | .angle c _ => s.num (0x5000 + c) 1 0 == 0

/-! ### Completion tokens (09 R324) -/

/-- The completion codes (09 R324). -/
inductive Completion where
  | done
  | evqFull
  | missed
  | unreachable
  | bad
  | quenched
  | withdrawn
  | groupDone
  | groupUnconfirmed
  | groupBusy
  deriving DecidableEq, Repr

/-- CODE of a completion (09 R324). -/
def Completion.code : Completion → Nat
  | .done => 0x01
  | .evqFull => 0x02
  | .missed => 0x03
  | .unreachable => 0x04
  | .bad => 0x05
  | .quenched => 0x06
  | .withdrawn => 0x07
  | .groupDone => 0x10
  | .groupUnconfirmed => 0x11
  | .groupBusy => 0x12

/-- Whether a completion is sent only when RPT is set (09 R324). -/
def Completion.onReport : Completion → Bool
  | .done | .quenched | .withdrawn => true
  | _ => false

/-- What a token names besides its code (09 R324). -/
structure TokenOf where
  pos : Nat := 1
  ch : Nat := 0
  eid : Nat := 0
  tag : Nat := 0
  suspect : Bool := false
  noEcho : Bool := false
  deriving DecidableEq, Repr

/-- Word 0 of a completion token (09 R324). -/
def tokenWord (r : Nat) (c : Completion) (t : TokenOf) : Nat :=
  c.code + r % 4 * 2 ^ 8 + (if t.suspect then 2 ^ 12 else 0) + (if t.noEcho then 2 ^ 13 else 0) +
    (t.pos - 1) % 64 * 2 ^ 16 + t.ch % 16 * 2 ^ 22 + t.eid % 65536 * 2 ^ 32 + t.tag % 65536 * 2 ^ 48

/-- Pushes a completion token to a task's input queue; it is dropped and counted when it does not go in
(09 R324). -/
def State.pushToken (s : State) (r task : Nat) (c : Completion) (t : TokenOf) (word1 : Nat) : State :=
  match s.pushQueue task [tokenWord r c t, word1] with
  | some u => u
  | none => s.modRing r (fun x => { x with completionsLost := inc32 x.completionsLost })

/-- The counter of a ring that a completion raises (09 R358). -/
def Ring.countCompletion (x : Ring) : Completion → Ring
  | .missed => { x with missed := inc32 x.missed }
  | .unreachable => { x with unreachable := inc32 x.unreachable }
  | .evqFull => { x with evqFull := inc32 x.evqFull }
  | _ => x

/-- Refuses a record with a completion (09 R320, R321). -/
def State.refuseRecord (s : State) (r : Nat) (c : Completion) (task : Nat) (t : TokenOf) : State :=
  (s.modRing r (fun x => x.countCompletion c)).pushToken r task c t s.time.t64

/-! ### Pending events -/

/-- A pending event by its number. -/
def Ring.event? (x : Ring) (uid : Nat) : Option QEvent := x.events.find? (fun e => e.uid = uid)

/-- Changes one pending event. -/
def State.modEvent (s : State) (r uid : Nat) (f : QEvent → QEvent) : State :=
  s.modRing r (fun x => { x with events := x.events.map (fun e => if e.uid = uid then f e else e) })

/-- Takes an event out of its queue, its EID kept from use for 1 ms (09 R326). -/
def State.dropEvent (s : State) (r : Nat) (e : QEvent) : State :=
  s.modRing r (fun x =>
    { x with events := x.events.filter (fun y => y.uid ≠ e.uid)
             recentEids := if e.eid = 0 then x.recentEids
                           else (e.eid, s.now) :: x.recentEids.filter (fun p => decide (s.now < p.2 + 1000000)) })

/-- What a token says of an event (09 R324). -/
def QEvent.tokenOf (e : QEvent) : TokenOf :=
  { pos := e.pos, ch := e.ch, eid := e.eid, tag := e.tag, suspect := e.suspect, noEcho := e.noEcho }

/-- Completes an event: it leaves the queue, is counted, and its token goes out when one is due (09 R324). -/
def State.complete (s : State) (r : Nat) (e : QEvent) (c : Completion) (word1 : Nat) : State :=
  let s1 := (s.dropEvent r e).modRing r (fun x => x.countCompletion c)
  if c.onReport ∧ !e.rpt then s1 else s1.pushToken r e.task c e.tokenOf word1

/-- A group slot in use. -/
def Ring.group? (x : Ring) (g : Nat) : Option Group := alook x.groups g

/-- Changes a group. -/
def State.modGroup (s : State) (r g : Nat) (f : Group → Group) : State :=
  s.modRing r (fun x => { x with groups := x.groups.map (fun p => if p.1 = g then (p.1, f p.2) else p) })

/-- A mask of positions: bit p - 1 for position p (09 R324). -/
def positionMask (l : List Nat) : Nat := bitsMask (l.map (· - 1))

/-- Ends a group: GROUP_DONE goes to its task, and its slot is free (09 R338, R340, R342). -/
def State.endGroup (s : State) (r g : Nat) (mask : Nat) : State :=
  match (s.ringAt r).group? g with
  | none => s
  | some x =>
    (s.modRing r (fun y =>
      { y with groups := y.groups.filter (fun p => p.1 ≠ g)
               events := y.events.map (fun e => if e.group = some g then { e with group := none } else e) })).pushToken
      r x.task .groupDone { eid := g, tag := x.tag } mask

/-- Discards a group whole: its members leave the queue, and every one of them has failed (09 R338, R342). -/
def State.failGroup (s : State) (r g : Nat) : State :=
  match (s.ringAt r).group? g with
  | none => s
  | some x =>
    (s.modRing r (fun y => { y with events := y.events.filter (fun e => e.group ≠ some g) })).endGroup r g
      (positionMask (if x.atomic then x.mask else x.delivered))

/-- The members of a group that are still pending. -/
def Ring.members (x : Ring) (g : Nat) : List QEvent := x.events.filter (fun e => e.group = some g)

/-- A BEST group is done when each member has had both its copies, has lost its echo, or has completed
(09 R339). -/
def State.finishBest (s : State) (r g : Nat) : State :=
  let x := s.ringAt r
  match x.group? g with
  | some y =>
    if !y.atomic ∧ y.stage ≠ .assembling ∧ (x.members g).all (·.echoed) then
      s.endGroup r g (positionMask y.delivered)
    else s
  | none => s

/-- Completes an event and, when it was the last of a BEST group, the group (09 R324, R339). -/
def State.completeMember (s : State) (r : Nat) (e : QEvent) (c : Completion) (word1 : Nat) : State :=
  match e.group with
  | some g => (s.complete r e c word1).finishBest r g
  | none => s.complete r e c word1

/-! ### Acceptance (09 R317 to R321, R338) -/

/-- The pending events of a ring, with the highest count ever (09 R358). -/
def Ring.enqueue (x : Ring) (e : QEvent) : Ring :=
  { x with events := x.events ++ [{ e with uid := x.nextUid }], nextUid := x.nextUid + 1
           pendingHigh := max x.pendingHigh (x.events.length + 1) }

/-- The alarm EVQ_FULL of a ring, at most once per second (09 R321). -/
def State.evqAlarm (s : State) (r : Nat) : State :=
  let due := match (s.ringAt r).evqAlarmAt with
    | some t => decide (t + 1000000000 ≤ s.now)
    | none => true
  if due then
    (s.modRing r (fun x => { x with evqAlarmAt := some s.now })).alarm .alarm 0x0407 r [r]
  else s

/-- Whether a position can take no event when its record arrives (09 R320). -/
def Ring.unplaced (x : Ring) (p : Nat) : Bool :=
  decide (x.headCount < p) || (x.state == .closed && !(x.headRec p).present)

/-- What R320 makes of an event record: refused, or an event to append. -/
def State.judgeRecord (s : State) (r zone : Nat) (w k : BitVec 64) (tag : Nat) (group : Option Nat) :
    Completion × QEvent :=
  let x := s.ringAt r
  let e : QEvent := { uid := 0, serial := 0, pos := 1, ch := 0, act := 0, param := 0, key := .time 0, rpt := w.getLsbD 12
                      task := fieldOf w 40 8, tag, zone, group, acceptedAt := s.time.t64 }
  match s.recordTarget r zone w, recordKey w k with
  | some t, some key =>
    let e1 := { e with pos := t.pos, ch := t.ch, act := t.act, param := t.param, key := key
                       serial := (x.headRec t.pos).desc.serial
                       when_ := match key with
                         | .time n => n * 65536
                         | .angle _ _ => 0 }
    if !actDefined t.act ∨ s.keyOff key then (.bad, e1)
    else if x.unplaced t.pos then (.unreachable, e1)
    else (.done, e1)
  | _, _ => (.bad, e)

/-- Takes an event record of type EVENT: refused with its completion, or appended (09 R320, R321). -/
def State.takeEvent (s : State) (r zone : Nat) (w k : BitVec 64) : State :=
  let j := s.judgeRecord r zone w k (fieldOf w 48 16) none
  if fieldOf w 14 2 ≠ 0 then s.refuseRecord r .bad j.2.task j.2.tokenOf
  else if j.1 ≠ .done then s.refuseRecord r j.1 j.2.task j.2.tokenOf
  else if (s.ringAt r).events.length + 1 > 4096 then
    (s.refuseRecord r .evqFull j.2.task j.2.tokenOf).evqAlarm r
  else s.modRing r (fun x => x.enqueue j.2)

/-- Takes a GROUP_OPEN record (09 R338). -/
def State.takeOpen (s : State) (r zone entry : Nat) (w k : BitVec 64) : State :=
  let g := fieldOf w 0 4
  let n := fieldOf w 5 5
  let task := fieldOf w 40 8
  let tag := fieldOf w 48 16
  let s1 := s.modRing r (fun x =>
    { x with refusedOpens := x.refusedOpens.filter (fun p => !(p.1 == g && p.2.1 == entry)) })
  let refused := fun (u : State) => u.modRing r (fun x =>
    { x with refusedOpens := (g, entry, n, s.now) :: x.refusedOpens })
  if ((s.ringAt r).group? g).isSome then
    refused (s1.pushToken r task .groupBusy { eid := g, tag := tag } s.time.t64)
  else if n < 1 ∨ 28 < n then refused (s1.refuseRecord r .bad task { tag := tag })
  else s1.modRing r (fun x =>
    { x with groups := x.groups ++ [(g, { atomic := w.getLsbD 4, n := n, ackWindow := fieldOf k 0 32, task := task,
                                          tag := tag, zone := zone, entry := entry, openedAt := s.now })] })

/-- Whether a member record follows a refused GROUP_OPEN of its entry (09 R338). -/
def State.memberRefused (s : State) (r g entry : Nat) : Bool :=
  (s.ringAt r).refusedOpens.any (fun p =>
    p.1 == g && p.2.1 == entry && decide (0 < p.2.2.1 ∧ s.now ≤ p.2.2.2 + 100000))

/-- One member fewer to refuse. -/
def Ring.countRefused (x : Ring) (g entry : Nat) : Ring :=
  { x with refusedOpens := x.refusedOpens.map (fun p =>
      if p.1 = g ∧ p.2.1 = entry then (p.1, p.2.1, p.2.2.1 - 1, p.2.2.2) else p) }

/-- A member joins its group; with the last one the group waits for its send instant (09 R338). -/
def Group.join (x : Group) (uid pos : Nat) : Group :=
  { x with members := x.members ++ [uid], mask := x.mask ++ [pos]
           stage := if x.members.length + 1 = x.n then .waiting else x.stage }

/-- Takes a GROUP_MEMBER record (09 R338). -/
def State.takeMember (s : State) (r zone entry : Nat) (w k : BitVec 64) : State :=
  let g := fieldOf w 60 4
  let x := s.ringAt r
  let j := s.judgeRecord r zone w k (fieldOf w 48 12) (some g)
  if s.memberRefused r g entry then
    (s.modRing r (fun y => y.countRefused g entry)).refuseRecord r .bad j.2.task j.2.tokenOf
  else match x.group? g with
    | none => s.refuseRecord r .bad j.2.task j.2.tokenOf
    | some y =>
      if y.stage ≠ .assembling ∨ y.entry ≠ entry ∨ y.mask.contains j.2.pos then
        s.refuseRecord r .bad j.2.task j.2.tokenOf
      else if j.1 ≠ .done then s.refuseRecord r j.1 j.2.task j.2.tokenOf
      else if x.events.length + 1 > 4096 then (s.refuseRecord r .evqFull j.2.task j.2.tokenOf).evqAlarm r
      else (s.modRing r (fun z => z.enqueue j.2)).modGroup r g (fun z => z.join x.nextUid j.2.pos)

/-- Takes one record by its RT; type 3 is refused as an event record (09 R319, R320). -/
def State.takeRecord (s : State) (r zone entry : Nat) (w k : BitVec 64) : State :=
  match fieldOf w 14 2 with
  | 1 => s.takeOpen r zone entry w k
  | 2 => s.takeMember r zone entry w k
  | _ => s.takeEvent r zone w k

/-- Whether a record would take a place in the queue (09 R321). -/
def State.recordCounts (s : State) (r zone : Nat) (w k : BitVec 64) : Bool :=
  fieldOf w 14 2 != 1 && fieldOf w 14 2 != 3 && (s.judgeRecord r zone w k 0 none).1 == .done

/-- Whether a ring's controller admits a zone (09 R318). -/
def State.eventZone (s : State) (r zone : Nat) : Bool := (s.num (0x5100 + r) 1 0).testBit zone

/-- The records of one packet, none appended when they would exceed the bound (09 R317, R321); false for
QUEUE_FULL. -/
def State.takePacket (s : State) (r zone entry : Nat) (recs : List (BitVec 64 × BitVec 64)) : Bool × State :=
  let n := (recs.filter (fun p => s.recordCounts r zone p.1 p.2)).length
  if (s.ringAt r).events.length + n > 4096 then
    (false, (recs.foldl (fun u p =>
      u.refuseRecord r .evqFull (fieldOf p.1 40 8) (u.judgeRecord r zone p.1 p.2 (fieldOf p.1 48 16) none).2.tokenOf)
      s).evqAlarm r)
  else (true, recs.foldl (fun u p => u.takeRecord r zone entry p.1 p.2) s)

/-! ### When an event is due (09 R325 to R329, R344) -/

/-- SendAhead in units of 2^-16 ns. -/
def State.sendAhead (s : State) : T80 := s.num 0x5200 1 1000 * 1000 * 65536

/-- Lock-in precedes WHEN by 20 µs (09 R327). -/
def lockLead : T80 := 20000 * 65536

/-- Whether angle events of a channel are predicted: it turns forward and they are not suspended (02 R91). -/
def State.predicts (s : State) (c : Nat) : Bool := s.angleForward c && !(s.angleCh c).suspended

/-- The WHEN of an event as it is known now (09 R325). -/
def State.eventTime (s : State) (e : QEvent) : Prediction :=
  match e.key with
  | .time t => .at_ (t * 65536)
  | .angle c a => if s.predicts c then (s.angleCh c).predictTime a s.t80 else .none

/-- Whether an entry sent at `t` with this WHEN arrives before lock-in (09 R327). -/
def Ring.arrives (x : Ring) (p : Nat) (t when_ : T80) : Bool :=
  decide (t + 2700 * 65536 + x.delayTo p + lockLead ≤ when_)

/-- How an event stands at an instant (09 R325, R327, R329). -/
inductive Due where
  | waits
  | passed
  | now (when_ : T80)
  deriving DecidableEq, Repr

/-- Whether an event's first copy is due now, moved by shaping as R329 says. -/
def State.dueNow (s : State) (r : Nat) (e : QEvent) : Due :=
  let m := r / 4
  let t := s.time.t64
  match s.eventTime e with
  | .none => .waits
  | .passed => .passed
  | .at_ w =>
    let ts := w / 65536 - s.sendAhead / 65536
    let heldOff := s.inWindow m t &&
      (s.ringAt r).arrives e.pos ((s.windowEnd m t).toNat * 65536) w
    let early := match e.key with
      | .time _ => s.inWindow m ts && decide ((e.acceptedAt : Int) ≤ s.windowStart m ts) &&
          decide (s.windowStart m ts ≤ (t : Int))
      | .angle _ _ => false
    if early then .now w
    else if w ≤ s.t80 + s.sendAhead then (if heldOff then .waits else .now w)
    else .waits

/-- The due state of a member of a BEST group: the send instant of the earliest member (09 R339). -/
def State.dueMember (s : State) (r : Nat) (e : QEvent) : Due :=
  match e.group with
  | none => s.dueNow r e
  | some g =>
    let x := s.ringAt r
    match x.group? g with
    | none => s.dueNow r e
    | some y =>
      if y.atomic ∨ y.stage = .assembling then .waits
      else
        let go := (x.members g).any (fun f => match s.dueNow r f with
          | .now _ => true
          | _ => f.stage != .queued)
        match s.eventTime e with
        | .passed => .passed
        | .none => .waits
        | .at_ w => if go then .now w else .waits

/-- How many entries a head holds for the device, as R332 counts them. -/
def State.headLoad (s : State) (r p : Nat) : Nat :=
  ((s.ringAt r).events.filter (fun e => e.pos == p && e.stage != .queued && decide (s.t80 < e.when_))).length +
    ((s.ringAt r).events.filter (fun e => e.pos == p && e.stage == .queued && e.eid != 0)).length

/-- The next free EID from a start, skipping those of pending events and of events completed less than 1 ms
ago (09 R326). -/
def freeEid (used : List Nat) : Nat → Nat → Nat
  | 0, n => n % 65536
  | k + 1, n => if n % 65536 = 0 ∨ used.contains (n % 65536) then freeEid used k (n + 1) else n % 65536

/-- Takes the next EID of a ring (09 R326). -/
def State.newEid (s : State) (r : Nat) : Nat :=
  let x := s.ringAt r
  freeEid (x.events.map (·.eid) ++
    (x.recentEids.filter (fun p => decide (s.now < p.2 + 1000000))).map (·.1)) 65536 (x.nextEid + 1)

/-- Whether an event's angle channel is SUSPECT (09 R344). -/
def State.keySuspect (s : State) : EventKey → Bool
  | .time _ => false
  | .angle c _ => (s.angleCh c).state == .suspect

/-- The entry of an event frame (08 R290). -/
def State.entryOf (s : State) (e : QEvent) : EventEntry :=
  { ch := e.ch, suspect := s.keySuspect e.key, act := e.act, eid := e.eid, when_ := e.when_, param := e.param }

/-- The first send of one due event: discarded while QUENCHED, unreachable, missed, deferred for room or for a
CAL REPORT, or given an EID and marked sent (09 R325 to R332, 08 R312). -/
def State.sendOne (s : State) (r : Nat) (e : QEvent) : State :=
  let x := s.ringAt r
  match s.dueMember r e with
  | .waits => s
  | .passed => s.completeMember r e .missed s.time.t64
  | .now w =>
    if s.ringQuenched r then s.completeMember r e .quenched s.time.t64
    else if !x.reaches e.pos then s.completeMember r e .unreachable s.time.t64
    else if !x.arrives e.pos s.t80 w then s.completeMember r e .missed s.time.t64
    else if !(x.headRec e.pos).confirmed ∨ (x.headRec e.pos).desc.evCap ≤ s.headLoad r e.pos then s
    else
      let id := s.newEid r
      (s.modRing r (fun y => { y with nextEid := id })).modEvent r e.uid (fun y =>
        { y with stage := .sent, eid := id, when_ := w, sentAt := s.now, trimAt := s.now, echoed := false })

/-- Sends the due events of a position: up to 31 entries in one EVENT frame (09 R325). -/
def State.sendEvents (s : State) (r p : Nat) : State :=
  let x := s.ringAt r
  let batch := (x.events.filter (fun e => e.pos == p && e.stage == .queued && s.dueMember r e != .waits)).take 31
  let s1 := batch.foldl (fun u e => u.sendOne r e) s
  let sent := (s1.ringAt r).events.filter (fun e => e.stage == .sent && batch.any (fun b => b.uid == e.uid))
  if sent.isEmpty then s1 else s1.sendTo r p (.event (sent.map s1.entryOf))

/-! ### Echo, trims and withdrawal (09 R328, R330, R335, R336, 02 R91) -/

/-- ECHO_GAP in ns. -/
def State.echoGap (s : State) : Nat := s.num 0x5200 2 300 * 1000

/-- Whether an event's echo is due now, moved out of the noisy window where that still arrives
(09 R328, R329). -/
def State.echoDue (s : State) (r : Nat) (e : QEvent) : Bool :=
  let m := r / 4
  let t := s.time.t64
  e.stage != .queued && !e.echoed && decide (e.sentAt + s.echoGap ≤ s.now) &&
    !(s.inWindow m t && (s.ringAt r).arrives e.pos ((s.windowEnd m t).toNat * 65536) e.when_)

/-- Marks the echo of one event as sent or left out (09 R328). -/
def State.echoOne (s : State) (r : Nat) (e : QEvent) : State :=
  let x := s.ringAt r
  let ok := x.arrives e.pos s.t80 e.when_ && x.reaches e.pos && !s.ringQuenched r
  let s1 := s.modEvent r e.uid (fun y => { y with echoed := true, noEcho := !ok })
  let s2 := if ok then s1 else s1.modRing r (fun y => { y with echoSkipped := inc32 y.echoSkipped })
  match e.group with
  | some g =>
    (s2.modGroup r g (fun y =>
      if ok ∧ !y.atomic ∧ (x.headRec e.pos).confirmed then { y with delivered := y.delivered ++ [e.pos] } else y)).finishBest
      r g
  | none => s2

/-- Sends the echo of a position's frame: the entries that can still arrive (09 R328). -/
def State.echoEvents (s : State) (r p : Nat) : State :=
  let batch := ((s.ringAt r).events.filter (fun e => e.pos == p && s.echoDue r e)).take 31
  let s1 := batch.foldl (fun u e => u.echoOne r e) s
  let go := batch.filter (fun e =>
    (s.ringAt r).arrives e.pos s.t80 e.when_ && (s.ringAt r).reaches e.pos && !s.ringQuenched r)
  if go.isEmpty then s1 else s1.sendTo r p (.event (go.map s1.entryOf)) true

/-- TrimThreshold against a difference of two times (09 R335). -/
def State.trimNeeded (s : State) (a b : T80) : Bool :=
  decide (s.num 0x5200 3 250 * 65536 < ((a : Int) - b).natAbs * 1000)

/-- The new WHEN of an angle event, when a trim is needed and can arrive (09 R327, R335, R336). -/
def State.trimTo (s : State) (r : Nat) (e : QEvent) : Option T80 :=
  match e.key, s.eventTime e with
  | .angle _ _, .at_ w =>
    if e.stage = .sent ∧ s.trimNeeded w e.when_ ∧ (s.ringAt r).arrives e.pos s.t80 w then some w else none
  | _, _ => none

/-- Sends a trim entry with a new WHEN (09 R335). -/
def State.sendTrim (s : State) (r : Nat) (e : QEvent) (w : T80) : State :=
  let s1 := (s.modEvent r e.uid (fun y => { y with when_ := w, trimAt := s.now })).modRing r (fun x =>
    { x with trimsSent := inc32 x.trimsSent })
  s1.sendTo r e.pos (.event [{ s.entryOf e with trim := true, when_ := w }])

/-- Sends a withdrawal twice; the event returns to its queue or completes WITHDRAWN (09 R330, 02 R91). -/
def State.withdrawEvent (s : State) (r : Nat) (back : Bool) (e : QEvent) : State :=
  let w := { s.entryOf e with withdraw := true }
  let s1 := (s.sendTo r e.pos (.event [w])).sendTo r e.pos (.event [w])
  if back then
    (s1.modRing r (fun x => { x with recentEids := (e.eid, s.now) :: x.recentEids })).modEvent r e.uid (fun y =>
      { y with stage := .queued, eid := 0, echoed := false, noEcho := false })
  else s1.completeMember r e .withdrawn s.time.t64

/-- Whether an event is sent and not yet locked in. -/
def State.sentUnlocked (s : State) (e : QEvent) : Bool :=
  e.stage == .sent && decide (s.t80 + lockLead < e.when_)

/-- Withdraws the sent, unlocked angle events of a channel on one ring (02 R91). -/
def State.suspendRing (s : State) (c r : Nat) : State :=
  ((s.ringAt r).events.filter (fun e => s.sentUnlocked e && (match e.key with
    | .angle k _ => k == c
    | .time _ => false))).foldl (fun u e => u.withdrawEvent r true e) s

/-- A channel's angle events are suspended, or predicted again once it is LOCKED and forward (02 R91). -/
def State.angleEvents (s : State) (c : Nat) : State :=
  let x := s.angleCh c
  if x.state = .locked ∧ s.angleForward c then s.modAngle c (fun y => { y with suspended := false })
  else if s.angleForward c ∨ x.suspended then s
  else (List.range 16).foldl (fun u r => u.suspendRing c r) (s.modAngle c (fun y => { y with suspended := true }))

/-! ### ATOMIC groups (09 R340 to R342) -/

/-- The members of a group with their WHENs, none while one of them has none (09 R340). -/
def State.groupTimes (s : State) (r g : Nat) : Option (List (QEvent × T80)) :=
  ((s.ringAt r).members g).mapM (fun e => match s.eventTime e with
    | .at_ w => some (e, w)
    | _ => none)

/-- Whether a member's angle has passed. -/
def State.groupPassed (s : State) (r g : Nat) : Bool :=
  ((s.ringAt r).members g).any (fun e => s.eventTime e == .passed)

/-- ATOMIC groups open, from their first STAGE to their GROUP_DONE (09 R342). -/
def Ring.openGroups (x : Ring) : Nat :=
  (x.groups.filter (fun p => p.2.atomic && (p.2.stage == .staged || p.2.stage == .committed))).length

/-- Numbers the members of a group that is staged: their EIDs and WHENs (09 R326, R340). -/
def State.stageMembers (s : State) (r : Nat) (ms : List (QEvent × T80)) : State :=
  ms.foldl (fun u p =>
    let id := u.newEid r
    (u.modRing r (fun y => { y with nextEid := id })).modEvent r p.1.uid (fun y =>
      { y with eid := id, when_ := p.2 })) s

/-- The STAGE frame of a group for the positions of a mask (08 R290, 09 R340). -/
def State.stageBody (s : State) (r g : Nat) (x : Group) (mask : List Nat) : FrameBody :=
  .stage x.gid mask x.hold ((((s.ringAt r).members g).filter (fun e => mask.contains e.pos)).map
    (fun e => (e.pos, s.entryOf e)))

/-- AckWindow of a group in ns (09 R338, R340). -/
def State.ackWindow (s : State) (x : Group) : Nat :=
  (if x.ackWindow = 0 then s.num 0x5200 6 200 else x.ackWindow) * 1000

/-- The send instant of an ATOMIC group has come: STAGE goes out, or the group waits or fails (09 R340,
R342). -/
def State.sendGroup (s : State) (r g : Nat) (x : Group) : State :=
  if s.groupPassed r g then s.failGroup r g
  else match s.groupTimes r g with
  | none => s
  | some ms =>
    let w0 := ms.foldl (fun m p => min m p.2) ((ms.head?.map (·.2)).getD 0)
    let hold := (w0 - lockLead) / 65536
    let t := s.time.t64
    if s.t80 + s.sendAhead < w0 then s
    else if s.ringQuenched r then
      (((s.ringAt r).members g).foldl (fun u e => u.complete r e .quenched t) s).endGroup r g (positionMask x.mask)
    else if hold < t + 30000 then s.failGroup r g
    else if (s.ringAt r).openGroups ≥ 8 ∨
        ms.any (fun p => !((s.ringAt r).headRec p.1.pos).confirmed ||
          decide (((s.ringAt r).headRec p.1.pos).desc.evCap ≤ s.headLoad r p.1.pos)) then s
    else
      let gid := ((s.ringAt r).nextGid + 1) % 65536
      let s1 := ((s.modRing r (fun y => { y with nextGid := gid })).stageMembers r ms).modGroup r g (fun y =>
        { y with stage := .staged, gid := gid, hold := hold, deadline := min (t + s.ackWindow x) (hold - 10000)
                 stagedAt := s.now, retried := false, oks := [], commits := [] })
      match (s1.ringAt r).group? g with
      | some y => s1.sendAll r (s1.stageBody r g y x.mask)
      | none => s1

/-- DEADLINE of a group: COMMIT when every member's OK has counted, otherwise ABORT and GROUP_DONE
(09 R340). -/
def State.decideGroup (s : State) (r g : Nat) (x : Group) : State :=
  if x.mask.all (fun p => x.oks.contains p) then
    (((s.modGroup r g (fun y => { y with stage := .committed, commitAt := s.now })).modRing r (fun y =>
      { y with atomicCommitted := inc32 y.atomicCommitted
               events := y.events.map (fun e => if e.group = some g then
                 { e with stage := .sent, sentAt := s.now, trimAt := s.now, echoed := true } else e) })).sendAll r
      (.commit x.gid x.mask))
  else
    ((s.sendAll r (.abort x.gid x.mask)).modRing r (fun y =>
      { y with atomicAborted := inc32 y.atomicAborted, events := y.events.filter (fun e => e.group ≠ some g) })).endGroup
      r g (positionMask (x.mask.filter (fun p => !x.oks.contains p)))

/-- The members of a committed group that have not answered COMMIT. -/
def Group.unanswered (x : Group) : List Nat := x.mask.filter (fun p => !x.commits.contains p)

/-- HOLD of a committed group: GROUP_DONE, and GROUP_UNCONFIRMED for members without an ACK to COMMIT
(09 R340, R341). -/
def State.closeGroup (s : State) (r g : Nat) (x : Group) : State :=
  let s1 := s.endGroup r g 0
  if x.unanswered.isEmpty then s1
  else s1.pushToken r x.task .groupUnconfirmed { eid := g, tag := x.tag } (positionMask x.unanswered)

/-! ### Leaving RUN (01 R38) -/

/-- Empties a ring's queue without sending its events: sent, unlocked ones are withdrawn, the others are
discarded as QUENCHED, and every group ends (01 R38, 09 R330, R331). -/
def State.emptyQueue (s : State) (r : Nat) : State :=
  let s1 := ((s.ringAt r).events.filter s.sentUnlocked).foldl (fun u e => u.withdrawEvent r false e) s
  let s2 := (s1.ringAt r).events.foldl (fun u e => u.complete r e .quenched s.time.t64) s1
  (s2.ringAt r).groups.foldl (fun u p => u.failGroup r p.1) s2

end Sys2Proof.Machine
end

