-- ==== Sys2Proof/Machine/Angle.lean ====
section
/-!
DEFINITION. The happenings at the angle unit: encoder edges, grid instants, signal losses, course marks and
firing residuals (02 R72 to R91).
-/

namespace Sys2Proof.Machine

/-- The angle unit runs: the timebase does, and SLEEP does not gate it (14 R532, R535). -/
def State.angleRuns (s : State) : Bool := s.timeRuns && s.op.state != .sleep

/-- Changes a channel while its unit runs, and lets its angle events follow (02 R91). -/
def State.onChannel (s : State) (c : Nat) (f : State → State) : State :=
  if s.angleRuns then (f s).angleEvents c else s

/-- The T80 of an edge within the present TCLK period, on the 125 ps grid (02 R69). -/
def State.edgeTime (s : State) (sub : Nat) : T80 := s.t80 + sub * 0x2000

/-- A filtered edge of A, or of B when `b`, to a level (02 R73, R78). -/
def execEncoderEdge (c : Fin 2) (b level : Bool) (sub : Fin 32) (s : State) : Host.Outcome State Fault Refusal :=
  .next (s.onChannel c (fun t => t.encoderEdge c (if b then .b else .a) level (t.edgeTime sub)))

/-- An edge of Z (02 R75, R78). -/
def execZEdge (c : Fin 2) (sub : Fin 32) (s : State) : Host.Outcome State Fault Refusal :=
  .next (s.onChannel c (fun t => t.zEdge c (t.edgeTime sub)))

/-- A grid instant, at the first TCLK edge of each 200 ns: a sin/cos sample's phase and squared amplitude, or what the edges
since the last instant give (02 R74, R82). -/
def execAngleGridUpdate (c : Fin 2) (ph : Fin 65536) (amp : Nat) (s : State) : Host.Outcome State Fault Refusal :=
  .next (if s.time.t64 % 200 < 4 then s.onChannel c (fun t => t.gridInstant c ph amp) else s)

/-- A loss of the differential signal, or an amplitude out of its window (02 R73, R74, R78). -/
def execSignalLoss (c : Fin 2) (s : State) : Host.Outcome State Fault Refusal :=
  .next (let x := s.angleCh c
    if (s.angleCfg c).mode ≠ 0 ∧ (x.state = .locked ∨ x.state = .suspect) then
      s.onChannel c (fun t => t.angleLost c .signalLoss)
    else s)

/-- No line crossing for StopTime: the channel is STOPPED, homed (02 R78, R79). -/
def execStopTimeExpiry (c : Fin 2) (s : State) : Host.Outcome State Fault Refusal :=
  .next (let x := s.angleCh c
    if (x.state = .locked ∨ x.state = .suspect) ∧ s.stopTimePassed c then
      s.onChannel c (fun t => t.modAngle c (fun y =>
        { y with state := .stopped, reason := .noMotion, legalRun := 0, crossings := [], w := 0, a := 0
                 resuming := false }))
    else s)

/-- A write of AngleFaultAck takes a LOST channel to STOPPED, not homed (02 R78, R89). -/
def execAngleFaultAck (q : Req) (b : List Nat) (s : State) : Host.Outcome State Fault Refusal :=
  .next (s.serveBytes q (okey 0x5020 1) b noCheck (fun t _ v =>
    { state := if (t.angleCh (valNat v)).state = .lost then
        (t.modAngle (valNat v) AngleChannel.unhome).angleEvents (valNat v) else t }))

/-! ### Course marks (02 R86 to R88) -/

/-- Waiting MARK activations and AT_MARK applies take the edge of a mark that is fixed (07 R261, 11 R408). -/
def State.markFixed (s : State) (e : T64) : State :=
  { s with
    blank := { s.blank with slots := tmap {} (fun _ x =>
      if x.state = .activating ∧ x.mode = .atMark ∧ x.edge.isNone then { x with edge := some e } else x) s.blank.slots }
    sess := { s.sess with applies := s.sess.applies.map (fun a =>
      if a.mode = .atMark ∧ a.edge.isNone ∧ a.stage = 0 then { a with edge := some e } else a) } }

/-- Whether the shaft has passed an awaited mark. -/
def State.markPassed (s : State) (a : Nat) : Bool :=
  let d := ((s.publishedAngle s.markChannel : Int) - a).emod (2 ^ 56)
  decide (d < 2 ^ 55) && a != s.nextMark.1

/-- The next mark is fixed MarkLead before it occurs; one that the shaft passed unfixed was skipped (02 R87,
R88). -/
def execCourseMarkFix (s : State) : Host.Outcome State Fault Refusal :=
  .next (if !s.angleRuns ∨ s.angle.mark.isSome then s
    else
      let s1 := match s.angle.awaited with
        | some a => if s.markPassed a then
            { s with angle := { s.angle with marksSkipped := inc32 s.angle.marksSkipped } } else s
        | none => s
      let s2 := { s1 with angle := { s1.angle with awaited := some s1.nextMark.1 } }
      if (s2.angleCh s2.markChannel).state = .locked ∧ s2.angleForward s2.markChannel then
        match s2.markDue with
        | some m =>
          State.markFixed { s2 with angle := { s2.angle with
            mark := some m, nextMarkTime := m.edge, courseNumber := m.course % 2 ^ 32, awaited := none } } m.edge
        | none => s2
      else s2)

/-- COURSE triggers of a channel fire (05 R179). -/
def State.fireCourse (s : State) (c : Nat) : State :=
  s.taskList.foldl (fun t n =>
    if (t.task n).kind = .course ∧ (t.task n).param % 2 = c then t.fireTrigger n else t) s

/-- A fixed mark takes place at its edge, whatever the channel's state (02 R87, 05 R179). -/
def execCourseMark (s : State) : Host.Outcome State Fault Refusal :=
  .next (match s.angle.mark with
    | some m =>
      if m.edge ≤ s.time.t64 then
        State.fireCourse { s with angle := { s.angle with mark := none, marksTaken := s.angle.marksTaken + 1 } }
          s.markChannel
      else s
    | none => s)

/-- The residual of a firing: the angle at its time less its target, in 2^-32 rev (02 R85). -/
def AngleChannel.residual (x : AngleChannel) (target : Nat) (t0 : T80) : Nat :=
  (signed56 (x.thAt t0 - (target : Int) * 2 ^ 16)).natAbs / 2 ^ 16

/-- 400 ns after an angle event's firing its residual is taken (02 R85, R89). -/
def execFiringResidual (r : Fin 16) (uid : Nat) (s : State) : Host.Outcome State Fault Refusal :=
  .next (match (s.ringAt r).event? uid with
    | some e => match e.key with
      | .angle c a =>
        if e.stage = .frozen ∧ e.when_ + 400 * 65536 ≤ s.t80 then
          s.modAngle c (fun x => { x with residualMax := min (2 ^ 32 - 1) (max x.residualMax (x.residual a e.when_)) })
        else s
      | .time _ => s
    | none => s)

end Sys2Proof.Machine
end

