-- ==== Sys2Proof/Machine/Crc.lean ====
section
/-!
DEFINITION. The check codes: CRC-32C (06 R240, 08 R291, 10 R628), CRC-7 of the fuse words (12 R453).
-/

namespace Sys2Proof.Machine

/-- `n` shifts of the reflected CRC-32C register (10 R628). -/
def crcShift : Nat → Nat → Nat
  | 0, c => c
  | n + 1, c => crcShift n (if c % 2 = 1 then (c / 2) ^^^ 0x82F63B78 else c / 2)

/-- The reflected CRC-32C register after octets (10 R628). -/
def crcRun (c : Nat) (l : List Nat) : Nat := l.foldl (fun r b => crcShift 8 (r ^^^ b)) c

/-- CRC-32C with a given initial value and final XOR 0xFFFF_FFFF (10 R628). -/
def crc32cFrom (seed : Nat) (l : List Nat) : Nat := crcRun seed l ^^^ 0xFFFFFFFF

/-- CRC-32C (06 R240, 08 R291). -/
def crc32c (l : List Nat) : Nat := crc32cFrom 0xFFFFFFFF l

/-- The CRC-7 register over the low `n` bits of a message, from bit n − 1 down (12 R453). -/
def crc7 (m : Nat) : Nat → Nat → Nat
  | 0, c => c
  | n + 1, c =>
    let fb := (m.testBit n) != (c.testBit 6)
    let c1 := (c * 2) % 128
    crc7 m n (if fb then c1 ^^^ 0x09 else c1)

/-- CHK of a fuse word (12 R453). -/
def fuseChk (addr data : Nat) : Nat := 0x80 + crc7 (addr % 1024 * 2 ^ 32 + data % 2 ^ 32) 42 0

/-- The 40-bit target of a fuse word (12 R459). -/
def fuseTarget (addr data : Nat) : BitVec 40 := BitVec.ofNat 40 (fuseChk addr data * 2 ^ 32 + data % 2 ^ 32)

end Sys2Proof.Machine
end

