-- ==== Sys2Proof/Machine/LinkOps.lean ====
section
/-!
DEFINITION. The device's side of a ring: what it sends to the heads, how it enumerates and calibrates them, and how
breaks and heals move the ring's state (08 R287 to R315).
-/

namespace Sys2Proof.Machine

/-! ### Frames and marks -/

/-- Payload bytes of a frame (08 R289). -/
def FrameBody.len : FrameBody → Nat
  | .time .. => 32
  | .cal .. => 12
  | .enumOut .. => 8
  | .enumHead .. => 28
  | .event es => 8 + 16 * es.length
  | .stage _ _ _ es => 24 + 16 * es.length
  | .commit .. | .abort .. => 16
  | .ack .. => 8
  | .sense _ fmt _ _ l => 20 + ((if fmt = 0 then 2 else 4) * l.length + 3) / 4 * 4
  | .energy .. => 24
  | .mgmt _ _ _ _ l => 8 + 4 * l.length
  | .safe .. => 20

/-- The B end or the A end. -/
def ringEnd (b : Bool) : RingEnd := if b then .b else .a

/-- What a ring alarm says: ring, position, serial and FSEQ (17 R622). -/
def ringDetail (r p serial fseq : Nat) : List Nat := r :: p :: bytesLE 4 serial ++ bytesLE 2 fseq

/-- Sends a deferrable frame, or holds it for a gap between noisy bins, behind those of its ring that wait
(08 R315). -/
def State.sendDeferrable (s : State) (r : Nat) (b : Bool) (dst : Nat) (body : FrameBody) : State :=
  if (s.rc (r / 4)).deferred.any (fun x => x.1 == r) ∨ !s.mayDefer (r / 4) body.len then
    s.modRc (r / 4) (fun c =>
      { c with deferred := c.deferred ++ [(r, b, dst, body)], heldFrames := inc32 c.heldFrames })
  else s.sendFrame r (ringEnd b) dst body

/-- Sends a deferrable frame to a position, on the end that feeds it. -/
def State.sendSlow (s : State) (r p : Nat) (body : FrameBody) : State :=
  s.sendDeferrable r ((s.ringAt r).endOf p == .b) p body

/-- A TMARK at `t`, and the TIME frame that carries its departure (08 R290, R297). -/
def State.sendPair (s : State) (r : Nat) (b : Bool) (t : T64) : State :=
  let c := s.rc (r / 4)
  (s.emit (.mark r (ringEnd b) false)).sendFrame r (ringEnd b) 0xFF
    (.time (t * 65536) s.time.state.code s.time.quality.code s.ring.epoch c.phase0 (c.period * 1000) (s.noiseMap (r / 4)))

/-- *TimePeriod* in ns. -/
def State.timePeriod (s : State) : Nat := s.num 0x4600 1 1000 * 1000

/-- ENUM COUNT from an end: BASE is the last full count from the B end (08 R290, R310). -/
def State.sendCount (s : State) (r : Nat) (b : Bool) : State :=
  s.sendDeferrable r b 0xFF (.enumOut 1 0 (if b then (s.ringAt r).lastCount else 0))

/-- ENUM DESCRIBE on the ends the device feeds; nobody has answered it yet (08 R306). -/
def State.sendDescribe (s : State) (r : Nat) : State :=
  let s1 := s.modRing r (fun x => { x with described := [] })
  (s1.ringAt r).fedEnds.foldl (fun u e => u.sendDeferrable r (e == .b) 0xFF (.enumOut 2 0 0)) s1

/-- One MGMT write of a head's register. -/
def State.sendMgmt (s : State) (r p addr v : Nat) : State :=
  let tag := ((s.ringAt r).mgmtTag + 1) % 65536
  (s.modRing r (fun x => { x with mgmtTag := tag, mgmtOpen := x.mgmtOpen ++ [(tag, p, addr)] })).sendSlow r p
    (.mgmt 2 tag addr 0 [v])

/-- After enumeration the device writes a head's SAFE_TIMEOUT, COAST_MAX and TIME_PERIOD (09 R355). -/
def State.headSettings (s : State) (r p : Nat) : State :=
  ((s.sendMgmt r p 3 (s.num 0x2010 1 750)).sendMgmt r p 4 (s.num 0x5200 7 2000)).sendMgmt r p 5 (s.num 0x4600 1 1000)

/-! ### Calibration (08 R302 to R304) -/

/-- Positions `a` to `b`. -/
def positions (a b : Nat) : List Nat := (List.range (b + 1)).filter (fun p => decide (a ≤ p ∧ 1 ≤ p))

/-- Heads whose round trip from the A end is measured. -/
def Ring.calA (x : Ring) : List Nat := positions 1 (if x.state = .wrap then x.segAEnd else x.headCount)

/-- Heads whose round trip from the B end is measured. -/
def Ring.calB (x : Ring) : List Nat :=
  if x.state = .wrap then (if x.segBStart = 0 then [] else positions x.segBStart x.lastCount) else positions 1 x.headCount

/-- A calibration begins: each head is armed and a CMARK sent for it; F and V are measured while the path is whole
(08 R302, R304). -/
def State.beginCal (s : State) (r : Nat) : State :=
  let x := s.ringAt r
  let s1 := s.modRing r (fun y => { y with calBusy := true, calAt := s.now, rttA := [], rttB := [], calF := none, calV := none })
  let s2 := x.calA.foldl (fun u p => (u.sendSlow r p (.cal 1 0 0)).emit (.mark r .a true)) s1
  let s3 := x.calB.foldl (fun u p => (u.sendSlow r p (.cal 2 0 0)).emit (.mark r .b true)) s2
  if x.state = .wrap then s3 else (s3.emit (.mark r .a true)).emit (.mark r .b true)

/-- Every time a calibration asks for has been measured. -/
def Ring.calDone (x : Ring) : Bool :=
  x.calA.all (fun p => x.rttA.any (fun e => e.1 == p)) && x.calB.all (fun p => x.rttB.any (fun e => e.1 == p)) &&
    (x.state == .wrap || (x.calF.isSome && x.calV.isSome))

/-- The descriptor of a position. -/
def Ring.descOf (x : Ring) (p : Nat) : HeadDesc := (x.headRec p).desc

/-- Σ (HD + HU) of positions. -/
def Ring.through (x : Ring) (l : List Nat) : Int := (l.map (fun p => ((x.descOf p).hd + (x.descOf p).hu : Int))).sum

/-- u of hop `j` from the round trips of the A end, in ps (08 R302). -/
def Ring.hopA (x : Ring) (j : Nat) : Int :=
  let t := fun p => ((tget 0 x.rttA p : Nat) : Int) - (x.descOf p).qu
  if j ≤ 1 then t 1 else t j - t (j - 1) - x.through [j - 1]

/-- u of hop `j` from the round trips of the B end of `n` heads, in ps (08 R302, R304). -/
def Ring.hopB (x : Ring) (n j : Nat) : Int :=
  let t := fun p => ((tget 0 x.rttB p : Nat) : Int) - (x.descOf p).qd
  if n < j then t n else t (j - 1) - t j - x.through [j]

/-- u[1..N+1] of a whole ring (08 R302). -/
def Ring.hopTimes (x : Ring) : List Int :=
  (positions 1 x.headCount).map x.hopA ++ [if x.headCount = 0 then 0 else x.hopB x.headCount (x.headCount + 1)]

/-- Some RTTB[k] differs by more than 1 ns from what the hops give (08 R303). -/
def Ring.rttBad (x : Ring) : Bool :=
  (positions 1 x.headCount).any (fun k =>
    let want : Int := (x.hopTimes.drop k).sum + x.through (positions (k + 1) x.headCount) + (x.descOf k).qd
    decide (1000 < (want - (tget 0 x.rttB k : Nat)).natAbs))

/-- Σ HD, and Σ HU, of positions. -/
def Ring.sumHd (x : Ring) (l : List Nat) : Int := (l.map (fun p => ((x.descOf p).hd : Int))).sum

/-- Σ HU of positions. -/
def Ring.sumHu (x : Ring) (l : List Nat) : Int := (l.map (fun p => ((x.descOf p).hu : Int))).sum

/-- ps as a fraction, rounded to 2^-16 ns and never below 0. -/
def delay16 (num den : Int) : Nat := (divNearEven (num * 65536) (den * 1000)).toNat

/-- DLYA and DLYB of position `k` of a whole ring, in 2^-16 ns (08 R302). -/
def Ring.delays (x : Ring) (asym : Int) (k : Nat) : Nat × Nat :=
  let u := x.hopTimes
  let tot := u.sum
  let d : Int := if 0 < tot then 2 * tot else 2
  let fa : Int := if 0 < tot then tot + asym else 1
  let fb : Int := if 0 < tot then tot - asym else 1
  (delay16 ((u.take k).sum * fa + d * x.sumHd (positions 1 (k - 1))) d,
   delay16 ((u.drop k).sum * fb + d * x.sumHu (positions (k + 1) x.headCount)) d)

/-- The forward part of a hop in 2^-16 ns by its last r/c ratio, a half where it has none (08 R304). -/
def Ring.hopForward (x : Ring) (j : Nat) (u : Int) : Int :=
  let rc := tget (0, 0) x.hops j
  if rc.1 + rc.2 ≤ 0 then divNearEven (u * 65536) 2000 else divNearEven (u * rc.2 * 65536) ((rc.1 + rc.2) * 1000)

/-- The delays of position `k` in WRAP: from the end that feeds it, with the last ratio of each hop; the other as it
stands (08 R304). -/
def Ring.wrapDelays (x : Ring) (k : Nat) : Nat × Nat :=
  let old := x.headRec k
  if x.endOf k = .a then
    (((((positions 1 k).map (fun j => x.hopForward j (x.hopA j))).sum +
      divNearEven (x.sumHd (positions 1 (k - 1)) * 65536) 1000)).toNat, old.delayB)
  else
    let n := x.lastCount
    (old.delayA, (((positions (k + 1) (n + 1)).map (fun j =>
      divNearEven (x.hopB n j * 65536) 1000 - x.hopForward j (x.hopB n j))).sum +
      divNearEven (x.sumHu (positions (k + 1) n) * 65536) 1000).toNat)

/-- A delay moves toward a new value by at most *CalStepMax* (08 R304). -/
def stepDelay (step old new : Nat) : Nat := if old ≤ new then min new (old + step) else max new (old - step)

/-- A delay has moved by more than 100 ps (08 R304). -/
def delayMoved (old new : Nat) : Bool := decide (100 * 65536 < ((old : Int) - new).natAbs * 1000)

/-- SET goes to one head: whole while the ring is not yet calibrated, afterwards when a delay has moved by more than
100 ps, and by at most *CalStepMax* (08 R302, R304). -/
def State.sendSet (s : State) (r k : Nat) (d : Nat × Nat) : State :=
  let x := s.ringAt r
  let h := x.headRec k
  if x.state = .training ∨ x.state = .renumber ∨ !h.confirmed then s.sendSlow r k (.cal 3 d.1 d.2)
  else if delayMoved h.delayA d.1 ∨ delayMoved h.delayB d.2 then
    let step := s.num 0x4600 3 250 * 65536 / 1000
    s.sendSlow r k (.cal 3 (stepDelay step h.delayA d.1) (stepDelay step h.delayB d.2))
  else s

/-! ### Ring states (08 R310 to R313) -/

/-- The ring is CLOSED: its table of serials is kept, and every head's delays are confirmed (08 R307, R311). -/
def State.closeRing (s : State) (r : Nat) : State :=
  (s.modRing r (fun x =>
    { x with state := .closed, fedB := false, breaks := [], lastCount := x.headCount, segAEnd := x.headCount, segBStart := 0
             island := [], serials := (positions 1 x.headCount).foldl (fun t p => tset 0 t p (x.descOf p).serial) [] })).clearAlarm
    0x0401 r

/-- Every head has reported its SET: a ring in TRAINING or RENUMBER is CLOSED (08 R311, R313). -/
def State.tryClose (s : State) (r : Nat) : State :=
  let x := s.ringAt r
  if (x.state = .training ∨ x.state = .renumber) ∧ (positions 1 x.headCount).all (fun p => x.reported.contains p) then
    s.closeRing r
  else s

/-- A calibration of a whole ring ends: delays are computed and SETs sent, or CAL_CLOSURE is raised and the previous
delays stand (08 R302 to R304). -/
def State.finishWhole (s : State) (r : Nat) : State :=
  let x := s.ringAt r
  let heads := positions 1 x.headCount
  let u := x.hopTimes
  let f : Int := (x.calF.getD 0 : Nat)
  let v : Int := (x.calV.getD 0 : Nat)
  let closure := (f + v) - (u.sum + x.through heads)
  let asym := (f - v) - (x.sumHd heads - x.sumHu heads)
  let s1 := s.modRing r (fun y =>
    { y with calBusy := false, fTotal := x.calF.getD 0, vTotal := x.calV.getD 0, closure := closure })
  if x.headCount = 0 then s1.tryClose r
  else if 1000 < closure.natAbs ∨ x.rttBad then s1.alarm .alarm 0x0404 r (ringDetail r 0 0 0)
  else
    let s2 := (s1.clearAlarm 0x0404 r).modRing r (fun y =>
      { y with asym := asym, hops := u.zipIdx.foldl (fun t e =>
          tset (0, 0) t (e.2 + 1) (e.1 * (u.sum - asym), e.1 * (u.sum + asym))) [] })
    heads.foldl (fun w k => w.sendSet r k (x.delays asym k)) s2

/-- A calibration ends (08 R302, R304). -/
def State.finishCal (s : State) (r : Nat) : State :=
  let x := s.ringAt r
  if x.state = .wrap then
    (x.calA ++ x.calB).foldl (fun w k => w.sendSet r k (x.wrapDelays k)) (s.modRing r (fun y => { y with calBusy := false }))
  else s.finishWhole r

/-- A CMARK has come back to the device, which takes its time (08 R302). -/
def State.measured (s : State) (r : Nat) (f : Ring → Ring) : State :=
  if (s.ringAt r).calBusy then
    let s1 := s.modRing r f
    if (s1.ringAt r).calDone then s1.finishCal r else s1
  else s

/-- A ring goes OFF (08 R313). -/
def State.ringOff (s : State) (r : Nat) : State :=
  ((s.modRing r (fun x =>
    { x with state := .off, fedB := false, breaks := [], closing := false, calBusy := false, countA := none, countB := none
             described := [], reported := [], mgmtOpen := [] })).modRc (r / 4) (fun c =>
    { c with deferred := c.deferred.filter (fun d => d.1 != r) })).clearAlarm 0x0401 r

/-- A ring enters TRAINING: the heads are counted from the A end (08 R305, R313). -/
def State.startTraining (s : State) (r : Nat) : State :=
  ((s.ringOff r).modRing r (fun x =>
    { x with state := .training, trainAt := s.now, faultCause := 0, headCount := 0, segAEnd := 0, segBStart := 0, island := []
             safeAtA := s.now, safeAtB := s.now
             recs := tmap {} (fun _ h => { h with present := false, confirmed := false }) x.recs })).sendCount r false

/-- *RingEnable* in force takes a ring to OFF, or from OFF or FAULT to TRAINING in SERVICE and RUN (08 R313). -/
def State.ringEnabled (s : State) (r : Nat) (on : Bool) : State :=
  let x := s.ringAt r
  if !on then (if x.state = .off then s else s.ringOff r)
  else if (s.op.state = .service ∨ s.op.state = .run) ∧ (x.state = .off ∨ x.state = .fault) then s.startTraining r
  else s

/-- A ring enters FAULT; it carries TIME, SAFE and MGMT from the A end (08 R313). -/
def State.ringFault (s : State) (r cause : Nat) : State :=
  s.modRing r (fun x => { x with state := .fault, faultCause := cause, fedB := false, calBusy := false, breaks := [] })

/-- Both ends are fed, and the heads are counted from each (08 R310). -/
def State.countBoth (s : State) (r : Nat) : State :=
  let x := s.ringAt r
  let quiet := s.ringQuenched r
  let s1 := s.modRing r (fun y =>
    { y with fedB := true, countA := none, countB := none, described := [], calBusy := false
             goodSafeB := if y.fedB then y.goodSafeB else if quiet then 0 else 4, safeAtB := if y.fedB then y.safeAtB else s.now })
  let s2 := if x.fedB then s1 else s1.sendPair r true s.time.t64
  (s2.sendCount r false).sendCount r true

/-- A ring is in WRAP: counted, with alarm RING_WRAP (08 R310, R316). -/
def State.enterWrap (s : State) (r : Nat) : State :=
  (s.modRing r (fun x => { x with state := .wrap, wraps := inc32 x.wraps })).alarm .alarm 0x0401 r (ringDetail r 0 0 0)

/-- A break of a ring: CLOSED and RENUMBER go to WRAP, and in WRAP and TRAINING the heads are counted from both ends
again (08 R310, R313). -/
def State.ringBreak (s : State) (r : Nat) (side : BreakSide) : State :=
  let x := s.ringAt r
  let s1 := s.modRing r (fun y => { y with breaks := if side ∈ y.breaks then y.breaks else y.breaks ++ [side] })
  match x.state with
  | .off | .fault => s
  | .closed | .renumber =>
    ((s1.modRing r (fun y => { y with segAEnd := y.lastCount, segBStart := 0, island := [] })).enterWrap r).countBoth r
  | .wrap | .training => s1.countBoth r

/-- Every break has healed: CLOSE from both ends, the B end is fed no more, and the heads are enumerated from the A
end (08 R311). -/
def State.heal (s : State) (r : Nat) : State :=
  let s1 := (s.sendDeferrable r false 0xFF (.enumOut 4 0 0)).sendDeferrable r true 0xFF (.enumOut 4 0 0)
  let s2 := s1.modRing r (fun x =>
    { x with state := .renumber, fedB := false, closing := true, countA := none, countB := none, described := [], reported := []
             calBusy := false, segAEnd := x.lastCount, segBStart := 0, island := []
             recs := tmap {} (fun _ h => { h with confirmed := false }) x.recs })
  (s2.sendPair r false s.time.t64).sendCount r false

/-- A side of a break is up again (08 R311). -/
def State.sideUp (s : State) (r : Nat) (side : BreakSide) : State :=
  let x := s.ringAt r
  let left := x.breaks.filter (fun b => b != side && b != .tmark)
  let s1 := s.modRing r (fun y => { y with breaks := left })
  if x.state = .wrap ∧ x.breaks ≠ [] ∧ left = [] then s1.heal r else s1

/-! ### Enumeration (08 R305 to R307, R310 to R312) -/

/-- Positions that the device reaches from its two ends. -/
def Ring.reachable (x : Ring) : List Nat :=
  positions 1 x.segAEnd ++ (if x.segBStart = 0 then [] else positions x.segBStart x.lastCount)

/-- A position whose head has the serial that the table of the last CLOSED state gives it (08 R311). -/
def Ring.serialFits (x : Ring) (p : Nat) : Bool := tget 0 x.serials p == (x.descOf p).serial

/-- Every reachable head has answered DESCRIBE: a broken ring in TRAINING goes to WRAP when each serial matches the
persisted table (08 R313). -/
def State.segmentsKnown (s : State) (r : Nat) : State :=
  let x := s.ringAt r
  if x.reachable.all (fun p => x.described.contains p) ∧ x.state = .training ∧ x.reachable.all x.serialFits then
    let s1 := s.enterWrap r
    (x.reachable.foldl (fun u p => u.headSettings r p) s1).beginCal r
  else s

/-- Both counts of a broken ring are in: the segments and the island between them (08 R310). -/
def State.learnSegments (s : State) (r : Nat) : State :=
  let x := s.ringAt r
  match x.countA, x.countB with
  | some a, some b =>
    let start := max (a + 1) (x.lastCount + 1 - b)
    let first := if b = 0 ∨ x.lastCount < start then 0 else start
    let last := if first = 0 then x.lastCount else first - 1
    ((s.modRing r (fun y => { y with segAEnd := a, segBStart := first, island := positions (a + 1) last })).sendDescribe
      r).segmentsKnown r
  | _, _ => s

/-- A COUNT has come back to the end that sent it: the path is broken (08 R305, R310). -/
def State.countTurned (s : State) (r : Nat) (b : Bool) (n : Nat) : State :=
  let x := s.ringAt r
  let s1 := if x.state = .training ∧ !x.fedB then s.countBoth r else s
  match x.state with
  | .training | .wrap =>
    (s1.modRing r (fun y => if b then { y with countB := some n } else { y with countA := some n })).learnSegments r
  | _ => s

/-- A COUNT from the A end has come to the B end: the path is whole, and the heads describe themselves (08 R305,
R306). -/
def State.countWhole (s : State) (r n : Nat) : State :=
  match (s.ringAt r).state with
  | .training | .renumber =>
    let s1 := (s.modRing r (fun x =>
      { x with headCount := n, fedB := false, countA := none, countB := none, closing := false, reported := []
               recs := tmap {} (fun p h => { h with present := decide (p ≤ n) && h.present }) x.recs })).sendDescribe r
    if n = 0 then s1.beginCal r else s1
  | _ => s

/-- The position of the head with a serial among those just enumerated. -/
def Ring.placeOf (x : Ring) (serial : Nat) : Option Nat :=
  (positions 1 x.headCount).find? (fun p => (x.descOf p).serial == serial)

/-- Pending events follow their heads: each is re-keyed by serial, and one whose head is gone is unreachable
(08 R312). -/
def State.rekey (s : State) (r : Nat) : State :=
  let x := s.ringAt r
  let s1 := (x.events.filter (fun e => (x.placeOf e.serial).isNone)).foldl (fun u e =>
    u.completeMember r e .unreachable s.time.t64) s
  s1.modRing r (fun y =>
    let evs := y.events.map (fun e => { e with pos := (x.placeOf e.serial).getD e.pos })
    { y with events := evs
             groups := y.groups.map (fun g =>
               if g.2.stage = .assembling ∨ g.2.stage = .waiting then
                 (g.1, { g.2 with mask := ((evs.filter (fun e => e.group == some g.1)).map (·.pos)).eraseDups })
               else g) })

/-- Every head of a whole ring has described itself: events follow their heads, the settings go out, and the ring is
calibrated (08 R302, R311, R312, 09 R355). -/
def State.enumerated (s : State) (r : Nat) : State :=
  let x := s.ringAt r
  let heads := positions 1 x.headCount
  let shifted := x.state == .renumber && heads.any (fun p => (x.headRec p).previous != 0 || !x.serialFits p)
  let s1 := if x.state = .renumber then s.rekey r else s
  let s2 := if shifted then s1.record .general .alarm niGaffer 0x0402 (ringDetail r 0 0 0) else s1
  (heads.foldl (fun u p => u.headSettings r p) s2).beginCal r

/-- A head's descriptor is recorded, with the position its serial had before (08 R307, R311, R312, R316). -/
def Ring.recordDesc (x : Ring) (p : Nat) (prov : Bool) (d : HeadDesc) : Ring :=
  let old := ((x.serials.find? (fun e => e.2 == d.serial)).map (·.1)).getD 0
  let fits := tget 0 x.serials p == d.serial
  { x.modRec p (fun h =>
      { h with present := true, desc := d, provisional := prov, previous := if old = p then 0 else old
               confirmed := match x.state with
                 | .renumber => fits
                 | .wrap => fits && h.confirmed
                 | _ => h.confirmed }) with
    described := if p ∈ x.described then x.described else x.described ++ [p] }

/-- A DESC reaches the device. A head without a position, after a full count of 64 from the A end, is one head too
many (08 R307, R313). -/
def State.descArrives (s : State) (r p : Nat) (prov : Bool) (d : HeadDesc) : State :=
  let x := s.ringAt r
  if p = 0 then
    if x.headCount = 64 ∧ (x.state = .training ∨ x.state = .renumber) then
      (s.ringFault r 2).alarm .alarm 0x0406 r (ringDetail r 0 d.serial 0)
    else s
  else
    let s1 := s.modRing r (fun y => y.recordDesc p prov d)
    let y := s1.ringAt r
    match x.state with
    | .renumber | .training =>
      if x.fedB then s1.segmentsKnown r
      else if p ∉ x.described ∧ (positions 1 y.headCount).all (fun q => y.described.contains q) then s1.enumerated r
      else s1
    | .wrap => s1
    | _ => s

/-- A CAL REPORT reaches the device: the delays in force, and the ring may be CLOSED (08 R302, R311, R312). -/
def State.reportArrives (s : State) (r p a b : Nat) : State :=
  (s.modRing r (fun x =>
    { x.modRec p (fun h => { h with delayA := a, delayB := b, confirmed := true }) with
      reported := if p ∈ x.reported then x.reported else x.reported ++ [p] })).tryClose r

end Sys2Proof.Machine
end

