-- ==== Sys2Proof/Machine/HeadOps.lean ====
section
/-!
DEFINITION. A head's obligations: its local time, its ports, its quench, the events and groups it holds, what it
fires, and its MGMT registers (08 R292 to R309, 09 R347 to R356, 10 R389).
-/

namespace Sys2Proof.Machine

/-- Counts one occurrence in a head's counter: 0 FCS_ERR, 1 ABORTS_SENT, 2 DUPLICATES, 3 LATE, 4 LATE_TRIM, 5 BAD,
6 FIRED, 7 SUSPECT_SEEN, 8 SAFE_REJECTED, 9 TIME_JUMP, 10 COAST_ENTRIES (09 R355). -/
def Head.count (h : Head) (k : Nat) : Head := { h with counters := tset 0 h.counters k (inc32 (tget 0 h.counters k)) }

/-- A port is declared down. -/
def Head.isDown (h : Head) (portD : Bool) : Bool := if portD then h.downD else h.downU

/-- The drift of a head that has no receive clock, within ±50 ppm of the time since it entered COAST (09 R351,
log 23). -/
def Head.drift (h : Head) (now : Nat) : Int :=
  if h.coast ∧ h.downU ∧ h.downD then
    let d : Int := ((now - h.coastAt : Nat) : Int) * 65536
    clampInt (-(d / 20000)) (d / 20000) (Config.coastDrift h.desc.serial (now - h.coastAt))
  else 0

/-- A head's local time, in 2^-16 ns (08 R299, 09 R351). -/
def Head.localTime (h : Head) (now : Nat) : Int := h.localBase + ((now : Int) - h.localAt) * 65536 + h.drift now

/-- The end that a head's own frames travel toward (08 R287, R295). -/
def Head.toward (h : Head) : RingEnd :=
  match h.feed with
  | .u => .a
  | .d => .b

/-- A head sends a frame of its own out of its feed port (08 R287, R295). -/
def State.headSends (s : State) (r p : Nat) (body : FrameBody) : State :=
  let h := s.headAt r p
  let q := (h.fseq + 1) % 65536
  (s.modHead r p (fun x => { x with fseq := q })).emit
    (.frame { ring := r, end_ := h.toward, up := true, dst := 0, src := h.pos, fseq := q, body })

/-- A frame reaches a powered head: it is counted and dropped when it is not good, and acted on when it is addressed
to the head (08 R288, R306). -/
def State.headFrame (s : State) (r p dst : Nat) (good : Bool) (run : State → State) : State :=
  let h := s.headAt r p
  if !h.powered then s
  else
    let s1 := s.modHead r p (fun x => { x with idling := false })
    if !good then s1.modHead r p (fun x => x.count 0)
    else if dst = 0xFF ∨ (h.pos ≠ 0 ∧ dst = h.pos) then run s1
    else s1

/-! ### Time, position and ports (08 R298 to R309, 09 R351) -/

/-- A head enters COAST (09 R351). -/
def Head.startCoast (h : Head) (now : Nat) : Head := if h.coast then h else { h.count 10 with coast := true, coastAt := now }

/-- A TIME frame of an end: it sets the feed port, and with a delay for that end the local time (08 R298, R299, R301,
09 R351). -/
def Head.takeTime (h : Head) (b : Bool) (ttx epoch now : Nat) : Head :=
  match (if b then h.tmarkD else h.tmarkU) with
  | none => h
  | some t =>
    if t + 4000 < now then h
    else
      let h1 := { h with feed := if b then .d else .u, pairAt := now, coast := false, epoch := some epoch }
      match (if b then h.dlyB else h.dlyA) with
      | none => { h1 with timeValid := false }
      | some d =>
        let new : Int := (ttx + d : Nat)
        let jump : Bool := h.timeValid && h.epoch == some epoch && decide (131072 < (new - h.localTime t).natAbs)
        { (if jump then h1.count 9 else h1) with localBase := new, localAt := t, timeValid := true }

/-- HOPS as a head sends COUNT on (08 R305). -/
def raisedHops (hops : Nat) : Nat := min 64 (hops + 1)

/-- A head takes its position from a COUNT of an end (08 R305). -/
def Head.takeCount (h : Head) (b : Bool) (hops base : Nat) : Head :=
  if 64 < hops + 1 then { h with pos := 0, overfull := true }
  else if b then { h with pos := base + 1 - (hops + 1), provisional := true, overfull := false }
  else { h with pos := hops + 1, provisional := false, overfull := false }

/-- A port goes down: the head is in loopback on its other port, and in COAST when it was its feed port (08 R308,
R309, 09 R351). -/
def Head.portDown (h : Head) (portD : Bool) (now : Nat) : Head :=
  let mine : Bool := match h.feed with
    | .u => !portD
    | .d => portD
  let h1 := if mine then h.startCoast now else h
  { h1 with downU := h.downU || !portD, downD := h.downD || portD, loopback := true, feed := if portD then .u else .d }

/-- A port is up again: the head stays in loopback (08 R308). -/
def Head.portUp (h : Head) (portD : Bool) (now : Nat) : Head :=
  { h with localBase := h.localTime now, localAt := now, downU := h.downU && portD, downD := h.downD && !portD }

/-! ### Quench and release (08 R291, 09 R352 to R354, 10 R389) -/

/-- SCRC of a SAFE frame for a ring (08 R291). -/
def safeCrc (r sseq stime qstate sfmode qcause rsv : Nat) : Nat :=
  crc32c (r :: bytesBE 4 sseq ++ bytesBE 8 stime ++ [qstate, sfmode, qcause, rsv])

/-- A head quenches: every channel is de-energised, and every held and staged event is gone; one that is quenched
already keeps its cause (09 R353). -/
def Head.quench (h : Head) (cause : Nat) : Head :=
  { h with channels := [], held := [], staged := [], committed := [], captures := [], quenched := true
           cause := if h.quenched then h.cause else cause }

/-- A head quenches itself: the cause is reported, any SSEQ is accepted next, and the release sequence begins afresh
(09 R352 to R354). -/
def Head.selfQuench (h : Head) (cause : Nat) : Head :=
  { h.quench cause with cause := cause, quenchSeen := false, goodFrames := 0, lastSseq := none, safeAt := none }

/-- The checked fields of a SAFE frame hold, and its SCRC is right for the ring (08 R291). -/
def SafeFields.sound (r : Nat) (f : SafeFields) : Bool :=
  f.scrc == safeCrc r f.sseq f.stime f.qstate f.sfmode f.qcause f.rsv && decide (f.qstate < 4) && decide (f.sfmode ≤ 1) &&
    f.rsv == 0

/-- A head accepts a SAFE frame (09 R352). -/
def Head.acceptsSafe (h : Head) (r : Nat) (f : SafeFields) (now : Nat) : Bool :=
  let t := h.localTime now
  let d := match h.lastSseq with
    | none => 1
    | some l => (f.sseq + 2 ^ 32 - l) % 2 ^ 32
  SafeFields.sound r f && h.timeValid && decide ((f.stime : Int) * 65536 ≤ t + 65536000 ∧ t ≤ (f.stime : Int) * 65536 + 655360000) &&
    decide (1 ≤ d ∧ d ≤ 64)

/-- An accepted SAFE frame counts as QUENCH = 1: by its bit, by a mode the head lacks, or by a change of mode with no
QUENCH = 1 between (09 R352, 10 R389). -/
def Head.quenchedBy (h : Head) (f : SafeFields) : Bool :=
  let jog : Bool := f.sfmode == 1
  f.qstate.testBit 0 || (jog && !h.jogCapable) || ((!h.quenched || decide (0 < h.goodFrames)) && h.jog != jog)

/-- QUENCH = 0 frames accepted one after another, with this one (09 R354). -/
def Head.goodRun (h : Head) (f : SafeFields) : Nat :=
  if 0 < h.goodFrames ∧ h.lastSseq.map inc32 = some f.sseq then h.goodFrames + 1 else 1

/-- A SAFE frame at a head: rejected and counted, or accepted, and then the head is quenched, counts toward its
release, or goes on (09 R352 to R354, 10 R389). -/
def Head.takeSafe (h : Head) (r : Nat) (f : SafeFields) (now : Nat) : Head :=
  if !h.acceptsSafe r f now then h.count 8
  else
    let h1 := { h with safeAt := some now, lastSseq := some f.sseq, jog := f.sfmode == 1 }
    if h.quenchedBy f then { h1.quench 1 with quenchSeen := true, goodFrames := 0 }
    else if h.quenched ∧ h.quenchSeen then
      { h1 with goodFrames := h.goodRun f, quenched := decide (h.goodRun f < 4), quenchSeen := decide (h.goodRun f < 4) }
    else h1

/-! ### Events and groups (09 R333, R334, R348, R349) -/

/-- Lock-in of an entry has been reached on the head's local time (09 R337). -/
def Head.atLock (h : Head) (when_ : T80) (now : Nat) : Bool := decide ((when_ : Int) - lockLead ≤ h.localTime now)

/-- An entry arrives later than its lock-in instant (09 R348). -/
def Head.isLate (h : Head) (when_ : T80) (now : Nat) : Bool := decide ((when_ : Int) - lockLead < h.localTime now)

/-- Entries that count against EVCAP (09 R349). -/
def Head.load (h : Head) : Nat := h.held.length + (h.staged.map (fun g => g.entries.length)).sum

/-- An entry that a head refuses as BAD: quenched or without time, an undefined action, a channel it has not, an empty
PULSE, or an action that JOG does not admit (09 R333, R348, R353, 10 R389). -/
def Head.refusesEntry (h : Head) (e : EventEntry) : Bool :=
  h.quenched || !h.timeValid || !actDefined e.act || decide (h.desc.channels ≤ e.ch) || (e.act == 3 && e.param == 0) ||
    (h.jog && (e.act == 1 || e.act == 4 || decide (0x80 ≤ e.act)))

/-- The head counts an entry sent while its angle channel was SUSPECT (09 R344). -/
def Head.seeSuspect (h : Head) (e : EventEntry) : Head := if e.suspect then h.count 7 else h

/-- Changes the event that a head holds under an EID. -/
def Head.modHeld (h : Head) (eid : Nat) (f : HeldEvent → HeldEvent) : Head :=
  { h with held := h.held.map (fun x => if x.entry.eid = eid then f x else x) }

/-- A new WHEN for a held event; after lock-in it is ignored and counted (09 R337, R348). -/
def Head.trim (h : Head) (x : HeldEvent) (w : T80) (now : Nat) : Head :=
  if x.locked ∨ h.atLock x.entry.when_ now then h.count 4
  else h.modHeld x.entry.eid (fun y => { y with entry := { y.entry with when_ := w } })

/-- A further event is held (09 R348). -/
def Head.hold (h : Head) (e : EventEntry) : Head :=
  { h with held := h.held ++ [{ entry := e, arrival := h.arrivals }], arrivals := h.arrivals + 1 }

/-- One entry of an EVENT frame (09 R337, R344, R348). -/
def Head.takeEntry (now : Nat) (h0 : Head) (e : EventEntry) : Head :=
  let h := h0.seeSuspect e
  match h.held.find? (fun x => x.entry.eid == e.eid) with
  | some x =>
    if e.withdraw then
      (if x.locked ∨ h.atLock x.entry.when_ now then h else { h with held := h.held.filter (fun y => y.entry.eid ≠ e.eid) })
    else if e.trim then h.trim x e.when_ now
    else if e.when_ = x.entry.when_ then h.count 2
    else (h.count 2).trim x e.when_ now
  | none =>
    if e.withdraw ∨ e.trim then h
    else if h.refusesEntry e then h.count 5
    else if h.isLate e.when_ now then h.count 3
    else if h.desc.evCap ≤ h.load then h.count 5
    else h.hold e

/-- What a head answers to STAGE (09 R349): 0 OK, 1 FULL, 4 BAD. -/
def Head.stageStatus (h : Head) (gid : Nat) (es : List EventEntry) (now : Nat) : Nat :=
  if h.staged.any (fun g => g.gid == gid) ∨ h.committed.any (fun g => g.1 == gid) then 0
  else if h.quenched ∨ es.any (fun e => h.refusesEntry e || h.isLate e.when_ now) then 4
  else if 4 ≤ h.staged.length ∨ h.desc.evCap < h.load + es.length then 1
  else 0

/-- A STAGE whose MASK names the head (09 R349). -/
def Head.takeStage (h : Head) (gid hold : Nat) (es : List EventEntry) (now : Nat) : Head :=
  if h.stageStatus gid es now = 0 ∧ ¬ h.staged.any (fun g => g.gid == gid) ∧ ¬ h.committed.any (fun g => g.1 == gid) then
    { es.foldl Head.seeSuspect h with staged := h.staged ++ [{ gid, hold, entries := es }] }
  else h

/-- HOLD of a staged group has passed, or has been reached, on the head's local time. -/
def Head.pastHold (h : Head) (hold now : Nat) : Bool := decide ((hold : Int) * 65536 < h.localTime now)

/-- What a head answers to COMMIT (09 R349): 0 OK, 2 NOT_STAGED, 3 LATE. -/
def Head.commitStatus (h : Head) (gid now : Nat) : Nat :=
  if h.committed.any (fun g => g.1 == gid) then 0
  else match h.staged.find? (fun g => g.gid == gid) with
    | none => 2
    | some g => if h.pastHold g.hold now then 3 else 0

/-- COMMIT: the group's entries are ordinary held events from now on (09 R349). -/
def Head.takeCommit (h : Head) (gid now : Nat) : Head :=
  match h.staged.find? (fun g => g.gid == gid) with
  | none => h
  | some g =>
    let h1 := { h with staged := h.staged.filter (fun x => x.gid ≠ gid) }
    if h.pastHold g.hold now then h1
    else { g.entries.foldl Head.hold h1 with committed := (gid, g.hold) :: h.committed.filter (fun c => !h.pastHold c.2 now) }

/-- ABORT: the group is discarded (09 R349). -/
def Head.takeAbort (h : Head) (gid : Nat) : Head :=
  { h with staged := h.staged.filter (fun x => x.gid ≠ gid), committed := h.committed.filter (fun c => c.1 ≠ gid) }

/-! ### Firing (09 R333, R334, R347, 10 R389) -/

/-- The earliest WHEN among the events held for a channel. -/
def Head.firstWhen (h : Head) (ch : Nat) : Option T80 :=
  ((h.held.filter (fun x => x.entry.ch == ch)).map (·.entry.when_)).min?

/-- Of two events of one channel and WHEN, the one that prevails: OFF, otherwise the later arrival (09 R334). -/
def prevails (a b : HeldEvent) : HeldEvent :=
  if a.entry.act = 2 then a else if b.entry.act = 2 then b else if a.arrival < b.arrival then b else a

/-- The event that fires on a channel at a WHEN (09 R334). -/
def Head.winner (h : Head) (ch : Nat) (w : T80) : Option HeldEvent :=
  match h.held.filter (fun x => x.entry.ch == ch && x.entry.when_ == w) with
  | [] => none
  | a :: t => some (t.foldl prevails a)

/-- A channel after an action: ON, OFF, PULSE, LEVEL, SAMPLE or a head-defined one (09 R333, R334); JOG shortens a
PULSE (10 R389). -/
def HeadChannel.act (c : HeadChannel) (jog : Bool) (e : EventEntry) : HeadChannel :=
  match e.act with
  | 1 => { c with level := 65535, pulseEnd := none }
  | 2 => { c with level := 0 }
  | 3 => { c with level := 65535, pulseEnd := some (e.when_ + (if jog then min 100 e.param else e.param) * 100 * 65536) }
  | 4 => { c with level := e.param, pulseEnd := none }
  | 5 => c
  | a => { c with custom := some (a, e.param) }

/-- JOG fires a channel at most once per 10 ms (10 R389). -/
def Head.jogHolds (h : Head) (ch : Nat) (w : T80) : Bool :=
  h.jog && (match (tget {} h.channels ch).lastFire with
    | some t => decide (w < t + 10000000 * 65536)
    | none => false)

/-- The winner's action takes place, and is counted. -/
def Head.fire (h : Head) (x : HeldEvent) : Head :=
  let e := x.entry
  if h.jogHolds e.ch e.when_ ∧ e.act ≠ 2 then h
  else
    let h1 := h.count 6
    { h1 with channels := tmod {} h1.channels e.ch (fun c => { c.act h.jog e with lastFire := if e.act = 2 then c.lastFire else some e.when_ })
              captures := if e.act = 5 then h1.captures ++ [(e.param % 8, e.param / 256, e.when_)] else h1.captures }

/-- The events due first on a channel leave it, and the one that prevails fires; a quenched head, or one without time,
fires nothing (08 R299, 09 R334, R348, R353). -/
def Head.fireDue (h : Head) (ch now : Nat) : Head :=
  match h.firstWhen ch with
  | none => h
  | some w =>
    if h.quenched ∨ !h.timeValid ∨ h.localTime now < w then h
    else
      let h1 := { h with held := h.held.filter (fun x => !(x.entry.ch == ch && x.entry.when_ == w)) }
      match h.winner ch w with
      | some x => h1.fire x
      | none => h1

/-! ### MGMT registers (09 R355) -/

/-- STATUS (09 R355). -/
def Head.status (h : Head) : Nat :=
  (if h.quenched then 1 else 0) + 2 * h.cause + (if h.coast then 16 else 0) + (if h.timeValid then 32 else 0) +
    (if h.feed = .d then 64 else 0) + (if h.loopback then 128 else 0)

/-- A register that can be read; none at any other address (09 R355). -/
def Head.readReg (h : Head) (a : Nat) : Option Nat :=
  if a = 0 then some (h.desc.vendor * 65536 + h.desc.model)
  else if a = 1 then some h.desc.serial
  else if a = 2 then some h.status
  else if a = 3 then some h.safeTimeout
  else if a = 4 then some h.coastMax
  else if a = 5 then some h.timePeriod
  else if a = 6 then some h.energyPeriod
  else if a = 7 then some h.load
  else if 0x10 ≤ a ∧ a ≤ 0x1A then some (tget 0 h.counters (a - 0x10))
  else if 0x20 ≤ a ∧ a < 0x40 ∧ a % 4 = 0 then some (tget 0 h.streams ((a - 0x20) / 4))
  else if 0x40 ≤ a ∧ a < 0x50 then some (tget 0 h.channelRegs (a - 0x40))
  else if 0x100 ≤ a ∧ a ≤ 0xFFFF then some (tget 0 h.vendorRegs a)
  else none

/-- A register whose writes are answered BUSY unless the head is quenched (09 R355). -/
def protectedReg (a : Nat) : Bool := decide (3 ≤ a ∧ a ≤ 5)

/-- What a write of one register answers (08 R290, 09 R355): 0 OK, 1 BAD_ADDR, 2 READ_ONLY, 3 BUSY. -/
def Head.writeStatus (h : Head) (a v : Nat) : Nat :=
  if a ≤ 2 ∨ a = 7 ∨ (0x10 ≤ a ∧ a ≤ 0x1A) ∨ (0x40 ≤ a ∧ a < 0x50) then 2
  else if protectedReg a ∧ !h.quenched then 3
  else if a = 3 then (if 500 ≤ v ∧ v ≤ 5000 then 0 else 1)
  else if a = 4 then (if 500 ≤ v ∧ v ≤ 10000 then 0 else 1)
  else if a = 5 then (if 250 ≤ v ∧ v ≤ 10000 then 0 else 1)
  else if a = 6 then (if 100 ≤ v ∧ v ≤ 60000 then 0 else 1)
  else if a = 0x1F ∨ (0x20 ≤ a ∧ a < 0x40 ∧ a % 4 = 0) ∨ (0x100 ≤ a ∧ a ≤ 0xFFFF) then 0
  else 1

/-- Writes one register (09 R355). -/
def Head.writeReg (h : Head) (a v : Nat) : Head :=
  if a = 3 then { h with safeTimeout := v }
  else if a = 4 then { h with coastMax := v }
  else if a = 5 then { h with timePeriod := v }
  else if a = 6 then { h with energyPeriod := v }
  else if a = 0x1F then (if v = 1 then { h with counters := [] } else h)
  else if 0x20 ≤ a ∧ a < 0x40 then { h with streams := tset 0 h.streams ((a - 0x20) / 4) v }
  else if 0x100 ≤ a then { h with vendorRegs := tset 0 h.vendorRegs a v }
  else h

/-- A MGMT read: the words, or none where one of them cannot be read (08 R290, 09 R355). -/
def Head.readRegs (h : Head) (a n : Nat) : Option (List Nat) :=
  if n = 0 ∨ 64 < n then none else (List.range n).mapM (fun i => h.readReg (a + i))

/-- What a MGMT write answers: the first status that is not OK. -/
def Head.writesStatus (h : Head) (a : Nat) (l : List Nat) : Nat :=
  if l = [] ∨ 64 < l.length then 1
  else ((l.zipIdx.map (fun e => h.writeStatus (a + e.2) e.1)).find? (fun c => c ≠ 0)).getD 0

/-- A MGMT write that is admitted. -/
def Head.writeRegs (h : Head) (a : Nat) (l : List Nat) : Head := l.zipIdx.foldl (fun x e => x.writeReg (a + e.2) e.1) h

end Sys2Proof.Machine
end

