-- ==== Sys2Proof/Machine/Link.lean ====
section
/-!
DEFINITION. The commands of the Ezvas link: marks and TIME frames, enumeration, calibration, breaks, SAFE frames and
the noisy window, at the device and at the heads (08 R293 to R315, 09 R352, 10 R370). Place 0 is the device.
-/

namespace Sys2Proof.Machine

/-- *RingEnable* comes into force (08 R313). -/
def execRingEnable (r : Fin 16) (on : Bool) (s : State) : Host.Outcome State Fault Refusal :=
  .next ({ s with sess := s.sess.force (okey (0x4000 + r) 1) (.num (if on then 1 else 0)) }.ringEnabled r on)

/-- A ring that is still in TRAINING after 1 s enters FAULT (08 R313). -/
def execTrainingTimeout (r : Fin 16) (s : State) : Host.Outcome State Fault Refusal :=
  .next (let x := s.ringAt r
    if x.state = .training ∧ x.trainAt + 1000000000 ≤ s.now then s.ringFault r 1 else s)

/-- Each fed end sends the TMARK of a multiple of *TimePeriod* and its TIME frame (08 R297). -/
def execTmarkSend (r : Fin 16) (s : State) : Host.Outcome State Fault Refusal :=
  .next (let x := s.ringAt r
    let t := s.time.t64 / max 1 s.timePeriod * s.timePeriod
    if x.state = .off ∨ t = x.tmarkAt then s
    else
      let s1 := (s.modRing r (fun y => { y with tmarkAt := t })).sendPair r false t
      if x.fedB then s1.sendPair r true t else s1)

/-- A TMARK reaches a head's port (08 R298). -/
def execTmark (r : Fin 16) (p : Fin 65) (portD : Bool) (s : State) : Host.Outcome State Fault Refusal :=
  .next (if (s.headAt r p).powered then
      s.modHead r p (fun h => if portD then { h with tmarkD := some s.now } else { h with tmarkU := some s.now })
    else s)

/-- A TIME frame reaches a head (08 R298, R299, R301, 09 R351). -/
def execTimeFrame (r : Fin 16) (p : Fin 65) (b good : Bool) (ttx epoch : Nat) (s : State) :
    Host.Outcome State Fault Refusal :=
  .next (s.headFrame r p 0xFF good (fun u => u.modHead r p (fun h => h.takeTime b ttx epoch u.now)))

/-- A CMARK comes to a head, which turns it when it is armed for the port, or back to the device, which takes its time
(08 R302). -/
def execCmark (r : Fin 16) (at_ : CmarkAt) (s : State) : Host.Outcome State Fault Refusal :=
  .next (match at_ with
    | .head p d =>
      let h := s.headAt r p
      let arm := if d then h.armD else h.armU
      (match arm with
      | some t =>
        let s1 := s.modHead r p (fun x => if d then { x with armD := none } else { x with armU := none })
        if h.powered ∧ s.now ≤ t + 20000 then s1.emit (.turned r p (if d then .d else .u)) else s1
      | none => s)
    | .rttA p ps => s.measured r (fun x => { x with rttA := tput p ps x.rttA })
    | .rttB p ps => s.measured r (fun x => { x with rttB := tput p ps x.rttB })
    | .forward ps => s.measured r (fun x => { x with calF := some ps })
    | .reverse ps => s.measured r (fun x => { x with calV := some ps }))

/-- ABT ends a frame, which its receiver discards; at the device it is an error (08 R285, R288, R314, R316). -/
def execAbt (r : Fin 16) (p : Fin 65) (s : State) : Host.Outcome State Fault Refusal :=
  .next (if p.val = 0 then (s.modRing r (fun x => { x with aborts := inc32 x.aborts })).ringError (r / 4) else s)

/-- A code violation: at a head it ends the frame being forwarded with ABT and IDLE; at the device it is an error
(08 R293, R314, R316). -/
def execCodeViolation (r : Fin 16) (p : Fin 65) (s : State) : Host.Outcome State Fault Refusal :=
  .next (if p.val = 0 then (s.modRing r (fun x => { x with codeErrors := inc32 x.codeErrors })).ringError (r / 4)
    else if (s.headAt r p).powered ∧ !(s.headAt r p).idling then
      (s.modHead r p (fun h => { h.count 1 with idling := true })).emit (.ringAbort r p)
    else s)

/-- A port of a head is declared down (08 R308, R309, 09 R351). -/
def execPortDownDetect (r : Fin 16) (p : Fin 65) (portD : Bool) (s : State) : Host.Outcome State Fault Refusal :=
  .next (
    let h := s.headAt r p
    if !h.powered ∨ h.isDown portD then s
    else
      let s1 := (s.modHead r p (fun x => x.portDown portD s.now)).emit (.lfault r p (if portD then .d else .u))
      s1.headSends r p (.enumHead 6 h.pos h.provisional portD h.desc))

/-- A port of a head is declared up again (08 R308). -/
def execPortUpDetect (r : Fin 16) (p : Fin 65) (portD : Bool) (s : State) : Host.Outcome State Fault Refusal :=
  .next (
    let h := s.headAt r p
    if h.powered ∧ h.isDown portD then
      (s.modHead r p (fun x => x.portUp portD s.now)).headSends r p (.enumHead 5 h.pos h.provisional portD h.desc)
    else s)

/-- An ENUM COUNT passes a head, which raises HOPS and takes its position, or comes back to the device (08 R305,
R310). -/
def execEnumCount (r : Fin 16) (b good : Bool) (at_ : CountAt) (hops base : Fin 256) (s : State) :
    Host.Outcome State Fault Refusal :=
  .next (match at_ with
    | .head p => s.headFrame r p 0xFF good (fun u =>
      (u.modHead r p (fun h => h.takeCount b hops base)).emit (.counted r p (raisedHops hops)))
    | .device whole =>
      if !good then s.badFrame r else if whole then (if b then s else s.countWhole r hops) else s.countTurned r b hops)

/-- DESCRIBE reaches a head (08 R306, R313). -/
def execEnumDescribe (r : Fin 16) (p : Fin 65) (good : Bool) (s : State) : Host.Outcome State Fault Refusal :=
  .next (s.headFrame r p 0xFF good (fun u =>
    let h := u.headAt r p
    if h.pos = 0 ∧ !h.overfull then u else u.headSends r p (.enumHead 3 h.pos h.provisional false h.desc)))

/-- CLOSE reaches a head (08 R311). -/
def execEnumClose (r : Fin 16) (p : Fin 65) (good : Bool) (s : State) : Host.Outcome State Fault Refusal :=
  .next (s.headFrame r p 0xFF good (fun u => u.modHead r p (fun h =>
    if h.loopback ∧ !h.downU ∧ !h.downD then { h with loopback := false } else h)))

/-- A DESC reaches the device (08 R307, R311 to R313, 09 R355). -/
def execEnumDesc (r : Fin 16) (p : Fin 65) (prov good : Bool) (d : HeadDesc) (s : State) :
    Host.Outcome State Fault Refusal :=
  .next (if good then s.descArrives r p prov d else s.badFrame r)

/-- A PORT_DOWN reaches the device (08 R310). -/
def execEnumPortDown (r : Fin 16) (p : Fin 65) (portD good : Bool) (s : State) : Host.Outcome State Fault Refusal :=
  .next (if good then s.ringBreak r (.head p (if portD then .d else .u)) else s.badFrame r)

/-- A PORT_UP reaches the device; at place 0 the device's own receiver is up again, B for port D (08 R311). -/
def execEnumPortUp (r : Fin 16) (p : Fin 65) (portD good : Bool) (s : State) : Host.Outcome State Fault Refusal :=
  .next (if !good then s.badFrame r
    else if p.val = 0 then s.sideUp r (.endDown (ringEnd portD)) else s.sideUp r (.head p (if portD then .d else .u)))

/-- ARM_U reaches a head (08 R302). -/
def execCalArmU (r : Fin 16) (p : Fin 65) (dst : Fin 256) (good : Bool) (s : State) : Host.Outcome State Fault Refusal :=
  .next (s.headFrame r p dst good (fun u => u.modHead r p (fun h => { h with armU := some u.now })))

/-- ARM_D reaches a head (08 R302). -/
def execCalArmD (r : Fin 16) (p : Fin 65) (dst : Fin 256) (good : Bool) (s : State) : Host.Outcome State Fault Refusal :=
  .next (s.headFrame r p dst good (fun u => u.modHead r p (fun h => { h with armD := some u.now })))

/-- SET reaches a head, which reports the values in force (08 R299, R302). -/
def execCalSet (r : Fin 16) (p : Fin 65) (dst : Fin 256) (good : Bool) (a b : Fin 4294967296) (s : State) :
    Host.Outcome State Fault Refusal :=
  .next (s.headFrame r p dst good (fun u =>
    (u.modHead r p (fun h => { h with dlyA := some a, dlyB := some b })).headSends r p (.cal 4 a b)))

/-- A CAL REPORT reaches the device (08 R302, R311, R312). -/
def execCalReport (r : Fin 16) (p : Fin 65) (good : Bool) (a b : Fin 4294967296) (s : State) :
    Host.Outcome State Fault Refusal :=
  .next (if good then s.reportArrives r p a b else s.badFrame r)

/-- A calibration is due: every *CalPeriod* in CLOSED and WRAP; before them, once the heads are enumerated (08 R302,
R304). -/
def State.calDue (s : State) (r : Nat) : Bool :=
  let x := s.ringAt r
  match x.state with
  | .closed | .wrap => decide (x.calAt + s.num 0x4600 2 10 * 1000000000 ≤ s.now)
  | .training | .renumber =>
    !x.calBusy && !x.fedB && decide (0 < x.headCount) && (positions 1 x.headCount).all (fun p => x.described.contains p)
  | _ => false

/-- The device begins a calibration (08 R302, R304). -/
def execCalibrationCycle (r : Fin 16) (s : State) : Host.Outcome State Fault Refusal :=
  .next (if s.calDue r then s.beginCal r else s)

/-- A frame of unknown type reaches a head: it is forwarded as it is and nobody acts on it (00 R24). -/
def execUnknownFrame (r : Fin 16) (p : Fin 65) (s : State) : Host.Outcome State Fault Refusal :=
  .next (s.modHead r p (fun h => { h with idling := false }))

/-- A QO off-test is in progress (10 R370, R380). -/
def State.offTesting (s : State) : Bool := s.quench.qo.any (fun e => e.2.testAt.isSome)

/-- The SAFE frame of a ring at this instant (08 R290, R291, 10 R370). -/
def State.safeBody (s : State) (r sseq : Nat) : FrameBody :=
  let q := !s.armed
  let cause := if s.armed then 0 else s.quench.cause
  let mode := if s.quench.jog then 1 else 0
  .safe sseq s.time.t64 q s.offTesting mode cause
    (safeCrc r sseq s.time.t64 ((if q then 1 else 0) + (if s.offTesting then 2 else 0)) mode cause 0)

/-- The generator of a ring produces its next SAFE frame on every end it feeds (10 R370, R372). -/
def execSafeFrameGenerate (r : Fin 16) (s : State) : Host.Outcome State Fault Refusal :=
  .next (
    let x := s.ringAt r
    if x.state = .off ∨ s.now < x.safeAtA + 250000 then s
    else
      let n := inc32 x.sseq
      let good : Bool := s.armed
      let s1 := s.modRing r (fun y =>
        { y with sseq := n, safeAtA := s.now, goodSafeA := if good then min 4 (y.goodSafeA + 1) else 0
                 safeAtB := if y.fedB then s.now else y.safeAtB
                 goodSafeB := if y.fedB then (if good then min 4 (y.goodSafeB + 1) else 0) else y.goodSafeB })
      s1.sendAll r (s.safeBody r n))

/-- A SAFE frame reaches a head (08 R291, 09 R352 to R354, 10 R389). -/
def execSafeFrame (r : Fin 16) (p : Fin 65) (good : Bool) (f : SafeFields) (s : State) :
    Host.Outcome State Fault Refusal :=
  .next (s.headFrame r p 0xFF good (fun u => u.modHead r p (fun h => h.takeSafe r f u.now)))

/-- Every *HistDecay* every bin is halved (08 R314). -/
def execHistDecay (m : Fin 4) (s : State) : Host.Outcome State Fault Refusal :=
  .next (if (s.rc m).decayAt + s.num (0x4700 + m) 6 60 * 1000000000 ≤ s.now then
      (s.modRc m (fun c => { c with decayAt := s.now, hist := tmap 0 (fun _ n => n / 2) c.hist
                                    other := tmap 0 (fun _ n => n / 2) c.other })).noiseWide m
    else s)

/-- The circular mean of offsets in a period (08 R314, log 27). -/
def meanPhase (l : List Nat) (p : Nat) : Nat :=
  match l with
  | [] => 0
  | a :: t => if t.all (· == a) then a else Config.circularMean l p % max 1 p

/-- A mean phase as a drift of PHASE0: the nearer way round. -/
def phaseDrift (a p : Nat) : Int := if 2 * a ≤ p then a else (a : Int) - p

/-- The pin that a controller's *MainsSource* names is an input (08 R314, 15 R570). -/
def State.mainsPinOk (s : State) (m : Nat) : Bool :=
  let mode := s.num (0x9100 + s.num (0x4700 + m) 3 0) 1 0
  mode == 1 || mode == 3

/-- After 64 periods the controller shifts PHASE0 to the mean phase of the window's bursts and trims P; while the
named pin is no input it learns as well, under alarm MAINS_DIO (08 R314, 15 R570). -/
def execMainsPhaseUpdate (m : Fin 4) (s : State) : Host.Outcome State Fault Refusal :=
  .next (
    let dio : Bool := s.num (0x4700 + m) 2 0 = 1
    let s0 := if !dio ∨ s.mainsPinOk m then s.clearAlarm 0x0909 m
      else if s.alarmOn 0x0909 m then s
      else s.alarm .alarm 0x0909 m (s.num (0x4700 + m) 3 0 :: bytesLE 4 m)
    let c := s0.rc m
    if s0.now < c.phaseAt + 64 * c.period then s0
    else if dio ∧ s0.mainsPinOk m then s0.modRc m (fun x => { x with phaseAt := s0.now, window := [] })
    else
      let d := phaseDrift (meanPhase (c.window.map c.offset) c.period) c.period
      let lim := periodRange (s0.nominalPeriod m)
      s0.modRc m (fun x =>
        if x.window = [] then { x with phaseAt := s0.now }
        else { x with phaseAt := s0.now, window := [], phase0 := ((s0.time.t64 : Int) - x.offset s0.time.t64 + d).toNat
                      period := (clampInt lim.1 lim.2 ((x.period : Int) + divNearEven d 64)).toNat }))

/-- The oldest frame held for a gap that fits one now is sent (08 R315). -/
def execDeferredFrameSend (m : Fin 4) (s : State) : Host.Outcome State Fault Refusal :=
  .next (match (s.rc m).deferred.find? (fun d => s.mayDefer m d.2.2.2.len) with
    | some d =>
      (s.modRc m (fun c => { c with deferred := c.deferred.erase d })).sendFrame d.1 (ringEnd d.2.1) d.2.2.1 d.2.2.2
    | none => s)

/-- The device's own A RX or B RX is declared down (08 R310). -/
def execRingEndDown (r : Fin 16) (b : Bool) (s : State) : Host.Outcome State Fault Refusal :=
  .next (s.ringBreak r (.endDown (ringEnd b)))

/-- Two TMARKs in a row sent on A TX have not reached B RX within F + 1 µs (08 R310). -/
def execTmarkLoss (r : Fin 16) (s : State) : Host.Outcome State Fault Refusal := .next (s.ringBreak r .tmark)

end Sys2Proof.Machine
end

