-- ==== Sys2Proof/Machine/BlankImage.lean ====
section
/-!
DEFINITION. Reading a blank's image: its header, its section table, its section bodies and its digest
(07 R240 to R252, 09 R322).
-/

namespace Sys2Proof.Machine

/-- `n` bytes of an image at an offset as a number, least significant byte first (07 R240). -/
def leAt (b : List Nat) (o n : Nat) : Nat := ofBytesLE ((b.drop o).take n)

/-- TOTAL of a header (07 R241). -/
def imageTotal (b : List Nat) : Nat := leAt b 0x08 4

/-- ZONES of a header, as zone numbers (07 R241). -/
def imageZones (b : List Nat) : List Nat := maskBits (leAt b 0x0F 1) 8

/-- KEYSLOT of the trailer (07 R251). -/
def imageKeySlot (b : List Nat) : Nat := (b.drop (b.length - 100)).headD 0

/-- The digest M: SHA-512 over image bytes 0 to TOTAL − 65 (07 R252). -/
def imageDigest (b : List Nat) : List Nat := Config.sha512 (b.take (b.length - 64))

/-! ### The section table (07 R242, R243) -/

/-- One entry of the section table (07 R242). -/
structure SectionEntry where
  type : Nat
  critical : Bool
  cluster : Nat
  offset : Nat
  length : Nat
  scrc : Nat
  deriving DecidableEq, Repr

/-- Entry `i` of the section table (07 R242). -/
def sectionAt (b : List Nat) (i : Nat) : SectionEntry :=
  let o := 64 + 16 * i
  { type := leAt b o 1, critical := (leAt b (o + 1) 1).testBit 0, cluster := leAt b (o + 2) 1
    offset := leAt b (o + 4) 4, length := leAt b (o + 8) 4, scrc := leAt b (o + 12) 4 }

/-- The section table of an image (07 R242). -/
def imageSections (b : List Nat) : List SectionEntry := (List.range (leAt b 0x0E 1)).map (sectionAt b)

/-- The section table of a firmware image: it has no SECTIONS field, so its entries run up to the first body that
they name, or to the trailer (07 R242, R267, log 45). -/
def firmwareSections (b : List Nat) : List SectionEntry :=
  ((List.range 64).foldl (fun (a : List SectionEntry × Nat) i =>
    if 64 + 16 * i + 16 ≤ a.2 then (a.1 ++ [sectionAt b i], min a.2 (sectionAt b i).offset) else a) ([], b.length - 104)).1

/-- The body of a section. -/
def sectionBody (b : List Nat) (e : SectionEntry) : List Nat := (b.drop e.offset).take e.length

/-- Whether a section type is known, and is one of the per-cluster types (07 R243). -/
def sectionKnown (t : Nat) : Bool := decide (1 ≤ t ∧ t ≤ 9)

/-- Whether a section type is per cluster (07 R243). -/
def perCluster (t : Nat) : Bool := decide (1 ≤ t ∧ t ≤ 5)

/-- The body of a cluster's section of a type, if the image has it. -/
def clusterSection (b : List Nat) (t c : Nat) : Option (List Nat) :=
  ((imageSections b).find? (fun e => e.type == t && e.cluster == c)).map (sectionBody b)

/-- The body of the image's section of a type that is not per cluster. -/
def wholeSection (b : List Nat) (t : Nat) : Option (List Nat) :=
  ((imageSections b).find? (fun e => e.type == t)).map (sectionBody b)

/-- Parts of `n` bytes each; none where the length is no multiple of `n`. -/
def partsOf (n : Nat) (l : List Nat) : Option (List (List Nat)) :=
  if l.length % n = 0 then some ((List.range (l.length / n)).map (fun i => (l.drop (n * i)).take n)) else none

/-! ### Section bodies (07 R244 to R250) -/

/-- What a FOOTPRINT claims of one tile (07 R244). -/
structure TileClaim where
  slots : Nat
  ilo : Nat
  ihi : Nat
  tlo : Nat
  thi : Nat
  deriving DecidableEq, Repr

/-- A FOOTPRINT body: its 16 tile records and its ranges as (BASE, LEN) (07 R244). -/
structure Footprint where
  tiles : List TileClaim
  ranges : List (Nat × Nat)
  deriving DecidableEq, Repr

/-- Reads a FOOTPRINT body; none where its length does not fit NRANGE (07 R244). -/
def readFootprint (b : List Nat) : Option Footprint :=
  let n := leAt b 0 1
  if n > 4 ∨ b.length ≠ 200 + 8 * n then none
  else some
    { tiles := (List.range 16).map (fun i =>
        let o := 8 + 12 * i
        { slots := leAt b o 2, ilo := leAt b (o + 2) 2, ihi := leAt b (o + 4) 2, tlo := leAt b (o + 8) 2, thi := leAt b (o + 10) 2 })
      ranges := (List.range n).map (fun k => (leAt b (200 + 8 * k) 4, leAt b (204 + 8 * k) 4)) }

/-- A run of instructions of a TILE_CODE body (07 R245). -/
structure CodeRun where
  index : Nat
  first : Nat
  words : List (BitVec 96)
  deriving DecidableEq, Repr

/-- Reads a TILE_CODE body (07 R245); `n` bounds the runs. -/
def readCode : Nat → List Nat → Option (List CodeRun)
  | 0, l => if l = [] then some [] else none
  | n + 1, l =>
    if l = [] then some []
    else
      let c := leAt l 4 4
      if l.length < 8 + 12 * c then none
      else (readCode n (l.drop (8 + 12 * c))).map (fun r =>
        { index := leAt l 0 1, first := leAt l 2 2
          words := (List.range c).map (fun i => BitVec.ofNat 96 (leAt l (8 + 12 * i) 12)) } :: r)

/-- A record of a CONTEXTS body (07 R246). -/
structure ContextRec where
  index : Nat
  slot : Nat
  words : List Word
  deriving DecidableEq, Repr

/-- Reads a CONTEXTS body (07 R246). -/
def readContexts (b : List Nat) : Option (List ContextRec) :=
  (partsOf 36 b).map (fun l => l.map (fun r =>
    { index := leAt r 0 1, slot := leAt r 1 1, words := (List.range 8).map (fun j => BitVec.ofNat 32 (leAt r (4 + 4 * j) 4)) }))

/-- A sequencer setup record (07 R247). -/
structure SetupRec where
  type : Nat
  p1 : Nat
  p2 : Nat
  p3 : Nat
  p4 : Nat
  deriving DecidableEq, Repr

/-- A setup record's 16 bytes (07 R247). -/
def readSetup1 (r : List Nat) : SetupRec :=
  { type := leAt r 0 1, p1 := leAt r 1 1, p2 := leAt r 2 2, p3 := leAt r 4 4, p4 := leAt r 8 8 }

/-- Reads a SEQ_PROGRAM body (07 R247). -/
def readSetup (b : List Nat) : Option (List SetupRec) := (partsOf 16 b).map (·.map readSetup1)

/-- A record of a CONST body (07 R248). -/
structure ConstRec where
  cluster : Bool
  index : Nat
  addr : Nat
  data : List Nat
  deriving DecidableEq, Repr

/-- Reads a CONST body (07 R248); `n` bounds the records. -/
def readConst : Nat → List Nat → Option (List ConstRec)
  | 0, l => if l = [] then some [] else none
  | n + 1, l =>
    if l = [] then some []
    else
      let len := leAt l 8 4
      let size := 16 + (len + 7) / 8 * 8
      if l.length < size ∨ 1 < leAt l 0 1 then none
      else (readConst n (l.drop size)).map (fun r =>
        { cluster := leAt l 0 1 == 1, index := leAt l 1 1, addr := leAt l 4 4, data := (l.drop 16).take len } :: r)

/-- A task record with its tiles (07 R249). -/
structure TaskRec where
  tref : Nat
  zone : Nat
  prio : Nat
  kind : Nat
  flags : Nat
  param : Nat
  queue : Nat
  startLead : Nat
  drainMax : Nat
  ntiles : Nat
  tlist : Nat
  tiles : List (Nat × Nat)
  deriving DecidableEq, Repr

/-- Reads one task record at an offset of its body (07 R249). -/
def readTask1 (b : List Nat) (o : Nat) : TaskRec :=
  let n := leAt b (o + 6) 2
  let t := leAt b (o + 0x10) 4
  { tref := leAt b o 2, zone := leAt b (o + 2) 1, prio := leAt b (o + 3) 1, kind := leAt b (o + 4) 1, flags := leAt b (o + 5) 1
    ntiles := n, tlist := t, param := leAt b (o + 8) 8, queue := leAt b (o + 0x14) 1
    startLead := if leAt b (o + 0x16) 2 = 0 then 64 else leAt b (o + 0x16) 2
    drainMax := if leAt b (o + 0x18) 2 = 0 then 100 else leAt b (o + 0x18) 2
    tiles := (List.range n).map (fun i => (leAt b (t + 4 * i) 2, leAt b (t + 4 * i + 2) 1)) }

/-- Reads the task records from an offset up to the first tile list that one names (07 R249, log 40); `n` bounds
them. -/
def readTasksFrom (b : List Nat) : Nat → Nat → Nat → List TaskRec
  | 0, _, _ => []
  | n + 1, o, limit =>
    if limit < o + 32 then []
    else
      let r := readTask1 b o
      r :: readTasksFrom b n (o + 32) (min limit r.tlist)

/-- Reads a TASKS body (07 R249). -/
def readTasks (b : List Nat) : List TaskRec := readTasksFrom b (b.length / 32) 0 b.length

/-- A FLOWS record (07 R250). -/
structure FlowRec where
  source : Nat
  target : Nat
  len : Nat
  runs : Nat
  addr : Nat
  deriving DecidableEq, Repr

/-- Reads a FLOWS body (07 R250). -/
def readFlows (b : List Nat) : Option (List FlowRec) :=
  (partsOf 16 b).map (fun l => l.map (fun r =>
    { source := leAt r 0 1, target := leAt r 1 1, len := leAt r 2 1, runs := leAt r 3 1, addr := leAt r 4 4 }))

/-- Reads an EVENTS body (09 R322). -/
def readEvents (zones : List Nat) (b : List Nat) : Option EventsSection :=
  let nt := leAt b 0 2
  let nb := leAt b 2 2
  if nt > 1024 ∨ nb > 256 ∨ b.length ≠ 8 + 8 * nt + 8 * nb then none
  else some
    { zones := zones
      templates := (List.range nt).map (fun i =>
        let o := 8 + 8 * i
        { ring := leAt b o 1, pos := leAt b (o + 1) 1, ch := leAt b (o + 2) 1, act := leAt b (o + 3) 1, param := leAt b (o + 4) 2 })
      bindings := (List.range nb).map (fun i =>
        let o := 8 + 8 * nt + 8 * i
        { ring := leAt b o 1, pos := leAt b (o + 1) 1, stream := leAt b (o + 2) 1, tref := leAt b (o + 3) 1 }) }

/-! ### What an image says, section by section -/

/-- The clusters that an image has a per-cluster section for, ascending (07 R243). -/
def imageClusters (b : List Nat) : List Nat :=
  (List.range 64).filter (fun c => (imageSections b).any (fun e => perCluster e.type && e.cluster == c))

/-- The footprint of a cluster. -/
def imageFootprint (b : List Nat) (c : Nat) : Option Footprint := (clusterSection b 1 c).bind readFootprint

/-- The code of a cluster. -/
def imageCode (b : List Nat) (c : Nat) : List CodeRun :=
  ((clusterSection b 2 c).bind (fun l => readCode l.length l)).getD []

/-- The context records of a cluster. -/
def imageContexts (b : List Nat) (c : Nat) : List ContextRec := ((clusterSection b 3 c).bind readContexts).getD []

/-- The setup records of a cluster. -/
def imageSetup (b : List Nat) (c : Nat) : List SetupRec := ((clusterSection b 4 c).bind readSetup).getD []

/-- The memory values of a cluster. -/
def imageConst (b : List Nat) (c : Nat) : List ConstRec :=
  ((clusterSection b 5 c).bind (fun l => readConst l.length l)).getD []

/-- The tasks of an image. -/
def imageTasks (b : List Nat) : List TaskRec := ((wholeSection b 6).map readTasks).getD []

/-- The EVENTS section of an image; none where it has none. -/
def imageEvents (b : List Nat) : Option EventsSection := (wholeSection b 7).bind (readEvents (imageZones b))

/-- The flows of an image. -/
def imageFlows (b : List Nat) : List FlowRec := ((wholeSection b 8).bind readFlows).getD []

/-- The claim of a footprint on the tile with a local index. -/
def Footprint.claim (f : Footprint) (i : Nat) : TileClaim := f.tiles.getD i { slots := 0, ilo := 1, ihi := 0, tlo := 1, thi := 0 }

/-- The slots of a tile, by local index, that an image defines: the last record of each slot counts (07 R246). -/
def imageSlots (b : List Nat) (c i : Nat) : List (Nat × List Word) :=
  (List.range 15).filterMap (fun k =>
    (((imageContexts b c).filter (fun r => r.index == i && r.slot == k)).getLast?).map (fun r => (k, r.words)))

/-- The instruction word of a tile, by local index, that an image gives; 0 where it gives none (07 R245, log 41). -/
def imageWord (b : List Nat) (c i p : Nat) : BitVec 96 :=
  match ((imageCode b c).filter (fun r => r.index == i && decide (r.first ≤ p ∧ p < r.first + r.words.length))).getLast? with
  | some r => r.words.getD (p - r.first) 0
  | none => 0

/-- A descriptor's words with VALID and GEN read as 0 (07 R271). -/
def goldenWords (w : List Word) : List Word :=
  w.zipIdx.map (fun p => if p.2 = 0 then p.1 &&& 0xDFFFFFFF else if p.2 = 1 then p.1 &&& 0xFFFFFF00 else p.1)

/-- The golden signature: CRC-32C over the eight descriptor words and the instruction words CBASE to CLIMIT
(07 R271). -/
def signatureOf (w : List Word) (code : Nat → BitVec 96) : Nat :=
  let w0 := w.headD 0
  let lo := (w0.extractLsb' 9 9).toNat
  let hi := (w0.extractLsb' 18 9).toNat
  crc32c ((goldenWords w).flatMap (fun v => bytesLE 4 v.toNat) ++
    (List.range (hi + 1 - lo)).flatMap (fun i => bytesLE 12 (code (lo + i)).toNat))

/-- The tile with local index `i` of cluster `c` (03 R92). -/
def tileOf (c i : Nat) : Nat := 32 * (4 * (c / 8) + i / 4) + 4 * (c % 8) + i % 4

/-- Every slot an image defines, as the tile, the slot and its words. -/
def imageAllSlots (b : List Nat) : List (Nat × Nat × List Word) :=
  (imageClusters b).flatMap (fun c => (List.range 16).flatMap (fun i =>
    (imageSlots b c i).map (fun s => (tileOf c i, s.1, s.2))))

/-- SWCFG of a descriptor (05 R164). -/
def swcfgOf (w : List Word) : BitVec 64 := w.getD 7 0 ++ w.getD 6 0

/-- The golden signatures of an image by tile * 16 + slot (07 R257, R271). -/
def imageGolden (b : List Nat) : Tab Nat :=
  (imageClusters b).foldl (fun t c => (List.range 16).foldl (fun t2 i =>
    (imageSlots b c i).foldl (fun t3 s =>
      tput (tileOf c i * 16 + s.1) (signatureOf s.2 (imageWord b c i)) t3) t2) t) []

end Sys2Proof.Machine
end

