-- ==== Sys2Proof/Machine/FuseOps.lean ====
section
/-!
DEFINITION. The operations of the fuse bank: words and their states, key slots, the programming of words, and
the generation slots (12 R452 to R469).
-/

namespace Sys2Proof.Machine

/-! ### Words (12 R452, R453) -/

/-- The combined word at an address. -/
def FuseUnit.word (u : FuseUnit) (a : Nat) : BitVec 40 := tget 0 u.copyA a ||| tget 0 u.copyB a

/-- The 32 data bits of a word. -/
def fuseData (w : BitVec 40) : Nat := (w.extractLsb' 0 32).toNat

/-- The state that 40 bits have at an address. -/
def wordState (a : Nat) (w : BitVec 40) : FuseState :=
  if w = 0 then .blank else if (w.extractLsb' 32 8).toNat = fuseChk a (fuseData w) then .good else .bad

/-- The state of the combined word. -/
def FuseUnit.wstate (u : FuseUnit) (a : Nat) : FuseState := wordState a (u.word a)

/-- A GOOD word whose copies differ. -/
def FuseUnit.single (u : FuseUnit) (a : Nat) : Bool :=
  u.wstate a == .good && tget 0 u.copyA a != tget 0 u.copyB a

/-- Its state as a number. -/
def FuseState.code : FuseState → Nat
  | .blank => 0
  | .good => 1
  | .bad => 2

/-- The state of a word as the objects show it: 3 for GOOD and SINGLE (12 R484). -/
def FuseUnit.shown (u : FuseUnit) (a : Nat) : Nat := if u.single a then 3 else (u.wstate a).code

/-- FC_RDATA for 40 bits read from an address, SINGLE where its copies differ (12 R458). -/
def fuseRdata (a : Nat) (wa wb : BitVec 40) : Nat :=
  let w := wa ||| wb
  let st := wordState a w
  w.toNat + 2 ^ 40 * st.code + (if st = .good ∧ wa ≠ wb then 2 ^ 42 else 0)

/-! ### The map (12 R454 to R457) -/

/-- Maker-key slot `k` is revoked (12 R456). -/
def FuseUnit.keyRevoked (u : FuseUnit) (k : Nat) : Bool := u.wstate (0x10 + k) != .blank

/-- Firmware key `k` is revoked (12 R456). -/
def FuseUnit.fwRevoked (u : FuseUnit) (k : Nat) : Bool := u.wstate (0x14 + k) != .blank

/-- The hash of maker-key slot `k`, 32 bytes (12 R456). -/
def FuseUnit.keyHash (u : FuseUnit) (k : Nat) : List Nat :=
  (List.range 8).flatMap (fun j => bytesLE 4 (fuseData (u.word (0x20 + 8 * k + j))))

/-- Maker-key slot `k` is usable (07 R253, 12 R456). -/
def FuseUnit.keyUsable (u : FuseUnit) (k : Nat) : Bool :=
  decide (k < 4) && (List.range 8).all (fun j => u.wstate (0x20 + 8 * k + j) == .good) && !u.keyRevoked k

/-- Whether a word may be programmed at all (12 R454). -/
def FuseUnit.programmable (u : FuseUnit) (a : Nat) : Bool :=
  if a < 8 then u.wstate 7 != .good else decide (a < 0x16 ∨ (0x20 ≤ a ∧ a < 0xC0))

/-- The window of R459. -/
def FuseUnit.inWindow (u : FuseUnit) : Bool :=
  decide (1746 ≤ u.rail ∧ u.rail ≤ 1854 ∧ -100 ≤ u.temp ∧ u.temp ≤ 850)

/-- Why PROGRAM would not proceed (12 R459). -/
def State.fuseStop (s : State) (a : Nat) (target : BitVec 40) : Option FuseOutcome :=
  if s.op.state ≠ .service ∨ !s.fuse.programmable a then some .protectedWord
  else if !s.op.fuseEn then some .noFuseEn
  else if !s.fuse.inWindow then some .window
  else if s.fuse.word a &&& ~~~target ≠ 0 then some .notSubset
  else none

/-- What the controller senses as a command arrives. -/
def State.senseFuse (s : State) (e : FuseEnv) : State :=
  { s with op := { s.op with fuseEn := e.en }
           fuse := { s.fuse with rail := e.rail.val, temp := e.temp }
           sess := if e.en then s.sess else { s.sess with ackFuse := none } }

/-! ### Programming (12 R458 to R462, R465) -/

/-- RESULT as a number (12 R458). -/
def FuseOutcome.code : FuseOutcome → Nat
  | .ok => 0
  | .okSingle => 1
  | .failed => 2
  | .window => 3
  | .noFuseEn => 4
  | .notSubset => 5
  | .protectedWord => 6

/-- The answer to the host for a RESULT (12 R484, 11 R437). -/
def FuseOutcome.abort : FuseOutcome → Abort
  | .ok | .okSingle => .ok
  | .failed => .programFailed
  | .window => .fuseWindow
  | .noFuseEn => .needPhysical
  | .notSubset | .protectedWord => .wrongState

/-- The controller stops or finishes with a RESULT. -/
def FuseUnit.finish (u : FuseUnit) (r : FuseOutcome) : FuseUnit := { u with prog := none, result := r, phase := 0 }

/-- FUSE_DONE is committed, *FuseResult* shows the outcome, and the alarms of the outcome are raised (12 R465,
R484, 17 R622). -/
def State.fuseDone (s : State) (a : Nat) (r : FuseOutcome) (pulses : Nat) : State :=
  let s1 := { s with fuse := { s.fuse.finish r with
    last := (a, r.code, pulses, s.fuse.failA.toNat, s.fuse.failB.toNat) } }
  let s2 := s1.commit (.fuseDone a r.code)
  let d := bytesLE 2 a ++ [r.code]
  let s3 := s2.alarm .alarm 0x0709 a d
  if r = .okSingle then s3.alarm .alarm 0x0705 a d else s3

/-- Starts PROGRAM of one word for a request (12 R459, R465). -/
def State.fuseBegin (s : State) (p : FuseProgram) : State :=
  let s1 := s.commit (.fuseIntent p.addr p.data)
  { s1 with fuse := { s1.fuse with prog := some p, phase := 1, failA := 0, failB := 0 } }

/-- The word already stands GOOD with that data, and PROGRAM ends OK with no pulse (12 R462). -/
def FuseUnit.already (u : FuseUnit) (a data : Nat) : Bool := u.word a == fuseTarget a data && u.wstate a == .good

/-- Programs the words in order: those that stand already end at once, and the first that does not is begun
(12 R460, R462, R466). The answer is none when a word is in progress. -/
def State.fuseRun (s : State) (n : SessionNo) (rid : Nat) : List (Nat × Nat) → State × Option FuseOutcome
  | [] => (s, some .ok)
  | (a, d) :: rest =>
    match s.fuseStop a (fuseTarget a d) with
    | some r => ((State.commit s (.fuseIntent a d)).fuseDone a r 0, some r)
    | none =>
      let s1 := s.fuseBegin { addr := a, data := d, rest := rest, session := n, rid := rid }
      if s1.fuse.already a d then (s1.fuseDone a .ok 0).fuseRun n rid rest else (s1, none)

/-- The bits of one copy that the pulses reached and set: `at0` is the place of the copy's bit 0 in the order of
the pulses, `lim` the place of the first bit not reached, and `fails` the places that stayed clear (12 R460). -/
def pulsed (target : BitVec 40) (fails : BitVec 80) (lim at0 : Nat) : BitVec 40 × BitVec 40 :=
  let reached := target &&& BitVec.ofNat 40 (2 ^ (lim - at0) - 1)
  let f := fails.extractLsb' at0 40
  (reached &&& ~~~f, reached &&& f)

/-- PHASE in which place `lim` lies (12 R458, R460). -/
def phaseAt (lim : Nat) : Nat := if lim < 32 then 1 else if lim < 40 then 2 else if lim < 72 then 3 else if lim < 80 then 4 else 5

/-- The pulses of a word up to place `lim` and the margin reads after them (12 R460, R461): the bits set, and the
RESULT where no stop came. -/
def FuseUnit.pulse (u : FuseUnit) (p : FuseProgram) (fails : BitVec 80) (lim : Nat) : FuseUnit × FuseOutcome :=
  let t := fuseTarget p.addr p.data
  let a0 := tget 0 u.copyA p.addr
  let b0 := tget 0 u.copyB p.addr
  let ra := pulsed (t &&& ~~~a0) fails lim 0
  let rb := pulsed (t &&& ~~~b0) fails lim 40
  let a := a0 ||| ra.1
  let b := b0 ||| rb.1
  ({ u with copyA := tset 0 u.copyA p.addr a, copyB := tset 0 u.copyB p.addr b
            failA := ra.2, failB := rb.2, phase := phaseAt lim },
   if a = t ∧ b = t then .ok else if a ||| b = t then .okSingle else .failed)

/-- Programming of a word ends; the next one begins where a setting has more words and this one held (12 R461,
R466). -/
def State.fuseEnd (s : State) (p : FuseProgram) (r : FuseOutcome) (pulses : Nat) : State :=
  let s1 := s.fuseDone p.addr r pulses
  let x := if r = .ok ∨ r = .okSingle then s1.fuseRun p.session p.rid p.rest else (s1, some r)
  match x.2 with
  | none => x.1
  | some o =>
    if p.session = 0 then x.1
    else x.1.reply p.session
      { rid := p.rid, code := o.abort, detail := if o = .failed then p.addr else 0 }

/-- A request to program words, once its own checks have passed (12 R484, 11 R423, R437). -/
def State.fuseAsk (s : State) (q : Req) (ws : List (Nat × Nat)) : Served :=
  if !s.fuse.inWindow then refuse s .fuseWindow
  else if s.fuse.prog.isSome then refuse s .busyRetry
  else
    let x := s.fuseRun q.session q.rid ws
    match x.2 with
    | none => { state := x.1, later := true }
    | some o => { state := x.1, code := o.abort }

/-! ### Reading (12 R458, R463) -/

/-- READ, or MARGIN_READ with the bits that the raised threshold shows clear in each copy. -/
def FuseUnit.read (u : FuseUnit) (a : Nat) (clearA clearB : BitVec 40) : FuseUnit :=
  let wa := tget 0 u.copyA a &&& ~~~clearA
  let wb := tget 0 u.copyB a &&& ~~~clearB
  { u with rcopyA := wa, rcopyB := wb, rdata := fuseRdata a wa wb }

/-- SCAN: every word is classified; `weak` are the words of 0x000 to 0x03F with a WEAK bit (12 R463). -/
def FuseUnit.scanned (u : FuseUnit) (weak : List (Fin 64)) : FuseUnit :=
  let all := List.range 1024
  { u with weak := (weak.map Fin.val).eraseDups
           scan := ((all.filter (fun a => u.wstate a == .good)).length, (all.filter (fun a => u.wstate a == .bad)).length,
                    (all.filter u.single).length, weak.eraseDups.length) }

/-! ### Generation slots (12 R466 to R469) -/

/-- A limited-write setting: its base, its words per generation and its generations. -/
structure GenSetting where
  base : Nat
  words : Nat
  gens : Nat

/-- *FwSvnFloor*. -/
def svnFloor : GenSetting := { base := 0x40, words := 1, gens := 64 }

/-- *MachineIdent*. -/
def machineIdentGen : GenSetting := { base := 0x80, words := 4, gens := 16 }

/-- The addresses of a generation. -/
def GenSetting.addrs (g : GenSetting) (k : Nat) : List Nat := (List.range g.words).map (fun j => g.base + k * g.words + j)

/-- A generation is used. -/
def FuseUnit.genUsed (u : FuseUnit) (g : GenSetting) (k : Nat) : Bool := (g.addrs k).any (fun a => u.wstate a != .blank)

/-- A generation whose words are all GOOD. -/
def FuseUnit.genWhole (u : FuseUnit) (g : GenSetting) (k : Nat) : Bool := (g.addrs k).all (fun a => u.wstate a == .good)

/-- Generations above the highest used one. -/
def FuseUnit.remaining (u : FuseUnit) (g : GenSetting) : Nat :=
  match (List.range g.gens).reverse.find? (u.genUsed g) with
  | some k => g.gens - 1 - k
  | none => g.gens

/-- The words of the value in force; none for the default. -/
def FuseUnit.genValue (u : FuseUnit) (g : GenSetting) : Option (List Nat) :=
  ((List.range g.gens).reverse.find? (u.genWhole g)).map (fun k => (g.addrs k).map (fun a => fuseData (u.word a)))

/-- *FwSvnFloor* in force. -/
def FuseUnit.svn (u : FuseUnit) : Nat := ((u.genValue svnFloor).getD [0]).headD 0 % 65536

/-- *MachineIdent* in force, 16 bytes. -/
def FuseUnit.machineIdent (u : FuseUnit) : List Nat := ((u.genValue machineIdentGen).getD [0, 0, 0, 0]).flatMap (bytesLE 4)

/-- The data of the newest FUSE_INTENT for a word that the journal holds. -/
def State.intent (s : State) (a : Nat) : Option Nat :=
  s.store.journal.findSome? (fun r => match r.body with
    | .fuseIntent b d => if b = a then some d else none
    | _ => none)

/-- A journalled target of an open generation agrees with the words to write (12 R468). -/
def State.sameTarget (s : State) (g : GenSetting) (k : Nat) (ws : List Nat) : Bool :=
  let l := (g.addrs k).zip ws
  l.any (fun p => (s.intent p.1).isSome) && l.all (fun p => match s.intent p.1 with
    | some d => d == p.2
    | none => s.fuse.wstate p.1 == .blank)

/-- The generation a write programs: the open one whose target it repeats, otherwise the next unused one
(12 R468). -/
def State.genFor (s : State) (g : GenSetting) (ws : List Nat) : Nat :=
  match (List.range g.gens).reverse.find? (s.fuse.genUsed g) with
  | some k => if !s.fuse.genWhole g k ∧ s.sameTarget g k ws then k else k + 1
  | none => 0

/-- A write of a limited-write setting, after steps 1 to 7 of R421: its own range, the value in force, FUSE_EN,
the generations left and SERVICE are checked, and the generation is programmed (11 R421, R436, R437, 12 R468). -/
def State.genWrite (s : State) (q : Req) (g : GenSetting) (ws : List Nat) (same outside : Bool) : Served :=
  if outside then refuse s .range
  else if same then { state := s }
  else if !s.op.fuseEn then refuse s .needPhysical
  else if s.fuse.remaining g = 0 then refuse s .writesExhausted
  else if s.op.state ≠ .service then refuse s .wrongState
  else s.fuseAsk q ((g.addrs (s.genFor g ws)).zip ws)

end Sys2Proof.Machine
end

