-- ==== Sys2Proof/Machine/BlankCheck.lean ====
section
/-!
DEFINITION. The verification of a blank: its key, its signature, its section table and every section's rules
(07 R240 to R257, 03 R105, R130, 05 R166, 09 R322).
-/

namespace Sys2Proof.Machine

/-- The first index of a list whose element fails a check. -/
def firstBad {α : Type} (l : List α) (ok : α → Bool) : Option Nat := l.findIdx? (fun x => !ok x)

/-! ### The key and the signature (07 R251 to R253) -/

/-- TMAGIC of a blank's trailer (07 R251). -/
def trailerMagic : List Nat := [0x4C, 0x5A, 0x42, 0x54]

/-- PUBKEY and SIG of the trailer (07 R251). -/
def imagePubkey (b : List Nat) : List Nat := (b.drop (b.length - 96)).take 32

/-- SIG of the trailer (07 R251). -/
def imageSig (b : List Nat) : List Nat := b.drop (b.length - 64)

/-- The key of an image is that of a usable maker-key slot (07 R253). -/
def State.blankKeyOk (s : State) (b : List Nat) : Bool :=
  (b.drop (b.length - 104)).take 4 == trailerMagic && s.fuse.keyUsable (imageKeySlot b) &&
    (Config.sha512 (imagePubkey b)).take 32 == s.fuse.keyHash (imageKeySlot b)

/-- The signature of an image holds (07 R252). -/
def signatureOk (b : List Nat) : Bool := Config.ed25519 (imagePubkey b) (imageDigest b) (imageSig b)

/-! ### The section table (07 R240, R242, R243) -/

/-- The image's length fits its header (07 R240). -/
def imageSized (b : List Nat) : Bool :=
  let n := leAt b 0x0E 1
  imageTotal b == b.length && b.length % 8 == 0 && decide (b.length ≤ 2097152) && decide (1 ≤ n ∧ n ≤ 64) &&
    decide (64 + 16 * n + 104 ≤ b.length)

/-- Two bodies overlap. -/
def bodiesOverlap (a c : SectionEntry) : Bool :=
  decide (max a.offset c.offset < min (a.offset + a.length) (c.offset + c.length))

/-- Two entries of which an image may hold one only (07 R243). -/
def sameSection (a c : SectionEntry) : Bool :=
  sectionKnown a.type && a.type == c.type && (!perCluster a.type || a.cluster == c.cluster)

/-- An entry's place, its check code, its cluster and its uniqueness (07 R240, R242, R243). -/
def entryOk (b : List Nat) (before : List SectionEntry) (e : SectionEntry) : Bool :=
  e.offset % 8 == 0 && decide (64 + 16 * leAt b 0x0E 1 ≤ e.offset ∧ e.offset + e.length ≤ b.length - 104) &&
    e.scrc == crc32c (sectionBody b e) &&
    (!sectionKnown e.type || (if perCluster e.type then decide (e.cluster < 64) else e.cluster == 0xFF)) &&
    before.all (fun a => !bodiesOverlap a e && !sameSection a e)

/-- The first entry of the section table that breaks a rule. -/
def badEntry (b : List Nat) : Option Nat :=
  let l := imageSections b
  (List.range l.length).find? (fun i => match l[i]? with
    | some e => !entryOk b (l.take i) e
    | none => false)

/-! ### The per-cluster sections (07 R244 to R248) -/

/-- A tile record's claims are legal (07 R244). -/
def TileClaim.legal (t : TileClaim) : Bool :=
  !t.slots.testBit 15 && decide (t.ilo > t.ihi ∨ t.ihi ≤ 511) && decide (t.tlo > t.thi ∨ t.thi ≤ 2047)

/-- A range is aligned, in cluster memory and clear of the spill regions (03 R116, 07 R244, log 42). -/
def rangeLegal (r : Nat × Nat) : Bool :=
  r.1 % 8 == 0 && r.2 % 8 == 0 && decide (r.1 + r.2 ≤ 0x40000) &&
    (List.range 4).all (fun j => decide (min (r.1 + r.2) (0x10000 * (j + 1)) ≤ max r.1 (0x10000 * j + 0xF000)))

/-- A FOOTPRINT section is legal (07 R244). -/
def footprintOk (l : List Nat) : Bool :=
  match readFootprint l with
  | some f => f.tiles.all TileClaim.legal && f.ranges.all rangeLegal
  | none => false

/-- Instruction words `p` to `p + n - 1` are claimed (07 R245). -/
def TileClaim.holdsCode (t : TileClaim) (p n : Nat) : Bool := n == 0 || decide (t.ilo ≤ p ∧ p + n ≤ t.ihi + 1)

/-- A TILE_CODE section is legal (07 R245). -/
def codeOk (f : Footprint) (l : List Nat) : Bool :=
  match readCode l.length l with
  | some rs => rs.all (fun r => decide (r.index < 16) && (f.claim r.index).holdsCode r.first r.words.length)
  | none => false

/-- A context record's slot and descriptor are legal (03 R105, R129, 07 R246). -/
def contextOk (f : Footprint) (r : ContextRec) : Bool :=
  let t := f.claim r.index
  let w0 := r.words.getD 0 0
  let lo := (w0.extractLsb' 9 9).toNat
  let hi := (w0.extractLsb' 18 9).toNat
  decide (r.index < 16 ∧ r.slot ≤ 14) && t.slots.testBit r.slot && decide (lo ≤ hi ∧ t.ilo ≤ lo ∧ hi ≤ t.ihi) &&
    !w0.getLsbD 29 && (r.words.getD 1 0).extractLsb' 0 8 == 0#8 &&
    (Agu.ofWords (r.words.getD 2 0) (r.words.getD 3 0)).legal && (Agu.ofWords (r.words.getD 4 0) (r.words.getD 5 0)).legal

/-- A CONTEXTS section is legal (07 R246). -/
def contextsOk (f : Footprint) (l : List Nat) : Bool :=
  match readContexts l with
  | some rs => rs.all (contextOk f)
  | none => false

/-- An input port is given one use at most (05 R166). -/
def inputOk (cfg : BitVec 64) (q : Nat) : Bool :=
  let routed := !(feeds cfg q).isEmpty
  let rx := cfg.getLsbD (32 + q)
  !(rx && (routed || sinkOn cfg q)) && !(sinkOn cfg q && routed)

/-- What R166 forbids a SWCFG as far as the image alone shows it (05 R166). -/
def swcfgOk (t : Nat) (mirror : Bool) (cfg : BitVec 64) : Bool :=
  (List.range 8).all (fun p => !decide (2 ≤ osel cfg p ∧ osel cfg p ≤ 7)) && cfg.extractLsb' 56 8 == 0#8 &&
    (List.range 8).all (inputOk cfg) && (List.range 8).all (fun p => osel cfg p == 0 || laneEnd t p != .none) &&
    (mirror || (List.range 8).all (fun p => !cmpOn cfg p))

/-- MIRROR of a descriptor (03 R129). -/
def mirrorOf (w : List Word) : Bool := (w.getD 1 0).getLsbD 8

/-- The first tile of a CONTEXTS section whose SWCFG breaks R166. -/
def badSwcfg (c : Nat) (l : List Nat) : Option Nat :=
  (((readContexts l).getD []).find? (fun r =>
    !swcfgOk (tileOf c r.index) (mirrorOf r.words) (swcfgOf r.words))).map (fun r => tileOf c r.index)

/-- Bytes `a` to `a + n - 1` lie in ranges; `k` bounds how many ranges may follow one another. -/
def covered (ranges : List (Nat × Nat)) : Nat → Nat → Nat → Bool
  | 0, _, n => n == 0
  | k + 1, a, n =>
    n == 0 || (match ranges.find? (fun r => decide (r.1 ≤ a ∧ a < r.1 + r.2)) with
      | some r => covered ranges k (r.1 + r.2) (n - (r.1 + r.2 - a))
      | none => false)

/-- Bytes of cluster memory are claimed. -/
def Footprint.covers (f : Footprint) (a n : Nat) : Bool := covered f.ranges (f.ranges.length + 1) a n

/-- A setup record is legal (07 R247). -/
def setupOk (f : Footprint) (r : SetupRec) : Bool :=
  match r.type with
  | 1 => decide (1 ≤ r.p2 ∧ r.p2 ≤ 256) && f.covers r.p3 (32 * r.p2)
  | 2 => f.covers r.p3 (8 * r.p4)
  | 3 => decide (r.p1 ≤ 63 ∧ r.p2 ≤ 77 ∧ 1 ≤ r.p3 ∧ r.p3 ≤ 28)
  | 4 => decide (r.p1 ≤ 7)
  | _ => false

/-- A SEQ_PROGRAM section is legal (07 R247). -/
def setupsOk (f : Footprint) (l : List Nat) : Bool :=
  match readSetup l with
  | some rs => rs.all (setupOk f)
  | none => false

/-- A record of a CONST section is legal (07 R248). -/
def constOk (f : Footprint) (r : ConstRec) : Bool :=
  if r.cluster then f.covers r.addr r.data.length
  else
    let t := f.claim r.index
    decide (r.index < 16) && (r.data.isEmpty || decide (8 * t.tlo ≤ r.addr ∧ r.addr + r.data.length ≤ 8 * (t.thi + 1)))

/-- A CONST section is legal (07 R248). -/
def constsOk (f : Footprint) (l : List Nat) : Bool :=
  match readConst l.length l with
  | some rs => rs.all (constOk f)
  | none => false

/-! ### The other sections (07 R249, R250, 09 R322) -/

/-- A tile entry names a tile, and a slot that is claimed and defined (07 R249). -/
def tileEntryOk (b : List Nat) (p : Nat × Nat) : Bool :=
  let c := tileCluster p.1
  let i := localIndex p.1
  decide (p.1 < 1024) && (match imageFootprint b c with
    | some f => (f.claim i).slots.testBit p.2
    | none => false) && (imageSlots b c i).any (fun s => s.1 == p.2)

/-- A task record is legal (05 R183, R187, 07 R249). -/
def taskOk (b : List Nat) (len : Nat) (trefs : List Nat) (r : TaskRec) : Bool :=
  decide (r.tref ≤ 255) && (trefs.filter (· == r.tref)).length == 1 && (imageZones b).contains r.zone &&
    decide (r.prio ≤ 7 ∧ r.kind ≤ 7 ∧ 1 ≤ r.ntiles ∧ r.ntiles ≤ 1024 ∧ r.tlist + 4 * r.ntiles ≤ len) &&
    decide (64 ≤ r.startLead ∧ r.startLead ≤ 4096 ∧ r.drainMax ≤ 10000) &&
    (r.kind != 6 || trefs.contains (r.param % 256)) && r.tiles.all (tileEntryOk b)

/-- A TASKS section is legal (07 R249). -/
def tasksOk (b l : List Nat) : Bool :=
  let rs := readTasks l
  rs.all (taskOk b l.length (rs.map (·.tref)))

/-- An EVENTS section is legal (09 R322). -/
def eventsOk (b l : List Nat) : Bool :=
  match readEvents [] l with
  | some x => x.templates.all (fun t => actDefined t.act) &&
      x.bindings.all (fun n => (imageTasks b).any (fun t => t.tref == n.tref && t.queue != 0xFF))
  | none => false

/-- A FLOWS section is legal (07 R250). -/
def flowsOk (l : List Nat) : Bool :=
  match readFlows l with
  | some rs => rs.all (fun r => decide (r.source ≤ 63 ∧ r.target ≤ 77 ∧ 1 ≤ r.len ∧ r.len ≤ 9 ∧ 1 ≤ r.runs ∧ r.runs ≤ 64))
  | none => false

/-- A section obeys its rules; the answer where it does not (07 R257). -/
def sectionFault (b : List Nat) (i : Nat) (e : SectionEntry) : Option (Abort × Nat) :=
  let l := sectionBody b e
  let bad := fun (ok : Bool) => if ok then (none : Option (Abort × Nat)) else some (.blankFormat, i)
  let within := fun (check : Footprint → List Nat → Bool) => match imageFootprint b e.cluster with
    | some f => bad (check f l)
    | none => some (.blankFormat, i)
  match e.type with
  | 1 => bad (footprintOk l)
  | 2 => within codeOk
  | 3 => match within contextsOk with
    | some x => some x
    | none => (badSwcfg e.cluster l).map (fun t => (.swcfgBad, t))
  | 4 => within setupsOk
  | 5 => within constsOk
  | 6 => bad (tasksOk b l)
  | 7 => bad (eventsOk b l)
  | 8 => bad (flowsOk l)
  | _ => none

/-- Verification of a blank's image, stopping at the first failure (07 R257). -/
def State.verifyBlank (s : State) (b : List Nat) : Abort × Nat :=
  if !s.blankKeyOk b then (.blankKey, 0)
  else if !signatureOk b then (.blankSig, 0)
  else if !imageSized b then (.blankFormat, 0)
  else match badEntry b with
    | some i => (.blankFormat, i)
    | none =>
      if (imageSections b).any (fun e => !sectionKnown e.type && e.critical) then (.blankVersion, 0)
      else ((imageSections b).zipIdx.findSome? (fun p => sectionFault b p.2 p.1)).getD (.ok, 0)

/-- The checks of a header as it is written: MAGIC, HDRCRC, MEMBER, FORMAT and the length it announces
(01 R6, R22, 07 R256). -/
def headerChecks (magic : List Nat) (most : Nat) (h : List Nat) : Abort × Nat :=
  if h.length ≠ 64 ∨ h.take 4 ≠ magic ∨ leAt h 0x38 4 ≠ crc32c (h.take 0x38) then (.blankFormat, 0)
  else if leAt h 6 2 ≠ 0x3232 then (.blankMember, 0)
  else if 1 < leAt h 4 2 then (.blankVersion, 0)
  else if leAt h 4 2 = 0 ∨ imageTotal h < 64 ∨ most < imageTotal h then (.blankFormat, 0)
  else (.ok, 0)

/-- The checks of a blank's header (07 R240, R241, R256). -/
def headerCheck (h : List Nat) : Abort × Nat := headerChecks [0x4C, 0x5A, 0x42, 0x4B] 2097152 h

/-! ### Firmware images (07 R267) -/

/-- The checks of a firmware image's header (07 R267, R269). -/
def fwHeaderCheck (h : List Nat) : Abort × Nat := headerChecks [0x4C, 0x5A, 0x46, 0x57] 1048576 h

/-- A firmware section's place, its type and its check code (07 R240, R242, R267). -/
def fwSectionOk (b : List Nat) (e : SectionEntry) : Bool :=
  (e.type == 0x20 || e.type == 0x21) && e.offset % 8 == 0 && decide (e.offset + e.length ≤ b.length - 104) &&
    e.scrc == crc32c (sectionBody b e)

/-- VERSION of a firmware image (07 R267). -/
def fwVersion (b : List Nat) : Nat := leAt b 0x0C 4

/-- SVN of a firmware image (07 R267). -/
def fwSvn (b : List Nat) : Nat := leAt b 0x10 2

/-- Whether a firmware image verifies: its layout, its key, its signature and its SVN (07 R267, 12 R456). -/
def State.firmwareOk (s : State) (b : List Nat) : Bool :=
  let k := imageKeySlot b
  fwHeaderCheck (b.take 64) == (.ok, 0) && imageTotal b == b.length && b.length % 8 == 0 && decide (168 ≤ b.length) &&
    (b.drop (b.length - 104)).take 4 == trailerMagic && (firmwareSections b).all (fwSectionOk b) &&
    decide (k < 2) && !s.fuse.fwRevoked k && (Config.sha512 (imagePubkey b)).take 32 == Config.firmwareKeyHash k &&
    signatureOk b && decide (s.fuse.floor ≤ fwSvn b)

end Sys2Proof.Machine
end

