-- ==== Sys2Proof/Machine/IoOps.lean ====
section
/-!
DEFINITION. The operations of the two-wire unit, the TWT window and the direct-I/O pins (15 R546 to R577).
-/

namespace Sys2Proof.Machine

/-! ### Two-wire commands (15 R550 to R553) -/

/-- A two-wire controller. -/
def State.bus (s : State) (b : Nat) : TwBus := tget {} s.io.buses b

/-- Changes one two-wire controller. -/
def State.modBus (s : State) (b : Nat) (f : TwBus → TwBus) : State :=
  { s with io := { s.io with buses := tmod {} s.io.buses b f } }

/-- The two-wire and direct-I/O pins are driven and sampled (14 R539). -/
def State.ioRuns (s : State) : Bool := s.op.state == .service || s.op.state == .run

/-- Bits `[lo + n - 1 : lo]` of a command's word 0. -/
def twField (w lo n : Nat) : Nat := w / 2 ^ lo % 2 ^ n

/-- A queued command's word 0. -/
def TwCommand.head (c : TwCommand) : Nat := c.words.headD 0

/-- Words of a record with this word 0 (15 R550). -/
def twWords (w : Nat) : Nat := if twField w 0 2 = 1 then 1 + (twField w 18 6 + 7) / 8 else 1

/-- A record that R550 admits. -/
def TwCommand.legal (c : TwCommand) : Bool :=
  let w := c.head
  let op := twField w 0 2
  let len := twField w 18 6
  op != 0 && (op == 1 || !w.testBit 2) && decide (8 ≤ twField w 3 7 ∧ twField w 3 7 ≤ 0x77) && decide (len ≤ 32) &&
    (op == 1 || decide (1 ≤ len)) && twField w 48 16 == 0 && c.words.length == twWords w

/-- The write data of a command. -/
def TwCommand.data (c : TwCommand) : List Nat :=
  ((c.words.drop 1).flatMap (bytesLE 8)).take (twField c.head 18 6)

/-- STATUS as a number (15 R553). -/
def TwStatus.code : TwStatus → Nat
  | .ok => 0
  | .nackAddr => 1
  | .nackData => 2
  | .stretchTimeout => 3
  | .busFault => 4
  | .stuckSda => 5
  | .bad => 6

/-- Bytes packed into 64-bit words, the first byte lowest (15 R550). -/
def packWords : Nat → List Nat → List Nat
  | 0, _ => []
  | n + 1, b => if b = [] then [] else ofBytesLE (b.take 8) :: packWords n (b.drop 8)

/-- The words of a result (15 R553). -/
def State.twResult (s : State) (b : Nat) (c : TwCommand) (st : TwStatus) (n : Nat) (data : List Nat) : List Nat :=
  (0x50 + b * 2 ^ 8 + st.code * 2 ^ 9 + n % 64 * 2 ^ 12 + twField c.head 32 16 * 2 ^ 32) :: s.time.t64 ::
    packWords data.length data

/-- Pushes a record to a task's input queue; what cannot be delivered is counted (15 R553). -/
def State.twPush (s : State) (b task : Nat) (ws : List Nat) : State :=
  match s.pushQueue task ws with
  | some u => u
  | none => s.modBus b (fun x => { x with lost := inc32 x.lost })

/-- Reports a command by its result (15 R553). -/
def State.twReport (s : State) (b : Nat) (c : TwCommand) (st : TwStatus) (n : Nat) (data : List Nat) : State :=
  let ws := s.twResult b c st n data
  let s1 := s.modBus b (fun x =>
    { x with commands := inc32 x.commands
             nacks := if st = .nackAddr ∨ st = .nackData then inc32 x.nacks else x.nacks
             stretches := if st = .stretchTimeout then inc32 x.stretches else x.stretches })
  match c.issuer with
  | .task => s1.twPush b (twField c.head 24 8) ws
  | .host => s1.modBus b (fun x =>
      let r := (ws.flatMap (bytesBE 8) ++ List.replicate 48 0).take 48
      { x with results := (x.results ++ [r]).drop (x.results.length + 1 - 8) })

/-- A command arrives at a bus whose queue has room: BAD or BUS_FAULT at once, otherwise it is queued (15 R550,
R551, R560). -/
def State.twArrive (s : State) (b : Nat) (c : TwCommand) : State :=
  if !c.legal then s.twReport b c .bad 0 []
  else if (s.bus b).state = .fault then s.twReport b c .busFault 0 []
  else s.modBus b (fun x => { x with queue := x.queue ++ [c] })

/-- A task's command by QPUSH; none where the queue is full (15 R551). -/
def State.twQpush (s : State) (b : Nat) (words : List Nat) : Option State :=
  if (s.bus b).queue.length ≥ 16 then none else some (s.twArrive b { issuer := .task, words := words })

/-- The oldest command of a bus leaves its queue with a result. -/
def State.twComplete (s : State) (b : Nat) (st : TwStatus) (n : Nat) (data : List Nat) : State :=
  match (s.bus b).queue with
  | [] => s
  | c :: rest => (s.modBus b (fun x => { x with queue := rest })).twReport b c st n data

/-- A bus enters FAULT: every queued command completes with BUS_FAULT, and alarm TW_BUS_FAULT is raised (15 R560,
R561). -/
def State.twFault (s : State) (b : Nat) : State :=
  let q := (s.bus b).queue
  let s1 := s.modBus b (fun x =>
    { x with state := .fault, queue := [], roundDue := false, recoverDue := true, recoverAt := s.now, stretchAt := none })
  let s2 := q.foldl (fun t c => t.twReport b c .busFault 0 []) s1
  s2.alarm .alarm 0x0907 b (b :: bytesLE 4 0)

/-! ### The TWT window (15 R562 to R566) -/

/-- TWT answers (15 R562). -/
def State.twtOn (s : State) : Bool := s.flagOn 0x9040 1 false && s.ioRuns

/-- A byte of the window. -/
def Twt.byte (w : Twt) (a : Nat) : Nat := if a < 128 then tget 0 w.outArea a else tget 0 w.inArea (a - 128)

/-- A 64-bit word of the window, by its unit address (15 R565). -/
def Twt.word (w : Twt) (k : Nat) : Nat := ofBytesLE ((List.range 8).map (fun i => w.byte (8 * k + i)))

/-- Writes bytes of the OUT area from an address, where a mask bit is set. -/
def Twt.writeOut (w : Twt) (a : Nat) (mask : Nat) (b : List Nat) : Twt :=
  { w with outArea := b.zipIdx.foldl (fun t p => if mask.testBit p.2 then tset 0 t (a + p.2) p.1 else t) w.outArea }

/-! ### Direct I/O (15 R567 to R577) -/

/-- A DIO pin. -/
def State.pin (s : State) (y : Nat) : DioPin := tget {} s.io.dio y

/-- *Mode* of a pin. -/
def State.dioMode (s : State) (y : Nat) : Nat := s.num (0x9100 + y) 1 0

/-- The pin is an output. -/
def State.dioOut (s : State) (y : Nat) : Bool := s.ioRuns && (s.dioMode y == 2 || s.dioMode y == 4)

/-- The pin is an input. -/
def State.dioIn (s : State) (y : Nat) : Bool := s.ioRuns && (s.dioMode y == 1 || s.dioMode y == 3)

/-- T80 in grid slots of 125 ps, rounded to the nearest, a tie to the later (02 R70). -/
def gridSlot (t : T80) : Nat := (t + 4096) / 8192

/-- The grid slot that device time has reached. -/
def State.slotNow (s : State) : Nat := s.time.t64 * 8

/-- An immediate action reaches the pin; a scheduled edge of the same grid slot stands (15 R571, R575). -/
def State.dioDrive (s : State) (y : Nat) (level : Bool) : State :=
  s.modPin y (fun p => if p.placedAt = some s.slotNow then p else { p with drive := some level })

/-- An entry for a pin that comes too late (15 R574). -/
def State.dioLate (s : State) (y : Nat) (level : Bool) : State :=
  let due : Bool := match (s.pin y).lateAlarmAt with
    | some t => decide (t + 1000000000 ≤ s.now)
    | none => true
  let s1 := s.modPin y (fun p =>
    { p with late := inc32 p.late, lateAlarmAt := if due then some s.now else p.lateAlarmAt })
  let s2 := if due then s1.record .general .alarm niGaffer 0x0908 (y :: bytesLE 4 0) else s1
  if s.num (0x9100 + y) 4 0 = 1 then s2.dioDrive y level else s2

/-- Puts an entry into a schedule queue in time order, in place of one on its slot (15 R573). -/
def putSlot (slot : Nat) (level : Bool) : List (Nat × Bool) → List (Nat × Bool)
  | [] => [(slot, level)]
  | (j, v) :: t =>
    if slot < j then (slot, level) :: (j, v) :: t else if slot = j then (slot, level) :: t else (j, v) :: putSlot slot level t

/-- Whether an entry finds a place: the queue has room, or holds an entry on the slot. -/
def DioPin.hasPlace (p : DioPin) (slot : Nat) : Bool := decide (p.queue.length < 16) || p.queue.any (fun e => e.1 == slot)

/-- Whether an entry for a slot is late: less than 100 ns ahead (15 R574). -/
def State.slotLate (s : State) (slot : Nat) : Bool := decide (slot < s.slotNow + 800)

/-- An entry reaches a pin's queue; false where it finds no place (15 R573, R574). -/
def State.dioEntry (s : State) (y slot : Nat) (level : Bool) : Bool × State :=
  if s.slotLate slot then (true, s.dioLate y level)
  else if (s.pin y).hasPlace slot then (true, s.modPin y (fun p => { p with queue := putSlot slot level p.queue }))
  else (false, s)

/-- The entries of one QPUSH, 2 words each; none where they do not all find a place (15 R573). -/
def State.dioQpush (s : State) (y : Nat) : List Nat → Option State
  | t :: w :: rest =>
    let x := s.dioEntry y (gridSlot (t * 65536 + w % 65536)) (w.testBit 16)
    if x.1 then x.2.dioQpush y rest else none
  | _ => some s

/-- An accepted transition in the pin's ring of edges, and as a token of its endpoint (15 R568 to R570). -/
def State.dioRecord (s : State) (y : Nat) (at_ : T80) (level : Bool) : State :=
  let s1 := s.modPin y (fun p =>
    { p with level := level, waiting := none, edgeCount := inc32 p.edgeCount
             edges := ({ eseq := inc32 p.edgeCount, at_ := at_, level := level } :: p.edges).take 64 })
  if s.dioMode y = 3 then
    let tok : Word := BitVec.ofNat 32 ((if level then 2 ^ 31 else 0) + at_ / 8192 % 2 ^ 31)
    (s1.modPin y (fun p => if p.tokens.length ≥ 16 then { p with overruns := inc32 p.overruns }
                           else { p with tokens := p.tokens ++ [tok] })).settleAt (32 * y)
  else s1

/-- An accepted transition, which is also a mains edge where a controller names the pin (08 R314, 15 R568 to R570). -/
def State.dioAccept (s : State) (y : Nat) (at_ : T80) (level : Bool) : State :=
  let s1 := s.dioRecord y at_ level
  if level then s1.mainsEdges y (at_ / 65536) else s1

/-- What a change of *Mode* or *TwtEnable* in force does (15 R563, R575). -/
def State.ioApplied (s : State) (key : Nat) : State :=
  let i := key / 256
  if key = okey 0x9040 1 then { s with io := { s.io with twt := { s.io.twt with pointer := 0 } } }
  else if 0x9100 ≤ i ∧ i ≤ 0x9117 ∧ key % 256 = 1 then
    let y := i - 0x9100
    s.modPin y (fun p =>
      if s.dioMode y = 2 ∨ s.dioMode y = 4 then { p with waiting := none, tokens := [] }
      else { p with queue := [], drive := none, placedAt := none, outTokens := []
                    tokens := if s.dioMode y = 3 then p.tokens else [] })
  else s

end Sys2Proof.Machine
end

