-- ==== Sys2Proof/Machine/RouteOps.lean ====
section
/-!
DEFINITION. Routes through the packet network: where ports lead, XY routes, route strings, the ports a packet
passes, and the allotment of guaranteed slots (06 R198, R199, R214 to R225).
-/

namespace Sys2Proof.Machine

/-! ### Ports (06 R198, R199, R215)

Ports of a torus router: 0 N, 1 E, 2 S, 3 W, 4 LOOP, 5 NI. Ports of a loop router: 0 A-ward, 1 B-ward, 5 NI. -/

/-- The router that an output port of router `r` reaches, and the input port there. -/
def nextHop (r port : Nat) : Nat × Nat :=
  if r < 64 then
    let x := r % 8
    let y := r / 8
    match port with
    | 0 => (x + 8 * ((y + 7) % 8), 2)
    | 1 => ((x + 1) % 8 + 8 * y, 3)
    | 2 => (x + 8 * ((y + 1) % 8), 0)
    | 3 => ((x + 7) % 8 + 8 * y, 1)
    | _ => if r = 2 then (64, 0) else if r = 6 then (71, 1) else if r = 57 then (72, 0) else (77, 1)
  else if port = 0 then (if r = 64 then (2, 4) else if r = 72 then (57, 4) else (r - 1, 1))
  else (if r = 71 then (6, 4) else if r = 77 then (61, 4) else (r + 1, 0))

/-- A packet's way along turn codes from the NI of router `r`: router, input port and output port at each
(06 R215). -/
def walk (r inp : Nat) : List Nat → List (Nat × Nat × Nat)
  | [] => []
  | c :: cs => (r, inp, c) :: (if c = 5 then [] else walk (nextHop r c).1 (nextHop r c).2 cs)

/-- The moves of one dimension by the shorter direction; at a distance of 4 the positive one (06 R214). -/
def moves (a b plus minus : Nat) : List Nat :=
  let d := (b + 8 - a) % 8
  if d ≤ 4 then List.replicate d plus else List.replicate (8 - d) minus

/-- XY moves between clusters, without the ejection (06 R214). -/
def xyMoves (a b : Nat) : List Nat := moves (a % 8) (b % 8) 1 3 ++ moves (a / 8) (b / 8) 2 0

/-- The loop of a loop node: its first and last node, and gateways A and B (06 R199). -/
def loopOf (n : Nat) : Nat × Nat × Nat × Nat := if n < 72 then (64, 71, 2, 6) else (72, 77, 57, 61)

/-- The ways out of a loop node: the codes to a gateway, and the gateway. -/
def outOfLoop (n : Nat) : List (List Nat × Nat) :=
  let l := loopOf n
  [(List.replicate (n - l.1 + 1) 0, l.2.2.1), (List.replicate (l.2.1 - n + 1) 1, l.2.2.2)]

/-- The ways into a loop node: the gateway, and the codes from it. -/
def intoLoop (n : Nat) : List (Nat × List Nat) :=
  let l := loopOf n
  [(l.2.2.1, 4 :: List.replicate (n - l.1) 1), (l.2.2.2, 4 :: List.replicate (l.2.1 - n) 0)]

/-- The first of the shortest. -/
def shortest : List (List Nat) → List Nat
  | [] => []
  | [a] => a
  | a :: t => let b := shortest t; if b.length < a.length then b else a

/-- The turn codes from one NI to another, ending in EJECT (06 R214, R216, R217). -/
def turnCodes (a b : Nat) : List Nat :=
  (if a < 64 then
    (if b < 64 then xyMoves a b else shortest ((intoLoop b).map (fun g => xyMoves a g.1 ++ g.2)))
  else if b < 64 then shortest ((outOfLoop a).map (fun g => g.1 ++ xyMoves g.2 b))
  else if (loopOf a).1 = (loopOf b).1 then (if b ≤ a then List.replicate (a - b) 0 else List.replicate (b - a) 1)
  else shortest ((outOfLoop a).flatMap (fun g => (intoLoop b).map (fun h => g.1 ++ xyMoves g.2 h.1 ++ h.2)))) ++ [5]

/-- ROUTE of turn codes, the first in the lowest bits (06 R215). -/
def routeOf (l : List Nat) : Nat := l.foldr (fun c r => c + 8 * r) 0

/-- The way of a packet between two NIs. -/
def wayOf (a b : Nat) : List (Nat × Nat × Nat) := walk a 5 (turnCodes a b)

/-- Whether the entry of an initiator to a target is source-routed (06 R214, R216). -/
def sourceRouted (a b : Nat) : Bool := decide (64 ≤ a ∨ 64 ≤ b)

/-! ### Firewalls (06 R219) -/

/-- The ZONE that an NI sets, as a bit of an allow mask; a cluster in no zone has none (06 R218). -/
def State.niZone (s : State) (n : Nat) : Option Nat :=
  if n < 64 then
    (List.range 8).find? (fun z =>
      (if z = 0 then (tget 0 s.quench.words 0 + tget 0 s.quench.words 1 * 2 ^ 32) else s.num (0x3000 + z) 1 0).testBit n)
  else some zoneSys

/-- Every valid entry of the table of an NI, as its target. -/
def Ni.targets (x : Ni) : List Nat := (x.entries.filter (fun e => e.2.allot ≠ 0 && e.2.live)).map (·.2.target)

/-- The Gaffer recomputes the allow masks from every entry (06 R219). -/
def State.recomputeAllow (s : State) : State :=
  { s with net := { s.net with allow := s.net.nis.foldl (fun t p =>
    match s.niZone p.1 with
    | none => t
    | some z => p.2.targets.foldl (fun t2 d => (wayOf p.1 d).foldl (fun t3 w =>
        tset 0x100 t3 (8 * w.1 + w.2.2) (tget 0x100 t3 (8 * w.1 + w.2.2) ||| 2 ^ z)) t2) t) [] } }

/-! ### Guaranteed slots (06 R221, R224, R225) -/

/-- The outputs of a flow's path with the input port that feeds each; place 0 is the NI's own output, port 6
(06 R224). -/
def flowHops (a b : Nat) : List (Nat × Nat) :=
  (8 * a + 6, 5) :: (wayOf a b).map (fun w => (8 * w.1 + w.2.2, w.2.1))

/-- The slots that a run from slot `s` uses: output, slot and input (06 R224). -/
def runSlots (hops : List (Nat × Nat)) (m s : Nat) : List (Nat × Nat × Nat) :=
  hops.zipIdx.flatMap (fun h => (List.range m).map (fun i => (h.1.1, (s + h.2 + i) % 256, h.1.2)))

/-- Reserved slots of an output. -/
def reservedAt (t : Tab Nat) (o : Nat) : Nat := (t.filter (fun e => e.1 / 256 == o)).length

/-- Whether a run fits: no slot is named twice and no output exceeds its share (06 R225). -/
def runFits (t : Tab Nat) (share : Nat) (l : List (Nat × Nat × Nat)) : Bool :=
  l.all (fun e => tget 0 t (256 * e.1 + e.2.1) == 0) &&
    l.all (fun e => decide ((reservedAt t e.1 + (l.filter (fun x => x.1 == e.1)).length) * 100 ≤ share * 256))

/-- Reserves a run. -/
def putRun (t : Tab Nat) (l : List (Nat × Nat × Nat)) : Tab Nat :=
  l.foldl (fun u e => tset 0 u (256 * e.1 + e.2.1) (e.2.2 + 1)) t

/-- A run to allot: the hops of its flow's path and the run length. -/
structure RunReq where
  hops : List (Nat × Nat)
  len : Nat

/-- Allots runs beside what the tables hold: the tables and the first slot of each run, or none where no allotment
exists (06 R225). -/
def allotRuns (share : Nat) : List RunReq → Tab Nat → Option (Tab Nat × List Nat)
  | [], t => some (t, [])
  | q :: rest, t =>
    (List.range 256).findSome? (fun s =>
      let l := runSlots q.hops q.len s
      if runFits t share l then (allotRuns share rest (putRun t l)).map (fun r => (r.1, s :: r.2)) else none)

end Sys2Proof.Machine
end

