-- ==== Sys2Proof/Machine/TileExec.lean ====
section
/-!
DEFINITION. The issue of one tile instruction: its checks, stalls, effects and cycles (03 R102 to R137,
04 R144 to R161).
-/

namespace Sys2Proof.Machine

/-! ### What the slots read and write (04 R160) -/

/-- Registers a MAC slot reads. -/
def macReads : MacOp → List Nat
  | .mul _ _ _ _ _ a b => [a.toNat, b.toNat]
  | .extH _ _ _ _ _ d => [d.toNat]
  | .lda _ _ _ _ a => [a.toNat]
  | _ => []

/-- Registers a MAC slot writes. -/
def macWrites : MacOp → List Nat
  | .extH _ _ _ _ _ d | .extW _ _ _ _ d | .extC _ _ _ d => [d.toNat]
  | _ => []

/-- Registers an ALU operation of the register form reads. -/
def aluRegReads (op : AluReg) (a b : Reg) : List Nat :=
  match op with
  | .neg | .abs | .mov | .norm => [a.toNat]
  | .rds => []
  | _ => [a.toNat, b.toNat]

/-- Registers an ALU slot reads. -/
def aluReads : AluOp → List Nat
  | .reg op _ _ _ a b => aluRegReads op a b
  | .imm op _ _ _ a _ => if op = .clrs then [] else [a.toNat]
  | .const .movh d _ => [d.toNat]
  | _ => []

/-- Registers an ALU slot writes. -/
def aluWrites : AluOp → List Nat
  | .reg op _ _ d _ _ => if aluRegWrites op then [d.toNat] else []
  | .imm op _ _ d _ _ => if aluImmWrites op then [d.toNat] else []
  | .const _ d _ => [d.toNat]
  | _ => []

/-- The registers of an access: one, or a pair for size D (04 R155). -/
def accessRegs (sz : MemSize) (d : Reg) : List Nat := if sz = .d then [d.toNat, d.toNat + 1] else [d.toNat]

/-- Registers a memory slot reads, with the mask of its instruction. -/
def memReads (m : BitVec 18) : MemOp → List Nat
  | .st _ sz s _ => accessRegs sz s
  | .ldr _ a _ => [a.toNat]
  | .str s a _ => [s.toNat, a.toNat]
  | .amod _ sub a => if sub = .step then [] else [a.toNat]
  | .stm bk base _ => maskRegs m ++ (if bk then [base.toNat] else [])
  | .ldm bk base _ => if bk then [base.toNat] else []
  | _ => []

/-- Registers a memory slot writes, with the mask of its instruction. -/
def memWrites (m : BitVec 18) : MemOp → List Nat
  | .ld _ sz d _ => accessRegs sz d
  | .ld2 da db _ _ => [da.toNat, db.toNat]
  | .ldr d _ _ => [d.toNat]
  | .stm bk base pm => if bk && pm then [base.toNat] else []
  | .ldm bk base pm => maskRegs m ++ (if bk && pm then [base.toNat] else [])
  | _ => []

/-- Registers a flow/switch slot reads in the current window. -/
def flowReads : FlowOp → List Nat
  | .sw _ _ _ tx _ txs => if tx then [txs.toNat] else []
  | .alu2Reg op _ _ a b => aluRegReads op a b
  | .alu2Imm _ _ _ a _ => [a.toNat]
  | .call ind a _ => (if ind then [a.toNat] else []) ++ [12, 13, 14, 15]
  | .ret => [0, 1]
  | .repr a _ => [a.toNat]
  | _ => []

/-- Registers a flow/switch slot writes in the current window. -/
def flowWrites : FlowOp → List Nat
  | .sw rx _ rxd _ _ _ => if rx then [rxd.toNat] else []
  | .alu2Reg op _ d _ _ => if aluRegWrites op then [d.toNat] else []
  | .alu2Imm op _ d _ _ => if aluImmWrites op then [d.toNat] else []
  | _ => []

/-- MASK of an instruction, from its ALU slot (04 R152). -/
def wordMask (w : TileWord) : BitVec 18 :=
  match w.alu with
  | .mask m => m
  | _ => 0

/-- Every register of the current window that an instruction writes. -/
def wordWrites (w : TileWord) : List Nat :=
  macWrites w.mac ++ aluWrites w.alu ++ memWrites (wordMask w) w.mem ++ flowWrites w.flow

/-- Every register of the current window that an instruction reads. -/
def wordReads (w : TileWord) : List Nat :=
  macReads w.mac ++ aluReads w.alu ++ memReads (wordMask w) w.mem ++ flowReads w.flow

/-- STM or LDM. -/
def isMult : MemOp → Bool
  | .stm _ _ _ | .ldm _ _ _ => true
  | _ => false

/-- CALL or RET. -/
def isFrame : FlowOp → Bool
  | .call _ _ _ | .ret => true
  | _ => false

/-- The flow operations that may not stand at the END of the top entry (04 R160 item 6). -/
def movesPc : FlowOp → Bool
  | .jmp _ _ _ | .call _ _ _ | .ret | .reps _ _ | .repr _ _ | .brk => true
  | _ => false

/-- A number stands twice in a list. -/
def hasDup : List Nat → Bool
  | [] => false
  | a :: t => t.contains a || hasDup t

/-- The top repeat entry, when it belongs to the current frame. -/
def Tile.topRep (x : Tile) : Option RepEntry :=
  match x.rep with
  | e :: _ => if e.frame = x.frames then some e else none
  | [] => none

/-- The forbidden combinations, and the operand rules that need more than one slot (04 R157, R160). -/
def forbidden (x : Tile) (w : TileWord) : Bool :=
  let isMask := match w.alu with
    | .mask _ => true
    | _ => false
  let odd := match w.mem with
    | .ld _ .d d _ => d.getLsbD 0
    | .st _ .d s _ => s.getLsbD 0
    | _ => false
  let baseIn := match w.mem with
    | .ldm true base true => (maskRegs (wordMask w)).contains base.toNat
    | _ => false
  let badEnd := match w.flow with
    | .repr _ e => decide (e.toNat ≤ x.pc.toNat)
    | _ => false
  let atEnd := match x.topRep with
    | some e => e.stop == x.pc && movesPc w.flow
    | none => false
  hasDup (wordWrites w) || isMask != isMult w.mem || (isMult w.mem && !(w.mac == .nop && w.flow == .nop)) || baseIn ||
    (isFrame w.flow && (w.mac != .nop || !(aluWrites w.alu).isEmpty || !(memWrites (wordMask w) w.mem).isEmpty)) ||
    atEnd || odd || badEnd

/-! ### The memory slot -/

/-- What a memory slot does: registers at once, registers a cluster load fills later, a store, AGUs, and
what it costs. -/
structure MemOut where
  regs : List (Nat × Word) := []
  loads : List (Nat × Word) := []
  store : Option (DataSpace × Nat × Nat) := none
  agu0 : Option Agu := none
  agu1 : Option Agu := none
  corrected : Nat := 0
  banks : List Nat := []
  half : Option Nat := none
  deriving DecidableEq, Repr

/-- The space of an aligned access (03 R106, R109). -/
def accessSpace (a n : Nat) : Except TileCause DataSpace :=
  if a % n ≠ 0 then .error .align
  else match dataSpace a with
    | .none => .error .address
    | sp => .ok sp

/-- The bank an access takes, in tile memory (03 R107). -/
def spaceBank : DataSpace → List Nat
  | .tile a => [tileBank a]
  | _ => []

/-- The registers that `n` loaded bytes fill (04 R155). -/
def loadRegs (sz : MemSize) (d : Reg) (v : Nat) : List (Nat × Word) :=
  match sz with
  | .h => [(d.toNat, (BitVec.ofNat 16 v).signExtend 32)]
  | .w => [(d.toNat, BitVec.ofNat 32 v)]
  | .d => [(d.toNat, BitVec.ofNat 32 v), (d.toNat + 1, BitVec.ofNat 32 (v / 2 ^ 32))]

/-- A load: at once from tile memory, later from cluster memory (03 R110, 04 R147). -/
def State.loadAt (s : State) (t a : Nat) (sz : MemSize) (d : Reg) : Except TileCause MemOut := do
  let sp ← accessSpace a (memBytes sz)
  let r ← s.readSpace t sp (memBytes sz)
  match sp with
  | .cluster _ => pure { loads := loadRegs sz d r.1 }
  | _ => pure { regs := loadRegs sz d r.1, corrected := r.2, banks := spaceBank sp }

/-- A store of the `n` low bytes of a value (03 R108, R109). -/
def State.storeAt (s : State) (t a : Nat) (sz : MemSize) (v : Nat) : Except TileCause MemOut := do
  let sp ← accessSpace a (memBytes sz)
  if s.storeUe t sp (memBytes sz) then throw .memUe
  else
    let fixed := match sp with
      | .tile b => if sz = .h then (upsetsIn (s.tile t).upsets (b / 4) 1).2 else 0
      | _ => 0
    pure { store := some (sp, (memBytes sz), v), corrected := fixed, banks := spaceBank sp
           half := if sz = .h then (spaceBank sp).head? else none }

/-- The AGU that AG names. -/
def Tile.agu (x : Tile) (ag : Bool) : Agu := if ag then x.agu1 else x.agu0

/-- The output with one AGU set. -/
def MemOut.setAgu (o : MemOut) (ag : Bool) (g : Agu) : MemOut :=
  if ag then { o with agu1 := some g } else { o with agu0 := some g }

/-- An access through an AGU, its index advanced with PM (03 R103, R105, 04 R155). -/
def viaAgu (x : Tile) (ag pm : Bool) (f : Nat → Except TileCause MemOut) : Except TileCause MemOut :=
  let g := x.agu ag
  if !g.legal then .error .illegal
  else do
    let o ← f g.address
    pure (if pm then o.setAgu ag g.advance else o)

/-- The value a store of size `sz` from register `r` writes (04 R155). -/
def storeValue (x : Tile) (sz : MemSize) (r : Reg) : Nat :=
  match sz with
  | .h => (x.rd r).toNat % 65536
  | .w => (x.rd r).toNat
  | .d => (x.rd r).toNat + (x.rd (r + 1)).toNat * 2 ^ 32

/-- The memory slot but for STM and LDM (04 R155, R156). -/
def State.memSlot (s : State) (t : Nat) (op : MemOp) : Except TileCause MemOut :=
  let x := s.tile t
  match op with
  | .ld ag sz d pm => viaAgu x ag pm (fun a => s.loadAt t a sz d)
  | .st ag sz r pm => viaAgu x ag pm (fun a => s.storeAt t a sz (storeValue x sz r))
  | .ld2 da db p0 p1 => do
    let o ← viaAgu x false p0 (fun a => s.loadAt t a .w da)
    let q ← viaAgu x true p1 (fun a => s.loadAt t a .w db)
    pure { regs := o.regs ++ q.regs, loads := o.loads ++ q.loads, agu0 := o.agu0, agu1 := q.agu1,
           corrected := o.corrected + q.corrected, banks := o.banks ++ q.banks }
  | .ldr d a off => s.loadAt t (regOffset (x.rd a) off) .w d
  | .str r a off => s.storeAt t (regOffset (x.rd a) off) .w (x.rd r).toNat
  | .amod ag sub a => .ok (({} : MemOut).setAgu ag ((x.agu ag).amod sub (x.rd a)))
  | .nop | .mfence | .stm _ _ _ | .ldm _ _ _ => .ok {}

/-! ### The flow/switch slot -/

/-- What follows the instruction besides its register writes. -/
inductive After where
  | nothing
  | ctx (slot : Nat)
  | trap (code : BitVec 8)
  deriving DecidableEq, Repr

/-- What a flow/switch slot makes of PC, the repeat stack and the frames, the cycles, and what follows. -/
structure FlowOut where
  tile : Tile
  cycles : Nat := 1
  after : After := .nothing
  deriving DecidableEq, Repr

/-- The next PC after an instruction that completes in order, with the repeat stack (03 R125). -/
def repAdvance (pc : BitVec 9) (frame : Nat) : List RepEntry → BitVec 9 × List RepEntry
  | [] => (pc + 1, [])
  | e :: t =>
    if e.stop = pc ∧ e.frame = frame then
      if e.count.toNat > 1 then (e.start, { e with count := e.count - 1 } :: t) else repAdvance pc frame t
    else (pc + 1, e :: t)

/-- The tile moved past an instruction that completes in order. -/
def Tile.advance (x : Tile) : Tile :=
  let r := repAdvance x.pc x.frames x.rep
  { x with pc := r.1, rep := r.2 }

/-- REP with a count (03 R124, R126). -/
def Tile.startRepeat (x : Tile) (stop : BitVec 9) (count : BitVec 16) : Except TileCause Tile :=
  if count = 0 then .ok { x with pc := stop + 1 }
  else if x.rep.length ≥ 4 then .error .rptDepth
  else match x.topRep with
    | some e =>
      if stop.toNat > e.stop.toNat then .error .rptNest
      else .ok { x with pc := x.pc + 1, rep := ⟨x.pc + 1, stop, x.frames, count⟩ :: x.rep }
    | none => .ok { x with pc := x.pc + 1, rep := ⟨x.pc + 1, stop, x.frames, count⟩ :: x.rep }

/-- A taken jump (03 R127, R130). -/
def Tile.jump (x : Tile) (target : BitVec 9) : Except TileCause Tile :=
  let leaves := match x.topRep with
    | some e => decide (e.start.toNat ≤ x.pc.toNat ∧ x.pc.toNat ≤ e.stop.toNat) &&
        decide (target.toNat < e.start.toNat ∨ e.stop.toNat < target.toNat)
    | none => false
  if leaves then .error .rptExit
  else if !x.inCode target.toNat then .error .pcRange
  else .ok { x with pc := target }

/-- CALL with its window in place (03 R111). -/
def Tile.call (x : Tile) (target : BitVec 9) : Tile :=
  let w := x.cwp.toNat
  let v := (x.cwp + 1).toNat
  let y := (List.range 4).foldl (fun z i => z.setReg v i (x.reg w (12 + i))) x
  let z := y.modWindow v (fun u => { u with lnk := x.pc + 1 })
  { z with cwp := x.cwp + 1, frames := x.frames + 1, res := min 4 (x.res + 1), pc := target }

/-- RET with the caller's window in place; after an underflow trap the caller's frame alone is resident
(03 R112, R114). -/
def Tile.ret (x : Tile) (trapped : Bool) : Tile :=
  let w := x.cwp.toNat
  let v := (x.cwp - 1).toNat
  let y := (x.setReg v 12 (x.reg w 0)).setReg v 13 (x.reg w 1)
  { y with cwp := x.cwp - 1, frames := x.frames - 1, res := if trapped then 1 else x.res - 1,
           pc := (x.window w).lnk }

/-- The target of a CALL (04 R157). -/
def callTarget (x : Tile) (ind : Bool) (a : Reg) (target : BitVec 9) : BitVec 9 :=
  if ind then (x.rd a).extractLsb' 0 9 else target

/-- The checks a CALL or RET makes before any window trap (03 R111, R112, R127, 04 R157). -/
def frameCheck (x : Tile) : FlowOp → Option TileCause
  | .call ind a target =>
    if x.frames ≥ 16 then some .stackDepth
    else if !x.inCode (callTarget x ind a target).toNat then some .pcRange else none
  | .ret =>
    if x.frames ≤ 1 then some .stackUnder
    else if x.topRep.isSome then some .rptExit
    else if !x.inCode (x.window x.cwp.toNat).lnk.toNat then some .pcRange else none
  | _ => none

/-- Whether a CALL or RET needs a window trap (03 R111, R112). -/
def needsTrap (x : Tile) : FlowOp → Bool
  | .call _ _ _ => x.res == 4
  | .ret => x.res == 1
  | _ => false

/-- The flow/switch slot (04 R157). `y` is the tile with the other slots' writes landed, `x` the tile as it
stood. -/
def flowSlot (x y : Tile) (op : FlowOp) (trapped : Bool) : Except TileCause FlowOut :=
  match op with
  | .nop | .sw _ _ _ _ _ _ | .alu2Reg _ _ _ _ _ | .alu2Imm _ _ _ _ _ => .ok { tile := y.advance }
  | .jmp u cond target =>
    if condHolds u cond x.status then do
      let z ← y.jump target
      pure { tile := z, cycles := 2 }
    else .ok { tile := y.advance }
  | .call ind a target => .ok { tile := y.call (callTarget x ind a target), cycles := if trapped then 0 else 2 }
  | .ret => .ok { tile := y.ret trapped, cycles := if trapped then 0 else 2 }
  | .reps len count => do
    let z ← y.startRepeat (x.pc + 1 + len.zeroExtend 9) count
    pure { tile := z }
  | .repr a stop => do
    let z ← y.startRepeat stop ((x.rd a).extractLsb' 0 16)
    pure { tile := z }
  | .brk =>
    match x.topRep with
    | some e => .ok { tile := { y with rep := x.rep.tail, pc := e.stop + 1 }, cycles := 2 }
    | none => .error .rptExit
  | .ctx slot => .ok { tile := y.advance, after := .ctx slot.toNat }
  | .trap code => .ok { tile := { y with trapc := code }, after := .trap code }

/-! ### Stalls (04 R148) -/

/-- Whether a register of a window awaits data of a cluster-memory load (03 R110). -/
def Tile.awaits (x : Tile) (w r : Nat) : Bool := x.loads.any (fun l => l.win == w && l.regs.any (fun p => p.1 == r))

/-- Whether an instruction waits for the data of a cluster-memory load (04 R147, R161). -/
def waitsForData (x : Tile) (w : TileWord) : Bool :=
  let c := x.cwp.toNat
  (wordReads w ++ wordWrites w).any (x.awaits c) ||
    (match w.flow with
     | .call _ _ _ => (List.range 4).any (x.awaits ((x.cwp + 1).toNat))
     | .ret => x.awaits ((x.cwp - 1).toNat) 12 || x.awaits ((x.cwp - 1).toNat) 13
     | _ => false)

/-- Whether SW names a port the SWCFG does not give to the tile; a CMP port with OSEL off takes the tokens
of a DEMAND stream (04 R159, 05 R167, 10 R383). -/
def laneUnrouted (x : Tile) : FlowOp → Bool
  | .sw rx rxp _ tx txp _ =>
    (rx && !x.swcfg.getLsbD (32 + rxp.toNat)) ||
      (tx && osel x.swcfg txp.toNat != 1 && !(osel x.swcfg txp.toNat == 0 && cmpOn x.swcfg txp.toNat))
  | _ => false

/-- The empty port that holds an SW on its RX (04 R159). -/
def rxEmpty (x : Tile) : FlowOp → Option Nat
  | .sw true rxp _ _ _ _ => if (tget [] x.inbuf rxp.toNat).isEmpty then some rxp.toNat else none
  | _ => none

/-- Whether TX finds no room (04 R159). -/
def State.txFull (s : State) (t : Nat) : FlowOp → Bool
  | .sw _ _ _ true txp _ => !s.outReady t txp.toNat
  | _ => false

/-- The cycles that memory banks add (03 R107, R108). -/
def bankStall (x : Tile) (banks : List Nat) : Nat :=
  (if hasDup banks then 1 else 0) +
    (match x.busyBank with
     | some b => if banks.contains b then 1 else 0
     | none => 0)

/-- A cycle in which the tile holds an instruction: only T.CYC rises (04 R148). -/
def State.stall (s : State) (t : Nat) : State := s.modTile t (fun x => { x with cyc := x.cyc + 1 })

/-! ### STM and LDM (03 R119 to R123) -/

/-- The base address of an STM or LDM (04 R155). -/
def multBase (x : Tile) (bk : Bool) (base : Reg) : Nat :=
  if bk then (x.rd base).toNat % 2 ^ 20 else (x.agu (base.getLsbD 0)).address

/-- The value of an element of an image: a register, or an accumulator sign-extended (03 R119). -/
def elemValue (x : Tile) : MultElem → Nat × Nat
  | .reg r => (4, (x.reg x.cwp.toNat r).toNat)
  | .accRe => (8, ((x.window x.cwp.toNat).accRe.signExtend 64).toNat)
  | .accIm => (8, ((x.window x.cwp.toNat).accIm.signExtend 64).toNat)

/-- An element takes a loaded value; the register that supplies the base waits for completion
(03 R123). -/
def Tile.takeElem (x : Tile) (bk : Bool) (base : Reg) (e : MultElem) (v : Nat) : Tile :=
  match e with
  | .reg r =>
    if bk && r == base.toNat then { x with baseHeld := some (BitVec.ofNat 32 v) }
    else x.setReg x.cwp.toNat r (BitVec.ofNat 32 v)
  | .accRe => x.modWindow x.cwp.toNat (fun w => { w with accRe := BitVec.ofNat 40 v })
  | .accIm => x.modWindow x.cwp.toNat (fun w => { w with accIm := BitVec.ofNat 40 v })

/-- One element moves between the tile and memory. -/
def State.moveElem (s : State) (t : Nat) (isLoad bk : Bool) (base : Reg) (a : Nat) (e : MultElem) :
    Except TileCause State := do
  let n := (elemValue (s.tile t) e).1
  let sp ← accessSpace (a % 2 ^ 20) n
  if isLoad then
    let r ← s.readSpace t sp n
    pure (s.modTile t (fun x => ({ x with eccn := min 65535 (x.eccn + r.2)
                                          eccSat := x.eccSat || decide (x.eccn + r.2 > 65535) }).takeElem
      bk base e r.1))
  else pure (s.writeSpace t sp n (elemValue (s.tile t) e).2)

/-- The tile when an STM or LDM is complete: progress cleared, the base register written, and the base
post-modified (03 R122, R123, 04 R155). -/
def Tile.multDone (x : Tile) (bk : Bool) (base : Reg) (pm : Bool) (m : BitVec 18) : Tile :=
  let y := match x.baseHeld with
    | some v => { (x.setReg x.cwp.toNat base.toNat v) with baseHeld := none }
    | none => x
  let z := { y with mprog := {} }
  if !pm then z
  else if bk then z.setReg z.cwp.toNat base.toNat (z.rd base + BitVec.ofNat 32 (multLength m))
  else if base.getLsbD 0 then { z with agu1 := z.agu1.advanceBytes (multLength m) }
  else { z with agu0 := z.agu0.advanceBytes (multLength m) }

/-- One beat of an STM or LDM, which starts, resumes or completes it (03 R119 to R123). -/
def State.multBeat (s : State) (t : Nat) (isLoad bk : Bool) (base : Reg) (pm : Bool) (m : BitVec 18) : State :=
  let x := s.tile t
  let resumes := x.mprog.active && x.mprog.mpc == x.pc && x.mprog.load == isLoad
  let p : MProg := if resumes then x.mprog else { mpc := x.pc, load := isLoad, active := true }
  let badAgu := !bk && !(x.agu (base.getLsbD 0)).legal
  if badAgu then s.tileFault t .illegal
  else if m ≠ 0 ∧ multBase x bk base % 8 ≠ 0 then s.tileFault t .align
  else
    let beat := nextBeat m p
    let s0 := s.modTile t (fun y => { y with baseHeld := if resumes then y.baseHeld else none, mprog := p })
    let moved := beat.foldlM (m := Except TileCause)
      (fun u e => u.moveElem t isLoad bk base (multBase x bk base + e.1) e.2) s0
    match moved with
    | .error c => s0.tileFault t c
    | .ok s1 =>
      let q := beat.foldl (fun r e => r.mark e.2) p
      if nextBeat m q = [] then
        let extra := match isLoad, dataSpace (multBase x bk base) with
          | true, .cluster _ => if m = 0 then 0 else 4
          | _, _ => 0
        s1.modTile t (fun y => { (y.multDone bk base pm m).advance with
          cyc := y.cyc + 1 + BitVec.ofNat 32 extra, busyBank := none })
      else s1.modTile t (fun y => { y with mprog := q, cyc := y.cyc + 1, busyBank := none })

/-! ### The issue of an instruction -/

/-- ALU2's output (04 R154). -/
def alu2Out (w : TileWord) (x : Tile) : AluSlotOut :=
  match w.flow with
  | .alu2Reg op s d a b => runAluReg op (alu2Unit w.alu) s d a b x.rd x.status
  | .alu2Imm op s d a n => runAluImm op (alu2Unit w.alu) s d a (n.zeroExtend 8) x.rd x.status
  | _ => {}

/-- Puts the flags of one ALU. -/
def TileStatus.putFlags (st : TileStatus) : Option (Bool × AluFlags) → TileStatus
  | some (true, f) => { st with b := f }
  | some (false, f) => { st with a := f }
  | none => st

/-- T.STATUS after the slots of an instruction: a set wins over a CLRS (03 R99 to R101, 04 R161). -/
def statusAfter (st : TileStatus) (m : MacOut) (a b : AluSlotOut) : TileStatus :=
  let s1 := (st.putFlags a.flags).putFlags b.flags
  { s1 with sat := (st.sat && !a.clrSat) || m.sat || a.sat || b.sat
            ovf := (st.ovf && !a.clrOvf) || m.ovf || a.ovf || b.ovf
            mv := m.mv.getD st.mv }

/-- Writes a list of registers of the current window. -/
def Tile.setRegs (x : Tile) (l : List (Nat × Word)) : Tile :=
  l.foldl (fun y p => y.setReg x.cwp.toNat p.1 p.2) x

/-- A slot's register write as a list. -/
def regList : Option (Reg × Word) → List (Nat × Word)
  | some (d, v) => [(d.toNat, v)]
  | none => []

/-- The tile with every write of the MAC, ALU and memory slots and of ALU2 landed (04 R146, R147). -/
def landWrites (x : Tile) (m : MacOut) (a b : AluSlotOut) (o : MemOut) (rx : List (Nat × Word)) : Tile :=
  let y := x.setRegs (regList m.reg ++ regList a.reg ++ regList b.reg ++ o.regs ++ rx)
  let z := y.modWindow x.cwp.toNat (fun w => { w with accRe := m.re.getD w.accRe, accIm := m.im.getD w.accIm })
  { z with status := statusAfter x.status m a b
           agu0 := o.agu0.getD x.agu0, agu1 := o.agu1.getD x.agu1
           loads := if o.loads = [] then x.loads else x.loads ++ [⟨x.cwp.toNat, o.loads⟩]
           eccn := min 65535 (x.eccn + o.corrected)
           eccSat := x.eccSat || decide (x.eccn + o.corrected > 65535)
           busyBank := o.half
           refused := (List.range 2).foldl (fun r k =>
             tset 0 r k (if o.banks.contains k then satInc 32 (tget 0 x.refused k) else 0)) x.refused
           rxHeld := none
           trapping := none }

/-- Takes the token of RX and sends that of TX (04 R159). -/
def State.moveTokens (s : State) (t : Nat) (x : Tile) : FlowOp → State
  | .sw rx rxp _ tx txp txs =>
    let s1 := if rx then s.modTile t (fun y => { y with inbuf := tmod [] y.inbuf rxp.toNat List.tail }) else s
    let s2 := if tx then s1.leave t txp.toNat (x.rd txs) else s1
    s2.settleAt t
  | _ => s

/-- The register that RX writes. -/
def rxWrite (x : Tile) : FlowOp → List (Nat × Word)
  | .sw true rxp rxd _ _ _ => match tget [] x.inbuf rxp.toNat with
    | v :: _ => [(rxd.toNat, v)]
    | [] => []
  | _ => []

/-- What follows an instruction that has taken effect: a switch of rank 6, or the TRAP fault (04 R157). -/
def State.follow (s : State) (t : Nat) : After → State
  | .nothing => s
  | .ctx slot => s.switchTile t slot .instr
  | .trap _ => s.tileFault t .trap

/-- An instruction whose slots can all proceed takes effect as a whole (04 R146). -/
def State.execute (s : State) (t : Nat) (w : TileWord) (trapped : Bool) (wait : Nat) : State :=
  let x := s.tile t
  match s.memSlot t w.mem with
  | .error c => s.tileFault t c
  | .ok o =>
    let m := macSlot w.mac x.rd (x.window x.cwp.toNat).accRe (x.window x.cwp.toNat).accIm
    let y := landWrites x m (aluSlot w.alu x.rd x.status) (alu2Out w x) o (rxWrite x w.flow)
    match flowSlot x y w.flow trapped with
    | .error c => s.tileFault t c
    | .ok f =>
      let cycles := f.cycles + bankStall x o.banks + (if o.half.isSome then 1 else 0) + wait
      let s1 := s.modTile t (fun _ => { f.tile with cyc := x.cyc + BitVec.ofNat 32 cycles })
      let s2 := match o.store with
        | some (sp, n, v) => s1.writeSpace t sp n v
        | none => s1
      (s2.moveTokens t x w.flow).follow t f.after

/-- A tile stands still: the sequencer or the governor holds it, or a window trap is in progress (03 R115, R137,
14 R521). -/
def State.standing (s : State) (t : Nat) : Bool :=
  let x := s.tile t
  x.held || x.trapping.isSome || s.power.held.contains (tileCluster t)

/-- A tile issues one instruction word at its PC: nothing in context 15, a stall while held or trapped, its
checks, and then its effect (03 R115, R130, R136, R137, 04 R145 to R148). -/
def State.issue (s : State) (t : Nat) (word : BitVec 96) : State :=
  let x := s.tile t
  if x.ctx = 15 ∨ (s.cluster (tileCluster t)).gated then s
  else if s.standing t then s.stall t
  else if !x.inCode x.pc.toNat then s.tileFault t .pcRange
  else if x.pc.toNat ∈ x.imemUe then s.tileFault t .imemUe
  else match decodeWord word with
    | none => s.tileFault t .illegal
    | some w =>
      if forbidden x w then s.tileFault t .illegal
      else if waitsForData x w then s.stall t
      else if laneUnrouted x w.flow then s.tileFault t .laneUnrouted
      else match rxEmpty x w.flow with
        | some q => (s.stall t).modTile t (fun y => { y with rxHeld := some q })
        | none =>
          if s.txFull t w.flow then s.stall t
          else match w.mem with
            | .stm bk base pm => s.multBeat t false bk base pm (wordMask w)
            | .ldm bk base pm => s.multBeat t true bk base pm (wordMask w)
            | _ =>
              match frameCheck x w.flow with
              | some c => s.tileFault t c
              | none =>
                if needsTrap x w.flow then
                  if x.guarded then s.stall t
                  else s.modTile t (fun y => { y with trapping := some word })
                else s.execute t w false 0

/-! ### Window traps (03 R113 to R117) -/

/-- The cluster offset of the spill slot of a frame (03 R117). -/
def spillSlot (t f : Nat) : Nat := spillBase t + 0x40 + 80 * (f - 1)

/-- The bytes of a window as a spill slot holds them: offset, length and value (03 R117). -/
def windowImage (w : Window) : List (Nat × Nat × Nat) :=
  (List.range 16).map (fun i => (4 * i, 4, (tget 0 w.d i).toNat)) ++
    [(0x40, 8, w.accRe.toNat), (0x48, 8, w.accIm.toNat + w.lnk.toNat * 2 ^ 40)]

/-- An overflow trap writes the oldest resident frame to its spill slot, and the header (03 R113). -/
def State.spillOut (s : State) (t : Nat) : State :=
  let x := s.tile t
  let w := x.window ((x.cwp + 1).toNat)
  let base := spillSlot t (x.frames - 3)
  let s1 := s.modCluster (tileCluster t) (fun c =>
    { c with mem := (windowImage w).foldl (fun m e => writeBytes m (base + e.1) e.2.1 e.2.2) c.mem
             upsets := clearUpsets c.upsets (base / 8) 10 })
  s1.writeSpillHeader t 0

/-- A window read back from a spill slot (03 R114, R117). -/
def readWindow (m : List (Nat × Byte)) (base : Nat) : Window :=
  { d := (List.range 16).foldl (fun d i => tset 0 d i (BitVec.ofNat 32 (readBytes m (base + 4 * i) 4))) []
    accRe := BitVec.ofNat 40 (readBytes m (base + 0x40) 8)
    accIm := BitVec.ofNat 40 (readBytes m (base + 0x48) 8)
    lnk := BitVec.ofNat 9 (readBytes m (base + 0x48) 8 / 2 ^ 40) }

/-- An underflow trap reads the caller's frame back, and writes the header; none when its data has an
uncorrectable error (03 R114). -/
def State.spillIn (s : State) (t : Nat) : Option State :=
  let x := s.tile t
  let base := spillSlot t (x.frames - 1)
  let c := s.cluster (tileCluster t)
  if (upsetsIn c.upsets (base / 8) 10).1 then none
  else some ((s.modTile t (fun y => y.modWindow ((y.cwp - 1).toNat) (fun _ => readWindow c.mem base))).writeSpillHeader t 0)

/-- A switch that waited for a trap takes effect (03 R134). -/
def State.takeWaiting (s : State) (t : Nat) (w : Option (Nat × CtxReason)) : State :=
  match w with
  | some (k, r) => s.switchTile t k r
  | none => s

/-- The spill engine finishes a trap: the CALL or RET completes, and a waiting switch takes effect
(03 R113 to R115, R134). -/
def State.trapComplete (s : State) (t wait : Nat) : State :=
  let x := s.tile t
  match x.trapping with
  | none => s
  | some word =>
    match decodeWord word with
    | none => s
    | some w =>
      let free := fun (u : State) => u.modTile t (fun y => { y with trapping := none, waiting := none })
      match w.flow with
      | .ret =>
        match s.spillIn t with
        | some s1 => ((free s1).execute t w true (11 + min 26 wait)).takeWaiting t x.waiting
        | none =>
          match x.waiting with
          | some (15, .quench) => (free s).switchTile t 15 .quench
          | some (15, .cancel) => (free s).switchTile t 15 .cancel
          | _ => (free s).tileFault t .spillUe
      | _ => ((free (s.spillOut t)).execute t w true (10 + min 26 wait)).takeWaiting t x.waiting

end Sys2Proof.Machine
end

