-- ==== Sys2Proof/Machine/TileSeq.lean ====
section
/-!
DEFINITION. What the cluster sequencers do to tiles and clusters: window traps, scheduled switches, holds,
arriving loads, scrubs and writes (03 R93, R107, R110, R115, R122, R130, R134 to R140).
-/

namespace Sys2Proof.Machine

/-- The spill engine finishes a window trap after `wait` cycles of contention, at most 26 (03 R113 to R115,
R134). -/
def execWindowTrapComplete (t : Fin 1024) (wait : Nat) (s : State) : Host.Outcome State Fault Refusal :=
  .next (s.trapComplete t wait)

/-- At an armed edge each tile of a cluster that the sequencer has armed takes its switch at rank 4; a held
CALL or RET is discarded with its context (03 R131, R133, R135). -/
def execScheduledSwitch (c : Fin 64) (s : State) : Host.Outcome State Fault Refusal :=
  .next ((clusterTiles c).foldl (fun u t =>
    match (u.tile t).armed with
    | some k => (u.modTile t (fun x => { x with armed := none, guarded := false })).switchTile t k .commit
    | none => u) s)

/-- The sequencer has armed a scheduled switch of the listed tiles, by local index, to slots, and the 40
cycles before its edge begin (03 R135). -/
def execSwitchGuard (c : Fin 64) (arm : List (Fin 16 × Fin 16)) (s : State) : Host.Outcome State Fault Refusal :=
  .next (arm.foldl (fun u p =>
    u.modTile ((clusterTiles c).getD p.1 0) (fun x => { x with armed := some p.2.val, guarded := true })) s)

/-- The sequencer holds a tile (03 R122, R137). -/
def execSequencerHold (t : Fin 1024) (s : State) : Host.Outcome State Fault Refusal :=
  .next (s.modTile t (fun x => { x with held := true }))

/-- A held tile is released (03 R122, R137). -/
def execHoldRelease (t : Fin 1024) (s : State) : Host.Outcome State Fault Refusal :=
  .next (s.modTile t (fun x => { x with held := false }))

/-- The data of the oldest load in flight lands (03 R110, R132). -/
def execLoadDataArrival (t : Fin 1024) (s : State) : Host.Outcome State Fault Refusal :=
  .next (s.modTile t (fun x =>
    match x.loads with
    | [] => x
    | l :: rest => { (l.regs.foldl (fun y p => y.setReg l.win p.1 p.2) x) with loads := rest }))

/-- The 64-bit words one scrub burst covers: 8 cycles of a 128-bit port (03 R93). -/
def scrubWords : Nat := 16

/-- One scrub burst of a bank from 64-bit word `w` of it: single-bit errors in those words are corrected
(03 R93). -/
def execClusterMemoryScrub (c : Fin 64) (bank : Fin 4) (w : Nat) (s : State) : Host.Outcome State Fault Refusal :=
  .next (s.modCluster c (fun x =>
    if x.gated then x
    else
      let lo := 8192 * bank.val + w % 8192
      { x with upsets := x.upsets.filter (fun p => !(decide (lo ≤ p.1 ∧ p.1 < lo + scrubWords) && p.2 == 1))
               scrubs := inc32 x.scrubs }))

/-- After 16 consecutive refusals the sequencer port takes a bank of tile memory for one cycle, and the tile
stalls (03 R107). -/
def execSequencerPortTake (t : Fin 1024) (bank : Fin 2) (s : State) : Host.Outcome State Fault Refusal :=
  .next (if tget 0 (s.tile t).refused bank < 16 then s
    else s.modTile t (fun x =>
      { x with refused := tset 0 x.refused bank 0, cyc := if x.ctx = 15 then x.cyc else x.cyc + 1 }))

/-- The bits of a descriptor word that a field uses (03 R129); the rest are ignored (00 R19). -/
def descMask (j : Nat) : Word :=
  match j with
  | 0 => 0x3FFFFFFF
  | 1 => 0x1FF
  | 2 | 4 | 7 => 0x00FFFFFF
  | 3 | 5 => 0x1FFF1FFF
  | _ => 0xFFFFFFFF

/-- Whether a descriptor word leaves an AGU of its slot with legal settings (03 R105, R130). -/
def descLegal (x : Tile) (k j : Nat) (v : Word) : Bool :=
  let w := fun (i : Nat) => if i = j then v &&& descMask j else x.descWord k i
  if j = 2 ∨ j = 3 then (Agu.ofWords (w 2) (w 3)).legal
  else if j = 4 ∨ j = 5 then (Agu.ofWords (w 4) (w 5)).legal
  else true

/-- Whether the sequencer takes a write of a descriptor word (03 R128, R130). -/
def descWritable (x : Tile) (k j : Nat) (v : Word) : Bool := k != 15 && k != x.ctx && descLegal x k j v

/-- Writes a descriptor word that the sequencer takes; a refused write changes nothing (03 R130). -/
def State.writeDesc (s : State) (t k j : Nat) (v : Word) : State :=
  if descWritable (s.tile t) k j v then
    s.modTile t (fun x => { x with desc := tset 0 x.desc (8 * k + j) (v &&& descMask j) })
  else s

/-- A sequencer write of a descriptor word (03 R128 to R130). -/
def execDescriptorWrite (t : Fin 1024) (k : Fin 16) (j : Fin 8) (v : Word) (s : State) :
    Host.Outcome State Fault Refusal :=
  .next (s.writeDesc t k j v)

/-- Whether the sequencer takes a write of instruction word `i`: not inside the code region of a context that
runs (03 R130). -/
def imemWritable (x : Tile) (i : Nat) : Bool := x.ctx == 15 || !x.inCode i

/-- An instruction word with 32-bit word `j` replaced (04 R143). -/
def putImem (old : BitVec 96) (j : Nat) (v : Word) : BitVec 96 :=
  match j with
  | 0 => old.extractLsb' 32 64 ++ v
  | 1 => (old.extractLsb' 64 32 ++ v) ++ old.extractLsb' 0 32
  | _ => v ++ old.extractLsb' 0 64

/-- Writes a part of an instruction word that the sequencer takes (03 R130, R139, 04 R143). -/
def State.writeImem (s : State) (t i j : Nat) (v : Word) : State :=
  if imemWritable (s.tile t) i then
    s.modTile t (fun x => { x with imem := tset 0 x.imem i (putImem (tget 0 x.imem i) j v)
                                   imemUe := x.imemUe.filter (· ≠ i) })
  else s

/-- A sequencer write of a part of an instruction word (03 R130, R139). -/
def execInstructionWordWrite (t : Fin 1024) (i : Fin 512) (j : Fin 3) (v : Word) (s : State) :
    Host.Outcome State Fault Refusal :=
  .next (s.writeImem t i j v)

end Sys2Proof.Machine
end

