-- ==== Sys2Proof/Machine/NetOps.lean ====
section
/-!
DEFINITION. What targets of the packet network do: probes, the tile register map, cluster memory, input queues, the
loop nodes' maps, and the serving of a request (03 R139, R140, 06 R205, R219, R231, R238).
-/

namespace Sys2Proof.Machine

/-! ### Probes (06 R238) -/

/-- A probe. -/
def State.probe (s : State) (k : Nat) : Probe := tget {} s.net.probes k

/-- Changes one probe. -/
def State.modProbe (s : State) (k : Nat) (f : Probe → Probe) : State :=
  { s with net := { s.net with probes := tmod {} s.net.probes k f } }

/-- Whether a packet travels on the hi VC before and after each router of its way (06 R207): `d` is the dimension
it moves in, 0 x, 1 y, 2 none. -/
def halves (d : Nat) (hi : Bool) : List (Nat × Nat × Nat) → List (Bool × Bool)
  | [] => []
  | (r, _, c) :: t =>
    let e := if c = 5 then d else if 64 ≤ r ∨ c = 4 then 2 else if c % 2 = 1 then 0 else 1
    let crosses : Bool := decide (r < 64) && ((c == 1 && r % 8 == 7) || (c == 3 && r % 8 == 0) ||
      (c == 2 && r / 8 == 7) || (c == 0 && r / 8 == 0))
    let h := if c = 5 then hi else if e = 2 then false else if e = d then hi || crosses else crosses
    (hi, h) :: halves e h t

/-- The VC class of an opcode: 0 REQ, 2 RSP, 4 GT (06 R203, R206). -/
def vcClass (opc : Nat) : Nat := if opc = 0x18 then 2 else if opc = 0x10 then 4 else 0

/-- The header flit of a packet, its route shifted by `n` codes (06 R202, R215). -/
def packetHeader (p : Packet) (n : Nat) : Nat :=
  let low := p.dst * 2 ^ 41 + p.src * 2 ^ 34 + p.tag * 2 ^ 28 + p.epo * 2 ^ 24 + p.addr
  p.opc * 2 ^ 59 + p.len * 2 ^ 55 + p.zone * 2 ^ 51 + (if p.sr then 2 ^ 50 else 0) + (if p.urg then 2 ^ 49 else 0) +
    (if p.mc then 2 ^ 48 else 0) + (if p.sr then p.route / 8 ^ n else low)

/-- Payload flit 0: the envelope of a source-routed packet (06 R203). -/
def packetFlit0 (p : Packet) : Nat :=
  if p.sr then p.dst * 2 ^ 41 + p.src * 2 ^ 34 + p.tag * 2 ^ 28 + p.epo * 2 ^ 24 + p.addr else p.data.headD 0

/-- Flits of a packet (06 R202, R203). -/
def packetFlits (p : Packet) : Nat := 1 + p.data.length + (if p.sr then 1 else 0)

/-- A probe's filters admit a packet on a virtual channel (06 R238). -/
def Probe.admits (x : Probe) (p : Packet) (vc : Nat) : Bool :=
  let reads := !p.sr || x.ctl.testBit 3
  x.ctl.testBit 0 && x.fvc.testBit vc && x.fopc.testBit p.opc &&
    (!x.fsrc.testBit 7 || (reads && x.fsrc % 128 == p.src)) && (!x.fdst.testBit 7 || (reads && x.fdst % 128 == p.dst)) &&
    (x.amask % 2 ^ 24 == 0 || (reads && (p.addr ^^^ x.amatch) &&& (x.amask % 2 ^ 24) == 0))

/-- The NCLK count, two cycles to a nanosecond. -/
def State.nclk (s : State) : Nat := 2 * s.now

/-- A probe sees a packet: counters, and a trace record in the trace modes (06 R238). -/
def Probe.see (x : Probe) (p : Packet) (hop vc age wait nclk : Nat) (t : T64) : Probe :=
  let cnt := x.cnt + 1
  let y := { x with cnt := cnt % 2 ^ 32, cntWrap := x.cntWrap || decide (cnt = 2 ^ 32)
                    flits := (x.flits + packetFlits p) % 2 ^ 40, wait := (x.wait + wait) % 2 ^ 48
                    ageMax := max x.ageMax age, urgSeen := x.urgSeen || p.urg }
  let rc : Nat × Nat × Nat :=
    (if x.ctl.testBit 3 then packetFlit0 p else packetHeader p hop, (nclk - x.enAt) % 2 ^ 32, vc + 8 * age)
  match x.ctl / 2 % 4 with
  | 1 =>
    if x.stoppedAt.isSome then y
    else { y with trace := y.trace ++ [rc], tptr := (x.tptr + 1) % 256
                  stoppedAt := if y.trace.length + 1 ≥ 256 then some t else none }
  | 2 => { y with trace := (y.trace ++ [rc]).drop (y.trace.length + 1 - 256), tptr := (x.tptr + 1) % 256
                  wrapped := x.wrapped || decide (x.tptr = 255) }
  | _ => y

/-- The place of a packet's way that a probe watches: the hop and the VC there. -/
def Probe.watches (x : Probe) (way : List (Nat × Nat × Nat)) (opc : Nat) : Option (Nat × Nat) :=
  let hs := halves 2 false way
  let out := x.sel.testBit 10
  ((way.zip hs).zipIdx.find? (fun w =>
    w.1.1.1 == x.sel % 128 && (if out then w.1.1.2.2 else w.1.1.2.1) == x.sel / 128 % 8)).map (fun w =>
      (w.2 + (if out then 1 else 0), vcClass opc + (if (if out then w.1.2.2 else w.1.2.1) then 1 else 0)))

/-- The probes on a delivered packet's way see it; how long its head waited, and its age unless URG fixes it, are
free values (06 R223, R238, log 2). -/
def State.observe (s : State) (p : Packet) : State :=
  if s.net.probes = [] then s
  else
    let way := wayOf p.src p.dst
    (List.range 16).foldl (fun t k =>
      let x := t.probe k
      match x.watches way p.opc with
      | none => t
      | some (hop, vc) =>
        if x.admits p vc then
          let f := t.takeFree
          let age := if p.urg then 15 else f.1 % 16
          let g := f.2.takeFree
          g.2.modProbe k (fun y => y.see p hop vc age (g.1 % 2 ^ 48) g.2.nclk g.2.time.t64)
        else t) s

/-- A probe's register, by offset (06 R238). -/
def Probe.reg (x : Probe) : Nat → Nat
  | 0 => x.ctl
  | 1 => x.sel
  | 2 => x.fsrc
  | 3 => x.fdst
  | 4 => x.fvc
  | 5 => x.fopc
  | 6 => x.amask
  | 7 => x.amatch
  | 8 => x.cnt + (if x.cntWrap then 2 ^ 32 else 0)
  | 9 => x.flits
  | 10 => x.wait
  | 11 => x.ageMax + (if x.urgSeen then 2 ^ 8 else 0)
  | 12 => x.tptr + (if x.wrapped then 2 ^ 8 else 0) + (if x.stoppedAt.isSome then 2 ^ 9 else 0)
  | _ => 0

/-- CLR: the counters and the pointer are zeroed (06 R238). -/
def Probe.clear (x : Probe) : Probe :=
  { x with cnt := 0, cntWrap := false, flits := 0, wait := 0, ageMax := 0, urgSeen := false, trace := [], tptr := 0
           wrapped := false, stoppedAt := none, saved := false }

/-- Writes a probe's register; none where it is read-only, unknown or given an illegal MODE (06 R238). -/
def Probe.write (x : Probe) (nclk off v : Nat) : Option Probe :=
  match off with
  | 0 =>
    if v / 2 % 4 = 3 then none
    else
      let y := if v.testBit 4 then x.clear else x
      some { y with ctl := v % 16, enAt := if v.testBit 0 && !x.ctl.testBit 0 then nclk else x.enAt }
  | 1 => some { x with sel := v % 2 ^ 11 }
  | 2 => some { x with fsrc := v % 2 ^ 8 }
  | 3 => some { x with fdst := v % 2 ^ 8 }
  | 4 => some { x with fvc := v % 2 ^ 6 }
  | 5 => some { x with fopc := v % 2 ^ 32 }
  | 6 => some { x with amask := v % 2 ^ 24 }
  | 7 => some { x with amatch := v % 2 ^ 24 }
  | _ => none

/-! ### The tile register map (03 R139, R140) -/

/-- The code of a switch reason in T.CTX (03 R139). -/
def CtxReason.code : CtxReason → Nat
  | .none => 0
  | .instr => 1
  | .dispatch => 2
  | .commit => 3
  | .fault => 4
  | .cancel => 5
  | .quench => 6

/-- The registers of a tile up to 0x01E. -/
def Tile.ctlReg (x : Tile) (t off : Nat) : Nat :=
  match off with
  | 0x000 => t + tileCluster t * 2 ^ 10 + localIndex t * 2 ^ 16
  | 0x001 => x.ctx + x.prev * 2 ^ 4 + x.reason.code * 2 ^ 8
  | 0x002 => x.pc.toNat
  | 0x003 => (statusWord x.status).toNat
  | 0x004 => x.cwp.toNat + x.frames * 4 + x.res * 2 ^ 7
  | 0x005 => (x.window x.cwp.toNat).lnk.toNat
  | 0x006 => x.mprog.word
  | 0x007 => x.faultCause.code + x.faultPc.toNat * 2 ^ 8 + (if x.faultValid then 2 ^ 31 else 0)
  | 0x008 => x.trapc.toNat
  | 0x009 => x.eccn + (if x.eccSat then 2 ^ 31 else 0)
  | 0x00A => x.cyc.toNat
  | 0x00B => x.swcnt.toNat
  | 0x018 => x.agu0.wordB
  | 0x019 => x.agu0.wordM
  | 0x01A => x.agu0.idx.toNat
  | 0x01C => x.agu1.wordB
  | 0x01D => x.agu1.wordM
  | 0x01E => x.agu1.idx.toNat
  | _ =>
    if 0x010 ≤ off ∧ off < 0x018 then
      match x.rep.reverse[(off - 0x010) / 2]? with
      | some e => if off % 2 = 0 then e.start.toNat + e.stop.toNat * 2 ^ 9 + e.frame * 2 ^ 18 + 2 ^ 31 else e.count.toNat
      | none => 0
    else 0

/-- A word of a tile's register map (03 R139). -/
def Tile.mapReg (x : Tile) (t off : Nat) : Nat :=
  if off < 0x40 then x.ctlReg t off
  else if off < 0x80 then (x.reg ((off - 0x40) / 16) (off % 16)).toNat
  else if off < 0x90 then
    let w := x.window ((off - 0x80) / 4)
    let a := if off % 4 < 2 then w.accRe else w.accIm
    if off % 2 = 0 then (a.extractLsb' 0 32).toNat else ((a.extractLsb' 32 8).signExtend 32).toNat
  else if 0x100 ≤ off ∧ off < 0x180 then (x.descWord ((off - 0x100) / 8) (off % 8)).toNat
  else if 0x1000 ≤ off ∧ off < 0x1800 ∧ off % 4 ≠ 3 then
    ((tget 0 x.imem ((off - 0x1000) / 4)).extractLsb' (32 * (off % 4)) 32).toNat
  else if 0x4000 ≤ off ∧ off < 0x5000 then readBytes x.mem (4 * (off - 0x4000)) 4
  else 0

/-- The tile is held or in context 15 (03 R140). -/
def Tile.atRest (x : Tile) : Bool := x.held || x.ctx == 15

/-- An accumulator with its low or its high part replaced (03 R139). -/
def putAcc (a : BitVec 40) (high : Bool) (v : Word) : BitVec 40 :=
  if high then v.extractLsb' 0 8 ++ a.extractLsb' 0 32 else a.extractLsb' 32 8 ++ v

/-- Writes a word of a tile's register map; none where the write is refused (03 R130, R139, R140). -/
def State.writeTileReg (s : State) (t off : Nat) (v : Word) : Option State :=
  let x := s.tile t
  if (s.cluster (tileCluster t)).gated then none
  else if off = 0x003 then
    some (s.modTile t (fun y => { y with status := { y.status with
      sat := y.status.sat && !v.getLsbD 8, ovf := y.status.ovf && !v.getLsbD 9 } }))
  else if off = 0x007 then
    if x.atRest then some (s.modTile t (fun y => { y with faultValid := y.faultValid && !v.getLsbD 31 })) else none
  else if off = 0x009 then some (s.modTile t (fun y => { y with eccSat := y.eccSat && !v.getLsbD 31 }))
  else if 0x40 ≤ off ∧ off < 0x80 then
    if x.atRest then some (s.modTile t (fun y => y.setReg ((off - 0x40) / 16) (off % 16) v)) else none
  else if 0x80 ≤ off ∧ off < 0x90 then
    if x.atRest then
      some (s.modTile t (fun y => y.modWindow ((off - 0x80) / 4) (fun w =>
        if off % 4 < 2 then { w with accRe := putAcc w.accRe (off % 2 == 1) v }
        else { w with accIm := putAcc w.accIm (off % 2 == 1) v })))
    else none
  else if 0x100 ≤ off ∧ off < 0x180 then
    if descWritable x ((off - 0x100) / 8) (off % 8) v then some (s.writeDesc t ((off - 0x100) / 8) (off % 8) v) else none
  else if 0x1000 ≤ off ∧ off < 0x1800 ∧ off % 4 ≠ 3 then
    if imemWritable x ((off - 0x1000) / 4) then some (s.writeImem t ((off - 0x1000) / 4) (off % 4) v) else none
  else if 0x4000 ≤ off ∧ off < 0x5000 then some (s.writeSpace t (.tile (4 * (off - 0x4000))) 4 v.toNat)
  else none

/-! ### Words (06 R203) -/

/-- A target's words: how one is read (none for an uncorrectable error) and written. -/
structure WordMap where
  read : State → Nat → Option Nat
  write : State → Nat → Nat → State

/-- Sets the bytes of a word that a mask byte enables (06 R203). -/
def maskedWord (old new mask : Nat) : Nat :=
  ofBytesLE (((bytesLE 8 old).zip (bytesLE 8 new)).zipIdx.map (fun p => if mask.testBit p.2 then p.1.2 else p.1.1))

/-- Carries out RD to CAS on a map of words (06 R203, R204). -/
def State.wordOp (s : State) (m : WordMap) (p : Packet) : NetStatus × List Nat × State :=
  match p.opc with
  | 0x01 =>
    match (List.range p.len).mapM (fun i => m.read s (p.addr + i)) with
    | some l => (.ok, l, s)
    | none => (.memUe, [], s)
  | 0x02 => (.ok, [], (p.data.zipIdx).foldl (fun t e => m.write t (p.addr + e.2) e.1) s)
  | 0x03 =>
    let mask := p.data.headD 0
    match ((p.data.drop 1).zipIdx).mapM (fun e =>
        let b := mask / 2 ^ (8 * e.2) % 256
        if b = 255 then some (e.2, e.1) else (m.read s (p.addr + e.2)).map (fun old => (e.2, maskedWord old e.1 b))) with
    | some l => (.ok, [], l.foldl (fun t e => m.write t (p.addr + e.1) e.2) s)
    | none => (.memUe, [], s)
  | _ =>
    match m.read s p.addr with
    | none => (.memUe, [], s)
    | some old =>
      let a := p.data.headD 0
      match p.opc with
      | 0x04 => (.ok, [old], m.write s p.addr a)
      | 0x05 => (.ok, [old], m.write s p.addr ((old + a) % 2 ^ 64))
      | 0x06 => (.ok, [old], if old = a then m.write s p.addr ((p.data.drop 1).headD 0) else s)
      | _ => (.unsupported, [], s)

/-- Words a request reaches. -/
def packetSpan (p : Packet) : Nat :=
  match p.opc with
  | 0x01 => p.len
  | 0x02 => p.data.length
  | 0x03 => p.data.length - 1
  | _ => 1

/-! ### Clusters (06 R205, R219) -/

/-- Cluster memory as words. -/
def clusterWords (c : Nat) : WordMap where
  read s w := if (upsetsIn (s.cluster c).upsets w 1).1 then none else some (readBytes (s.cluster c).mem (8 * w) 8)
  write s w v := s.modCluster c (fun x => { x with mem := writeBytes x.mem (8 * w) 8 v, upsets := clearUpsets x.upsets w 1 })

/-- Whether a cluster word lies in a spill region (03 R116). -/
def spillWord (w : Nat) : Bool := decide (0x1E00 ≤ w % 0x2000)

/-- A cluster NI accepts a zone's request: its own zone, SYS, and those granted; the grants of Z0 admit RD only
(06 R219, R239). -/
def State.niAdmits (s : State) (c zone opc : Nat) : Bool :=
  zone == zoneSys || (match s.zoneOfCluster c with
    | some z => zone == z || (((s.num (0x70A0 + z) 1 0 ||| (s.ni c).grants).testBit zone) && (z != 0 || opc == 0x01))
    | none => false)

/-- The clusters in which a task's input queue is set up: that of its first tile, and of the first tile of the other
copy of a MIRROR task (05 R175, 10 R382). -/
def Task.queueClusters (k : Task) : List Nat :=
  let l := if k.mirror then [k.tiles, k.tiles.drop (k.tiles.length / 2)] else [k.tiles]
  l.filterMap (fun ts => ts.head?.map (fun p => tileCluster p.1))

/-- The task whose input queue a queue number names in a cluster. -/
def State.queueTask (s : State) (c q : Nat) : Option Nat :=
  s.taskList.find? (fun n =>
    let k := s.task n
    k.state != .absent && k.queueNo == q && k.queueClusters.contains c)

/-- A cluster NI serves a request (06 R205). -/
def State.serveCluster (s : State) (c : Nat) (p : Packet) : NetStatus × List Nat × State :=
  if p.opc = 0x08 then (if s.niAdmits c p.zone p.opc then (.ok, [], s) else (.zoneDenied, [], s))
  else if p.addr < 0x8000 then
    if !s.niAdmits c p.zone p.opc then (.zoneDenied, [], s)
    else if p.opc = 0x07 ∨ p.addr + packetSpan p > 0x8000 ∨
        (p.zone ≠ zoneSys ∧ (List.range (packetSpan p)).any (fun i => spillWord (p.addr + i))) then (.addrErr, [], s)
    else s.wordOp (clusterWords c) p
  else if 0x100000 ≤ p.addr ∧ p.addr < 0x110000 then
    if p.zone ≠ zoneSys then (.zoneDenied, [], s)
    else
      let t := fun (i : Nat) => (clusterTiles c).getD ((p.addr + i - 0x100000) / 0x1000) 0
      match p.opc with
      | 0x01 => (.ok, (List.range p.len).map (fun i => (s.tile (t i)).mapReg (t i) ((p.addr + i) % 0x1000)), s)
      | 0x02 =>
        match (p.data.zipIdx).foldlM (fun (u : State) e => u.writeTileReg (t e.2) ((p.addr + e.2) % 0x1000) (BitVec.ofNat 32 e.1)) s with
        | some u => (.ok, [], u)
        | none => (.addrErr, [], s)
      | _ => (.unsupported, [], s)
  else if 0x110000 ≤ p.addr ∧ p.addr < 0x110100 then
    if !s.niAdmits c p.zone p.opc then (.zoneDenied, [], s)
    else if p.opc ≠ 0x07 then (.addrErr, [], s)
    else match s.queueTask c (p.addr - 0x110000) with
      | none => (.addrErr, [], s)
      | some n => match s.pushQueue n p.data with
        | some u => (.ok, [], u)
        | none => (.queueFull, [], s)
  else (.addrErr, [], s)

/-! ### Loop nodes -/

/-- The process-data area as words (11 R449). -/
def pdaWords : WordMap where
  read s w := some (ofBytesLE ((List.range 8).map (fun i => tget 0 s.sess.pda (8 * w + i))))
  write s w v := { s with sess := { s.sess with
    pda := (bytesLE 8 v).zipIdx.foldl (fun t e => tset 0 t (8 * w + e.2) e.1) s.sess.pda } }

/-- A word of the store: the trace archive, and what has been written over the network (12 R471, R483). -/
def State.storeWord (s : State) (w : Nat) : Nat :=
  if 0xE0000 ≤ w then
    leAtList (tget [] s.store.archive ((w - 0xE0000) / 1024)) (8 * ((w - 0xE0000) % 1024))
  else tget 0 s.store.words w
where leAtList (b : List Nat) (o : Nat) : Nat := ofBytesLE ((b.drop o).take 8)

/-- The store's words (12 R471, R472). -/
def storeWords : WordMap where
  read s w := if tget 0 s.store.upsets w = 2 then none else some (s.storeWord w)
  write s w v := { s with store := { s.store with words := tset 0 s.store.words w v, upsets := tdel w s.store.upsets } }

/-- Whether a node may use the store's regions that words `w` to `w + n - 1` lie in (12 R471). -/
def storeAdmits (src w n : Nat) (write : Bool) : Bool :=
  let last := w + n - 1
  if src = 64 then decide (last < 0x100000) && (!write || decide (last < 0xDF800))
  else src == 74 && decide (0xE0000 ≤ w ∧ last < 0x100000)

/-- The store serves a request (12 R471, R472). -/
def State.serveStore (s : State) (p : Packet) : NetStatus × List Nat × State :=
  if p.opc = 0 ∨ 6 < p.opc then (.unsupported, [], s)
  else if !storeAdmits p.src p.addr (max 1 (packetSpan p)) (p.opc != 0x01) then
    (if p.zone = zoneSys then .addrErr else .zoneDenied, [], s)
  else
    let fixed := (List.range (packetSpan p)).filter (fun i => tget 0 s.store.upsets (p.addr + i) = 1)
    let s0 : State := if p.opc = 0x02 then s else { s with store := { s.store with
      corrected := (s.store.corrected + fixed.length) % 2 ^ 32
      upsets := fixed.foldl (fun t i => tdel (p.addr + i) t) s.store.upsets } }
    let r := s0.wordOp storeWords p
    if r.1 = .memUe then
      match (List.range (packetSpan p)).find? (fun i => tget 0 s.store.upsets (p.addr + i) = 2) with
      | some i => (r.1, r.2.1, State.alarm { r.2.2 with store := { r.2.2.store with
          uncorrected := inc32 r.2.2.store.uncorrected, lastUe := 8 * (p.addr + i) } } .alarm 0x0706 0 (bytesLE 4 (8 * (p.addr + i))))
      | none => r
    else r

/-- A register of the fuse controller (12 R458). -/
def State.fuseReg (s : State) (a : Nat) : Nat :=
  let u := s.fuse
  match a with
  | 1 => (if u.prog.isSome then 1 else 0) + 2 * u.result.code + 2 ^ 4 * u.phase + (if s.op.fuseEn then 2 ^ 7 else 0) +
      (if u.inWindow then 2 ^ 8 else 0) + 2 ^ 10 * u.failA.toNat
  | 2 => u.failB.toNat
  | 3 => u.rdata
  | 4 => u.rcopyA.toNat
  | 5 => u.rcopyB.toNat
  | 6 => u.rail + 2 ^ 16 * (u.temp.emod (2 ^ 16)).toNat
  | 7 => u.scan.1 % 1024 + 2 ^ 10 * (u.scan.2.1 % 1024) + 2 ^ 20 * (u.scan.2.2.1 % 1024) + 2 ^ 30 * (u.scan.2.2.2 % 1024)
  | _ => 0

/-- A write of FC_CMD; while BUSY it is discarded (12 R458, R459). -/
def State.fuseCommand (s : State) (v : Nat) : State :=
  let a := v / 16 % 1024
  if s.fuse.prog.isSome then s
  else match v % 16 with
    | 1 => { s with fuse := s.fuse.read a 0 0 }
    | 2 => (s.fuseRun 0 0 [(a, v / 2 ^ 32 % 2 ^ 32)]).1
    | 3 => { s with fuse := s.fuse.read a 0 0 }
    | 4 => { s with fuse := s.fuse.scanned [] }
    | _ => s

/-- The fuse controller serves a request: the Gaffer's with ZONE SYS only (12 R458). -/
def State.serveFuse (s : State) (p : Packet) : NetStatus × List Nat × State :=
  if p.src ≠ 64 ∨ p.zone ≠ zoneSys then (.zoneDenied, [], s)
  else match p.opc with
    | 0x01 =>
      if p.addr = 0 ∨ p.addr + p.len > 8 then (.addrErr, [], s)
      else (.ok, (List.range p.len).map (fun i => s.fuseReg (p.addr + i)), s)
    | 0x02 => if p.addr = 0 ∧ p.data.length = 1 then (.ok, [], s.fuseCommand (p.data.headD 0)) else (.addrErr, [], s)
    | _ => (.unsupported, [], s)

/-- The direct-I/O unit serves a request (15 R573, R577). -/
def State.serveDio (s : State) (p : Packet) : NetStatus × List Nat × State :=
  if p.opc = 0x01 ∧ p.addr = 0 ∧ p.len ≤ 1 then
    (.ok, (List.range p.len).map (fun _ => bitsMask ((List.range 24).filter (fun y => (s.pin y).level))), s)
  else if p.opc = 0x07 ∧ 0x100 ≤ p.addr ∧ p.addr ≤ 0x117 then
    let n := p.data.length
    if n ≠ 2 ∧ n ≠ 4 ∧ n ≠ 6 then (.addrErr, [], s)
    else if !s.dioOut (p.addr - 0x100) then (.queueFull, [], s)
    else match s.dioQpush (p.addr - 0x100) p.data with
      | some u => (.ok, [], u)
      | none => (.queueFull, [], s)
  else (.addrErr, [], s)

/-- The TWT window as words: 16 of the OUT area and 16 of the IN area (15 R565). -/
def twtWords : WordMap where
  read s w := some (s.io.twt.word w)
  write s w v := { s with io := { s.io with twt := s.io.twt.writeOut (8 * w) 255 (bytesLE 8 v) } }

/-- The two-wire unit serves a request (15 R551, R565). -/
def State.serveTw (s : State) (p : Packet) : NetStatus × List Nat × State :=
  if p.opc = 0x07 then
    if p.addr ≠ 0x100 ∧ p.addr ≠ 0x101 then (.addrErr, [], s)
    else match s.twQpush (p.addr - 0x100) p.data with
      | some u => (.ok, [], u)
      | none => (.queueFull, [], s)
  else if 0x20 < p.addr + packetSpan p ∨ 0x20 ≤ p.addr then (.addrErr, [], s)
  else match p.opc with
    | 0x01 => s.wordOp twtWords p
    | 0x02 | 0x03 => if 0x10 < p.addr + packetSpan p then (.addrErr, [], s) else s.wordOp twtWords p
    | _ => (.unsupported, [], s)

/-- The records of a QPUSH, two words each (09 R317). -/
def pairsOf : List Nat → List (BitVec 64 × BitVec 64)
  | a :: b :: t => (BitVec.ofNat 64 a, BitVec.ofNat 64 b) :: pairsOf t
  | _ => []

/-- A ring controller serves a request: a QPUSH to an event queue (09 R317, R318, R321). -/
def State.serveRc (s : State) (m : Nat) (p : Packet) : NetStatus × List Nat × State :=
  let n := p.data.length
  if 4 ≤ p.addr then (.addrErr, [], s)
  else if p.opc ≠ 0x07 then (.unsupported, [], s)
  else if n ≠ 2 ∧ n ≠ 4 ∧ n ≠ 6 then (.addrErr, [], s)
  else if !s.eventZone (4 * m + p.addr) p.zone then (.zoneDenied, [], s)
  else
    let x := s.takePacket (4 * m + p.addr) p.zone p.src (pairsOf p.data)
    (if x.1 then .ok else .queueFull, [], x.2)

/-- The target that an NI is serves a request (06 R199, R205). -/
def State.serveAt (s : State) (n : Nat) (p : Packet) : NetStatus × List Nat × State :=
  if n < 64 then s.serveCluster n p
  else if p.opc = 0x08 then (.ok, [], s)
  else match n with
    | 65 =>
      if 0x400 < p.addr + packetSpan p ∨ 0x400 ≤ p.addr then (.addrErr, [], s)
      else if p.opc = 0x07 ∨ 3 < p.opc then (.unsupported, [], s)
      else s.wordOp pdaWords p
    | 67 => s.serveStore p
    | 68 => s.serveFuse p
    | 70 => s.serveDio p
    | 72 => s.serveRc 0 p
    | 73 => s.serveRc 1 p
    | 75 => s.serveTw p
    | 76 => s.serveRc 2 p
    | 77 => s.serveRc 3 p
    | _ => (.addrErr, [], s)

/-! ### Requests (06 R204, R210, R231) -/

/-- The response to a request (06 R204, R218). -/
def response (n : Nat) (p : Packet) (st : NetStatus) (data : List Nat) : Packet :=
  { opc := 0x18, len := data.length, zone := p.zone, sr := sourceRouted n p.src, urg := p.urg, mc := p.mc, dst := p.src
    src := n, tag := p.tag, epo := p.epo, addr := st.code * 2 ^ 16, data := data
    route := if sourceRouted n p.src then routeOf (turnCodes n p.src) else 0 }

/-- A target answers (06 R204), counting a denial (06 R239). -/
def State.respond (s : State) (n : Nat) (p : Packet) (st : NetStatus) (data : List Nat) : State :=
  (s.modNi n (fun x => if st = .zoneDenied then { x with denied := inc32 x.denied } else x)).emit
    (.packet n (response n p st data))

/-- A target holds a request: its cluster's idle time starts anew (14 R520). -/
def State.niBusy (s : State) (n : Nat) : State := if n < 64 then s.modCluster n (fun c => { c with idleSince := s.now }) else s


end Sys2Proof.Machine
end

