-- ==== Sys2Proof/Machine/QuenchOps.lean ====
section
/-!
DEFINITION. The operations of the Quench unit: the fused settings, causes, the change to QUENCHED, reset
acknowledgements and release, the safety PDU and the comparator (10 R361 to R395).
-/

namespace Sys2Proof.Machine

/-! ### The fused settings (10 R367) -/

/-- SAFECFG as read at the last release. -/
def QuenchUnit.cfg (u : QuenchUnit) : Nat := tget 0 u.words 4

/-- The type of an SI pair. -/
def QuenchUnit.siType (u : QuenchUnit) (n : Nat) : SiType :=
  match u.cfg / 4 ^ n % 4 with
  | 0 => .unused
  | 1 => .guard
  | 2 => .enable
  | _ => .reset

/-- *SiDiscrepancy* in ns. -/
def QuenchUnit.siDisc (u : QuenchUnit) : Nat := [50, 100, 200, 500].getD (u.cfg / 2 ^ 10 % 4) 0 * 1000000

/-- *SiFilter* in ns. -/
def QuenchUnit.siFilter (u : QuenchUnit) : Nat := [500, 1000, 2000, 5000].getD (u.cfg / 2 ^ 8 % 4) 0 * 1000

/-- PDU_EN. -/
def QuenchUnit.pduEn (u : QuenchUnit) : Bool := u.cfg.testBit 12

/-- Z0_REQUIRED. -/
def QuenchUnit.z0Required (u : QuenchUnit) : Bool := u.cfg.testBit 13

/-- JOG_EN. -/
def QuenchUnit.jogEn (u : QuenchUnit) : Bool := u.cfg.testBit 14

/-- Whether the QO of contact `k` is enabled: contacts 0 and 1 are QO0A and QO0B, 2 and 3 QO1A and QO1B. -/
def QuenchUnit.qoEn (u : QuenchUnit) (k : Nat) : Bool := u.cfg.testBit (15 + k / 2)

/-- *PduWatchdog* in ns. -/
def QuenchUnit.pduWatchdog (u : QuenchUnit) : Nat := tget 0 u.words 5 / 65536 * 100000

/-- SADDR of PDUCFG. -/
def QuenchUnit.saddr (u : QuenchUnit) : Nat := tget 0 u.words 5 % 65536

/-- PDUSEED. -/
def QuenchUnit.pduSeed (u : QuenchUnit) : Nat := tget 0 u.words 6

/-- An SI pair. -/
def QuenchUnit.pair (u : QuenchUnit) (n : Nat) : SiPair := tget {} u.si n

/-- A QO contact. -/
def QuenchUnit.contact (u : QuenchUnit) (k : Nat) : QoContact := tget {} u.qo k

/-- Changes the Quench unit. -/
def State.modQuench (s : State) (f : QuenchUnit → QuenchUnit) : State := { s with quench := f s.quench }

/-- Changes one SI pair. -/
def State.modPair (s : State) (n : Nat) (f : SiPair → SiPair) : State :=
  s.modQuench (fun u => { u with si := tmod {} u.si n f })

/-- Changes one QO contact. -/
def State.modContact (s : State) (k : Nat) (f : QoContact → QoContact) : State :=
  s.modQuench (fun u => { u with qo := tmod {} u.qo k f })

/-- The Quench unit has power: in every state but OFF (10 R364). -/
def State.quenchRuns (s : State) : Bool := s.op.state != .off

/-! ### Causes (10 R364 to R366) -/

/-- The classes of causes (10 R364). -/
inductive CauseClass where
  | demand
  | fault
  | internal
  deriving DecidableEq, Repr

/-- The class of a cause code (10 R365). -/
def causeClass (c : Nat) : CauseClass :=
  if (0x14 ≤ c ∧ c ≤ 0x1B) ∨ c = 0x30 ∨ c = 0x31 ∨ c = 0x34 then .fault
  else if (0x50 ≤ c ∧ c ≤ 0x54) ∨ c = 0x57 ∨ (0x60 ≤ c ∧ c ≤ 0x62) then .internal
  else .demand

/-- *ActiveCauses*: the bit of each active cause, in 32 octets (10 R398). -/
def QuenchUnit.activeBytes (u : QuenchUnit) : List Nat := bytesLE 32 (bitsMask u.active)

/-- The output pins with QLevel are driven once (15 R576). -/
def State.driveQLevels (s : State) : State :=
  (List.range 24).foldl (fun t y =>
    let mode := t.num (0x9100 + y) 1 0
    if mode = 2 ∨ mode = 4 then
      match t.num (0x9100 + y) 5 0 with
      | 1 => t.modPin y (fun p => { p with drive := some false })
      | 2 => t.modPin y (fun p => { p with drive := some true })
      | _ => t
    else t) s

/-- The change from ARMED to QUENCHED: both channels, the contacts that can open, off-tests, the count of good
SAFE frames, and the quench stop that is due (10 R361, R366, R369, R372, R379). -/
def State.enterQuenched (s : State) (code : Nat) : State :=
  let s1 := s.modQuench (fun u =>
    { u with qa := false, qb := false, cause := code, armedSince := 0, stopDue := true
             qo := tmap {} (fun _ c => { c with conducts := c.stuck, testAt := none }) u.qo })
  let rings := tmap {} (fun _ x => { x with goodSafeA := 0, goodSafeB := 0 }) s1.ring.rings
  State.driveQLevels { s1 with ring := { s1.ring with rings := rings } }

/-- A cause becomes active: it is counted and recorded, and an ARMED device is QUENCHED (10 R366). -/
def State.quenchCause (s : State) (code : Nat) (session : SessionNo := 0) : State :=
  if code ∈ s.quench.active ∨ !s.quenchRuns then s
  else
    let s1 := s.modQuench (fun u => { u with active := code :: u.active, count := inc32 u.count })
    let s2 := s1.record .quench .safety 0x80 (0x0100 + code) s1.quench.activeBytes session
    if s2.armed then s2.enterQuenched code else s2

/-- A DEMAND cause's condition ends: it clears by itself (10 R364). -/
def State.endDemand (s : State) (code : Nat) : State :=
  s.modQuench (fun u => { u with active := u.active.filter (· ≠ code) })

/-- A DEMAND cause's condition holds or not. -/
def State.demand (s : State) (code : Nat) (on : Bool) (session : SessionNo := 0) : State :=
  if on then s.quenchCause code session else s.endDemand code

/-- A FAULT cause whose condition stands (10 R364). -/
def State.standFault (s : State) (code : Nat) : State :=
  (s.modQuench (fun u => { u with standing := if code ∈ u.standing then u.standing else code :: u.standing })).quenchCause
    code

/-- A FAULT cause's condition has ended: the next acknowledgement clears it (10 R364). -/
def State.endFault (s : State) (code : Nat) : State :=
  s.modQuench (fun u => { u with standing := u.standing.filter (· ≠ code) })

/-- RESET: INTERNAL causes clear, any CNT is accepted and what the PDUs and QuenchRequest said is gone
(10 R364, R393). -/
def State.quenchReset (s : State) : State :=
  s.modQuench (fun u =>
    { u with active := u.active.filter (fun c => causeClass c != .internal && c != 0x20 && c != 0x21 && c != 0x22 && c != 0x40)
             lastCnt := none, resetAck := none, runPermit := false, jogReq := false, z0id := 0, request := false
             cmp := [] })

/-! ### The modes (10 R388) -/

/-- The ENABLE pair reads closed in both channels; every one where several are fused. -/
def QuenchUnit.enableClosed (u : QuenchUnit) : Bool :=
  (List.range 4).any (fun n => u.siType n == .enable) &&
    (List.range 4).all (fun n => u.siType n != .enable || (!(u.pair n).openA && !(u.pair n).openB))

/-- The mode that the next release takes is JOG (10 R388). -/
def QuenchUnit.nextJog (u : QuenchUnit) : Bool := u.jogEn && u.jogReq && u.enableClosed

/-- SFMODE is JOG: the mode in force while ARMED, otherwise that of the next release (10 R370). -/
def State.sfJog (s : State) : Bool := if s.armed then s.quench.jog else s.quench.nextJog

/-! ### Release (10 R373 to R375) -/

/-- The active blank's digest of Z0: its first four bytes, 0 with no active blank (10 R391). -/
def State.z0Digest (s : State) : Nat :=
  let e := tget 0xFF s.blank.active 0
  if e = 0xFF then 0 else ofBytesBE ((imageDigest (tget {} s.blank.library e).image).take 4)

/-- An activation of a blank whose ZONES includes Z0 is in progress (10 R373). -/
def State.z0Activating (s : State) : Bool :=
  s.blank.slots.any (fun p => p.2.state == .activating &&
    (imageZones (tget {} s.blank.library p.2.entry).image).contains 0)

/-- Item 3 of R373: GUARD pairs closed and tested, ENABLE pairs that read closed tested. -/
def QuenchUnit.pairsReady (u : QuenchUnit) : Bool :=
  (List.range 4).all (fun n =>
    let p := u.pair n
    let closed := !p.openA && !p.openB
    match u.siType n with
    | .guard => closed && p.passedA && p.passedB
    | .enable => !closed || (p.passedA && p.passedB)
    | _ => true)

/-- *DemandWatch* in ns (10 R385). -/
def State.demandWatch (s : State) : Nat := s.num 0x2200 1 1000 * 1000

/-- Item 4 of R373: a DEMAND stream has delivered an agreed KEEP within *DemandWatch*. -/
def State.recentKeep (s : State) : Bool :=
  s.quench.cmp.any (fun p => p.2.demand && p.2.kept && !p.2.late && decide (s.now ≤ p.2.watchAt + s.demandWatch))

/-- Items 1 to 6 of R373; item 7 decides the mode alone (10 R388). -/
def State.releasable (s : State) : Bool :=
  let u := s.quench
  s.op.state == .run && u.active.isEmpty && u.pairsReady && (!u.z0Required || s.recentKeep) &&
    (!u.pduEn || (u.runPermit && u.z0id == s.z0Digest)) && !s.z0Activating

/-- Release: both channels command ARMED, the enabled contacts close, and the mode is taken (10 R373, R374,
R388). -/
def State.releaseQuench (s : State) : State :=
  let s1 := s.modQuench (fun u =>
    { u with qa := true, qb := true, armedSince := s.time.t64, jog := u.nextJog
             qo := (List.range 4).foldl (fun t k =>
               if u.qoEn k ∧ !(if k % 2 = 0 then u.stoppedA else u.stoppedB) then
                 tmod {} t k (fun c => { c with conducts := true }) else t) u.qo })
  s1.record .quench .safety 0x80 0x01F2 []

/-- A reset acknowledgement: FAULT causes whose conditions have ended clear, and the device is released when
R373 is met; otherwise it is counted (10 R373, R375). -/
def State.acknowledge (s : State) : State :=
  let s1 := s.modQuench (fun u =>
    { u with active := u.active.filter (fun c => !(causeClass c == .fault && !u.standing.contains c)) })
  if s1.armed then s1
  else if s1.releasable then s1.releaseQuench
  else s1.modQuench (fun u => { u with refused := inc32 u.refused })

/-! ### Safety inputs (10 R376, R378) -/

/-- A pair's channel. -/
def SiPair.opened (p : SiPair) (b : Bool) : Bool := if b then p.openB else p.openA

/-- Sets a pair's channel. -/
def SiPair.setOpen (p : SiPair) (b : Bool) (v : Bool) : SiPair := if b then { p with openB := v } else { p with openA := v }

/-- What a pair keeps after one channel has opened or closed. -/
def SiPair.settle (p : SiPair) (now : Nat) : SiPair :=
  let both := p.openA && p.openB
  let closed := !p.openA && !p.openB
  { p with differSince := if p.openA = p.openB then none else (match p.differSince with
             | some t => some t
             | none => some now)
           openedTogether := (p.openedTogether || (both && p.discrepancy)) && !(closed && p.discrepancy)
           discrepancy := p.discrepancy && !(closed && p.openedTogether)
           tpFault := p.tpFault && !both
           passedA := p.passedA && !closed
           passedB := p.passedB && !closed
           closedSince := if closed then (match p.closedSince with
             | some t => some t
             | none => some now) else none }

/-- One channel of a pair reads open or closed: the latched faults that end, and the demand of its type
(10 R376, R378). -/
def State.siChannel (s : State) (n : Nat) (b : Bool) (isOpen : Bool) : State :=
  let p := (s.quench.pair n).setOpen b isOpen
  let q := p.settle s.now
  let s1 := s.modPair n (fun _ => q)
  let s2 := if q.discrepancy then s1 else s1.endFault (0x14 + n)
  let s3 := if q.tpFault then s2 else s2.endFault (0x18 + n)
  let pairOpen := q.openA || q.openB
  match s.quench.siType n with
  | .guard => s3.demand (0x10 + n) pairOpen
  | .enable => if s3.armed ∧ s3.quench.jog ∧ pairOpen then (s3.quenchCause (0x10 + n)).endDemand (0x10 + n) else s3
  | _ => s3

/-! ### The safety PDU (10 R390 to R393) -/

/-- Big-endian bytes of a PDU field. -/
def pduField (b : List Nat) (o n : Nat) : Nat := ofBytesBE ((b.drop o).take n)

/-- PCRC over bytes 0 to 11 (10 R628). -/
def QuenchUnit.pcrc (u : QuenchUnit) (b : List Nat) : Nat := crc32cFrom u.pduSeed (b.take 12)

/-- The fields that a command PDU must have right (10 R391, R393). -/
def QuenchUnit.pduRight (u : QuenchUnit) (b : List Nat) : Bool :=
  pduField b 0 2 == u.saddr && pduField b 6 2 == tget 0 u.words 5 / 65536 && pduField b 12 4 == u.pcrc b &&
    decide (pduField b 4 1 < 8) && pduField b 5 1 == 0

/-- A latched fault of a pair. -/
def SiPair.faulted (p : SiPair) : Bool := p.discrepancy || p.tpFault

/-- The bits of a status byte, bit 0 first. -/
def bitsOf (l : List Bool) : Nat := (l.zipIdx.map (fun p => if p.1 then 2 ^ p.2 else 0)).sum

/-- STATE of the status PDU (10 R392). -/
def State.pduState (s : State) : Nat :=
  let u := s.quench
  bitsOf [s.armed, s.sfJog, !s.armed && s.releasable, u.active.any (fun c => causeClass c == .fault),
    u.active.any (fun c => causeClass c == .internal)]

/-- SI of the status PDU (10 R392). -/
def QuenchUnit.pduSi (u : QuenchUnit) : Nat :=
  bitsOf ((List.range 4).map (fun n => !(u.pair n).openA && !(u.pair n).openB) ++
    (List.range 4).map (fun n => (u.pair n).faulted))

/-- QO of the status PDU (10 R392). -/
def QuenchUnit.pduQo (u : QuenchUnit) : Nat :=
  bitsOf [(u.contact 0).conducts && (u.contact 1).conducts, (u.contact 2).conducts && (u.contact 3).conducts,
    (u.contact 0).stuck || (u.contact 1).stuck, (u.contact 2).stuck || (u.contact 3).stuck]

/-- The status PDU that the Quench unit writes now (10 R392). -/
def State.statusPdu (s : State) : List Nat :=
  let u := s.quench
  let b := bytesBE 2 u.saddr ++ bytesBE 2 u.shownCnt ++ [s.pduState, u.cause, u.pduSi, u.pduQo] ++ bytesBE 4 s.z0Digest
  b ++ bytesBE 4 (u.pcrc b)

/-- An accepted command PDU: its demands, its mode request, and a rising RESET_ACK (10 R375, R388, R391,
R393). -/
def State.acceptPdu (s : State) (b : List Nat) : State :=
  let cmd := pduField b 4 1
  let rising := s.quench.resetAck == some false && cmd.testBit 2
  let s1 := s.modQuench (fun u =>
    { u with lastCnt := some (pduField b 2 2), shownCnt := pduField b 2 2, runPermit := cmd.testBit 0
             jogReq := cmd.testBit 1, resetAck := some (cmd.testBit 2), z0id := pduField b 8 4, pduAt := s.now
             accepted := inc32 u.accepted })
  let s2 := (s1.endDemand 0x20).demand 0x21 (!cmd.testBit 0)
  let s3 := if s2.armed ∧ s2.quench.jogReq ≠ s2.quench.jog then (s2.quenchCause 0x22).endDemand 0x22 else s2
  let s4 := if rising then s3.acknowledge else s3
  s4.modQuench (fun u => { u with pduOut := s4.statusPdu })

/-- A command PDU reaches the Quench unit (10 R390, R393). -/
def State.takePdu (s : State) (b : List Nat) : State :=
  let u := s.quench
  let cnt := pduField b 2 2
  if !u.pduEn then s
  else if u.pduRight b ∧ u.lastCnt.all (fun c => (c + 1) % 65536 == cnt) then s.acceptPdu b
  else if u.pduRight b ∧ u.lastCnt = some cnt then s
  else s.modQuench (fun v => { v with rejected := inc32 v.rejected })

/-! ### The comparator (10 R383 to R385) -/

/-- The oldest token of one side that has no partner. -/
def CmpChannel.unmatched (c : CmpChannel) : Option (Word × Nat) :=
  let n := min c.queueA.length c.queueB.length
  match c.queueA[n]? with
  | some x => some x
  | none => c.queueB[n]?

/-- A mismatch or a skew: it is counted, both queues are emptied, and the cause is active (10 R384). -/
def State.mirrorFault (s : State) (k code : Nat) : State :=
  ((s.modCmp k (fun c => { c with queueA := [], queueB := [] })).modQuench (fun u =>
    { u with mismatches := inc32 u.mismatches, lastMismatch := k + code * 256 })).quenchCause code

/-- KEEP (10 R385). -/
def keepToken : Word := 0x5A5AA5A5

/-- An agreed token of a DEMAND stream (10 R385). -/
def State.agreedToken (s : State) (k : Nat) (v : Word) : State :=
  if v = keepToken then
    let s1 := s.modCmp k (fun c => { c with watchAt := s.now, kept := true, late := false, demanding := false })
    let s2 := if s1.quench.cmp.any (fun p => p.2.late) then s1 else s1.endDemand 0x33
    if s2.quench.cmp.any (fun p => p.2.demanding) then s2 else s2.endDemand 0x32
  else
    ((s.modCmp k (fun c => { c with demanding := true })).record .quench .safety 0x80 0x01F1
      [k, v.toNat % 256]).quenchCause 0x32

/-- Compares the oldest tokens of both sides of a channel, a parity bit that differs included (10 R384). -/
def State.compareTokens (s : State) (k : Nat) (parity : Bool) : State :=
  match alook s.quench.cmp k with
  | none => s
  | some c =>
    match c.queueA, c.queueB with
    | (a, _) :: ta, (b, _) :: tb =>
      if a ≠ b ∨ parity then s.mirrorFault k 0x30
      else
        let s1 := s.modCmp k (fun x => { x with queueA := ta, queueB := tb })
        if c.demand then s1.agreedToken k a else s1
    | _, _ => s

/-! ### The fuse words (10 R367, R368) -/

/-- The set-A and set-B clusters, ascending. -/
def QuenchUnit.sets (u : QuenchUnit) : List Nat × List Nat :=
  let z0 := tget 0 u.words 0 + tget 0 u.words 1 * 2 ^ 32
  let a := tget 0 u.words 2 + tget 0 u.words 3 * 2 ^ 32
  (maskBits a 64, (maskBits z0 64).filter (fun c => !a.testBit c))

/-- The conditions of R368 that make FUSE_MAP. -/
def QuenchUnit.fuseMapBad (u : QuenchUnit) : Bool :=
  let z0 := tget 0 u.words 0 + tget 0 u.words 1 * 2 ^ 32
  let types := (List.range 4).map u.siType
  let ab := u.sets
  let wd := tget 0 u.words 5 / 65536
  decide (u.cfg / 2 ^ 17 ≠ 0) || (u.jogEn && (!u.pduEn || !types.contains .enable)) ||
    (!u.pduEn && !types.contains .reset) || ab.1.any (fun c => !z0.testBit c) ||
    decide (ab.1.length ≠ ab.2.length) || (ab.1.zip ab.2).any (fun p => p.1 % 8 == p.2 % 8) ||
    (u.z0Required && z0 == 0) || (u.pduEn && decide (wd < 20 ∨ 5000 < wd))

/-- The Quench unit reads its fuse words at a release from RESET and judges them (10 R367, R368): the values, and
whether a word failed its check bits. -/
def State.readQuenchFuses (s : State) (words : Tab Nat) (bad : Bool) : State :=
  let s1 := s.modQuench (fun u => { u with words := words, pduAt := s.now })
  let s2 := if bad then s1.quenchCause 0x60 else s1
  let s3 := if s2.quench.fuseMapBad then s2.quenchCause 0x61 else s2
  if tget 0 words 7 = 0x51430001 then s3 else s3.quenchCause 0x62

end Sys2Proof.Machine
end

