-- ==== Sys2Proof/Machine/StateChecks.lean ====
section
/-!
DEFINITION. Which units hold an object's value, and the checks of an object that depend on the device's state: they
are made when a value is written and again when it takes effect (06 R199, 11 R407, R409, and the chapters' tables).
-/

namespace Sys2Proof.Machine

/-- The ring controllers' NIs, by controller (06 R199). -/
def rcNi (m : Nat) : Nat := [72, 73, 76, 77].getD m 72

/-- The NIs of the units that hold an object's value; none for what the Gaffer holds itself (06 R199, 11 R409). -/
def unitsOf (key : Nat) : List Nat :=
  let i := key / 256
  if 0x4000 ≤ i ∧ i ≤ 0x400F then [rcNi ((i - 0x4000) / 4)]
  else if i = 0x4600 ∨ i = 0x5200 then [72, 73, 76, 77]
  else if 0x4700 ≤ i ∧ i ≤ 0x4703 then [rcNi (i - 0x4700)]
  else if 0x5000 ≤ i ∧ i ≤ 0x50FF then [71]
  else if 0x5100 ≤ i ∧ i ≤ 0x510F then [rcNi ((i - 0x5100) / 4)]
  else if 0x6000 ≤ i ∧ i ≤ 0x6FFF then [69]
  else if 0x9000 ≤ i ∧ i ≤ 0x90FF then [75]
  else if 0x9100 ≤ i ∧ i ≤ 0x91FF then [70]
  else []

/-- The value an object would have: the one in a set of writes, or the one in force (11 R407). -/
def State.nextIn (s : State) (set : List (Nat × Val)) (key : Nat) : Val := (alook set key).getD (s.val key)

/-- A cluster belongs to a task that is not ABSENT, LOADED, STOPPED or FAULTED, or lies at an end of an open bridge
(05 R171). -/
def State.clusterBusy (s : State) (c : Nat) : Bool :=
  s.array.tasks.any (fun p => p.2.live && p.2.clusters.contains c) ||
    s.array.bridges.any (fun b => b.2.opened && (b.2.a == c || b.2.b == c))

/-- Clusters that a new map of a zone adds or removes (05 R171). -/
def State.mapChanges (s : State) (z m : Nat) : List Nat := maskBits (s.zoneMap z ^^^ m) 64

/-- A cluster that the maps would place in two zones, the other zones' maps being those of the same set of writes, or
those in force (05 R171, log 49). -/
def State.mapClash (s : State) (set : List (Nat × Val)) (z m : Nat) : Option Nat :=
  (maskBits m 64).find? (fun c => (List.range 8).any (fun y => y != z &&
    (if y = 0 then s.z0Map else valNat (s.nextIn set (okey (0x3000 + y) 1))).testBit c))

/-- The checks of *ClusterMap* (05 R171). -/
def State.mapCheck (s : State) (set : List (Nat × Val)) (z m : Nat) : Abort × Nat :=
  match (s.mapChanges z m).find? s.clusterBusy with
  | some c => (.zoneBusy, c)
  | none => match s.mapClash set z m with
    | some c => (.zoneClash, c)
    | none => (.ok, 0)

/-- The library entries of blanks that are active, primed, being primed or being activated. -/
def State.laidEntries (s : State) : List Nat :=
  (s.blank.library.filter (fun p => p.2.state == .active || p.2.state == .primed || p.2.state == .priming ||
    p.2.state == .activating)).map (·.1)

/-- A slot's switch routes a lane to or from the endpoint of a DIO pin (05 R164, R169). -/
def routesPin (y : Nat) (x : Nat × Nat × List Word) : Bool :=
  let cfg := swcfgOf x.2.2
  (x.1 == 32 * y && (!(feeds cfg 3).isEmpty || cfg.getLsbD 35 || sinkOn cfg 3)) || (x.1 == 32 * y + 31 && osel cfg 1 != 0)

/-- A blank routes a lane to or from the endpoint of a DIO pin (15 R567). -/
def State.pinRouted (s : State) (y : Nat) : Bool :=
  s.laidEntries.any (fun e => (imageAllSlots (tget {} s.blank.library e).image).any (routesPin y))

/-- The largest share of the slots of one output that is reserved, in slots of 256 (06 R225, R239). -/
def State.mostReserved (s : State) : Nat :=
  let t := s.net.flows.foldl (fun t p => putRun t (p.2.starts.flatMap (runSlots (flowHops p.2.source p.2.target) p.2.runLength))) []
  (t.map (fun e => reservedAt t (e.1 / 256))).foldl max 0

/-- A tariff at or above a count is in force or in an entry that has not acted (13 R496). -/
def State.tariffBeyond (s : State) (set : List (Nat × Val)) (n : Nat) : Bool :=
  decide (n ≤ s.energy.tariff) ||
    (List.range 64).any (fun k =>
      let b := valBytes (s.nextIn set (okey 0x6030 (k + 1)))
      decide (1 ≤ b.getD 8 0 ∧ b.getD 8 0 ≤ 3 ∧ n ≤ b.getD 9 0) &&
        (!s.energy.acted.contains (k + 1) || (alook set (okey 0x6030 (k + 1))).isSome))

/-- The checks of a value against the device's state, with the writes it stands among (02 R89, 05 R171, 06 R239,
10 R398, 13 R496, 15 R567). -/
def State.stateCheck (s : State) (set : List (Nat × Val)) (key : Nat) (v : Val) : Abort × Nat :=
  let i := key / 256
  let sub := key % 256
  if i = 0x5000 ∨ i = 0x5001 then
    (if (s.angleCh (i - 0x5000)).state = .stopped then (.ok, 0) else (.wrongState, 0))
  else if i = 0x2010 ∨ i = 0x2200 then (if s.armed then (.wrongState, 0) else (.ok, 0))
  else if 0x3001 ≤ i ∧ i ≤ 0x3007 then s.mapCheck set (i - 0x3000) (valNat v)
  else if i = 0x7001 ∧ sub = 6 then
    (if valNat v * 256 < s.mostReserved * 100 then (.tdmFull, 0) else (.ok, 0))
  else if 0x9100 ≤ i ∧ i ≤ 0x9117 ∧ sub = 1 then (if s.pinRouted (i - 0x9100) then (.wrongState, 0) else (.ok, 0))
  else (.ok, 0)

/-- The checks that an apply repeats, *TariffCount*'s among them, which only an apply makes (11 R409, 13 R496,
14 R535). -/
def State.applyCheck (s : State) (set : List (Nat × Val)) (key : Nat) (v : Val) : Abort × Nat :=
  if s.op.state = .sleep ∧ sleepGated key then (.wrongState, 0)
  else if key = okey 0x6000 3 ∧ s.tariffBeyond set (valNat v) then (.range, 0) else s.stateCheck set key v

/-- The writes of an apply as keys and values. -/
def Apply.values (a : Apply) : List (Nat × Val) := a.set.map (fun w => (w.key, w.value))

/-- The first object of an apply, in ascending order, that fails its checks among those a test selects (11 R409,
R410). -/
def State.applyFailure (s : State) (a : Apply) (mine : Nat → Bool) : Option (Nat × Abort) :=
  let set := a.values
  ((set.filter (fun p => mine p.1)).foldl (fun (b : Option (Nat × Abort)) p =>
    match s.applyCheck set p.1 p.2 with
    | (.ok, _) => b
    | (c, _) => match b with
      | some (k, d) => if p.1 < k then some (p.1, c) else some (k, d)
      | none => some (p.1, c)) none)

/-- The apply of a JSEQ. -/
def State.applyOf? (s : State) (j : Nat) : Option Apply := s.sess.applies.find? (fun a => a.jseq == j)

/-- Changes the apply of a JSEQ. -/
def State.modApply (s : State) (j : Nat) (f : Apply → Apply) : State :=
  { s with sess := { s.sess with applies := s.sess.applies.map (fun a => if a.jseq = j then f a else a) } }

/-- The first of its own values that a member finds failing its repeated checks when it receives STAGE (11 R409). -/
def State.memberFailure (s : State) (n : Nat) : StagedMsg → Option (Nat × Abort)
  | .applySet j => match s.applyOf? j with
    | some a => s.applyFailure a (fun k => (unitsOf k).contains n)
    | none => none
  | _ => none

/-- The round of an apply notes a value that failed its repeated checks (11 R409, R410). -/
def State.noteFailure (s : State) (j : Nat) (f : Nat × Abort) : State :=
  { s with net := { s.net with rounds := s.net.rounds.map (fun r =>
      if r.kind = .applySet j then { r with fails := r.fails ++ [f] } else r) } }

/-- The same, for the message a member refuses. -/
def State.noteRefusal (s : State) (m : StagedMsg) (f : Nat × Abort) : State :=
  match m with
  | .applySet j => s.noteFailure j f
  | _ => s

end Sys2Proof.Machine
end

