-- ==== Sys2Proof/Machine/DescOps.lean ====
section
/-!
DEFINITION. Initiators of the packet network: transfer descriptors, responses, timeouts, down entries, and the
members of ATOMIC multicasts (06 R209, R211, R228 to R230, R233 to R237).
-/

namespace Sys2Proof.Machine

/-! ### Entries and credits (06 R209 to R211) -/

/-- An entry of a target table. -/
def Ni.entry (x : Ni) (e : Nat) : NetEntry := tget {} x.entries e

/-- Changes an entry of a target table; the control traffic has none. -/
def State.modEntry (s : State) (n e : Nat) (f : NetEntry → NetEntry) : State :=
  if e = controlEntry then s else s.modNi n (fun x => { x with entries := tmod {} x.entries e f })

/-- A valid entry (06 R210). -/
def NetEntry.valid (e : NetEntry) : Bool := e.allot != 0 && e.live && !e.closing

/-- The entry through which an NI reaches a target. -/
def Ni.entryTo (x : Ni) (t : Nat) : Option Nat := (x.entries.find? (fun e => e.2.valid && e.2.target == t)).map (·.1)

/-- A request through an entry is outstanding. -/
def Ni.outstanding (x : Ni) (e : Nat) : Bool :=
  x.tags.any (fun t => match t.2 with
    | some y => y.waiting.any (fun w => w.2 == e)
    | none => false)

/-- An entry of a replaced blank goes when no request through it is outstanding (07 R263). -/
def State.releaseEntries (s : State) (n : Nat) : State :=
  s.modNi n (fun x => { x with entries := x.entries.filter (fun e => !e.2.closing || x.outstanding e.1) })

/-! ### Descriptors (06 R237) -/

/-- Word `j` of descriptor `k` of a cluster's ring. -/
def State.descWordAt (s : State) (c k j : Nat) : Nat :=
  readBytes (s.cluster c).mem ((s.ni c).ringBase + 32 * k + 8 * j) 8

/-- Writes a word into a cluster's memory for its NI. -/
def State.putWord (s : State) (c addr v : Nat) : State := (clusterWords c).write s (addr / 8) v

/-- LOCAL of a descriptor's word 0, as a word-aligned offset. -/
def descLocal (w0 : Nat) : Nat := w0 / 2 ^ 40 % 2 ^ 18 / 8 * 8

/-- A descriptor completes: data at LOCAL, the delivery mask of a multicast, and DONE with STATUS last (06 R237). -/
def State.descDone (s : State) (c k : Nat) (st : NetStatus) (data : List Nat) (mask : Option (List Nat)) : State :=
  if s.niGated c then s
  else
    let a := (s.ni c).ringBase + 32 * k
    let loc := descLocal (s.descWordAt c k 0)
    let s1 := data.zipIdx.foldl (fun t e => t.putWord c (loc + 8 * e.2) e.1) s
    let s2 := match mask with
      | some l => (s1.putWord c (a + 8) (bitsMask (l.filter (· < 64)))).putWord c (a + 16)
          (bitsMask ((l.filter (64 ≤ ·)).map (· - 64)))
      | none => s1
    s2.putWord c (a + 24) (1 + 2 * st.code)

/-- The payload words that a descriptor sends (06 R203, R237). -/
def State.descPayload (s : State) (c k op len : Nat) : List Nat :=
  let loc := descLocal (s.descWordAt c k 0)
  let local_ := fun (n : Nat) => (List.range n).map (fun i => readBytes (s.cluster c).mem (loc + 8 * i) 8)
  match op with
  | 0x01 => []
  | 0x04 => local_ 1
  | 0x05 => [s.descWordAt c k 1]
  | 0x06 => [s.descWordAt c k 1, s.descWordAt c k 2]
  | _ => local_ len

/-- The packet that a descriptor sends to a target (06 R202, R203, R218). -/
def State.descPacket (s : State) (c k zone tag epo target route : Nat) (mc : Bool) : Packet :=
  let w0 := s.descWordAt c k 0
  let op := w0 % 32
  let data := s.descPayload c k op (w0 / 2 ^ 12 % 16)
  { opc := op, len := if op = 1 then w0 / 2 ^ 12 % 16 else data.length, zone := zone, sr := route != 0, mc := mc, dst := target
    src := c, tag := tag, epo := epo, addr := w0 / 2 ^ 16 % 2 ^ 24, data := data, route := route }

/-- LEN fits the packet: 8 words, 7 through a source route (06 R202, R203). -/
def lenFits (len : Nat) (routed : Bool) : Bool := decide (len ≤ (if routed then 7 else 8))

/-- Sends a unicast descriptor through an entry, or answers none where it must wait (06 R209, R211, R230). -/
def State.sendUnicast (s : State) (c k zone : Nat) : Option State :=
  let w0 := s.descWordAt c k 0
  let e := w0 / 64 % 64
  let x := (s.ni c).entry e
  if !x.valid ∨ !lenFits (w0 / 2 ^ 12 % 16) (x.route != 0) then some (s.descDone c k .unsupported [] none)
  else if x.down then some (s.descDone c k .targetDown [] none)
  else if x.credits = 0 then none
  else match (s.ni c).freeTag with
    | none => none
    | some (g, epo) =>
      let s1 := (s.takeTag c g epo [(x.target, e)] (.descriptor k)).modEntry c e (fun y => { y with credits := y.credits - 1 })
      some (s1.emit (.packet c (s.descPacket c k zone g epo x.target x.route false)))

/-- The members a multicast descriptor names (06 R237). -/
def State.descMembers (s : State) (c k : Nat) : List Nat :=
  maskBits (s.descWordAt c k 1) 64 ++ (maskBits (s.descWordAt c k 2) 14).map (· + 64)

/-- Sends a BEST multicast, or answers none where it must wait (06 R233, R234). -/
def State.sendMulticast (s : State) (c k zone : Nat) : Option State :=
  let w0 := s.descWordAt c k 0
  let x := s.ni c
  let ms := s.descMembers c k
  match ms.mapM (fun m => (x.entryTo m).map (fun e => (m, e))) with
  | none => some (s.descDone c k .unsupported [] (some []))
  | some l =>
    let up := l.filter (fun p => !(x.entry p.2).down)
    if !(w0 % 32 == 2 || w0 % 32 == 3 || w0 % 32 == 7 || w0 % 32 == 8) ∨
        l.any (fun p => !lenFits (w0 / 2 ^ 12 % 16) ((x.entry p.2).route != 0)) then
      some (s.descDone c k .unsupported [] (some []))
    else if up = [] then some (s.descDone c k .ok [] (some []))
    else if x.multicasts ≥ 4 ∨ up.any (fun p => (x.entry p.2).credits == 0) then none
    else match x.freeTag with
      | none => none
      | some (g, epo) =>
        let s1 := (s.takeTag c g epo up (.descriptor k)).modNi c (fun y => { y with multicasts := y.multicasts + 1 })
        some (up.foldl (fun t p =>
          (t.modEntry c p.2 (fun y => { y with credits := y.credits - 1 })).emit
            (.packet c (t.descPacket c k zone g epo p.1 (x.entry p.2).route true))) s1)

/-- Issues one descriptor, or answers none where it must wait; a cluster in no zone injects nothing (06 R218, R237). -/
def State.issue1 (s : State) (c k : Nat) : Option State :=
  let w0 := s.descWordAt c k 0
  match s.niZone c with
  | none => none
  | some z =>
    if w0 % 32 = 0 ∨ 8 < w0 % 32 then some (s.descDone c k .unsupported [] none)
    else if w0.testBit 5 then s.sendMulticast c k z
    else s.sendUnicast c k z

/-- The entry a waiting descriptor holds up: its own; a multicast's is none of them. -/
def State.heldEntry (s : State) (c k : Nat) : Nat :=
  let w0 := s.descWordAt c k 0
  if w0.testBit 5 then controlEntry else w0 / 64 % 64

/-- Issues the waiting descriptors of a cluster in order; one that waits holds up those of its entry only (06 R211,
R212). -/
def State.issueHeld (s : State) (c : Nat) : State :=
  let r := (s.ni c).held.foldl (fun (a : State × List Nat × List Nat) k =>
    let e := a.1.heldEntry c k
    if e ∈ a.2.2 then (a.1, a.2.1 ++ [k], a.2.2)
    else match a.1.issue1 c k with
      | some t => (t, a.2.1, a.2.2)
      | none => (a.1, a.2.1 ++ [k], e :: a.2.2)) (s, [], [])
  r.1.modNi c (fun x => { x with held := r.2.1 })

/-! ### Responses and timeouts (06 R228 to R230) -/

/-- The class timeout of a target in ns (06 R228). -/
def State.timeoutOf (s : State) (target : Nat) (gated : Bool) : Nat :=
  (if target < 64 then (if gated then s.num 0x7001 5 8 else s.num 0x7001 1 6)
   else match target with
    | 64 => s.num 0x7001 4 2000
    | 67 | 68 => s.num 0x7001 3 200
    | _ => s.num 0x7001 2 20) * 1000

/-- A member's OK counts for a round or a start whose DEADLINE has not passed (06 R235). -/
def State.countOk (s : State) (u : TagUse) (m : Nat) : State :=
  match u with
  | .descriptor _ => s
  | .round j slot apply =>
    { s with net := { s.net with rounds := s.net.rounds.map (fun r =>
      let mine : Bool := match r.kind with
        | .applySet i => apply && i == j
        | .activation k => !apply && k == slot
      if mine ∧ s.time.t64 ≤ r.deadline then { r with oks := r.oks ++ [m] } else r) } }
  | .start n => s.modTask n (fun k =>
      { k with start := k.start.map (fun r => if s.now + 32 ≤ r.tick then { r with acks := r.acks ++ [m] } else r) })

/-- A tag's transaction has come to its end: the requester is told and the tag is free (06 R209, R234). -/
def State.tagDone (s : State) (n k : Nat) (t : NetTag) (st : NetStatus) (data : List Nat) (multi : Bool) : State :=
  let s1 := s.freeTagOf n k
  match t.use with
  | .descriptor d =>
    if multi then
      (s1.modNi n (fun x => { x with multicasts := x.multicasts - 1 })).descDone n d .ok [] (some t.oks)
    else s1.descDone n d st data none
  | _ => s1

/-- A descriptor of a tag is a multicast. -/
def State.tagMulti (s : State) (n : Nat) (t : NetTag) : Bool :=
  match t.use with
  | .descriptor d => (s.descWordAt n d 0).testBit 5
  | _ => true

/-- A target has answered, or a timeout has taken its place (06 R209, R228, R234, R235). -/
def State.answered (s : State) (n k : Nat) (t : NetTag) (m : Nat) (st : NetStatus) (data : List Nat) : State :=
  let t1 := { t with waiting := t.waiting.filter (fun w => w.1 ≠ m), oks := if st = .ok then t.oks ++ [m] else t.oks }
  let s1 := s.modNi n (fun x => { x with tags := tset none x.tags k (some t1) })
  let s2 := if st = .ok ∧ !t.decided then s1.countOk t.use m else s1
  let open_ : Bool := match t.use with
    | .descriptor _ => false
    | _ => !t.decided
  if t1.waiting = [] ∧ !open_ then s2.tagDone n k t1 st data (s.tagMulti n t) else s2

/-- STATUS of a response (06 R202). -/
def statusOf (addr : Nat) : NetStatus :=
  match addr / 2 ^ 16 with
  | 0 => .ok
  | 1 => .timeout
  | 2 => .zoneDenied
  | 3 => .addrErr
  | 4 => .memUe
  | 5 => .targetDown
  | 6 => .staleEpoch
  | 7 => .stageFull
  | 8 => .notStaged
  | 9 => .queueFull
  | 10 => .unsupported
  | _ => .routeErr

/-- A late response: dropped and counted; its credit returns and its timeout is resolved (06 R229). -/
def State.lateResponse (s : State) (n : Nat) (p : Packet) : State :=
  let x := s.ni n
  let s1 := s.modNi n (fun y =>
    { y with late := inc32 y.late
             unresolved := y.unresolved.filter (fun u => !(u.1 == p.tag && u.2.1 == p.epo && u.2.2.2 == p.src)) })
  match x.unresolved.find? (fun u => u.1 == p.tag && u.2.1 == p.epo && u.2.2.2 == p.src) with
  | some u => s1.modEntry n u.2.2.1 (fun e => { e with credits := min e.allot (e.credits + 1) })
  | none => s1

/-- A response reaches its initiator (06 R209, R229). -/
def State.rspArrives (s : State) (n : Nat) (p : Packet) : State :=
  let s0 := s.observe p
  let s1 := match tget none (s0.ni n).tags p.tag with
    | some t =>
      match (if t.epo = p.epo then t.waiting.find? (fun w => w.1 == p.src) else none : Option (Nat × Nat)) with
      | some w =>
        (s0.modEntry n w.2 (fun e => { e with credits := min e.allot (e.credits + 1), timeouts := 0 })).answered n p.tag t
          p.src (statusOf p.addr) p.data
      | none => s0.lateResponse n p
    | none => s0.lateResponse n p
  (s1.releaseEntries n).issueHeld n

/-- What NET_UE, NET_DROP and NET_TARGET_DOWN say (17 R622). -/
def netDetail (r : Nat) (p : Packet) : List Nat := [r, p.src, p.dst, p.tag, p.epo, p.opc] ++ bytesLE 4 p.addr

/-- One target of a tag has not answered in time (06 R228, R230). -/
def State.timeout1 (s : State) (n k : Nat) (w : Nat × Nat) : State :=
  match tget none (s.ni n).tags k with
  | none => s
  | some t =>
    let s1 := s.modNi n (fun x =>
      { x with timeouts := inc32 x.timeouts, unresolved := x.unresolved ++ [(k, t.epo, w.2, w.1)]
               epos := tset 0 x.epos k ((t.epo + 1) % 16) })
    let down : Bool := w.2 != controlEntry && ((s1.ni n).entry w.2).timeouts + 1 == 4
    let s2 := s1.modEntry n w.2 (fun e => { e with timeouts := e.timeouts + 1, down := e.down || down })
    let s3 := if down then s2.record .general .fault niGaffer 0x0303 ([n, n, w.1, k, t.epo, 0] ++ bytesLE 4 0) else s2
    s3.answered n k t w.1 .timeout []

/-- The targets of a tag whose class timeout has expired (06 R228). -/
def State.overdue (s : State) (t : NetTag) : List (Nat × Nat) :=
  t.waiting.filter (fun w => decide (t.issuedAt + s.timeoutOf w.1 (t.gated.contains w.1) ≤ s.now))

/-- The Gaffer revives every entry of an initiator to a target (06 R230). -/
def State.revive (s : State) (n target : Nat) : State :=
  (s.modNi n (fun x =>
    { x with entries := x.entries.map (fun e =>
               if e.2.target = target ∧ e.2.down then (e.1, { e.2 with credits := e.2.allot, down := false, timeouts := 0 }) else e)
             unresolved := x.unresolved.filter (fun u => u.2.2.2 ≠ target) })).issueHeld n

/-! ### Members of ATOMIC multicasts (06 R235) -/

/-- The T64 nearest to `t` whose low 32 bits are given (06 R235). -/
def nearestT64 (t low : Nat) : Nat :=
  let b := t / 2 ^ 32 * 2 ^ 32 + low
  if b > t then (if b - t > 2 ^ 31 ∧ 2 ^ 32 ≤ b then b - 2 ^ 32 else b) else if t - b > 2 ^ 31 then b + 2 ^ 32 else b

/-- A STAGE as a packet, for its answer. -/
def State.stagePacket (s : State) (n : Nat) (q : StageReq) : Packet :=
  { opc := 0x09, zone := (s.niZone q.src).getD zoneSys, urg := true, mc := true, dst := n, src := q.src, tag := q.tag
    epo := q.epo, addr := 0 }

/-- A member takes a STAGE: kept in a free staging entry, or STAGE_FULL; a unit whose repeated state checks fail
answers a failure, here UNSUPPORTED, and keeps nothing (06 R235, 11 R409, log 53). -/
def State.takeStage (s : State) (n : Nat) (q : StageReq) : State :=
  let p := s.stagePacket n q
  match s.memberFailure n q.msg with
  | some f => (s.noteRefusal q.msg f).respond n p .unsupported []
  | none =>
    if (s.ni n).staged.length < 4 then
      let hold := nearestT64 s.time.t64 (q.hold % 2 ^ 32)
      (s.modNi n (fun x => { x with staged := x.staged ++
        [{ src := q.src, tag := q.tag, msg := q.msg, hold := hold, applyAt := hold + q.applyOfs, onCommit := q.onCommit
           committed := false }] })).respond n p .ok []
    else s.respond n p .stageFull []

/-- The staged message of an initiator's tag. -/
def Ni.stagedOf (x : Ni) (src tag : Nat) : Option StagedEntry := x.staged.find? (fun e => e.src == src && e.tag == tag)

/-- A cluster holds COMMIT of a task start (05 R185). -/
def State.holdStart (s : State) (n : Nat) (m : StagedMsg) : State :=
  match m with
  | .taskStart k tick => s.modTask k (fun x =>
      { x with start := x.start.map (fun r => if r.tick = tick then { r with holders := r.holders ++ [n] } else r) })
  | _ => s

/-- A member takes COMMIT: at or before HOLD it will apply the message, or applies it at once (06 R235). -/
def State.takeCommit (s : State) (n : Nat) (p : Packet) : State :=
  match (s.ni n).stagedOf p.src p.tag with
  | none => s.respond n p .notStaged []
  | some e =>
    if e.hold < s.time.t64 then (s.unstage n (fun x => x == e)).respond n p .notStaged []
    else
      let s1 := if e.onCommit then s.unstage n (fun x => x == e)
        else s.modNi n (fun x => { x with staged := x.staged.map (fun y => if y = e then { y with committed := true } else y) })
      (s1.holdStart n e.msg).respond n p .ok []

/-- A member takes ABORT (06 R235). -/
def State.takeAbort (s : State) (n : Nat) (p : Packet) : State :=
  match (s.ni n).stagedOf p.src p.tag with
  | none => s.respond n p .notStaged []
  | some e => (s.unstage n (fun x => x == e)).respond n p .ok []

/-- A held request is served (06 R230, R232, R235). -/
def State.serveHeld (s : State) (n : Nat) : NetReq → State
  | .stage q => s.takeStage n q
  | .packet p =>
    match p.opc with
    | 0x0A => s.takeCommit n p
    | 0x0B => s.takeAbort n p
    | 0x0C => (s.respond n p .ok []).revive (p.data.headD 0 % 128) n
    | _ => let r := s.serveAt n p; r.2.2.respond n p r.1 r.2.1

/-- A request of any kind reaches its target: held at a gated cluster, served anywhere else (06 R231, R232). -/
def State.reach (s : State) (n : Nat) (r : NetReq) : State :=
  let s1 := s.niBusy n
  if s1.niGated n then
    s1.modNi n (fun x => if x.requests.length < 32 then { x with requests := x.requests ++ [r] } else x)
  else s1.serveHeld n r

end Sys2Proof.Machine
end

