-- ==== Sys2Proof/Machine/PowerOps.lean ====
section
/-!
DEFINITION. The power governor's operations: grants and budgets, the estimate, admission, and the holds (14 R511
to R521, 16 R602, R603).
-/

namespace Sys2Proof.Machine

/-- A feed. -/
def State.feed (s : State) (f : Nat) : Feed := tget {} s.power.feeds f

/-- Changes a feed. -/
def State.modFeed (s : State) (f : Nat) (g : Feed → Feed) : State :=
  { s with power := { s.power with feeds := tmod {} s.power.feeds f g } }

/-- The grant of a number of class events, in 0.1 W (14 R512). -/
def grantOf (events : Nat) : Nat :=
  match events with
  | 0 => 0
  | 1 => 130
  | 2 | 3 => 255
  | 4 => 510
  | _ => 713

/-- The grants of the feeds that count, in 0.1 W (14 R514). -/
def State.grants (s : State) : List Nat :=
  ([0, 1].filter (fun f => (s.feed f).state == .powered)).map (fun f => grantOf (s.feed f).classEvents)

/-- B_sup in 0.1 W (14 R517). -/
def State.supplyBudget (s : State) : Nat := s.grants.sum

/-- The smallest grant among the POWERED feeds, in 0.1 W (14 R517). -/
def State.smallestGrant (s : State) : Nat := s.grants.foldl min (s.grants.headD 0)

/-- *PowerPolicy* is SUM. -/
def State.policySum (s : State) : Bool := s.num 0x1020 1 0 == 1

/-- B_adm in 0.1 W (14 R517). -/
def State.admissionBudget (s : State) : Nat := if s.policySum then s.supplyBudget else s.smallestGrant

/-- N_adm (14 R518). -/
def State.activeLimit (s : State) : Nat := min 64 ((s.admissionBudget * 10 - 1152) / 82)

/-- The committed clusters, ascending: those in which a task that is not ABSENT has a tile (14, Terms). -/
def State.committed (s : State) : List Nat :=
  (List.range 64).filter (fun c => s.array.tasks.any (fun p =>
    p.2.state != .absent && p.2.tiles.any (fun t => tileCluster t.1 == c)))

/-- The committed clusters outside Z0, highest id first: the order of the holds (14 R521, 16 R603). -/
def State.holdOrder (s : State) : List Nat :=
  (s.committed.filter (fun c => !(s.z0Map.testBit c))).reverse

/-- P_base in 0.01 W (14 R516). -/
def OpState.base : OpState → Nat
  | .run | .halt => 960
  | .service | .boot | .reset => 600
  | .sleep => 220
  | .off => 0

/-- P_est in 0.01 W when `k` clusters of the hold order are held (14 R516, R521, 16 R604). -/
def State.estimateWith (s : State) (k : Nat) : Nat :=
  if s.op.state = .halt then s.op.state.base
  else
    let com := s.committed
    let held := min k s.holdOrder.length
    let gated := ((List.range 64).filter (fun c => (s.cluster c).gated)).length
    let lit := com.length - held
    let others := 64 - lit - gated
    s.op.state.base + 85 * lit + 3 * others

/-- P_est as it stands, in 0.01 W (14 R516). -/
def State.estimate (s : State) : Nat := s.estimateWith s.power.held.length

/-- The governor acts: in every powered state but RESET (14 R516). -/
def State.governs (s : State) : Bool := s.op.state != .off && s.op.state != .reset

/-- The fewest holds with which P_est stays within B_sup (14 R521). -/
def State.holdsNeeded (s : State) : Nat :=
  ((List.range 65).find? (fun k => decide (s.estimateWith (max k s.power.thermalHeld) ≤ s.supplyBudget * 10))).getD 64

/-- Both holds' counts, and the clusters that they hold together; each alarm stands while its hold has any
(14 R521, 16 R602, R603). -/
def State.setHolds (s : State) (power thermal : Nat) : State :=
  let order := s.holdOrder
  let p := min power order.length
  let t := min thermal order.length
  let u := s.power
  let s1 := { s with power := { u with
    powerHeld := p, thermalHeld := t, held := order.take (max p t)
    holdEvents := if u.powerHeld = 0 ∧ p > 0 then inc32 u.holdEvents else u.holdEvents
    thermalEvents := if u.thermalHeld = 0 ∧ t > 0 then inc32 u.thermalEvents else u.thermalEvents } }
  let s2 := if p = 0 then s1.clearAlarm 0x0805 0
    else if u.powerHeld = 0 then s1.alarm .power 0x0805 0 [] else s1
  if t = 0 then s2.clearAlarm 0x0808 0
  else if u.thermalHeld = 0 then s2.alarm .power 0x0808 0 [] else s2

/-- The power hold is judged after a change of the feeds or of the load (14 R521). -/
def State.judgeHold (s : State) : State :=
  if s.governs then s.setHolds s.holdsNeeded s.power.thermalHeld else s

/-- NOT_REDUNDANT stands while B_adm lies below the load committed (14 R519). -/
def State.judgeRedundant (s : State) : State :=
  if s.committed.length > s.activeLimit then
    if s.alarmOn 0x0806 0 then s else s.alarm .power 0x0806 0 []
  else s.clearAlarm 0x0806 0

/-- Admission to RUN, or of an activation in RUN, with `com` as the committed clusters (14 R519). -/
def State.admits (s : State) (com : List Nat) : Bool :=
  let z0 := (com.filter (fun c => s.z0Map.testBit c)).length
  decide (com.length ≤ s.activeLimit) &&
    (!s.policySum || decide (960 + 85 * z0 + 3 * (64 - z0) ≤ s.smallestGrant * 10))

/-- A feed's new state is recorded (17 R622). -/
def State.feedChange (s : State) (f : Nat) (code : Nat) : State :=
  s.record .general .power niGaffer 0x0801 [f, code]

/-- The sensors as read, in 0.1 °C: the clusters by id, RC0 to RC3 and the Gaffer (16 R602, R612). -/
def State.sensed (s : State) (temps : List Int) : State :=
  match temps.max? with
  | none => s
  | some m =>
    let tab := temps.zipIdx.foldl (fun (t : Tab Int) p => if p.2 < 69 then tset 0 t p.2 p.1 else t) []
    { s with power := { s.power with sensors := tab, junction := m, junctionPeak := max s.power.junctionPeak m }
             store := if m > 900 then { s.store with hot := true } else s.store }

end Sys2Proof.Machine
end

