-- ==== Sys2Proof/Machine/Gating.lean ====
section
/-!
DEFINITION. Power gating of clusters, their waking, and writes of hardware registers (03 R140, R141, 06 R231, R232,
14 R520).
-/

namespace Sys2Proof.Machine

/-- The image of a library entry. -/
def State.image (s : State) (e : Nat) : List Nat := (tget {} s.blank.library e).image

/-- A leader whose zone has a live task (05 R172). -/
def State.keptLeader (s : State) (c : Nat) : Bool :=
  (List.range 8).any (fun z => s.leader z == some c && s.array.tasks.any (fun p => p.2.zone == z && p.2.live))

/-- A cluster that a blank is being primed into (14 R520). -/
def State.primingIn (s : State) (c : Nat) : Bool :=
  s.blank.slots.any (fun p => p.2.state == .priming && (imageClusters (s.image p.2.entry)).contains c)

/-- The governor may gate a cluster now: its NI has held no request for 100 µs, and it is neither committed nor a
kept leader; in SERVICE and SLEEP, not being primed (14 R520). -/
def State.gateable (s : State) (c : Nat) : Bool :=
  let x := s.cluster c
  !x.gated && (s.ni c).requests.isEmpty && decide (x.idleSince + 100000 ≤ s.now) && !s.primingIn c &&
    (s.op.state == .service || s.op.state == .sleep || (s.op.state == .run && !s.committed.contains c && !s.keptLeader c))

/-- A tile loses its power: instruction memory and the context store alone are kept (03 R141). -/
def Tile.unpowered (x : Tile) : Tile := { desc := x.desc, imem := x.imem, imemUe := x.imemUe }

/-- A cluster is power-gated: its bit is set in every NI, and requests outstanding to it take the wake timeout
(03 R141, 06 R228, R231). -/
def State.gateCluster (s : State) (c : Nat) : State :=
  let s1 := (clusterTiles c).foldl (fun u t => u.modTile t Tile.unpowered) s
  let s2 := s1.modCluster c (fun x => { x with mem := [], upsets := [], gated := true })
  let s3 := s2.taskList.foldl (fun u n =>
    if (u.task n).queueClusters = [c] then u.modTask n (fun k => { k with queue := [] }) else u) s2
  { s3 with net := { s3.net with nis := tmap {} (fun _ x =>
    { x with tags := tmap none (fun _ t => t.map (fun y =>
        if y.waiting.any (fun w => w.1 == c) ∧ c ∉ y.gated then { y with gated := c :: y.gated } else y)) x.tags }) s3.net.nis } }

/-- The governor gates an idle cluster (14 R520, 06 R231). -/
def execClusterPowerGate (c : Fin 64) (s : State) : Host.Outcome State Fault Refusal :=
  .next (if s.gateable c then (s.gateCluster c).judgeHold else s)

/-- A task waits for a cluster no more, and becomes ARMED when it was the last (05 R194). -/
def State.wokenFor (s : State) (c n : Nat) : State :=
  let k := s.task n
  if c ∈ k.waking then
    let rest := k.waking.filter (· ≠ c)
    if rest = [] then s.armTask n else s.modTask n (fun x => { x with waking := rest })
  else s

/-- A gated cluster has powered up: it takes the held requests in arrival order, and its bit is cleared in every NI
(06 R232). -/
def State.wakeCluster (s : State) (c : Nat) : State :=
  if (s.cluster c).gated then
    let held := (s.ni c).requests
    let s1 := (s.modCluster c (fun x => { x with gated := false, idleSince := s.now })).modNi c (fun x => { x with requests := [] })
    let s2 := held.foldl (fun u r => u.serveHeld c r) s1
    s2.taskList.foldl (fun u n => u.wokenFor c n) s2
  else s

/-- A gated cluster finishes powering up (06 R232). -/
def execClusterWake (c : Fin 64) (s : State) : Host.Outcome State Fault Refusal := .next ((s.wakeCluster c).judgeHold)

/-- A write of a hardware register from a node of the network: the tile map from SYS, the probes and the fuse
controller from the Gaffer; refused where its register does not take it (03 R139, R140, 06 R219, R238, 12 R458). -/
def execRegisterWrite (src : Fin 78) (w : HwWrite) (s : State) : Host.Outcome State Fault Refusal :=
  .next (match w with
    | .tile t off v => if src.val < 64 then s else (s.writeTileReg t off v).getD s
    | .probe k off v =>
      if src.val ≠ niGaffer then s
      else match (s.probe k).write s.nclk off (v % 2 ^ 64) with
        | some x => s.modProbe k (fun _ => x)
        | none => s
    | .fuse off v => if src.val = niGaffer ∧ off.val = 0 then s.fuseCommand (v % 2 ^ 64) else s)

end Sys2Proof.Machine
end

