-- ==== Sys2Proof/Machine/LeaseOps.lean ====
section
/-!
DEFINITION. Leases: their epochs and their changes of holder (11 R427 to R435, 12 R474).
-/

namespace Sys2Proof.Machine

/-- The epoch after a change of holder; never 0 (11 R432). -/
def nextEpoch (e : Nat) : Nat := if 0xFFFFFFFF ≤ e then 1 else e + 1

/-- Every lease number (11 R427). -/
def leaseNumbers : List Nat :=
  List.range 12 ++ (List.range 8).map (· + 0x10) ++ (List.range 32).map (· + 0x20) ++ [0x40, 0x41]

/-- The lease of a staging slot. -/
def stagingLease (k : Nat) : Nat := 0x40 + k

/-- Changes one lease. -/
def State.modLease (s : State) (l : Nat) (f : Lease → Lease) : State :=
  { s with sess := { s.sess with leases := tmod {} s.sess.leases l f } }

/-- The changes of a lease within the last second, newest first. -/
def Lease.lately (x : Lease) (now : Nat) : List Nat := x.recent.filter (fun t => decide (now < t + 1000000000))

/-- A change of holder: take, release, lapse or fence; the epoch advances (11 R432). -/
def State.changeHolder (s : State) (l : Nat) (h : SessionNo) : State :=
  s.modLease l (fun x =>
    { x with holder := h, epoch := nextEpoch x.epoch, changes := inc32 x.changes, recent := s.now :: x.lately s.now })

/-- A lease has changed 500 times within a second: a further change is answered BUSY_RETRY (12 R474). -/
def State.leaseBusy (s : State) (l : Nat) : Bool := decide (500 ≤ ((s.lease l).lately s.now).length)

/-- The former holder's pending writes that were checked against a lease are discarded and counted (11 R433). -/
def State.dropPending (s : State) (l : Nat) (n : SessionNo) : State :=
  s.modSession n (fun x =>
    { x with pendingLost := min 65535 (x.pendingLost + (x.pendingSet.filter (fun w => w.lease == some l)).length)
             pendingSet := x.pendingSet.filter (fun w => w.lease != some l) })

/-- A lapse or a fence of a lease: its holder is cleared, the epoch advances, and the former holder's writes go; it
is recorded in the reserve (11 R433, 12 R482, 17 R622). -/
def State.clearHolder (s : State) (l code : Nat) (session : SessionNo) : State :=
  let h := (s.lease l).holder
  let s1 := (if h = 0 then s else s.dropPending l h).changeHolder l 0
  s1.record .reserve .config niGaffer code (l :: bytesLE 4 (s1.lease l).epoch ++ bytesLE 8 0) session

/-- A session holds the lease of every zone named, or the first that it does not hold. -/
def State.zoneNotHeld (s : State) (n : SessionNo) (zones : List Nat) : Option Nat :=
  zones.find? (fun z => (s.lease (0x10 + z)).holder ≠ n)

end Sys2Proof.Machine
end

