-- ==== Sys2Proof/Machine/Tasks.lean ====
section
/-!
DEFINITION. The task commands, the triggers, dispatch and start of tasks, their stops, and bridges
(05 R171 to R195).
-/

namespace Sys2Proof.Machine

/-! ### Commands (05 R178, R196) -/

/-- Serves one command of a task: its state and any further condition are checked, then it acts
(05 R178, 11 R421). -/
def State.taskCommand (s : State) (q : Req) (n : Nat) (check : State → Session → Abort × Nat)
    (effect : State → State) : State :=
  s.serveWrite q (okey (0x3100 + n) 8) check (fun t _ => { state := effect t })

/-- Whether a command's states include the task's. -/
def State.taskIn (s : State) (n : Nat) (l : List TaskState) : Bool := l.contains (s.task n).state

/-- ARM in RUN; a Z0 task is armed by a SAFETY session (05 R178, R190, R194). -/
def armCheck (n : Nat) (s : State) (ss : Session) : Abort × Nat :=
  firstFail [((s.task n).zone == 0 && ss.role != .safety, .noAccess, 0),
    (s.op.state != .run || !s.taskIn n [.loaded, .stopped], .wrongState, 0)]

/-- The gated clusters of a task. -/
def State.gatedOf (s : State) (n : Nat) : List Nat := (s.task n).clusters.filter (fun c => (s.cluster c).gated)

/-- Arms a task, or lets it wait until its gated clusters have woken (05 R194). -/
def State.armOrWake (s : State) (n : Nat) : State :=
  if (s.gatedOf n).isEmpty then s.armTask n else s.modTask n (fun k => { k with waking := s.gatedOf n })

/-- Command ARM (05 R178, R194). -/
def execTaskArm (q : Req) (n : Fin 256) (s : State) : Host.Outcome State Fault Refusal :=
  .next (s.taskCommand q n (armCheck n) (fun t => t.armOrWake n))

/-- A cancel that reaches the leader of a multi-cluster start after its decision edge (05 R184). -/
def State.pastDecision (s : State) (n : Nat) : Bool :=
  match (s.task n).start with
  | some r => r.committed || decide (r.tick - 32 < s.now)
  | none => false

/-- What a cancel does in each state (05 R184, R188). -/
def State.cancelTask (s : State) (n : Nat) : State :=
  match (s.task n).state with
  | .armed => s.cancelPre n
  | .ready =>
    if s.pastDecision n then
      s.modTask n (fun k => { k with start := k.start.map (fun r => { r with drainAtStart := true }) })
    else (s.decideStart n false).cancelPre n
  | .running | .draining => s.stopTask n (s.homeClusters n) .cancelled .cancel
  | _ => s

/-- Command CANCEL (05 R178, R184, R188). -/
def execTaskCancel (q : Req) (n : Fin 256) (s : State) : Host.Outcome State Fault Refusal :=
  .next (s.taskCommand q n
    (fun t _ => firstFail [(!t.taskIn n [.armed, .ready, .running, .draining], .wrongState, 0)])
    (fun t => t.cancelTask n))

/-- Command DRAIN (05 R178, R187). -/
def execTaskDrain (q : Req) (n : Fin 256) (s : State) : Host.Outcome State Fault Refusal :=
  .next (s.taskCommand q n (fun t _ => firstFail [(!t.taskIn n [.running], .wrongState, 0)])
    (fun t => t.drainTask n t.now))

/-- Command ACK_FAULT (05 R178). -/
def execTaskAckFault (q : Req) (n : Fin 256) (s : State) : Host.Outcome State Fault Refusal :=
  .next (s.taskCommand q n (fun t _ => firstFail [(!t.taskIn n [.faulted], .wrongState, 0)])
    (fun t => t.modTask n (fun k => { k with state := .loaded, reason := .none })))

/-- A task becomes ABSENT: its number is free (05 R175, R178). -/
def State.unloadTask (s : State) (n : Nat) : State := s.modTask n (fun _ => {})

/-- Command UNLOAD (05 R178). -/
def execTaskUnload (q : Req) (n : Fin 256) (s : State) : Host.Outcome State Fault Refusal :=
  .next (s.taskCommand q n (fun t _ => firstFail [(!t.taskIn n [.loaded, .stopped, .faulted], .wrongState, 0)])
    (fun t => t.unloadTask n))

/-- Command FIRE of a HOST trigger (05 R179, R180, R194). -/
def execTaskFire (q : Req) (n : Fin 256) (s : State) : Host.Outcome State Fault Refusal :=
  .next (s.taskCommand q n
    (fun t _ => firstFail [(t.op.state != .run || !(t.task n).live || (t.task n).kind != .host, .wrongState, 0)])
    (fun t => t.fireTrigger n))

/-! ### Triggers (05 R179) -/

/-- A TIME trigger fires once, at the first edge at or after its time. -/
def execTriggerTime (n : Fin 256) (s : State) : Host.Outcome State Fault Refusal :=
  .next (let k := s.task n
    if k.kind = .time ∧ k.live ∧ k.param ≤ s.time.t64 ∧ k.firedAt ≠ some k.param then
      (s.modTask n (fun x => { x with firedAt := some k.param })).fireTrigger n
    else s)

/-- The last instant of a PERIOD trigger at or before a time: T64 ≡ phase modulo period (05 R179). -/
def periodInstant (param t : Nat) : Nat :=
  let p : Nat := max 1 (param % 2 ^ 32)
  let phase : Nat := param / 2 ^ 32
  t - (((t : Int) - phase).emod p).toNat

/-- A PERIOD trigger fires at each of its instants; a period below 1,000 ns fires none. -/
def execTriggerPeriod (n : Fin 256) (s : State) : Host.Outcome State Fault Refusal :=
  .next (let k := s.task n
    let at_ := periodInstant k.param s.time.t64
    if k.kind = .period ∧ k.live ∧ 1000 ≤ k.param % 2 ^ 32 ∧ k.firedAt ≠ some at_ then
      (s.modTask n (fun x => { x with firedAt := some at_ })).fireTrigger n
    else s)

/-- Whether the published angle of a trigger's channel has reached its value, in forward rotation
(05 R179). -/
def State.angleReached (s : State) (param : Nat) : Bool :=
  let c := param / 2 ^ 56 % 2
  (s.angleCh c).forward &&
    decide ((((s.publishedAngle c : Int) - (param % 2 ^ 56 : Nat)).emod (2 ^ 56)) < 2 ^ 32)

/-- An ANGLE trigger fires after the published angle has first reached its value in forward rotation. -/
def execTriggerAngle (n : Fin 256) (s : State) : Host.Outcome State Fault Refusal :=
  .next (let k := s.task n
    if k.kind = .angle ∧ k.live ∧ s.angleReached k.param ∧ k.firedAt ≠ some k.param then
      (s.modTask n (fun x => { x with firedAt := some k.param })).fireTrigger n
    else s)

/-! ### Dispatch and starts (05 R181 to R186) -/

/-- A cluster's sequencer dispatches its next READY task (05 R181, R182). -/
def execTaskDispatch (c : Fin 64) (s : State) : Host.Outcome State Fault Refusal :=
  .next (match s.nextDispatch c with
    | some n => s.startTask n
    | none => s)

/-- ABORT at the decision edge: a new start tick, or START_FAIL after three (05 R183). -/
def State.abortStart (s : State) (n c : Nat) : State :=
  let k := s.task n
  let s1 := s.decideStart n false
  if k.aborts + 1 ≥ 3 then s1.startFail n 0x80 c
  else (s1.modTask n (fun x => { x with aborts := x.aborts + 1 })).stageStart n

/-- The decision edge of a multi-cluster start: COMMIT when every ACK has arrived, otherwise ABORT
(05 R183). -/
def State.decisionDue (s : State) (n : Nat) : State :=
  let k := s.task n
  match k.start with
  | some r =>
    if k.state ≠ .ready ∨ r.committed ∨ s.now + 32 < r.tick then s
    else match k.clusters.find? (fun c => !r.acks.contains c) with
      | some c => s.abortStart n c
      | none => (s.decideStart n true).modTask n (fun x => { x with start := some { r with committed := true } })
  | none => s

/-- The decision edge of a start comes (05 R183). -/
def execStartDecision (n : Fin 256) (s : State) : Host.Outcome State Fault Refusal := .next (s.decisionDue n)

/-- Every cluster that holds COMMIT dispatches its tiles at the start tick (05 R183, R185). -/
def State.startIn (s : State) (n : Nat) (cs : List Nat) : State :=
  let ts := (s.task n).tiles.filter (fun p => cs.contains (tileCluster p.1))
  let s0 := cs.foldl (fun u c => u.unstage c (fun e => match e.msg with
    | .taskStart m _ => m == n
    | _ => false)) s
  let s1 := s0.modTask n (fun k =>
    { k with state := .running, reason := .none, lastStart := s.time.t64, ended := [], start := none, aborts := 0 })
  let s2 := ts.foldl (fun u p => u.modTile p.1 (fun x => { x with owner := some n })) s1
  ts.foldl (fun u p => u.switchTile p.1 p.2 .dispatch) s2

/-- The start tick: every cluster dispatches the task, or one without COMMIT or ABORT reports START_MISS
(05 R183 to R185). -/
def State.startDue (s : State) (n : Nat) : State :=
  let k := s.task n
  match k.start with
  | some r =>
    if k.state ≠ .ready ∨ ¬ r.committed ∨ s.now < r.tick then s
    else match k.clusters.find? (fun c => !r.holders.contains c) with
      | some c => (s.startIn n r.holders).startFail n 0x81 c
      | none =>
        let s1 := s.startIn n k.clusters
        if r.drainAtStart ∧ (s1.task n).state = .running then s1.drainTask n (s.now + 1) else s1
  | none => s

/-- The start tick of a task comes (05 R183 to R185). -/
def execStartTick (n : Fin 256) (s : State) : Host.Outcome State Fault Refusal := .next (s.startDue n)

/-! ### Drains, flushes and cancels in other clusters (05 R187 to R192) -/

/-- Whether every tile of a draining task is in context 15, or the others starve with every input buffer
empty (05 R187). -/
def State.drained (s : State) (n : Nat) : Bool :=
  let ts := (s.task n).tiles.map (·.1)
  let starved := fun (t : Nat) => match (s.tile t).rxHeld with
    | some q => (tget [] (s.tile t).inbuf q).isEmpty
    | none => false
  ts.all (fun t => (s.tile t).ctx == 15) ||
    (ts.all (fun t => (s.tile t).ctx == 15 || starved t) && ts.all (fun t => (s.tile t).inbuf.isEmpty))

/-- A draining task whose tiles are done or starved is STOPPED with DRAINED (05 R187). -/
def execDrainComplete (n : Fin 256) (s : State) : Host.Outcome State Fault Refusal :=
  .next (if (s.task n).state = .draining ∧ s.drained n then
      s.stopTask n (s.task n).clusters .drained .cancel
    else s)

/-- DrainMax after the drain edge the task is STOPPED with DRAIN_TIMEOUT (05 R187). -/
def execDrainTimeout (n : Fin 256) (s : State) : Host.Outcome State Fault Refusal :=
  .next (let k := s.task n
    if k.state = .draining ∧ k.drainAt + k.drainMax * 1000 ≤ s.now then
      s.stopTask n k.clusters .drainTimeout .cancel
    else s)

/-- Empties the input buffers of a task's tiles and its input queue, counting what is discarded; a tile that
another task owns keeps its buffers (05 R192). -/
def State.flushTask (s : State) (n : Nat) : State :=
  let k := s.task n
  let ts := (k.tiles.map (·.1)).filter (fun t => (s.tile t).owner.all (· == n))
  let lost := (ts.map (fun t => ((s.tile t).inbuf.map (fun p => p.2.length)).sum)).sum + k.queue.length
  (ts.foldl (fun u t => u.modTile t (fun x => { x with inbuf := [] })) s).modTask n (fun x =>
    { x with queue := [], flushed := (x.flushed + lost) % 2 ^ 32, flushDue := false })

/-- One edge after a task stops its input buffers and its input queue are flushed (05 R192). -/
def execInputFlush (n : Fin 256) (s : State) : Host.Outcome State Fault Refusal :=
  .next (if (s.task n).flushDue then s.flushTask n else s)

/-- The leader's CANCEL message reaches another cluster: the task's tiles there switch to context 15
(05 R188, R189). -/
def execCancelMessage (n : Fin 256) (c : Fin 64) (s : State) : Host.Outcome State Fault Refusal :=
  .next (let k := s.task n
    if k.state = .stopped ∨ k.state = .faulted then
      s.stopTiles (s.ownedIn n [c.val]) .cancel (k.state == .faulted)
    else s)

/-- The quench stop that is due reaches the array (05 R190, 10 R369). -/
def execQuenchStop (s : State) : Host.Outcome State Fault Refusal :=
  .next (if s.quench.stopDue then s.quenchStop else s)

/-! ### Bridges (05 R173, R174) -/

/-- Whether two clusters are adjacent; the torus does not fold lanes (05 R173). -/
def adjacent (a b : Nat) : Bool :=
  decide (a < 64 ∧ b < 64) &&
    ((a / 8 == b / 8 && (a % 8 + 1 == b % 8 || b % 8 + 1 == a % 8)) ||
      (a % 8 == b % 8 && (a / 8 + 1 == b / 8 || b / 8 + 1 == a / 8)))

/-- Whether a session holds a zone's lease. -/
def State.holdsZone (s : State) (n : SessionNo) (z : Nat) : Bool := (s.lease (0x10 + z)).holder == n

/-- The conditions of opening a bridge: both zone leases, adjacent clusters of different zones, and with Z0 at
one end a SAFETY session and the direction out of Z0 (05 R173, R174). -/
def bridgeOpenCheck (q : Req) (k : Nat) (s : State) (ss : Session) : Abort × Nat :=
  let b := s.bridge k
  match s.zoneOfCluster b.a, s.zoneOfCluster b.b with
  | some za, some zb =>
    firstFail [(!adjacent b.a b.b || za == zb, .wrongState, 0),
      (!s.holdsZone q.session za, .notHolder, 0x10 + za), (!s.holdsZone q.session zb, .notHolder, 0x10 + zb),
      ((za == 0 || zb == 0) && ss.role != .safety, .noAccess, 0),
      ((za == 0 && b.dir != 1) || (zb == 0 && b.dir != 2), .wrongState, 0)]
  | _, _ => (.wrongState, 0)

/-- A write of 1 to Open of a bridge (05 R174, R196). -/
def execBridgeOpen (q : Req) (k : Fin 32) (s : State) : Host.Outcome State Fault Refusal :=
  .next (s.serveWrite q (okey (0x3010 + k) 4) (bridgeOpenCheck q k)
    (fun t _ => { state := t.modBridge k (fun b => { b with opened := true }) }))

/-- Whether a slot's switch routes a lane from a tile into cluster `c` (05 R164, R174). -/
def routesInto (x : Tile) (t k c : Nat) : Bool :=
  (List.range 8).any (fun p =>
    (match laneTile t p with
     | some u => tileCluster u == c
     | none => false) && osel (x.descWord k 7 ++ x.descWord k 6) p != 0)

/-- Whether a live task routes a lane across a bridge (05 R174). -/
def State.bridgeUsed (s : State) (k : Nat) : Bool :=
  let b := s.bridge k
  s.array.tasks.any (fun p => p.2.live && p.2.tiles.any (fun e =>
    (tileCluster e.1 == b.a && routesInto (s.tile e.1) e.1 e.2 b.b) ||
      (tileCluster e.1 == b.b && routesInto (s.tile e.1) e.1 e.2 b.a)))

/-- A write of 0 to Open of a bridge (05 R174, R196). -/
def execBridgeClose (q : Req) (k : Fin 32) (s : State) : Host.Outcome State Fault Refusal :=
  .next (s.serveWrite q (okey (0x3010 + k) 4)
    (fun t _ => firstFail [(t.bridgeUsed k && (t.bridge k).opened, .bridgeInUse, 0)])
    (fun t _ => { state := t.modBridge k (fun b => { b with opened := false }) }))

end Sys2Proof.Machine
end

