-- ==== Sys2Proof/Machine/BlankOps.lean ====
section
/-!
DEFINITION. The operations on staging slots and library entries: priming and its checks, withdrawal, and the
activation of a blank cluster by cluster (07 R254 to R265, 10 R381 to R383).
-/

namespace Sys2Proof.Machine

/-! ### Slots and entries -/

/-- A staging slot. -/
def State.slot (s : State) (k : Nat) : StageSlot := tget {} s.blank.slots k

/-- Changes one staging slot. -/
def State.modSlot (s : State) (k : Nat) (f : StageSlot → StageSlot) : State :=
  { s with blank := { s.blank with slots := tmod {} s.blank.slots k f } }

/-- A library entry. -/
def State.lib (s : State) (e : Nat) : LibEntry := tget {} s.blank.library e

/-- Changes one library entry. -/
def State.modLib (s : State) (e : Nat) (f : LibEntry → LibEntry) : State :=
  { s with blank := { s.blank with library := tmod {} s.blank.library e f } }

/-- Changes the Assay. -/
def State.modAssay (s : State) (f : AssayUnit → AssayUnit) : State :=
  { s with blank := { s.blank with assay := f s.blank.assay } }

/-- Bytes of library space that no entry has reserved (07 R266). -/
def State.libraryFree (s : State) : Nat := 4194304 - (s.blank.library.map (fun p => p.2.reserved)).sum

/-- The lowest free library entry. -/
def State.freeEntry (s : State) : Option Nat := (List.range 32).find? (fun e => (s.lib e).state == .empty)

/-- *ActivateLead* in ns. -/
def State.activateLead (s : State) : Nat := s.num 0x8400 4 100 * 1000

/-- *MarkWait* in ns. -/
def State.markWait (s : State) : Nat := s.num 0x8400 5 30 * 1000000000

/-- The active entries, each once. -/
def State.activeEntries (s : State) : List Nat :=
  ((List.range 8).map (fun z => tget 0xFF s.blank.active z)).filter (· ≠ 0xFF) |>.eraseDups

/-- The active blanks that a blank for these zones replaces (07, Terms). -/
def State.replaced (s : State) (zones : List Nat) : List Nat :=
  s.activeEntries.filter (fun e => (imageZones (s.image e)).any (fun z => zones.contains z))

/-- The entries that other slots hold in PRIMING, PRIMED or ACTIVATING (07 R258). -/
def State.primedBeside (s : State) (k : Nat) : List Nat :=
  ((s.blank.slots.filter (fun p => p.1 ≠ k && (p.2.state == .priming || p.2.state == .primed || p.2.state == .activating))).map
    (·.2.entry))

/-- A slot is free again: what it shows of its last activation stays until a staging takes it (07 R276, log 43). -/
def StageSlot.freed (x : StageSlot) : StageSlot :=
  { x with state := .empty, owner := 0, entry := 0xFF, total := 0, primeWanted := false, edge := none, committed := false
           aborted := 0, taskNos := [] }

/-- A staging ends: the slot is free, and its lease has no holder (07 R254, R255). -/
def State.freeSlot (s : State) (k : Nat) : State :=
  let s1 := s.modSlot k StageSlot.freed
  if (s1.lease (stagingLease k)).holder = 0 then s1 else s1.changeHolder (stagingLease k) 0

/-- A staging takes a slot: its settings and results return to their defaults, and the session holds its lease
(07 R255, R276, 11 R427). -/
def State.takeSlot (s : State) (k : Nat) (n : SessionNo) (st : StageState) (e total : Nat) : State :=
  (s.modSlot k (fun _ => { state := st, owner := n, entry := e, total := total })).changeHolder (stagingLease k) n

/-! ### The checks of priming (07 R258) -/

/-- The clusters that a blank's sections name: those of per-cluster sections, of its tasks and of its flows. -/
def namedClusters (b : List Nat) : List (Nat × Option Nat) :=
  (imageClusters b).map (fun c => (c, none)) ++
    (imageTasks b).flatMap (fun t => t.tiles.map (fun p => (tileCluster p.1, some t.zone))) ++
    (imageFlows b).map (fun f => (f.source, none))

/-- ZONE_MISMATCH: every cluster named lies in a zone of ZONES, a task's tiles in the task's zone, and every blank
to be replaced has all its zones within ZONES (07 R249, R258). -/
def State.zonesFit (s : State) (b : List Nat) : Bool :=
  let zones := imageZones b
  (namedClusters b).all (fun p => match s.zoneOfCluster p.1 with
    | some z => zones.contains z && p.2.all (· == z)
    | none => false) &&
    (s.replaced zones).all (fun e => (imageZones (s.image e)).all (fun z => zones.contains z))

/-- Two inclusive ranges that claim something overlap. -/
def rangesMeet (a b c d : Nat) : Bool := decide (a ≤ b ∧ c ≤ d ∧ a ≤ d ∧ c ≤ b)

/-- Two tile claims overlap. -/
def TileClaim.meets (x y : TileClaim) : Bool :=
  x.slots &&& y.slots != 0 || rangesMeet x.ilo x.ihi y.ilo y.ihi || rangesMeet x.tlo x.thi y.tlo y.thi

/-- Two memory ranges (BASE, LEN) overlap. -/
def memMeets (x y : Nat × Nat) : Bool := decide (max x.1 y.1 < min (x.1 + x.2) (y.1 + y.2))

/-- The target entries that a blank claims in a cluster (07 R244). -/
def imageTargets (b : List Nat) (c : Nat) : List SetupRec := (imageSetup b c).filter (fun r => r.type == 3)

/-- Where two blanks' footprints overlap in a cluster, as a tile of it (07 R258). -/
def footprintsMeet (a b : List Nat) (c : Nat) : Option Nat :=
  match imageFootprint a c, imageFootprint b c with
  | some x, some y =>
    match (List.range 16).find? (fun i => (x.claim i).meets (y.claim i)) with
    | some i => some (tileOf c i)
    | none =>
      if x.ranges.any (fun r => y.ranges.any (memMeets r)) ∨
          (imageTargets a c).any (fun r => (imageTargets b c).any (fun q => q.p1 == r.p1)) then some (tileOf c 0)
      else none
  | _, _ => none

/-- The sense bindings of a blank, as ring, position and stream. -/
def imageBindings (b : List Nat) : List (Nat × Nat × Nat) :=
  ((imageEvents b).map (fun x => x.bindings.map (fun n => (n.ring, n.pos, n.stream)))).getD []

/-- CONTEXT_CLASH: a tile that a footprint shares with another blank's, a failed tile, or a sense binding that
another blank has (07 R258, R275, 09 R322). -/
def State.contextClash (s : State) (k : Nat) (b : List Nat) : Option Nat :=
  let zones := imageZones b
  let old := s.replaced zones
  let beside := s.primedBeside k
  let rivals := old ++ beside.filter (fun e => (imageZones (s.image e)).any (fun z => zones.contains z))
  match rivals.findSome? (fun e => (imageClusters b).findSome? (fun c => footprintsMeet b (s.image e) c)) with
  | some t => some t
  | none =>
    match (imageAllSlots b).find? (fun x => s.blank.assay.failed.contains x.1) with
    | some x => some x.1
    | none =>
      let others := s.activeEntries.filter (fun e => !old.contains e) ++ beside
      if (imageBindings b).any (fun n => others.any (fun e => (imageBindings (s.image e)).contains n)) then some 0 else none

/-- The tasks that stand once a blank's predecessors are gone (05 R176, 07 R258). -/
def State.tasksBeside (s : State) (zones : List Nat) : List (Nat × Task) :=
  s.array.tasks.filter (fun p => p.2.state != .absent && !(s.replaced zones).contains p.2.entry)

/-- Task numbers that are free: neither in use nor reserved by a slot (05 R176, 07 R258). -/
def State.freeTasks (s : State) : List Nat :=
  (List.range 256).filter (fun n => (s.task n).state == .absent && !s.blank.slots.any (fun p => p.2.taskNos.contains n))

/-- TASKS_FULL: the zone that would hold more than 32 tasks, or 0 for the device's bound (05 R176, 07 R258). -/
def State.tasksFull (s : State) (b : List Nat) : Option Nat :=
  let zones := imageZones b
  let rs := imageTasks b
  let stand := s.tasksBeside zones
  match zones.find? (fun z => decide (32 < (stand.filter (fun p => p.2.zone == z)).length + (rs.filter (fun r => r.zone == z)).length)) with
  | some z => some z
  | none => if 256 < stand.length + rs.length ∨ s.freeTasks.length < rs.length then some 0 else none

/-- The runs of a flow that is declared (06 R224). -/
def Flow.slots (x : Flow) : List (Nat × Nat × Nat) :=
  x.starts.flatMap (runSlots (flowHops x.source x.target) x.runLength)

/-- The slot tables of every flow declared (06 R221, R224). -/
def State.flowTable (s : State) : Tab Nat := s.net.flows.foldl (fun t p => putRun t p.2.slots) []

/-- The runs a blank's flows ask for, flow by flow (06 R224, 07 R250). -/
def flowRequests (fs : List FlowRec) : List RunReq :=
  fs.flatMap (fun f => List.replicate f.runs { hops := flowHops f.source f.target, len := (f.len + 3) / 4 })

/-- A cluster that the governor may gate once the blank is active: no task of it or of a blank that stays has a tile
there (06 R225, 14 R520). -/
def State.staysLit (s : State) (b : List Nat) (c : Nat) : Bool :=
  (imageTasks b).any (fun t => t.tiles.any (fun p => tileCluster p.1 == c)) ||
    (s.tasksBeside (imageZones b)).any (fun p => p.2.tiles.any (fun t => tileCluster t.1 == c))

/-- The allotment of a blank's flows beside every flow that is declared: the slot tables and each run's first slot,
or none for TDM_FULL (06 R225, 07 R258). -/
def State.allotFlows (s : State) (b : List Nat) : Option (Tab Nat × List Nat) :=
  let fs := imageFlows b
  if fs.any (fun f => decide (f.target < 64) && !s.staysLit b f.target) ∨
      64 < (s.net.flows.filter (fun p => p.2.runs ≠ 0)).length + fs.length then none
  else allotRuns (s.num 0x7001 6 50) (flowRequests fs) s.flowTable

/-- SWCFG_BAD: a tile that routes a lane across a border that no open bridge serves, or to a DIO endpoint that is
unconnected (05 R166, R169, R173). -/
def State.badBorder (s : State) (b : List Nat) : Option Nat :=
  ((imageAllSlots b).find? (fun x =>
    let cfg := swcfgOf x.2.2
    (List.range 8).any (fun p => osel cfg p != 0 && (match laneEnd x.1 p with
      | .tile u _ => !s.laneOpen x.1 u
      | .dio y => s.num (0x9100 + y) 1 0 != 4
      | .none => true)))).map (·.1)

/-- Requests allotted at a target to other initiators than the Gaffer (06 R210). -/
def State.allottedAt (s : State) (target : Nat) : Nat :=
  (s.net.nis.map (fun p => ((p.2.entries.filter (fun e => e.2.target == target)).map (fun e => e.2.allot)).sum)).sum

/-- The credits a blank requests of a target (07 R247). -/
def requestedAt (b : List Nat) (target : Nat) : Nat :=
  ((imageClusters b).map (fun c => (((imageTargets b c).filter (fun r => r.p2 == target)).map (·.p3)).sum)).sum

/-- CREDITS_FULL: a target whose 28 entries do not suffice (06 R210, 07 R247). -/
def State.creditsFull (s : State) (b : List Nat) : Option Nat :=
  (List.range 78).find? (fun n => decide (requestedAt b n ≠ 0 ∧ 28 < s.allottedAt n + requestedAt b n))

/-! ### MIRROR placement (10 R381, R382) -/

/-- The MIRROR tasks of a blank. -/
def mirrorTasks (b : List Nat) : List TaskRec := (imageTasks b).filter (fun t => t.flags.testBit 2)

/-- Entries of copy A, each with the entry of copy B that corresponds to it (10 R381). -/
def mirrorPairs (t : TaskRec) : List ((Nat × Nat) × (Nat × Nat)) :=
  let k := t.tiles.length / 2
  (t.tiles.take k).zip (t.tiles.drop k)

/-- The clusters of set A, and of set B, ascending (10 R367, R368). -/
def State.mirrorSets (s : State) : List Nat × List Nat :=
  let a := tget 0 s.quench.words 2 + tget 0 s.quench.words 3 * 2 ^ 32
  let z := (List.range 64).filter (fun c => s.z0Map.testBit c)
  (z.filter (fun c => a.testBit c), z.filter (fun c => !a.testBit c))

/-- The descriptor that a blank gives a tile's slot. -/
def slotWords (b : List Nat) (p : Nat × Nat) : List Word :=
  (((imageSlots b (tileCluster p.1) (localIndex p.1)).find? (fun s => s.1 == p.2)).map (·.2)).getD []

/-- The ports of a slot with CMP, ascending. -/
def cmpPorts (b : List Nat) (p : Nat × Nat) : List Nat := (List.range 8).filter (cmpOn (swcfgOf (slotWords b p)))

/-- A slot takes input from a tile outside its copy, or from a DIO endpoint (10 R382). -/
def strayInput (b : List Nat) (copy : List Nat) (p : Nat × Nat) : Bool :=
  let cfg := swcfgOf (slotWords b p)
  (List.range 8).any (fun q => (cfg.getLsbD (32 + q) || !(feeds cfg q).isEmpty) && (match laneTile p.1 q with
    | some u => !copy.contains u
    | none => true))

/-- The queue record of a cluster for a number (07 R247). -/
def queueRecord (b : List Nat) (c n : Nat) : Option SetupRec :=
  ((imageSetup b c).filter (fun r => r.type == 2 && r.p1 == n)).getLast?

/-- Rule 7 for one task. -/
def mirrorQueueOk (b : List Nat) (t : TaskRec) : Bool :=
  t.queue == 0xFF || (match (mirrorPairs t).head? with
    | some (p, r) => (match queueRecord b (tileCluster p.1) t.queue, queueRecord b (tileCluster r.1) t.queue with
      | some x, some y => x.p4 == y.p4
      | _, _ => false)
    | none => false)

/-- MIRROR_BAD: the first rule of R382 that a blank breaks (10 R382). -/
def State.mirrorBad (s : State) (b : List Nat) : Option Nat :=
  let ms := mirrorTasks b
  let sets := s.mirrorSets
  let rule1 := ((leAt b 0x0C 2).testBit 0 == !ms.isEmpty) &&
    (imageTasks b).all (fun t => (t.zone == 0) == t.flags.testBit 2) && ms.all (fun t => t.tiles.length % 2 == 0)
  let all := ms.flatMap mirrorPairs
  let rule2 := all.all (fun x =>
    match sets.1.findIdx? (· == tileCluster x.1.1) with
    | some j => sets.2[j]? == some (tileCluster x.2.1)
    | none => false)
  let rule3 := all.all (fun x => localIndex x.1.1 / 4 != localIndex x.2.1 / 4)
  let rule4 := all.all (fun x => x.1.2 != x.2.2)
  let rule5 := all.all (fun x => (cmpPorts b x.1).length == (cmpPorts b x.2).length) &&
    decide ((all.map (fun x => (cmpPorts b x.1).length)).sum ≤ 64)
  let rule6 := ms.all (fun t =>
    let k := t.tiles.length / 2
    let a := t.tiles.take k
    let c := t.tiles.drop k
    a.all (fun p => !strayInput b (a.map (·.1)) p) && c.all (fun p => !strayInput b (c.map (·.1)) p))
  let rule7 := ms.all (mirrorQueueOk b)
  if !rule1 then some 1
  else if !rule2 then some 2
  else if !rule3 then some 3
  else if !rule4 then some 4
  else if !rule5 then some 5
  else if !rule6 then some 6
  else if !rule7 then some 7
  else none

/-- The checks of priming, with the refusal of the first that fails (07 R258). -/
def State.primeCheck (s : State) (k : Nat) : Abort × Nat :=
  let b := s.image (s.slot k).entry
  if !s.zonesFit b then (.zoneMismatch, 0)
  else match s.contextClash k b with
  | some t => (.contextClash, t)
  | none => match s.tasksFull b with
    | some z => (.tasksFull, z)
    | none => match s.allotFlows b with
      | none => (.tdmFull, 0)
      | some _ => match s.badBorder b with
        | some t => (.swcfgBad, t)
        | none => match s.creditsFull b with
          | some n => (.creditsFull, n)
          | none => match s.mirrorBad b with
            | some r => (.mirrorBad, r)
            | none => (.ok, 0)

/-! ### Priming (07 R258) -/

/-- GEN of the blank in a library entry (07 R277, log 44). -/
def genOf (e : Nat) : Nat := e + 1

/-- A descriptor's words with VALID as given and the GEN of an entry. -/
def primedWords (e : Nat) (valid : Bool) (w : List Word) : List Word :=
  w.zipIdx.map (fun p =>
    if p.2 = 0 then (p.1 &&& 0x1FFFFFFF) ||| (if valid then 0x20000000 else 0)
    else if p.2 = 1 then (p.1 &&& 0x100) ||| BitVec.ofNat 32 (genOf e % 256) else p.1)

/-- Writes a slot's whole descriptor (03 R128, 07 R258). -/
def State.putDescriptor (s : State) (t k : Nat) (w : List Word) : State :=
  s.modTile t (fun x => { x with desc := w.zipIdx.foldl (fun d p => tset 0 d (8 * k + p.2) p.1) x.desc })

/-- Writes a code region from an image (07 R245, R258, log 41). -/
def State.putCode (s : State) (t : Nat) (b : List Nat) (w : List Word) : State :=
  let w0 := w.headD 0
  let lo := (w0.extractLsb' 9 9).toNat
  let n := (w0.extractLsb' 18 9).toNat + 1 - lo
  s.modTile t (fun x =>
    { x with imem := (List.range n).foldl (fun m i =>
               tset 0 m (lo + i) (imageWord b (tileCluster t) (localIndex t) (lo + i))) x.imem
             imemUe := x.imemUe.filter (fun p => !decide (lo ≤ p ∧ p < lo + n)) })

/-- Writes a run of instructions of an image (07 R245). -/
def State.putRunWords (s : State) (c : Nat) (r : CodeRun) : State :=
  s.modTile (tileOf c r.index) (fun x =>
    { x with imem := r.words.zipIdx.foldl (fun m p => tset 0 m (r.first + p.2) p.1) x.imem
             imemUe := x.imemUe.filter (fun p => !decide (r.first ≤ p ∧ p < r.first + r.words.length)) })

/-- Writes a record of CONST data (07 R248). -/
def State.putConst (s : State) (c : Nat) (r : ConstRec) : State :=
  let n := r.data.length
  if r.cluster then s.modCluster c (fun x =>
    { x with mem := writeBytes x.mem r.addr n (ofBytesLE r.data), upsets := clearUpsets x.upsets (r.addr / 8) ((n + 7) / 8) })
  else s.modTile (tileOf c r.index) (fun x =>
    { x with mem := writeBytes x.mem r.addr n (ofBytesLE r.data), upsets := clearUpsets x.upsets (r.addr / 4) ((n + 3) / 4) })

/-- A setup record as a sequencer's program bank holds it. -/
def bankRecord (r : SetupRec) : Nat := r.type + r.p1 * 2 ^ 8 + r.p2 * 2 ^ 16 + r.p3 * 2 ^ 32 + r.p4 * 2 ^ 64

/-- A program bank of setup records. -/
def bankOf (l : List SetupRec) : Tab Nat := l.zipIdx.foldl (fun t p => tset 0 t p.2 (bankRecord p.1)) []

/-- The entry of a TARGET record, not yet in use (06 R210, R216, 07 R258, R259). -/
def targetEntry (c e : Nat) (r : SetupRec) : NetEntry :=
  { target := r.p2, allot := r.p3, credits := r.p3, blank := e
    route := if sourceRouted c r.p2 then routeOf (turnCodes c r.p2) else 0 }

/-- Primes one cluster (07 R258). -/
def State.primeCluster (s : State) (k e c : Nat) (b : List Nat) : State :=
  let s1 := (imageConst b c).foldl (fun u r => u.putConst c r) (s.wakeCluster c)
  let s2 := (imageCode b c).foldl (fun u r => u.putRunWords c r) s1
  let s3 := (List.range 16).foldl (fun u i => (imageSlots b c i).foldl (fun v x =>
    (v.putCode (tileOf c i) b x.2).putDescriptor (tileOf c i) x.1 (primedWords e false x.2)) u) s2
  let s4 := { s3 with blank := { s3.blank with secondBank := tset [] s3.blank.secondBank (k * 64 + c) (bankOf (imageSetup b c)) } }
  (imageTargets b c).foldl (fun u r => u.modNi c (fun x => { x with entries := tset {} x.entries r.p1 (targetEntry c e r) })) s4

/-- Declares a blank's flows at free numbers, with the runs they are allotted, and writes the shadow tables
(06 R221, R225, 07 R250, R258). -/
def State.declareFlows (s : State) (e : Nat) (b : List Nat) : State :=
  match s.allotFlows b with
  | none => s
  | some (tab, starts) =>
    let free := (List.range 64).filter (fun f => (tget {} s.net.flows f).runs == 0)
    let r := (imageFlows b).foldl (fun (a : Tab Flow × List Nat × List Nat) f =>
      let mine := a.2.2.take f.runs
      (tset {} a.1 (a.2.1.headD 0)
        { source := f.source, target := f.target, runs := f.runs, runLength := (f.len + 3) / 4, firstSlot := mine.headD 0
          addr := f.addr, blank := e, starts := mine, size := Config.freeNat (f.addr + 2 ^ 24 * f.target) },
        a.2.1.drop 1, a.2.2.drop f.runs)) (s.net.flows, free, starts)
    { s with net := { s.net with flows := r.1, shadow := tab } }

/-- Priming begins: the blank is written, its entries are built, its task numbers reserved and its flows declared
(07 R258). -/
def State.beginPriming (s : State) (k : Nat) : State :=
  let e := (s.slot k).entry
  let b := s.image e
  let s1 := (s.modSlot k (fun x => { x with state := .priming, taskNos := s.freeTasks.take (imageTasks b).length })).modLib e
    (fun x => { x with state := .priming })
  let s2 := (imageClusters b).foldl (fun u c => u.primeCluster k e c b) s1
  let s3 := s2.modAssay (fun a => { a with golden := (s2.lib e).golden.foldl (fun t p => tput p.1 p.2 t) a.golden })
  s3.declareFlows e b

/-! ### Withdrawal (07 R259, R260) -/

/-- The slots of an entry, as tile * 16 + slot. -/
def State.slotKeys (s : State) (e : Nat) : List Nat := (s.lib e).golden.map (·.1)

/-- Clears VALID of a slot. -/
def State.clearValid (s : State) (key : Nat) : State :=
  s.modTile (key / 16) (fun x => { x with desc := tset 0 x.desc (8 * (key % 16)) (x.descWord (key % 16) 0 &&& 0xDFFFFFFF) })

/-- Sets VALID of a slot. -/
def State.setValid (s : State) (key : Nat) : State :=
  s.modTile (key / 16) (fun x => { x with desc := tset 0 x.desc (8 * (key % 16)) (x.descWord (key % 16) 0 ||| 0x20000000) })

/-- The Assay forgets slots. -/
def AssayUnit.forget (a : AssayUnit) (keys : List Nat) : AssayUnit :=
  { a with golden := a.golden.filter (fun p => !keys.contains p.1), tainted := a.tainted.filter (fun x => !keys.contains x)
           deferred := a.deferred.filter (fun x => !keys.contains x), validAfter := a.validAfter.filter (fun x => !keys.contains x) }

/-- The flows of an entry are declared no more, and the shadow tables are written without them (06 R221). -/
def State.dropFlows (s : State) (es : List Nat) : State :=
  let s1 := { s with net := { s.net with flows := s.net.flows.filter (fun p => p.2.runs == 0 || !es.contains p.2.blank) } }
  { s1 with net := { s1.net with shadow := s1.flowTable } }

/-- What a blank holds in the device before its activation is released (07 R259). -/
def State.unprime (s : State) (k : Nat) : State :=
  let e := (s.slot k).entry
  let keys := s.slotKeys e
  let s1 := keys.foldl State.clearValid s
  let s2 := { s1 with
    blank := { s1.blank with secondBank := s1.blank.secondBank.filter (fun p => p.1 / 64 ≠ k) }
    net := { s1.net with nis := tmap {} (fun _ x =>
      { x with entries := x.entries.filter (fun en => en.2.live || en.2.blank != e) }) s1.net.nis } }
  (s2.modAssay (fun a => a.forget keys)).dropFlows [e]

/-- A staging is withdrawn at any state before ACTIVATING (07 R254, R259). -/
def State.withdraw (s : State) (k : Nat) : State :=
  let x := s.slot k
  match x.state with
  | .receiving | .verifying => (s.modLib x.entry (fun _ => {})).freeSlot k
  | .priming | .primed => ((s.unprime k).modLib x.entry (fun l => { l with state := .verified })).freeSlot k
  | _ => s

/-! ### Activation (07 R261 to R265, 10 R383) -/

/-- The tile switches of an activation in one cluster: tiles owned by a task of a replaced blank (07 R263). -/
def State.releaseTiles (s : State) (c : Nat) (old : List Nat) : State :=
  (clusterTiles c).foldl (fun u t =>
    match (u.tile t).owner with
    | some n => if old.contains (u.task n).entry then (u.stopTile t .commit).modTile t (fun x => { x with owner := none }) else u
    | none => u) s

/-- VALID of the incoming slots of a cluster is set, or left to the end of their repair (07 R263). -/
def State.validateSlots (s : State) (c e : Nat) : State :=
  ((s.slotKeys e).filter (fun key => tileCluster (key / 16) == c)).foldl (fun u key =>
    if u.blank.assay.tainted.contains key then u.modAssay (fun a => { a with validAfter := key :: a.validAfter })
    else u.setValid key) s

/-- VALID of the replaced blanks' slots in a cluster is cleared (07 R263). -/
def State.invalidateSlots (s : State) (c : Nat) (old : List Nat) : State :=
  ((old.flatMap s.slotKeys).filter (fun key => tileCluster (key / 16) == c)).foldl State.clearValid s

/-- The setup records of a program bank, in order. -/
def bankRecords (t : Tab Nat) : List SetupRec := t.map (fun p => readSetup1 (bytesLE 16 p.2))

/-- The sequencer carries out one setup record (06 R210, R219, R237, 07 R247). -/
def State.carryOut (s : State) (c e : Nat) (r : SetupRec) : State :=
  match r.type with
  | 1 => s.modNi c (fun x => { x with ringBase := r.p3, ringSize := r.p2, producer := 0, consumer := 0, held := [] })
  | 3 => s.modNi c (fun x => { x with entries := tmod {} x.entries r.p1 (fun y => if y.blank = e then { y with live := true } else y) })
  | 4 => s.modNi c (fun x => { x with grants := x.grants ||| 2 ^ r.p1 })
  | _ => s

/-- The CRC-32C of a program bank (07 R271). -/
def bankCrc (t : Tab Nat) : Nat := crc32c (t.flatMap (fun p => bytesLE 16 p.2))

/-- Activation at E in one cluster: its tiles, its slots, its sequencer and its entries (07 R263). -/
def State.activateCluster (s : State) (c e : Nat) (bank : Tab Nat) (old : List Nat) : State :=
  let s1 := ((s.releaseTiles c old).invalidateSlots c old).validateSlots c e
  let s2 := s1.modCluster c (fun x => { x with program := bank, golden := some (bankCrc bank), gen := genOf e })
  let s3 := s2.modNi c (fun x =>
    { x with grants := 0, ringBase := 0, ringSize := 0, producer := 0, consumer := 0, held := []
             entries := tmap {} (fun _ y => if y.live && old.contains y.blank then { y with closing := true } else y) x.entries })
  (((bankRecords bank).foldl (fun u r => u.carryOut c e r) s3).releaseEntries c).issueHeld c

/-- A task of a replaced blank leaves its state and becomes ABSENT, its buffers flushed (07 R263). -/
def State.dismissTask (s : State) (n : Nat) : State :=
  let s1 := if (s.task n).start.isSome then s.decideStart n false else s
  ((s1.flushTask n).stopTiles ((s1.task n).tiles.map (·.1) |>.filter (fun t => (s1.tile t).owner == some n)) .commit false).modTask n
    (fun _ => {})

/-- The task that a record becomes (05 R175, 07 R249): CHAIN names the number of its predecessor. -/
def taskOfRecord (e : Nat) (b : List Nat) (numbers : List (Nat × Nat)) (r : TaskRec) : Task :=
  let kind : TriggerKind := match r.kind with
    | 0 => .immediate
    | 1 => .time
    | 2 => .period
    | 3 => .angle
    | 4 => .course
    | 5 => .queue
    | 6 => .chain
    | _ => .host
  { zone := r.zone, tiles := r.tiles, priority := r.prio, state := .loaded, kind := kind
    param := if kind = .chain then (alook numbers (r.param % 256)).getD 0 else r.param
    rearm := r.flags.testBit 0, autoarm := r.flags.testBit 1, mirror := r.flags.testBit 2
    startLead := r.startLead, drainMax := r.drainMax, queueNo := r.queue, tref := r.tref, entry := e
    queueSize := match r.tiles.head? with
      | some p => ((queueRecord b (tileCluster p.1) r.queue).map (·.p4)).getD 0
      | none => 0 }

/-- The incoming tasks take their reserved numbers and become LOADED; in RUN those with AUTOARM are armed
(07 R263). -/
def State.loadTasks (s : State) (e : Nat) (b : List Nat) (nos : List Nat) (arm : Bool) : State :=
  let l := (imageTasks b).zip nos
  let numbers := l.map (fun p => (p.1.tref, p.2))
  let s1 := l.foldl (fun u p => u.modTask p.2 (fun _ => taskOfRecord e b numbers p.1)) s
  if arm then l.foldl (fun u p => if (u.task p.2).autoarm then u.armOrWake p.2 else u) s1 else s1

/-- The comparator channels of a Z0 blank, numbered by TREF, then j, then port (10 R383). -/
def comparatorOf (b : List Nat) (now : Nat) : Tab CmpChannel :=
  let ts := (List.range 256).flatMap (fun r => (mirrorTasks b).filter (fun t => t.tref == r))
  let chans := ts.flatMap (fun t => (mirrorPairs t).flatMap (fun x =>
    ((cmpPorts b x.1).zip (cmpPorts b x.2)).map (fun pq =>
      ({ portA := x.1.1 * 8 + pq.1, portB := x.2.1 * 8 + pq.2, watchAt := now
         demand := osel (swcfgOf (slotWords b x.1)) pq.1 == 0 } : CmpChannel))))
  chans.zipIdx.map (fun p => (p.2, p.1))

/-- The blank is the active one of its zones, and those it replaces are RETIRED (07 R263). -/
def State.installBlank (s : State) (e : Nat) (zones old : List Nat) (edge : T64) : State :=
  let s1 := (old.foldl (fun u o => u.modLib o (fun x => { x with state := .retired })) s).modLib e
    (fun x => { x with state := .active, activeSince := edge })
  { s1 with blank := { s1.blank with active := zones.foldl (fun t z => tset 0xFF t z e) s1.blank.active } }

/-- What the whole device changes at E: flows, events, the comparator, the firewalls, the Assay's signatures and the
journal (06 R219, 07 R263, 09 R322, 10 R383, 12 R478). -/
def State.installRest (s : State) (e : Nat) (b : List Nat) (zones old : List Nat) (edge : T64) : State :=
  let s1 := (s.modAssay (fun a => a.forget (old.flatMap s.slotKeys))).dropFlows old
  let secs := s1.ring.sections.filter (fun p => !old.contains p.1)
  let s2 := { s1 with ring := { s1.ring with sections := match imageEvents b with
    | some x => secs ++ [(e, x)]
    | none => secs } }
  let s3 := if zones.contains 0 then s2.modQuench (fun u => { u with cmp := comparatorOf b s.now }) else s2
  let s4 := s3.recomputeAllow.commit (.activate (bitsMask zones) e edge)
  (s4.record .general .config niGaffer 0x0610 (bitsMask zones :: bytesLE 4 0 ++ bytesLE 8 edge)).judgeHold.judgeRedundant

/-- The members of an activation round: every cluster in the blank's zones (07 R262). -/
def State.activationMembers (s : State) (b : List Nat) : List Nat :=
  (List.range 64).filter (fun c => (imageZones b).any (fun z => (s.zoneMap z).testBit c))

/-- Activation at E, in the clusters that hold COMMIT (07 R263, R277). -/
def State.activate (s : State) (k : Nat) (holders : List Nat) (edge : T64) : State :=
  let x := s.slot k
  let b := s.image x.entry
  let zones := imageZones b
  let old := s.replaced zones
  let s1 := holders.foldl (fun u c => u.activateCluster c x.entry (tget [] s.blank.secondBank (k * 64 + c)) old) s
  let s2 := (s1.array.tasks.filter (fun p => old.contains p.2.entry && p.2.state != .absent)).foldl (fun u p => u.dismissTask p.1) s1
  let s3 := (s2.installBlank x.entry zones old edge).loadTasks x.entry b x.taskNos (s.op.state == .run)
  let s4 := s3.modSlot k (fun y => { y with result := .active, activatedAt := edge, refusal := .ok })
  let s5 := (s4.freeSlot k).installRest x.entry b zones old edge
  { s5 with blank := { s5.blank with secondBank := s5.blank.secondBank.filter (fun p => p.1 / 64 ≠ k) } }

/-- An activation fails: the slot is PRIMED again (07 R264, R265). -/
def State.failActivation (s : State) (k : Nat) (r : ActResult) (mask : List Nat) : State :=
  let e := (s.slot k).entry
  (s.modSlot k (fun x => { x with state := .primed, result := r, failureMask := mask, edge := none, committed := false, aborted := 0 })).modLib e
    (fun x => { x with state := .primed })

/-- An aborted activation round: the next E, or failure after the third (07 R264). -/
def State.retryActivation (s : State) (k : Nat) (mask : List Nat) : State :=
  let x := s.slot k
  if 3 ≤ x.aborted + 1 then s.failActivation k .failed mask
  else s.modSlot k (fun y =>
    { y with aborted := y.aborted + 1, since := s.now
             edge := match y.mode with
               | .atMark => none
               | _ => y.edge.map (· + s.activateLead) })

end Sys2Proof.Machine
end

