-- ==== Sys2Proof/Machine/AssayOps.lean ====
section
/-!
DEFINITION. The Assay's operations: checking a slot against its golden signature, tainting it, and repairing it from
the library (07 R271 to R275).
-/

namespace Sys2Proof.Machine

/-! ### Checking (07 R271) -/

/-- The eight words of a slot's descriptor as the context store holds them. -/
def Tile.descWords (x : Tile) (k : Nat) : List Word := (List.range 8).map (x.descWord k)

/-- A slot matches its golden signature; an instruction word that cannot be read never does (07 R271). -/
def State.slotMatches (s : State) (key golden : Nat) : Bool :=
  let x := s.tile (key / 16)
  let w := x.descWords (key % 16)
  let w0 := w.headD 0
  let lo := (w0.extractLsb' 9 9).toNat
  let hi := (w0.extractLsb' 18 9).toNat
  !x.imemUe.any (fun p => decide (lo ≤ p ∧ p ≤ hi)) && signatureOf w (fun p => tget 0 x.imem p) == golden

/-- The entries of blanks that staging slots hold in PRIMING, PRIMED or ACTIVATING. -/
def State.stagedEntries (s : State) : List Nat := s.primedBeside 2

/-- The Assay checks a slot: it is VALID, or a PRIMING or PRIMED blank holds it, and its cluster has power
(07 R271, R272). -/
def State.assayed (s : State) (key : Nat) : Bool :=
  !(s.cluster (tileCluster (key / 16))).gated && !s.blank.assay.tainted.contains key &&
    !s.blank.assay.failed.contains (key / 16) &&
    ((s.tile (key / 16)).slotValid (key % 16) || s.stagedEntries.any (fun e => (s.slotKeys e).contains key))

/-- The slots that a pass finds changed, ascending (07 R271, R272). -/
def State.assayFinds (s : State) : List Nat :=
  (s.blank.assay.golden.filter (fun p => s.assayed p.1 && !s.slotMatches p.1 p.2)).map (·.1)

/-- The powered clusters whose program bank does not match its signature (07 R271). -/
def State.banksChanged (s : State) : List Nat :=
  (List.range 64).filter (fun c =>
    let x := s.cluster c
    !x.gated && (match x.golden with
      | some g => bankCrc x.program != g
      | none => false))

/-! ### Tainting (07 R273) -/

/-- DETAIL of the Assay's records: the tile and the slot (17 R622). -/
def assayDetail (key : Nat) : List Nat := bytesLE 2 (key / 16) ++ [key % 16]

/-- The slot belongs to a task in ARMED or READY. -/
def State.slotAwaits (s : State) (key : Nat) : Bool :=
  s.array.tasks.any (fun p => (p.2.state == .armed || p.2.state == .ready) && p.2.tiles.contains (key / 16, key % 16))

/-- A tile of Z0. -/
def State.tileInZ0 (s : State) (t : Nat) : Bool := s.z0Map.testBit (tileCluster t)

/-- A repair that has to wait until the tile reaches context 15. -/
def State.deferRepair (s : State) (key : Nat) : State := s.modAssay (fun a => { a with deferred := key :: a.deferred })

/-- What the Assay does with a tainted slot (07 R273). -/
def State.actOnTaint (s : State) (key : Nat) : State :=
  let t := key / 16
  let x := s.tile t
  if s.tileInZ0 t ∧ (x.ctx ≠ 15 ∨ s.slotAwaits key) then (s.deferRepair key).standFault 0x34
  else if x.ctx ≠ key % 16 then s.clearValid key
  else if s.num 0x8500 2 0 = 0 then
    match x.owner with
    | some n => s.cancelTask n
    | none => s.stopTile t .cancel
  else (s.deferRepair key).alarm .fault 0x0605 t (assayDetail key)

/-- A slot is tainted: it is counted and logged, and the Assay acts (07 R273). -/
def State.taint (s : State) (key : Nat) : State :=
  ((s.modAssay (fun a => { a with taints := inc32 a.taints, tainted := key :: a.tainted })).record .general .fault niGaffer 0x0601
    (assayDetail key)).actOnTaint key

/-- The Assay holds its quench line dropped while a slot of Z0 waits for its repair, or while it is late
(07 R272, R273). -/
def State.assayLine (s : State) : Bool :=
  s.blank.assay.deferred.any (fun k => s.tileInZ0 (k / 16)) || s.alarmOn 0x0602 0

/-- The Assay's quench line returns when nothing holds it dropped. -/
def State.settleAssayLine (s : State) : State := if s.assayLine then s else s.endFault 0x34

/-! ### Repair (07 R274, R275) -/

/-- The library entry that holds a slot: an active blank's or a staged one's. -/
def State.entryOfSlot (s : State) (key : Nat) : Option Nat :=
  (s.activeEntries ++ s.stagedEntries).find? (fun e => (s.slotKeys e).contains key)

/-- The code and context sections that a repair reads pass their check codes (07 R274). -/
def sourceIntact (b : List Nat) (c : Nat) : Bool :=
  ((imageSections b).filter (fun e => (e.type == 2 || e.type == 3) && e.cluster == c)).all (fun e =>
    e.scrc == crc32c (sectionBody b e))

/-- The slot may be repaired now: its taint stands, its golden signature is known, its tile has not failed, and the
tile does not run in it; one that was deferred waits for context 15 (07 R273, R275). -/
def State.repairable (s : State) (key : Nat) : Bool :=
  let a := s.blank.assay
  let x := s.tile (key / 16)
  a.tainted.contains key && a.golden.any (fun p => p.1 == key) && !a.failed.contains (key / 16) &&
    (if a.deferred.contains key then x.ctx == 15 else x.ctx != key % 16)

/-- A tile is declared failed: all its slots are cleared and it is repaired no more (07 R275). -/
def State.failTile (s : State) (t : Nat) : State :=
  let s1 := (List.range 15).foldl (fun u k => u.clearValid (16 * t + k)) s
  (s1.modAssay (fun a => { a with failed := t :: a.failed, deferred := a.deferred.filter (fun x => x / 16 ≠ t) })).record .general
    .fault niGaffer 0x0604 (assayDetail (16 * t))

/-- A repair has succeeded: the slot is VALID when its blank is active, and the third repair of a tile within an hour
fails it (07 R263, R274, R275). -/
def State.repairDone (s : State) (key e : Nat) : State :=
  let t := key / 16
  let recent := s.now :: (tget [] s.blank.assay.history t).filter (fun a => decide (s.now < a + 3600000000000))
  let s1 := s.modAssay (fun a =>
    { a with repairs := inc32 a.repairs, tainted := a.tainted.filter (· ≠ key), deferred := a.deferred.filter (· ≠ key)
             validAfter := a.validAfter.filter (· ≠ key), history := tset [] a.history t recent })
  let s2 := if (s1.lib e).state == .active then s1.setValid key else s1
  if 3 ≤ recent.length then s2.failTile t else s2

/-- A repair has failed: the slot stays invalid and has no source (07 R274). -/
def State.repairFailed (s : State) (key : Nat) : State :=
  ((s.clearValid key).modAssay (fun a =>
    { a with failures := inc32 a.failures, golden := a.golden.filter (fun p => p.1 ≠ key)
             deferred := a.deferred.filter (· ≠ key) })).record .general .fault niGaffer 0x0603 (assayDetail key)

/-- Repairs a slot from the library entry that holds it (07 R274). -/
def State.repairSlot (s : State) (key : Nat) : State :=
  let t := key / 16
  let c := tileCluster t
  let s1 : State := match s.entryOfSlot key with
    | none => s.repairFailed key
    | some e =>
      let b := s.image e
      match (imageSlots b c (localIndex t)).find? (fun (x : Nat × List Word) => x.1 == key % 16) with
      | none => s.repairFailed key
      | some x =>
        if !sourceIntact b c then s.repairFailed key
        else
          let s2 := (s.putCode t b x.2).putDescriptor t x.1 (primedWords e false x.2)
          if s2.slotMatches key (tget 0 s2.blank.assay.golden key) then s2.repairDone key e else s2.repairFailed key
  s1.settleAssayLine

end Sys2Proof.Machine
end

