-- ==== Sys2Proof/Machine/StreamOps.lean ====
section
/-!
DEFINITION. Segments of segmented writes: their offsets, their checks on arrival and the transfer they belong to
(11 R420, R424).
-/

namespace Sys2Proof.Machine

/-- The offset that a session's next segment of an object has to carry; 0 where it has none open. -/
def Session.nextOffset (x : Session) : Nat := ((x.segWrite).map (·.next)).getD 0

/-- A segment opens a transfer at OFFSET 0, or continues the open one at the offset it has reached (11 R424). -/
def Session.inOrder (x : Session) (key off : Nat) : Bool :=
  off == 0 || (x.segWrite.any (fun w => w.key == key && w.next == off))

/-- The data of the open transfer that a segment continues; none at OFFSET 0. -/
def Session.soFar (x : Session) (off : Nat) : List Nat :=
  if off = 0 then [] else ((x.segWrite).map (·.data)).getD []

/-- The session has no segmented write open. -/
def State.dropSegments (s : State) (n : SessionNo) : State := s.modSession n (fun x => { x with segWrite := none })

/-- Serves one segment of a segmented write (11 R420, R424): its length, its order, steps 1 to 4 of R421 with its own
EPOCH, and then its effect; a refusal abandons the transfer. `keep` is what the transfer holds after it, and the
answer names the next offset. -/
def State.serveSegment (s : State) (q : Req) (key off : Nat) (last : Bool) (data keep : List Nat)
    (run : State → Session → Served) : State :=
  s.serve q (fun t ss =>
    if data.length = 0 ∨ 1020 < data.length then refuse t .badMessage
    else if !ss.inOrder key off then refuse (t.dropSegments q.session) .segmentErr (ss.nextOffset % 65536)
    else match t.gate q.session ss.role key q.epoch with
      | (.ok, _) =>
        let open_ : Option SegWrite := if last then none else some { key := key, next := off + data.length, data := keep }
        let r := run (t.modSession q.session (fun x => { x with segWrite := open_ })) ss
        if r.code = .ok then { r with value := some (.num (off + data.length)) }
        else { r with state := r.state.dropSegments q.session }
      | (c, d) => refuse (t.dropSegments q.session) c d)

end Sys2Proof.Machine
end

