-- ==== Sys2Proof/Machine/FirmwareOps.lean ====
section
/-!
DEFINITION. The firmware slots: what the boot ROM may select, and uploads (07 R267 to R270).
-/

namespace Sys2Proof.Machine

/-- A firmware slot. -/
def State.fw (s : State) : FwSlot → FwImage
  | .a => s.blank.fwA
  | .b => s.blank.fwB

/-- Changes a firmware slot. -/
def State.modFw (s : State) (k : FwSlot) (f : FwImage → FwImage) : State :=
  { s with blank := match k with
      | .a => { s.blank with fwA := f s.blank.fwA }
      | .b => { s.blank with fwB := f s.blank.fwB } }

/-- The other firmware slot. -/
def FwSlot.other : FwSlot → FwSlot
  | .a => .b
  | .b => .a

/-- The image of a slot verifies now: it verified when it was written, its key is not revoked, and its SVN reaches the
floor (07 R267, R268, 12 R456). -/
def State.fwGood (s : State) (k : FwSlot) : Bool :=
  let x := s.fw k
  x.verifies && !s.fuse.fwRevoked (imageKeySlot x.image) && decide (s.fuse.floor ≤ x.svn)

/-- The slot that an upload writes: the one that is not running; in HALT the one whose image does not verify, else the
one not CONFIRMED (07 R269, R270, log 47). -/
def State.fwTarget (s : State) : FwSlot :=
  match s.op.gaffer with
  | .running k | .selected k => k.other
  | _ =>
    if !s.fwGood .a then .a
    else if !s.fwGood .b then .b
    else if s.blank.fwA.mark = .confirmed then .b
    else .a

/-- An upload begins: its slot holds no image that verifies until the upload ends (07 R267, R269, log 47). -/
def State.startUpload (s : State) (h : List Nat) : State :=
  let k := s.fwTarget
  let s1 := s.modFw k (fun _ => { mark := .invalid })
  { s1 with blank := { s1.blank with upload := some { slot := k, total := imageTotal h, data := h } } }

/-- An upload has all its bytes: the image is verified, and its slot is marked NONE or INVALID (07 R267, R269). -/
def State.endUpload (s : State) (u : FwUpload) (data : List Nat) : State :=
  let ok := s.firmwareOk data
  let s1 := s.modFw u.slot (fun _ =>
    { mark := if ok then .none else .invalid, image := data, verifies := ok, version := fwVersion data, svn := fwSvn data })
  { s1 with blank := { s1.blank with upload := none } }

/-- A segment of *FwBody* is appended; the last byte starts the verification, which ends at once (07 R269, log 48). -/
def State.growUpload (s : State) (u : FwUpload) (data : List Nat) : State :=
  let l := u.data ++ data
  if l.length = u.total then s.endUpload u l
  else { s with blank := { s.blank with upload := some { u with data := l } } }

/-- The checks of a segment that streams into the store: its offset in the image, the announced length, and LAST on the
last byte alone (07 R256, 11 R424). -/
def streamCheck (have_ total off : Nat) (last : Bool) (len : Nat) : Abort × Nat :=
  firstFail [
    (64 + off ≠ have_, .blankFormat, 0),
    (decide (total < 64 + off + len), .tooLarge, 0),
    (last != decide (64 + off + len = total), .blankFormat, 0)]

end Sys2Proof.Machine
end

