-- ==== Sys2Proof/Machine/Blanks.lean ====
section
/-!
DEFINITION. The commands of blanks, the library and firmware uploads (07 R254 to R270).
-/

namespace Sys2Proof.Machine

/-- The object of a staging slot. -/
def slotKey (k sub : Nat) : Nat := okey (0x8410 + k) sub

/-- Bytes as they arrive. -/
def octets (l : List Nat) : List Nat := l.map (· % 256)

/-! ### Staging (07 R254 to R257) -/

/-- The image is complete: its verification begins (07 R254). -/
def State.startVerifying (s : State) (k : Nat) : State :=
  (s.modSlot k (fun x => { x with state := .verifying })).modLib (s.slot k).entry (fun l => { l with state := .verifying })

/-- *Header*: its checks, the slot, and TOTAL bytes of library space (07 R255, R256). -/
def execStagingHeader (q : Req) (k : Fin 2) (b : List Nat) (s : State) : Host.Outcome State Fault Refusal :=
  .next (s.serveBytes q (slotKey k 4) b
    (fun t _ v =>
      let h := valBytes v
      let hc := headerCheck h
      firstFail [
        ((t.slot k).state != .empty, .stagingBusy, 0),
        (hc.1 != .ok, hc.1, hc.2),
        (decide (t.libraryFree < imageTotal h) || t.freeEntry.isNone, .libraryFull, 0),
        (t.leaseBusy (stagingLease k), .busyRetry, 0)])
    (fun t _ v =>
      let h := valBytes v
      let e := t.freeEntry.getD 0
      let t1 := (t.modLib e (fun _ => { state := .receiving, image := h, reserved := imageTotal h })).takeSlot k q.session .receiving e
        (imageTotal h)
      { state := if imageTotal h = 64 then t1.startVerifying k else t1 }))

/-- A segment of *Body*; the last byte starts the verification (07 R256, 11 R424). -/
def execStagingBody (q : Req) (k : Fin 2) (off : Fin 4294967296) (last : Bool) (data : List Nat) (s : State) :
    Host.Outcome State Fault Refusal :=
  .next (s.serveSegment q (slotKey k 5) off last data [] (fun t _ =>
    let x := t.slot k
    let l := t.lib x.entry
    match firstFail [(x.state != .receiving, .wrongState, 0)] with
    | (.ok, _) => match streamCheck l.image.length x.total off last data.length with
      | (.ok, _) =>
        let t1 := t.modLib x.entry (fun y => { y with image := y.image ++ octets data })
        { state := if last then t1.startVerifying k else t1 }
      | (c, d) => refuse t c d
    | (c, d) => refuse t c d))

/-- A refusal of a staging: its code is shown, and the slot is free (07 R254, R276). -/
def State.refuseStaging (s : State) (k : Nat) (c : Abort) (l : LibEntry → LibEntry) : State :=
  let e := (s.slot k).entry
  ((s.modSlot k (fun x => { x with refusal := c })).modLib e l).freeSlot k

/-- Verification ends: the image is refused, or its golden signatures are stored, and a prime that was requested is
checked and begun (07 R254, R257, R258). -/
def execVerificationComplete (k : Fin 2) (s : State) : Host.Outcome State Fault Refusal :=
  .next (
    let x := s.slot k
    let b := s.image x.entry
    if x.state ≠ .verifying then s
    else match s.verifyBlank b with
    | (.ok, _) =>
      let s1 := s.modLib x.entry (fun l => { l with state := .verified, golden := imageGolden b })
      if x.primeWanted then
        (match s1.primeCheck k with
        | (.ok, _) => s1.beginPriming k
        | (c, _) => s1.refuseStaging k c id)
      else s1.freeSlot k
    | (c, _) => s.refuseStaging k c (fun _ => {}))

/-- *FromLibrary*: an entry is staged again (07 R254). -/
def execFromLibrary (q : Req) (k : Fin 2) (b : List Nat) (s : State) : Host.Outcome State Fault Refusal :=
  .next (s.serveBytes q (slotKey k 6) b
    (fun t _ v =>
      let e := valNat v
      let st := (t.lib e).state
      firstFail [
        (decide (32 ≤ e), .range, 0),
        (st != .verified && st != .retired, .wrongState, 0),
        ((t.slot k).state != .empty, .stagingBusy, 0),
        (t.leaseBusy (stagingLease k), .busyRetry, 0)])
    (fun t _ v =>
      let e := valNat v
      { state := (t.modLib e (fun l => { l with state := .verifying })).takeSlot k q.session .verifying e (imageTotal (t.image e)) }))

/-! ### Priming and withdrawal (07 R258 to R260) -/

/-- *Prime*: the session holds the lease of every zone of the blank (07 R258). -/
def execPrime (q : Req) (k : Fin 2) (b : List Nat) (s : State) : Host.Outcome State Fault Refusal :=
  .next (s.serveBytes q (slotKey k 7) b
    (fun t _ v =>
      let x := t.slot k
      let lack := t.zoneNotHeld q.session (imageZones (t.image x.entry))
      firstFail [
        (valNat v != 0 && x.state != .receiving && x.state != .verifying, .wrongState, 0),
        (valNat v != 0 && lack.isSome, .notHolder, 0x10 + lack.getD 0)])
    (fun t _ v => { state := if valNat v = 0 then t else t.modSlot k (fun x => { x with primeWanted := true }) }))

/-- Priming ends with an Assay pass over the incoming slots; what it finds is repaired, and the slot is PRIMED
(07 R258). -/
def execPrimingComplete (k : Fin 2) (s : State) : Host.Outcome State Fault Refusal :=
  .next (
    let x := s.slot k
    if x.state ≠ .priming then s
    else
      let bad := (s.slotKeys x.entry).filter (fun key =>
        !s.blank.assay.tainted.contains key && !s.slotMatches key (tget 0 s.blank.assay.golden key))
      let s1 := bad.foldl (fun u key =>
        ((u.modAssay (fun a => { a with taints := inc32 a.taints, tainted := key :: a.tainted })).record .general .fault niGaffer
          0x0601 (assayDetail key)).repairSlot key) s
      (s1.modSlot k (fun y => { y with state := .primed })).modLib x.entry (fun l => { l with state := .primed }))

/-- *Withdraw* (07 R254, R259). -/
def execWithdraw (q : Req) (k : Fin 2) (b : List Nat) (s : State) : Host.Outcome State Fault Refusal :=
  .next (s.serveBytes q (slotKey k 13) b
    (fun t _ v =>
      let st := (t.slot k).state
      firstFail [(valNat v != 0 && st != .receiving && st != .verifying && st != .priming && st != .primed, .wrongState, 0)])
    (fun t _ v => { state := if valNat v = 0 then t else t.withdraw k }))

/-! ### Activation (07 R261 to R265) -/

/-- Another activation is in progress in a zone of the blank (07 R261). -/
def State.activatingBeside (s : State) (k : Nat) (zones : List Nat) : Bool :=
  s.blank.slots.any (fun p => p.1 != k && p.2.state == .activating &&
    (imageZones (s.image p.2.entry)).any (fun z => zones.contains z))

/-- The conditions on a blank whose ZONES includes Z0 (10 R387). -/
def State.z0MayGo (s : State) (n : SessionNo) : Bool :=
  (match s.session? n with
    | some x => x.role == .safety
    | none => false) && (s.lease 0x10).holder == n && !s.armed

/-- The clusters committed once a blank is active (14 R519). -/
def State.committedAfter (s : State) (b : List Nat) : List Nat :=
  let stand := s.tasksBeside (imageZones b)
  (List.range 64).filter (fun c => stand.any (fun p => p.2.tiles.any (fun t => tileCluster t.1 == c)) ||
    (imageTasks b).any (fun t => t.tiles.any (fun p => tileCluster p.1 == c)))

/-- The replaced blanks have all their zones within the new one's (07 R258, chapter 07 corner "a second blank"). -/
def State.coversReplaced (s : State) (zones : List Nat) : Bool :=
  (s.replaced zones).all (fun e => (imageZones (s.image e)).all (fun z => zones.contains z))

/-- The governor turns the request away (14 R519). -/
def State.overBudget (s : State) (b : List Nat) : Bool := s.op.state == .run && !s.admits (s.committedAfter b)

/-- The checks of *Go* but the governor's (07 R261, 10 R387). -/
def State.goCheck (s : State) (k n : Nat) : Abort × Nat :=
  let x := s.slot k
  let b := s.image x.entry
  let zones := imageZones b
  firstFail [
    (x.state != .primed || (s.op.state != .service && s.op.state != .run) || s.activatingBeside k zones ||
      (zones.contains 0 && !s.z0MayGo n) || (x.actMode == 1 && decide (x.actTime < s.time.t64 + s.activateLead)), .wrongState, 0),
    (!s.coversReplaced zones, .zoneMismatch, 0)]

/-- The activation is in progress: its mode and its edge (07 R261). -/
def State.beginActivation (s : State) (k : Nat) : State :=
  let x := s.slot k
  let m : EdgeMode := match x.actMode with
    | 0 => .atOnce
    | 1 => .atTime
    | _ => .atMark
  let e : Option T64 := match m with
    | .atOnce => some (s.time.t64 + s.activateLead)
    | .atTime => some x.actTime
    | .atMark => none
  (s.modSlot k (fun y => { y with state := .activating, mode := m, edge := e, since := s.now, aborted := 0, committed := false
                                  result := .none, failureMask := [] })).modLib x.entry (fun l => { l with state := .activating })

/-- *Go*: an activation is requested; one that the governor refuses raises POWER_BUDGET (07 R261, 10 R387, 14 R519). -/
def execGo (q : Req) (k : Fin 2) (b : List Nat) (s : State) : Host.Outcome State Fault Refusal :=
  .next (s.serveBytes q (slotKey k 12) b
    (fun t _ v => if valNat v = 0 then (.ok, 0) else t.goCheck k q.session)
    (fun t _ v =>
      if valNat v = 0 then { state := t }
      else if t.overBudget (t.image (t.slot k).entry) then
        refuse (t.record .general .power niGaffer 0x0804 [] q.session) .wrongState
      else { state := t.beginActivation k }))

/-- An activation's round is due (07 R261). -/
def State.roundDue (s : State) (k : Nat) (e : T64) : Bool :=
  let x := s.slot k
  x.state == .activating && !x.committed && !s.net.rounds.any (fun r => r.kind == .activation k) &&
    (x.mode != .atTime || decide (e ≤ s.time.t64 + s.activateLead))

/-- The Gaffer stages an activation's round at every sequencer of its zones; with no member it is committed at once
(06 R235, 07 R262). -/
def State.startRound (s : State) (k : Nat) (e : T64) : State :=
  let members := s.activationMembers (s.image (s.slot k).entry)
  if members = [] then s.modSlot k (fun y => { y with committed := true })
  else
    let r := s.sendStage niGaffer members (.round 0 k false) (.activation k) (e - 1000) 1000 false
    match r.1 with
    | none => s
    | some tag =>
      { r.2 with net := { r.2.net with rounds := r.2.net.rounds ++
        [{ kind := .activation k, tag := tag, members := members, oks := [], deadline := e - 4000, hold := e - 1000, edge := e }] } }

/-- The Gaffer starts the round of an activation (07 R261, R262). -/
def execActivationRound (k : Fin 2) (s : State) : Host.Outcome State Fault Refusal :=
  .next (match (s.slot k).edge with
    | some e => if s.roundDue k e then s.startRound k e else s
    | none => s)

/-- The sequencers that hold COMMIT of an activation (06 R235, 07 R262). -/
def State.activationHolders (s : State) (k : Nat) : List Nat :=
  (List.range 64).filter (fun c => (s.ni c).staged.any (fun x =>
    x.src == niGaffer && x.committed && x.msg == .activation k))

/-- The edge E of an activation (07 R263). -/
def State.activationDue (s : State) (k : Nat) : State :=
  let x := s.slot k
  match x.edge with
  | some e =>
    if x.state = .activating ∧ x.committed ∧ e ≤ s.time.t64 then
      let holders := s.activationHolders k
      let s1 := holders.foldl (fun u c => u.unstage c (fun y => y.src == niGaffer && y.msg == .activation k)) s
      s1.activate k holders e
    else s
  | none => s

/-- The edge E of an activation comes (07 R263). -/
def execActivationEdge (k : Fin 2) (s : State) : Host.Outcome State Fault Refusal := .next (s.activationDue k)

/-! ### The library (07 R266, R276) -/

/-- Who may delete an entry: a MAINTENANCE session with EPOCH 0, or the holder of every zone in *Zones*, stamped with
the lowest zone's epoch (07 R276, 11 R428, R434). -/
def State.deleteGate (s : State) (n : SessionNo) (role : Role) (epoch : Nat) (zones : List Nat) : Abort × Nat :=
  if role ∉ rStage then (.noAccess, 0)
  else if role = .maintenance ∧ epoch = 0 then (.ok, 0)
  else match zones.head?, s.zoneNotHeld n zones with
    | none, _ => if epoch = 0 then (.ok, 0) else (.badMessage, 0)
    | some z, none => s.epochCheck (0x10 + z) n epoch
    | some _, some m => if role = .maintenance then (.badMessage, 0) else (.notHolder, 0x10 + m)

/-- *Delete* of a library entry (07 R266, R276). -/
def execLibraryDelete (q : Req) (e : Fin 32) (b : List Nat) (s : State) : Host.Outcome State Fault Refusal :=
  .next (s.serve q (fun t ss =>
    if t.op.state = .halt then refuse t .noObject
    else match t.deleteGate q.session ss.role q.epoch (imageZones (t.image e)) with
    | (.ok, _) =>
      let st := (t.lib e).state
      (match firstFail [
          (b.length != 1, .typeMismatch, 0),
          (decide (1 < b.headD 0), .range, 0),
          (b.headD 0 != 0 && st != .verified && st != .retired, .wrongState, 0)] with
      | (.ok, _) => { state := if b.headD 0 = 0 then t else t.modLib e (fun _ => {}) }
      | (c, d) => refuse t c d)
    | (c, d) => refuse t c d))

/-! ### Firmware uploads (07 R269, R270) -/

/-- *FwHeader*: one segment holds the whole header (07 R267, R269). -/
def execFwHeader (q : Req) (b : List Nat) (s : State) : Host.Outcome State Fault Refusal :=
  .next (s.serveSegment q (okey 0x8600 6) 0 true b [] (fun t _ =>
    match fwHeaderCheck (octets b) with
    | (.ok, _) => { state := t.startUpload (octets b) }
    | (c, d) => refuse t c d))

/-- A segment of *FwBody* (07 R269). -/
def execFwBody (q : Req) (off : Fin 4294967296) (last : Bool) (data : List Nat) (s : State) : Host.Outcome State Fault Refusal :=
  .next (s.serveSegment q (okey 0x8600 7) off last data [] (fun t _ =>
    match t.blank.upload with
    | none => refuse t .wrongState
    | some u => match streamCheck u.data.length u.total off last data.length with
      | (.ok, _) => { state := t.growUpload u (octets data) }
      | (c, d) => refuse t c d))

end Sys2Proof.Machine
end

