-- ==== Sys2Proof/Machine/EnergyOps.lean ====
section
/-!
DEFINITION. The energy unit's operations: the interval grid, tariffs and billing, the work at a boundary, the
forecast and advisory, and cuts, restores, provisional spans and steps (13).
-/

namespace Sys2Proof.Machine

/-! ### The grid -/

/-- The length of an interval of `m` minutes, in ns (13 R491). -/
def intervalNs (m : Nat) : Nat := m * 60000000000

/-- What every boundary of a grid leaves over its length (13 R491). -/
def gridOffset (m : Nat) (tai : Bool) (utc : Int) : Nat :=
  if tai then 0 else ((utc * 1000000000).emod (intervalNs m)).toNat

/-- The first boundary of a grid after an instant (13 R491). -/
def nextBoundary (m : Nat) (tai : Bool) (utc : Int) (t : T64) : T64 :=
  let d := intervalNs m
  let g := gridOffset m tai utc
  (t + d - g) / d * d + g

/-- An instant lies on a grid (13 R491, R493). -/
def onGrid (m : Nat) (tai : Bool) (utc : Int) (b : T64) : Bool :=
  let d := intervalNs m
  (b + d - gridOffset m tai utc) % d == 0

/-- *IntervalMinutes* as set. -/
def State.setMinutes (s : State) : Nat := s.num 0x6000 1 15

/-- *Alignment* as set is TAI. -/
def State.setTai (s : State) : Bool := s.num 0x6000 2 0 == 1

/-- Takes the grid as set when the boundary lies on it, and opens an interval at `t` (13 R491, R493). -/
def State.openInterval (s : State) (t : T64) (flags : Nat) : State :=
  let new := onGrid s.setMinutes s.setTai s.time.utcOffset t
  let m := if new then s.setMinutes else s.energy.minutes
  let a := if new then s.setTai else s.energy.tai
  { s with energy := { s.energy with
      minutes := m, tai := a, start := t, stop := nextBoundary m a s.time.utcOffset t, energy := [], flags } }

/-! ### Demand -/

/-- The demand of an energy over a nominal interval, in W (13 R494). -/
def demandOf (e m : Nat) : Nat := e * 3 / (50 * m)

/-- The energy of the sources that *DemandSources* selects (13 R494). -/
def State.billing (s : State) (e : Tab Nat) : Nat :=
  (((List.range 4).filter (fun k => (s.num 0x6000 4 1).testBit k)).map (tget 0 e)).sum

/-- One source, as it stands. -/
def State.source (s : State) (k : Nat) : EnergySource := tget {} s.energy.sources k

/-- Changes one source. -/
def State.modSource (s : State) (k : Nat) (f : EnergySource → EnergySource) : State :=
  { s with energy := { s.energy with sources := tmod {} s.energy.sources k f } }

/-- A source counts: it is enabled and the unit accepts energy (13 R485, R505). -/
def State.counting (s : State) (k : Nat) : Bool :=
  s.energy.accepting && s.flagOn (0x6010 + k) 1 (decide (k ≥ 2))

/-- Accepts energy of a source, in mWh: the current tariff's register and the open interval take it, or the
provisional register during a provisional span (13 R490, R507). -/
def State.accept (s : State) (k mwh : Nat) : State :=
  if mwh = 0 then s
  else
    let u := s.energy
    let window := s.num 0x6000 7 60 * 1000000000
    let recent := (s.now, if (s.num 0x6000 4 1).testBit k then mwh else 0) ::
      u.recent.filter (fun p => decide (s.now < p.1 + window))
    { s with energy :=
        if u.provisional then { u with provEnergy := tmod 0 u.provEnergy k (· + mwh), recent }
        else { u with regs := tmod 0 u.regs (4 * u.tariff + k) (· + mwh)
                      energy := tmod 0 u.energy k (· + mwh), recent } }

/-- Accepts energy counted in parts of `unit` to the mWh, carrying the remainder forward (13 R488, R489). -/
def State.acceptParts (s : State) (k parts unit : Nat) : State :=
  let c := (s.source k).carry + parts
  (s.modSource k (fun x => { x with carry := c % unit })).accept k (c / unit)

/-! ### Journal records -/

/-- Commits an energy record, or holds it while the Gaffer restarts, the oldest giving way beyond 64 KiB
(13 R501). -/
def State.energyCommit (s : State) (b : JBody) : State :=
  if s.gafferRuns then s.commit b
  else
    let held := s.energy.backlog ++ [b]
    let full := decide ((held.map (fun x => 32 + x.len)).sum > 65536)
    let s1 := { s with energy := { s.energy with backlog := if full then held.drop 1 else held } }
    if full then s1.alarm .alarm 0x0904 0 [] else s1

/-- Commits what was held (13 R501). -/
def State.energyFlush (s : State) : State :=
  s.energy.backlog.foldl (fun t b => t.commit b) { s with energy := { s.energy with backlog := [] } }

/-- ENERGY_COUNTERS for an instant (13 R509). -/
def State.countersRec (s : State) (t : T64) (flags : Nat) : JBody :=
  .counters { stamp := t, tariff := s.energy.tariff
              flags := flags ||| (if s.energy.provisional then 8 else 0)
              regs := s.energy.regs, prov := s.energy.provEnergy }

/-- ENERGY_INTERVAL of the open interval, ending at `stop` (13 R494, R509). -/
def EnergyUnit.intervalRec (u : EnergyUnit) (stop : T64) (flags : Nat) (tcut : T64 := 0) : IntervalRec :=
  { start := u.start, stop, tcut, tariff := u.tariff, flags, minutes := u.minutes, energy := u.energy
    demand := tmap 0 (fun _ e => demandOf e u.minutes) u.energy }

/-- Adds an interval record to *IntervalHistory* (13 R510). -/
def EnergyUnit.keep (u : EnergyUnit) (r : IntervalRec) : EnergyUnit :=
  { u with history := (r :: u.history).take 1024, intervals := inc32 u.intervals }

/-! ### Tariffs and billing periods -/

/-- A schedule entry in use (13 R496). -/
structure ScheduleEntry where
  sub : Nat
  time : T64
  action : Nat
  tariff : Nat
  deriving DecidableEq, Repr

/-- The entry that a value spells, its fields most significant byte first (13 R496, 11 R402). -/
def entryOfValue (sub : Nat) (v : Val) : ScheduleEntry :=
  let b := match v with
    | .oct l => l
    | .num _ => []
  { sub, time := ofBytesBE (b.take 8), action := b.getD 8 0, tariff := b.getD 9 0 }

/-- The schedule's entries in use (13 R496). -/
def State.schedule (s : State) : List ScheduleEntry :=
  ((List.range 64).map (fun k => entryOfValue (k + 1) (s.val (okey 0x6030 (k + 1))))).filter
    (fun e => decide (1 ≤ e.action ∧ e.action ≤ 3))

/-- The entries that act at a boundary (13 R496). -/
def State.dueEntries (s : State) (b : T64) : List ScheduleEntry :=
  s.schedule.filter (fun e => decide (e.time ≤ b) && !s.energy.acted.contains e.sub)

/-- The entry with the latest TIME, on a tie the higher sub-index (13 R496). -/
def latestEntry (l : List ScheduleEntry) : Option ScheduleEntry :=
  l.foldl (fun a e => match a with
    | none => some e
    | some x => if x.time ≤ e.time then some e else some x) none

/-- The tariff a boundary brings, with its cause: a push decides, otherwise the schedule (13 R496, R497). -/
def State.tariffAt (s : State) (b : T64) : Option (Nat × Nat) :=
  let sched := (latestEntry ((s.dueEntries b).filter (fun e => e.action % 2 == 1))).map (fun e => (e.tariff, 0))
  match s.energy.push with
  | some p => if p.time ≤ b then some (p.tariff, 1) else sched
  | none => sched

/-- A billing close acts at a boundary (13 R496, R497). -/
def State.closeAt (s : State) (b : T64) : Bool :=
  s.energy.closeDue || (s.dueEntries b).any (fun e => decide (e.action ≥ 2))

/-- What acts at a boundary has acted (13 R496, R497). -/
def State.actAt (s : State) (b : T64) : State :=
  let u := s.energy
  { s with energy := { u with
      acted := (s.dueEntries b).map (·.sub) ++ u.acted
      push := match u.push with
        | some p => if p.time ≤ b then none else some p
        | none => none
      closeDue := false
      lastBoundary := b
      tariff := match s.tariffAt b with
        | some (t, _) => t
        | none => u.tariff } }

/-- An interval's part in its tariff's maximum demand (13 R499). -/
def State.takeMax (s : State) (r : IntervalRec) : State :=
  if r.flags.testBit 1 ∨ r.flags.testBit 3 then s
  else
    let w := demandOf (s.billing r.energy) r.minutes
    { s with energy := { s.energy with periods := tmod {} s.energy.periods 0 (fun p =>
        if (tget (0, 0) p.maxDemand r.tariff).1 < w then
          { p with maxDemand := tset (0, 0) p.maxDemand r.tariff (w, r.start) } else p) } }

/-- A billing close at a boundary: the history shifts and a new period starts (13 R498). -/
def EnergyUnit.closePeriod (u : EnergyUnit) (b : T64) : EnergyUnit :=
  let old := u.periods
  let first : BillingPeriod := { tget {} old 0 with stop := b, regs := u.regs }
  let shifted := (List.range 11).foldl (fun (t : Tab BillingPeriod) k => tset {} t (k + 2) (tget {} old (k + 1)))
    (tset {} [] 1 first)
  { u with periods := tset {} shifted 0 { start := b } }

/-! ### Forecast and advisory -/

/-- *RunningDemand*, *ForecastDemand* and *Advisory*, each rise of which raises ENERGY_ADVISORY
(13 R502, R503). -/
def State.forecast (s : State) : State :=
  let u := s.energy
  let m := u.minutes
  let e := s.billing u.energy
  let win := s.num 0x6000 7 60
  let lately := ((u.recent.filter (fun p => decide (s.now < p.1 + win * 1000000000))).map (·.2)).sum
  let running := demandOf e m
  let left := u.stop - s.time.t64
  let fc := (e * win * 1000000000 + lately * left) * 3 / (50 * m * win * 1000000000)
  let ceiling := s.num 0x6000 5 0
  let adv : Nat :=
    if ceiling = 0 ∨ u.provisional then 0
    else if running > ceiling then 3
    else if fc > ceiling then 2
    else if fc * 100 > ceiling * s.num 0x6000 6 90 then 1 else 0
  let s1 := { s with energy := { u with running, forecast := fc, advisory := adv } }
  if adv > u.advisory then s1.alarm .alarm 0x0903 0 (0 :: bytesLE 4 adv)
  else if adv = 0 then s1.clearAlarm 0x0903 0 else s1

/-! ### The work at a boundary -/

/-- A boundary's work in its order: close, switch, open, and the three records (13 R500). -/
def State.processBoundary (s : State) (b : T64) (extra : Nat) : State :=
  let u := s.energy
  let close := s.closeAt b
  let r := u.intervalRec b (u.flags ||| extra ||| (if close then 0x80 else 0))
  let s1 := s.takeMax r
  let s2 := if close then { s1 with energy := s1.energy.closePeriod b } else s1
  let s3 := (s2.actAt b).openInterval b extra
  let s4 := { s3 with energy := s3.energy.keep r }
  let s5 := (s4.energyCommit (s4.countersRec b 1)).energyCommit (.interval r)
  let s6 := if s5.energy.tariff = u.tariff then s5
    else s5.energyCommit (.tariff { at_ := b, tariff := s5.energy.tariff, previous := u.tariff
                                    cause := ((s.tariffAt b).map (·.2)).getD 0, flags := 0 })
  s6.forecast

/-- A boundary is due (13 R492, R505, R507). -/
def State.boundaryDue (s : State) : Bool :=
  s.energy.accepting && !s.energy.provisional &&
    decide (s.energy.stop ≤ s.time.t64 ∧ s.energy.lastBoundary < s.energy.stop)

/-- Boundaries up to the present, in order, at most `n` of them (13 R508). -/
def State.boundaries (extra : Nat) : Nat → State → State
  | 0, s => s
  | n + 1, s => if s.boundaryDue then State.boundaries extra n (s.processBoundary s.energy.stop extra) else s

/-- More than the boundaries that lie between two instants. -/
def boundaryFuel (a b : T64) : Nat := (b - a) / 60000000000 + 2

/-- The effect of a timebase step on the intervals, after T64 has moved (13 R508). -/
def State.energyStep (s : State) (before : T64) : State :=
  if !s.energy.accepting || s.energy.provisional then s
  else
    let s1 := { s with energy := { s.energy with flags := s.energy.flags ||| 0x10 } }
    State.boundaries 0x10 (boundaryFuel before s.time.t64) s1

/-! ### Cuts and restores -/

/-- The shed decision: a boundary at or before Tcut comes first, then no energy is accepted (13 R505). -/
def State.energyCut (s : State) (tcut : T64) : State :=
  let s1 := if s.boundaryDue ∧ s.energy.stop ≤ tcut then s.processBoundary s.energy.stop 0 else s
  { s1 with energy := { s1.energy with accepting := false, lastCut := tcut } }

/-- The switches and billing closes of the boundaries that passed during an outage, with their count and the
boundary and cause of the last switch (13 R506). -/
def State.walkOutage (tres : T64) : Nat → State → Nat → T64 × Nat → State × Nat × T64 × Nat
  | 0, s, n, sw => (s, n, sw.1, sw.2)
  | k + 1, s, n, sw =>
    let b := s.energy.stop
    if tres < b then (s, n, sw.1, sw.2)
    else
      let s1 := if s.closeAt b then { s with energy := s.energy.closePeriod b } else s
      let s2 := (s1.actAt b).openInterval b 0
      let sw1 := if s2.energy.tariff = s.energy.tariff then (sw.1, sw.2)
        else (b, ((s.tariffAt b).map (·.2)).getD 0)
      State.walkOutage tres k s2 (n + 1) sw1

/-- The OUTAGE record and TARIFF_STATE of a restore at Tres, and the interval that opens there (13 R506). -/
def State.outageTo (s : State) (tcut tres : T64) : State :=
  let stop := s.energy.stop
  let before := s.energy.tariff
  let w := s.walkOutage tres (boundaryFuel stop tres) 0 (s.energy.lastBoundary, 0)
  let s1 := w.1
  let n := w.2.1
  let last := s1.energy.lastBoundary
  let outage : IntervalRec :=
    { start := stop, stop := last, tariff := s1.energy.tariff, flags := 2, minutes := s1.energy.minutes
      count := n - 1, energy := [], demand := [] }
  let s2 := if n ≥ 2 then ({ s1 with energy := s1.energy.keep outage }).energyCommit (.interval outage) else s1
  let at_ := if s1.energy.tariff = before then last else w.2.2.1
  let s3 := s2.energyCommit (.tariff { at_, tariff := s1.energy.tariff, previous := before, cause := w.2.2.2
                                       flags := if at_ > tcut then 1 else 0 })
  let u := s3.energy
  { s3 with energy := { u with start := tres, energy := [], flags := 1
                               stop := nextBoundary u.minutes u.tai s3.time.utcOffset tres } }

/-- The newest journal record that a test accepts, and the newer records before it. -/
def findRec {α : Type} (f : JRec → Option α) : List JRec → Option α
  | [] => none
  | r :: t => match f r with
    | some a => some a
    | none => findRec f t

/-- A record's ENERGY_COUNTERS. -/
def JRec.counters? (r : JRec) : Option (Nat × CountersRec) :=
  match r.body with
  | .counters c => some (r.jseq, c)
  | _ => none

/-- A record's ENERGY_COUNTERS that opened an interval: at a boundary or at restore (13 R509). -/
def JRec.opening? (r : JRec) : Option CountersRec :=
  match r.body with
  | .counters c => if c.flags.testBit 0 || c.flags.testBit 2 then some c else none
  | _ => none

/-- Tcut of the last SHED record after a JSEQ (13 R506). -/
def JRec.shedAfter (j : Nat) (r : JRec) : Option T64 :=
  match r.body with
  | .shed t _ => if j < r.jseq then some t else none
  | _ => none

/-- Energy per source between two readings of the registers (13 R506). -/
def energyBetween (a b : Tab Nat) : Tab Nat :=
  (List.range 4).foldl (fun (t : Tab Nat) k => tset 0 t k
    (((List.range 8).map (fun g => tget 0 b (4 * g + k))).sum - ((List.range 8).map (fun g => tget 0 a (4 * g + k))).sum)) []

/-- The energy unit starts: its heads' baselines, silence and forecast begin anew (13 R487, R488). -/
def State.energyFresh (s : State) : State :=
  { s with energy := { s.energy with
      accepting := true, heads := [], recent := [], restoreAt := s.now, countersAt := s.now, forecastAt := s.now
      sampleAt := s.now, longRaised := false, running := 0, forecast := 0, advisory := 0, lastRestore := s.time.t64
      sources := (List.range 4).foldl (fun (t : Tab EnergySource) k =>
        tmod {} t k (fun x => { x with silent := false, lastPulse := s.now, carry := 0 })) s.energy.sources } }

/-- A first start: tariff 0, and the interval in which the unit starts (13 R495, R506). -/
def State.energyFirst (s : State) (prov : Bool) : State :=
  let t := s.time.t64
  let s1 := { s with energy := { s.energy with
      regs := [], provEnergy := [], tariff := 0, energy := [], provisional := prov, firstStart := true
      minutes := s.setMinutes, tai := s.setTai, start := t, flags := 1
      stop := nextBoundary s.setMinutes s.setTai s.time.utcOffset t } }
  (s1.energyCommit (s1.countersRec t 4)).energyCommit
    (.tariff { at_ := t, tariff := 0, previous := 0, cause := 2, flags := if prov then 2 else 0 })

/-- The restore at start-up, from the last records of the journal (13 R506, R507). -/
def State.energyRestore (s : State) : State :=
  let f := s.energyFresh
  let journalTime := s.time.origin == .journal
  match findRec JRec.counters? s.store.journal with
  | none => f.energyFirst journalTime
  | some (j, c) =>
    let opening := findRec JRec.opening? s.store.journal
    let shed := findRec (JRec.shedAfter j) s.store.journal
    let tcut := shed.getD c.stamp
    let prov := journalTime || c.flags.testBit 3
    let tres := s.time.t64
    let u := f.energy
    let s1 : State := { f with energy := { u with
        regs := c.regs, provEnergy := c.prov, tariff := c.tariff, provisional := prov, firstStart := false
        lastCut := tcut, outages := inc32 u.outages
        energy := energyBetween ((opening.map (·.regs)).getD []) c.regs } }
    let s2 := s1.energyCommit (s1.countersRec tres 4)
    let close := !prov && decide (u.stop ≤ tres) && s1.closeAt u.stop
    let r := s1.energy.intervalRec u.stop
      (1 ||| (if prov then 4 else 0) ||| (if shed = none then 0x20 else 0) ||| (if close then 0x80 else 0)) tcut
    let s3 := ({ s2 with energy := s2.energy.keep r }).energyCommit (.interval r)
    if prov then
      s3.energyCommit (.tariff { at_ := s3.energy.lastBoundary, tariff := c.tariff, previous := c.tariff
                                 cause := 0, flags := 2 })
    else (s3.takeMax r).outageTo tcut tres

/-- The share of a provisional energy that falls between two instants of a span, so that the shares of a whole
span add up to the energy (13 R507). -/
def shareOf (e tres span a b : Nat) : Nat :=
  if span = 0 then e else e * (b - tres) / span - e * (a - tres) / span

/-- Gives the open interval its share of the provisional energy (13 R507). -/
def State.giveShare (s : State) (prov : Tab Nat) (tres span a b : Nat) : State :=
  (List.range 4).foldl (fun (t : State) k =>
    let n := shareOf (tget 0 prov k) tres span a b
    { t with energy := { t.energy with regs := tmod 0 t.energy.regs (4 * t.energy.tariff + k) (· + n)
                                       energy := tmod 0 t.energy.energy k (· + n) } }) s

/-- Spreads the provisional energy over the intervals from Tres to the present, processing each boundary
(13 R507). -/
def State.spread (prov : Tab Nat) (tres span : Nat) : Nat → State → Nat → State
  | 0, s, _ => s
  | k + 1, s, a =>
    if s.energy.stop ≤ s.time.t64 then
      let b := s.energy.stop
      let s1 := s.giveShare prov tres span a b
      State.spread prov tres span k
        (({ s1 with energy := { s1.energy with flags := s1.energy.flags ||| 8 } }).processBoundary b 0) b
    else
      let s1 := s.giveShare prov tres span a s.time.t64
      if a > tres then { s1 with energy := { s1.energy with flags := s1.energy.flags ||| 8 } } else s1

/-- A provisional interval record's FINAL copy (13 R507, R509). -/
def IntervalRec.final (r : IntervalRec) (close : Bool) : IntervalRec :=
  { r with flags := (r.flags &&& 0xFB) ||| 0x40 ||| (if close then 0x80 else 0) }

/-- *TimeOrigin* reads PTP: the provisional span ends (13 R507). -/
def State.provisionalConfirm (s : State) : State :=
  let u := s.energy
  if !u.provisional then s
  else
    let t := s.time.t64
    let back := t - (s.now - u.restoreAt)
    let tres := if u.firstStart then back else max back u.lastCut
    let s1 := { s with energy := { u with provisional := false, provEnergy := [], longRaised := false } }
    let s2 := (s1.energyCommit (s1.countersRec t 0)).clearAlarm 0x0905 0
    let prov : List IntervalRec := u.history.filter (fun r => r.flags.testBit 2)
    let close := decide (u.stop ≤ tres) && s1.closeAt u.stop
    let fin : IntervalRec → IntervalRec := fun r => r.final (close && r.stop == u.stop)
    let s3 := prov.reverse.foldl (fun (x : State) r => (x.energyCommit (.interval (fin r))).takeMax (fin r)) s2
    let s4 := { s3 with energy := { s3.energy with
        history := s3.energy.history.map (fun (r : IntervalRec) => if r.flags.testBit 2 then fin r else r) } }
    let s5 := if u.firstStart then
        { s4 with energy := { s4.energy with
            start := tres, energy := [], flags := 1, firstStart := false
            stop := nextBoundary u.minutes u.tai s4.time.utcOffset tres } }
      else s4.outageTo u.lastCut tres
    (State.spread u.provEnergy tres (t - tres) (boundaryFuel tres t) s5 tres).forecast

/-! ### Heads and settings -/

/-- An ENERGY report of a head, by its serial (13 R488). -/
def State.headEnergy (s : State) (ring serial ecum rcount : Nat) : State :=
  if !s.counting 2 then s
  else
    let u := s.energy
    let known := tget none u.heads serial
    let delta : Nat := match known with
      | none => 0
      | some h => if h.ecum ≤ ecum then ecum - h.ecum else ecum
    let restarted : Bool := match known with
      | none => false
      | some h => decide (ecum < h.ecum)
    let gap : Nat := match known with
      | none => 0
      | some h => (rcount + 65535 - h.rcount) % 65536
    let s1 := { s with energy := { u with
        heads := tput serial (some { ecum, rcount }) u.heads
        rings := tmod {} u.rings ring (fun x =>
          { x with energy := x.energy + (x.carry + delta) / 1000, carry := (x.carry + delta) % 1000
                   restarts := if restarted then inc32 x.restarts else x.restarts
                   dropped := if restarted then x.dropped else (x.dropped + gap) % 2 ^ 32
                   reporting := if serial ∈ x.reporting then x.reporting else serial :: x.reporting }) } }
    (s1.modSource 2 (fun x => { x with counts := inc32 x.counts })).acceptParts 2 delta 1000

/-- What the energy unit does when an object of its group takes effect: a new constant starts N at 0, a new
entry may act, an enabled source begins to count (13 R487, R496). -/
def State.energyApplied (s : State) (key : Nat) : State :=
  let i := key / 256
  let sub := key % 256
  if i = 0x6030 then { s with energy := { s.energy with acted := s.energy.acted.filter (· ≠ sub) } }
  else if (i = 0x6010 ∨ i = 0x6011) ∧ sub = 2 then s.modSource (i - 0x6010) (fun x => { x with n := 0 })
  else if (i = 0x6010 ∨ i = 0x6011) ∧ sub = 1 then
    s.modSource (i - 0x6010) (fun x => { x with lastPulse := s.now, silent := false })
  else s

end Sys2Proof.Machine
end

