-- ==== Sys2Proof/Machine/Net.lean ====
section
/-!
DEFINITION. The commands of the packet network but the ATOMIC decisions of the Gaffer (06 R201 to R238, 12 R483).
-/

namespace Sys2Proof.Machine

/-! ### Requests at a target (06 R203 to R205) -/

/-- A packet's fields cut to their widths (06 R202). -/
def wirePacket (p : Packet) : Packet :=
  { p with opc := p.opc % 32, len := p.len % 16, zone := p.zone % 16, dst := p.dst % 128, src := p.src % 128, tag := p.tag % 64
           epo := p.epo % 16, addr := p.addr % 2 ^ 24, data := p.data.map (· % 2 ^ 64), route := p.route % 2 ^ 48 }

/-- A request of one opcode reaches a target. -/
def State.request (s : State) (n opc : Nat) (p : Packet) : State :=
  let q := { wirePacket p with opc := opc, dst := n }
  (s.observe q).reach n (.packet q)

/-- RD: a target serves a read (06 R203). -/
def execRd (n : Fin 78) (p : Packet) (s : State) : Host.Outcome State Fault Refusal := .next (s.request n 0x01 p)

/-- WR: a target serves a write (06 R203). -/
def execWr (n : Fin 78) (p : Packet) (s : State) : Host.Outcome State Fault Refusal := .next (s.request n 0x02 p)

/-- WRM: a target serves a byte-masked write (06 R203). -/
def execWrm (n : Fin 78) (p : Packet) (s : State) : Host.Outcome State Fault Refusal := .next (s.request n 0x03 p)

/-- SWAP (06 R203). -/
def execSwap (n : Fin 78) (p : Packet) (s : State) : Host.Outcome State Fault Refusal := .next (s.request n 0x04 p)

/-- FADD (06 R203). -/
def execFadd (n : Fin 78) (p : Packet) (s : State) : Host.Outcome State Fault Refusal := .next (s.request n 0x05 p)

/-- CAS (06 R203). -/
def execCas (n : Fin 78) (p : Packet) (s : State) : Host.Outcome State Fault Refusal := .next (s.request n 0x06 p)

/-- QPUSH: a target appends words to the named queue (06 R203). -/
def execQpush (n : Fin 78) (p : Packet) (s : State) : Host.Outcome State Fault Refusal := .next (s.request n 0x07 p)

/-- MSG: a control message; what must use ATOMIC is refused with UNSUPPORTED (06 R203, R236). -/
def execMsg (n : Fin 78) (p : Packet) (m : Option StagedMsg) (s : State) : Host.Outcome State Fault Refusal :=
  .next (match m with
    | none => s.request n 0x08 p
    | some _ =>
      let q := { wirePacket p with opc := 0x08, dst := n.val }
      ((s.observe q).niBusy n).respond n q .unsupported [])

/-- ATOMIC_STAGE (06 R235). -/
def execAtomicStage (n : Fin 78) (q : StageReq) (s : State) : Host.Outcome State Fault Refusal :=
  .next ((s.observe (s.stagePacket n q)).reach n (.stage q))

/-- ATOMIC_COMMIT (06 R235). -/
def execAtomicCommit (n : Fin 78) (p : Packet) (s : State) : Host.Outcome State Fault Refusal := .next (s.request n 0x0A p)

/-- ATOMIC_ABORT (06 R235). -/
def execAtomicAbort (n : Fin 78) (p : Packet) (s : State) : Host.Outcome State Fault Refusal := .next (s.request n 0x0B p)

/-- CSYNC (06 R230). -/
def execCsync (n : Fin 78) (p : Packet) (s : State) : Host.Outcome State Fault Refusal := .next (s.request n 0x0C p)

/-! ### Guaranteed streams (06 R224, R225) -/

/-- A flow. -/
def State.flow (s : State) (f : Nat) : Flow := tget {} s.net.flows f

/-- Changes one flow. -/
def State.modFlow (s : State) (f : Nat) (g : Flow → Flow) : State :=
  { s with net := { s.net with flows := tmod {} s.net.flows f g } }

/-- The task whose input queue a flow fills: its address names a queue of its target cluster (06 R205, R224). -/
def State.flowTask (s : State) (x : Flow) : Option Nat :=
  if x.target < 64 ∧ 0x110000 ≤ x.addr ∧ x.addr < 0x110100 then s.queueTask x.target (x.addr - 0x110000) else none

/-- A packet found its flow queue full and is discarded whole (06 R224). -/
def State.flowOverrun (s : State) (f : Nat) : State := s.modFlow f (fun y => { y with overruns := inc32 y.overruns })

/-- The words of a guaranteed packet enter its flow queue (06 R224, R225). -/
def State.flowArrives (s : State) (f : Nat) (words : List Nat) : State :=
  let x := s.flow f
  if s.niGated x.target then { s with net := { s.net with gtDropped := inc32 s.net.gtDropped } }
  else match s.flowTask x with
    | some n => (s.pushQueue n words).getD (s.flowOverrun f)
    | none =>
      if x.queue.length + words.length ≤ x.size then s.modFlow f (fun y => { y with queue := y.queue ++ words })
      else s.flowOverrun f

/-- GWR: a guaranteed packet of an allotted flow arrives (06 R203, R224, R225). -/
def execGwr (f : Fin 64) (words : List (Fin 18446744073709551616)) (s : State) : Host.Outcome State Fault Refusal :=
  .next (let x := s.flow f
    if x.runs = 0 then s
    else
      let d := words.map Fin.val
      (s.observe { opc := 0x10, len := d.length % 16, zone := (s.niZone x.source).getD 0, dst := x.target, src := x.source, tag := 0
                   epo := 0, addr := x.addr, data := d }).flowArrives f d)

/-! ### Responses, timeouts and drops (06 R201, R220, R228, R229) -/

/-- RSP: a response reaches its initiator (06 R204, R229). -/
def execRsp (n : Fin 78) (p : Packet) (s : State) : Host.Outcome State Fault Refusal :=
  .next (s.rspArrives n { wirePacket p with opc := 0x18, dst := n })

/-- The class timeout of a tag's overdue targets (06 R228). -/
def execRequestTimeout (n : Fin 78) (k : Fin 64) (s : State) : Host.Outcome State Fault Refusal :=
  .next (match tget none (s.ni n).tags k with
    | none => s
    | some t => (((s.overdue t).foldl (fun u w => u.timeout1 n k w) s).releaseEntries n).issueHeld n)

/-- A router drops a packet at an output: ZONE_DENIED where its mask does not admit the packet's zone, else
ROUTE_ERR for a packet that breaks R215; a response or a guaranteed packet is counted and logged (06 R220). -/
def execRouterDrop (r : Fin 78) (port : Fin 6) (p : Packet) (s : State) : Host.Outcome State Fault Refusal :=
  .next (
    let q := wirePacket p
    if q.opc = 0x18 ∨ q.opc = 0x10 then
      State.record { s with net := { s.net with routerDrops := inc32 s.net.routerDrops } } .general .fault niGaffer 0x0302
        (netDetail r q)
    else
      let denied := !(tget 0x100 s.net.allow (8 * r.val + port.val)).testBit q.zone
      let back := response q.dst { q with zone := zoneSys } (if denied then .zoneDenied else .routeErr) []
      s.emit (.packet r { back with sr := sourceRouted r q.src
                                    route := if sourceRouted r q.src then routeOf (turnCodes r q.src) else 0 }))

/-- A router discards a packet with an uncorrectable flit (06 R201). -/
def execLinkUncorrectable (r : Fin 78) (p : Packet) (s : State) : Host.Outcome State Fault Refusal :=
  .next (State.record { s with net := { s.net with linkUncorrected := inc32 s.net.linkUncorrected } } .general .fault niGaffer
    0x0301 (netDetail r (wirePacket p)))

/-! ### Descriptors and staged messages (06 R235, R237) -/

/-- The descriptors from the next to take up to the producer word, in ring order (06 R237). -/
def newDescriptors (size consumer v : Nat) : List Nat :=
  (List.range ((v + size - consumer) % size)).map (fun i => (consumer + i) % size)

/-- A store to the producer word of a cluster's ring (06 R237). -/
def execDescriptorProducer (c : Fin 64) (v : Fin 256) (s : State) : Host.Outcome State Fault Refusal :=
  .next (let x := s.ni c
    if x.ringSize ≤ v.val ∨ s.niGated c then s
    else (s.modNi c (fun y =>
      { y with producer := v, consumer := v, held := y.held ++ newDescriptors y.ringSize y.consumer v })).issueHeld c)

/-- MSG MISS of a member to an initiator (06 R235). -/
def State.sendMiss (s : State) (n : Nat) (e : StagedEntry) : State :=
  s.emit (.packet n { opc := 0x08, zone := (s.niZone n).getD zoneSys, dst := e.src, src := n, tag := e.tag, epo := 0, addr := 0 })

/-- A member drops what it still holds after HOLD without COMMIT or ABORT (06 R235). -/
def execAtomicHoldExpiry (n : Fin 78) (s : State) : Host.Outcome State Fault Refusal :=
  .next (
    let late := fun (e : StagedEntry) => !e.committed && decide (e.hold < s.time.t64)
    ((s.ni n).staged.filter late).foldl (fun u e => u.sendMiss n e) (s.unstage n late))

/-- At a frame boundary every router swaps its slot tables (06 R221). -/
def execSlotTableSwap (s : State) : Host.Outcome State Fault Refusal :=
  .next (if s.now % 512 = 0 then { s with net := { s.net with slots := s.net.shadow, shadow := s.net.slots } } else s)

/-! ### Probes (06 R238, 12 R483) -/

/-- A write of PRB_CTL by a session; CLR zeroes the counters and the pointer (06 R238). -/
def execProbeClear (q : Req) (k : Fin 16) (b : List Nat) (s : State) : Host.Outcome State Fault Refusal :=
  .next (s.serveBytes q (okey (0x7100 + k) 1) b
    (fun t _ v => firstFail [(((t.probe k).write t.nclk 0 (valNat v)).isNone, .range, 0)])
    (fun t _ v => { state := match (t.probe k).write t.nclk 0 (valNat v) with
      | some x => t.modProbe k (fun _ => x)
      | none => t }))

/-- A trace record of 16 bytes (06 R238). -/
def traceRecord (x : Nat × Nat × Nat) : List Nat := bytesLE 8 x.1 ++ bytesLE 4 x.2.1 ++ bytesLE 4 x.2.2

/-- The trace buffer: record i of the list at its place, the oldest at the pointer when the buffer has wrapped
(06 R238). -/
def Probe.buffer (x : Probe) : List Nat :=
  let l := if x.wrapped then x.trace.drop (256 - x.tptr) ++ x.trace.take (256 - x.tptr) else x.trace
  l.flatMap traceRecord ++ List.replicate (4096 - 16 * l.length) 0

/-- An archive slot's 8 KiB (12 R483). -/
def archiveBytes (k aseq : Nat) (t : T64) (x : Probe) : List Nat :=
  let head := [0x4C, 0x5A, 0x54, 0x52, k, 0, 0, 0] ++ bytesLE 4 aseq ++ bytesLE 8 t
  let regs := (List.range 13).flatMap (fun i => bytesLE 8 (x.reg i))
  let l := head ++ List.replicate (0x40 - head.length) 0 ++ regs ++ List.replicate (0x100 - 0x40 - regs.length) 0 ++ x.buffer
  l ++ List.replicate (8192 - l.length) 0

/-- A probe that has stopped in TRACE_STOP and is to be archived has its trace written to the next slot, once per
second at most (12 R483). -/
def execTraceArchive (k : Fin 16) (s : State) : Host.Outcome State Fault Refusal :=
  .next (let x := s.probe k
    match x.stoppedAt with
    | some t =>
      if x.saved ∨ x.ctl / 2 % 4 ≠ 1 ∨ !(s.num 0x8050 1 0).testBit k ∨ !x.archivedAt.all (fun a => decide (a + 1000000000 ≤ s.now)) then s
      else { s.modProbe k (fun y => { y with archivedAt := some s.now, saved := true }) with
             store := { s.store with archive := tset [] s.store.archive s.store.archiveNext (archiveBytes k s.store.aseq t x)
                                     archiveNext := (s.store.archiveNext + 1) % 128, aseq := inc32 s.store.aseq } }
    | none => s)

end Sys2Proof.Machine
end

