-- ==== Sys2Proof/Machine/TimeOps.lean ====
section
/-!
DEFINITION. The timebase's operations: F and its limits, the judging of samples, steps, and holdover (02 R48 to
R65, R90).
-/

namespace Sys2Proof.Machine

/-- 1 ppm of F: REF is multiplied by 80 + F × 2^-40 (02 R47, R48). -/
def ppmF : Int := 87960930

/-- F stays within ±60 ppm (02 R48). -/
def clampF (f : Int) : Int := clampInt (-5277655813) 5277655813 f

/-- F at an instant, on its way to its target at 1 ppm per second (02 R48). -/
def TimeUnit.freqAt (t : TimeUnit) (now : Nat) : Int :=
  let step := ppmF * (now - t.fAt : Nat) / 1000000000
  if t.f < t.fTarget then min t.fTarget (t.f + step) else max t.fTarget (t.f - step)

/-- Twice F's area beyond the learned frequency from `fAt` to an instant, in F·ns (02 R48, R60). -/
def TimeUnit.area2 (t : TimeUnit) (now : Nat) : Int :=
  let dt : Int := ((now - t.fAt : Nat) : Int)
  let d := t.fTarget - t.f
  let ramp : Int := ((d.natAbs * 1000000000 / 87960930 : Nat) : Int)
  if dt < ramp then (t.f + t.freqAt now - 2 * t.learned) * dt
  else 2 * (t.fTarget - t.learned) * dt - d * ramp

/-- Brings F to the present, and with it how far the servo has moved device time, in ps (02 R48, R60). -/
def TimeUnit.integrate (t : TimeUnit) (now : Nat) : TimeUnit :=
  { t with f := t.freqAt now, fAt := now
           moved := t.moved + (t.area2 now * 1000).fdiv (2 * 80 * 2 ^ 40) }

/-- Quality after a judged offset in ps: outside ±100 ns it is NONE, outside ±4 ns at most COARSE (02 R58). -/
def TbQuality.lowered (q : TbQuality) (o : Int) : TbQuality :=
  if o.natAbs > 100000 then .none
  else if o.natAbs > 4000 then (if q = .fine then .coarse else q) else q

/-- The servo acts: its states, and the Gaffer running (02 R627). -/
def State.servoRuns (s : State) : Bool :=
  s.gafferRuns && (s.op.state == .service || s.op.state == .run || s.op.state == .sleep)

/-- *OutlierLimit* in ps (02 R60). -/
def State.outlierLimit (s : State) : Nat := s.num 0x1303 1 200 * 1000

/-- *StepThreshold* in ps (02 R63). -/
def State.stepThreshold (s : State) : Nat := s.num 0x1303 4 1000000 * 1000

/-- Insertion into a rising list. -/
def insertInt (a : Int) : List Int → List Int
  | [] => [a]
  | b :: t => if a ≤ b then a :: b :: t else b :: insertInt a t

/-- Twice the median of a list, the mean of the middle two where its length is even (02 R60). -/
def median2 (l : List Int) : Int :=
  let o := l.foldr insertInt []
  o.getD ((o.length - 1) / 2) 0 + o.getD (o.length / 2) 0

/-- A sample is an outlier against the last 16 accepted ones, their offsets adjusted by what the servo has moved
since, their delays as measured (02 R60). -/
def TimeUnit.outlier (t : TimeUnit) (limit : Nat) (o d : Int) : Bool :=
  t.accepted.length ≠ 0 &&
    (decide ((2 * o - median2 (t.accepted.map (fun x => x.offset - (t.moved - x.moved)))).natAbs > 2 * limit) ||
      decide ((2 * d - median2 (t.accepted.map (·.delay))).natAbs > 2 * limit))

/-- A DETAIL of one signed 64-bit number (17 R622). -/
def detailI64 (v : Int) : List Nat := bytesLE 8 (v.emod (2 ^ 64)).toNat

/-- Entry to HOLDOVER: F returns to the learned frequency, adjusted by the temperature model alone
(02 R61). -/
def State.holdoverEntry (s : State) : State :=
  let t := s.time.integrate s.now
  ({ s with time := { t with
      state := .holdover, holdoverAt := s.now, holdovers := inc32 t.holdovers, candidates := [], rejectRun := 0
      fTarget := clampF (t.learned + Config.temperatureModel s.power.junction), disciplinedAt := none } }).record
    .general .time niGaffer 0x0501 (detailI64 (t.offset.fdiv 1000))

/-- Time-keyed events that have not reached lock-in and now lie less than 20 µs ahead or in the past are dropped as
missed; a staging group judges its own members (02 R64, 09 R342). -/
def State.dropStepped (s : State) : State :=
  (List.range 16).foldl (fun (u : State) r =>
    (u.ringAt r).events.foldl (fun (v : State) e =>
      let soon : Bool := match e.key with
        | .time w => decide (w < v.time.t64 + 20000)
        | .angle _ _ => false
      let own : Bool := match e.group with
        | some g => match (v.ringAt r).group? g with
          | some x => x.atomic
          | none => false
        | none => false
      if soon ∧ !own ∧ e.stage ≠ .frozen then v.completeMember r e .missed v.time.t64 else v) u) s

/-- The timebase steps by an offset in ps at one TCLK edge (02 R63, R64, 08 R290, 13 R508). -/
def State.timeStep (s : State) (o : Int) : State :=
  let ns := (o + 500).fdiv 1000
  let before := s.time.t64
  let after := ((before : Int) + ns).toNat
  let s1 := { s with
    time := { s.time with t64 := after, moved := s.time.moved + ns * 1000, steps := inc32 s.time.steps }
    ring := { s.ring with epoch := (s.ring.epoch + 1) % 256 } }
  let s2 := s1.dropStepped.commit (.timeStep ns before after)
  (s2.record .general .time niGaffer 0x0502 (detailI64 ns)).energyStep before

/-- The slew's target for an offset in ps: at most 10 ppm beyond the learned frequency (02 R48, R63). -/
def TimeUnit.slewFor (t : TimeUnit) (o : Int) : Int :=
  clampF (t.learned + clampInt (-879609302) 879609302 (Config.slewFrequency o))

/-- The offset that remains now of the one last estimated, in ps (02 R63, R90). -/
def TimeUnit.remainder (t : TimeUnit) : Int :=
  t.offset - (t.moved - (t.accepted.head?.map (·.moved)).getD t.moved)

/-- While QUENCHED, an offset kept for this by R90 is judged again, at a TCLK edge: stepped when it still exceeds
StepThreshold (02 R63, R90). -/
def State.judgeLarge (s : State) : State :=
  if s.alarmOn 0x0503 0 ∧ s.time.state = .disciplined ∧ !s.armed ∧ s.servoRuns then
    let s1 := { s with time := s.time.integrate s.now }
    let o := s1.time.remainder
    let s2 := s1.clearAlarm 0x0503 0
    if o.natAbs > s1.stepThreshold then
      let s3 := s2.timeStep o
      { s3 with time := { s3.time with offset := 0, fTarget := s3.time.slewFor 0
                                       quality := s3.time.quality.lowered 0 } }
    else s2
  else s

/-- The least-squares line of eight samples: eight times the sum of squares of their times less the square of the
sum, and the like for times and offsets, with the sums (02 R63). -/
def lineSums (l : List (Int × Int)) : Int × Int × Int × Int :=
  let n : Int := l.length
  let st := (l.map (·.1)).sum
  let su := (l.map (·.2)).sum
  let stt := (l.map (fun p => p.1 * p.1)).sum
  let stu := (l.map (fun p => p.1 * p.2)).sum
  (n * stt - st * st, n * stu - st * su, st, su)

/-- The candidates as (time, offset net of the servo's own work), newest first. -/
def TimeUnit.points (t : TimeUnit) : List (Int × Int) :=
  t.candidates.map (fun x => ((x.at_ : Int) - (t.candidates.head?.map (fun y => (y.at_ : Int))).getD 0,
    x.offset + x.moved))

/-- The candidates agree: the residuals about their line lie within OutlierLimit of one another (02 R63). -/
def TimeUnit.agree (t : TimeUnit) (limit : Nat) : Bool :=
  let p := t.points
  let k := lineSums p
  let res := p.map (fun q => k.1 * 8 * q.2 - k.1 * k.2.2.2 - k.2.1 * (8 * q.1 - k.2.2.1))
  t.candidates.length == 8 && decide (k.1 > 0) &&
    res.all (fun a => res.all (fun b => decide (a - b ≤ limit * (8 * k.1))))

/-- Entry to DISCIPLINED: the slope goes into the learned frequency, the line's value at the latest sample is the
offset to remove, by a step when it exceeds StepThreshold and the safety state is QUENCHED, otherwise by a slew
(02 R58, R63, R71, R90). -/
def State.lock (s : State) : State :=
  let t := s.time
  let k := lineSums t.points
  let slopeF := (k.2.1 * (80 * 2 ^ 40)).fdiv (1000 * k.1)
  let o := (k.1 * k.2.2.2 - k.2.1 * k.2.2.1).fdiv (8 * k.1) - t.moved
  let large := decide (o.natAbs > s.stepThreshold)
  let first := t.origin != .ptp
  let s1 := { s with time := { t with
    learned := clampF (t.learned + slopeF), state := .disciplined, disciplinedAt := some s.now, candidates := []
    rejectRun := 0, coarseRun := 0, fineRun := 0, origin := .ptp
    accepted := t.candidates.map (fun (x : PtpSample) =>
      { x with offset := x.offset + (k.2.1 * ((s.now : Int) - x.at_)).fdiv k.1 }) } }
  let s2 := if large ∧ !s.armed then s1.timeStep o else s1
  let left : Int := if large ∧ !s.armed then 0 else o
  let s3 := { s2 with time := { s2.time with
    offset := left, quality := t.quality.lowered left, fTarget := s2.time.slewFor left } }
  let s4 := if large ∧ s.armed then s3.alarm .time 0x0503 0 (detailI64 (o.fdiv 1000)) else s3
  if first then s4.provisionalConfirm else s4

/-- A sample while DISCIPLINED: rejected as an outlier, or accepted and judged (02 R58, R60, R61, R63). -/
def State.disciplinedSample (s : State) (x : PtpSample) : State :=
  let t := s.time
  if t.outlier s.outlierLimit x.offset x.delay then
    let s1 := { s with time := { t with outliers := inc32 t.outliers, rejectRun := t.rejectRun + 1 } }
    if t.rejectRun + 1 ≥ s.num 0x1303 2 4 then s1.holdoverEntry else s1
  else
    let acc := (x :: t.accepted).take 16
    let net := acc.map (fun y => (y.offset - (t.moved - y.moved), (y.at_ : Int)))
    let o := Config.offsetFilter net
    let coarse := if o.natAbs ≤ 100000 then t.coarseRun + 1 else 0
    let fine := if o.natAbs ≤ 4000 then t.fineRun + 1 else 0
    let q := t.quality.lowered o
    let q1 := if fine ≥ 64 then .fine else if coarse ≥ 16 ∧ q = .none then .coarse else q
    let t1 := { t with accepted := acc, rejectRun := 0, offset := o, coarseRun := coarse, fineRun := fine
                       quality := q1, learned := clampF (Config.learnedFrequency t.learned net) }
    let s1 : State := { s with time := { t1 with fTarget := t1.slewFor o } }
    if s1.alarmOn 0x0503 0 ∧ o.natAbs ≤ s1.stepThreshold then s1.clearAlarm 0x0503 0 else s1

/-- A sample in FREE or HOLDOVER: after eight that agree, and after GmSettle following a change of grandmaster,
the timebase locks (02 R61, R63). -/
def State.candidateSample (s : State) (x : PtpSample) : State :=
  let s1 := { s with time := { s.time with candidates := (x :: s.time.candidates).take 8 } }
  let settled : Bool := match s.time.gmChangedAt with
    | some c => decide (c + s.num 0x1303 5 2000 * 1000000 ≤ s.now)
    | none => true
  if settled ∧ s1.time.agree s1.outlierLimit then s1.lock else s1

/-- A completed Sync exchange on a port: the offset (master minus device) and the path delay, in ps, and
logSyncInterval (02 R56, R60, R65, R627). -/
def State.syncSample (s : State) (p : Port) (log offset delay : Int) : State :=
  if s.servoRuns ∧ -7 ≤ log ∧ log ≤ 0 then
    let t := s.time.integrate s.now
    let asym := s.setting 0x1302 (if p = .fa then 1 else 2) 0
    let x : PtpSample := { offset := offset - asym, delay, at_ := s.now, moved := t.moved }
    let s1 := { s with time := { t with lastSync := some s.now, syncLog := log } }
    if t.state = .disciplined then s1.disciplinedSample x else s1.candidateSample x
  else s

/-- One TCLK edge with nothing commanded, at which a step that R90 holds back may come (02 R49, R90). -/
def State.idle (s : State) : State := s.tick.judgeLarge

end Sys2Proof.Machine
end

