-- ==== Sys2Proof/Machine/ReadOps.lean ====
section
/-!
DEFINITION. The value of every object of the dictionary as a session reads it: block by block of the index map
(11 R450), each from the state that holds it.
-/

namespace Sys2Proof.Machine

/-! ### Pieces of values -/

/-- A number as a value. -/
def vnat (n : Nat) : Val := .num n

/-- A flag as a value. -/
def vbool (b : Bool) : Val := .num (if b then 1 else 0)

/-- Octets filled with 0 up to a length. -/
def padTo (n : Nat) (l : List Nat) : List Nat := l.take n ++ List.replicate (n - l.length) 0

/-- Text as octets. -/
def ascii (t : String) : List Nat := t.toList.map Char.toNat

/-- The numbers of a table at the first `n` keys, each as `w` bytes, most significant first (11 R402). -/
def packBE (w n : Nat) (t : Tab Nat) : List Nat := (List.range n).flatMap (fun k => bytesBE w (tget 0 t k))

/-- A signed number of `w` bytes, most significant byte first. -/
def intBE (w : Nat) (v : Int) : List Nat := bytesBE w (v.emod (2 ^ (8 * w))).toNat

/-- An abort code as a number (11 R438). -/
def Abort.code (c : Abort) : Nat :=
  let k := c.ctorIdx
  if k = 0 then 0
  else if k ≤ 11 then k
  else if k ≤ 24 then 0x100 + (k - 11)
  else if k ≤ 30 then 0x200 + (k - 24)
  else if k ≤ 44 then 0x300 + (k - 30)
  else if k ≤ 47 then 0x400 + (k - 44)
  else 0x500 + (k - 47)

/-- The code of a role (11 R411). -/
def Role.code (r : Role) : Nat := r.ctorIdx + 1

/-- Every role. -/
def allRoles : List Role := [.operator, .pattern, .energy, .maintenance, .safety, .observer]

/-! ### The directory (11 R405) -/

/-- The code of a type (11 R402). -/
def VType.code : VType → Nat
  | .bool => 1
  | .u8 => 2
  | .u16 => 3
  | .u32 => 4
  | .u64 => 5
  | .i16 => 7
  | .i32 => 8
  | .t64 => 10
  | .t80 => 11
  | .oct _ => 12
  | .octets => 13
  | .str _ => 14

/-- A value of fixed size of at most 16 bytes (11 R443). -/
def VType.small (t : VType) : Bool := t.size.any (fun n => decide (n ≤ 16))

/-- *FwSvnFloor* and *MachineIdent*, the limited-write objects (11 R436, 12 R484). -/
def limitedWrite (key : Nat) : Bool := key == okey 0x8020 1 || key == okey 0x8021 1

/-- Whether an object may be mapped to an image, host-bound or device-bound (11 R443). -/
def ObjRow.mappable (r : ObjRow) (toHost : Bool) : Bool :=
  r.ty.small && (if toHost then r.acc != .wo else r.acc != .ro && r.commit == .now)

/-- Whether a lease of a zone, a bridge or a staging slot governs writes of an object's holder (11 R428, 07 R276). -/
def ObjRow.unitLease (r : ObjRow) (key : Nat) : Bool :=
  match r.who with
  | .zoneOr _ | .zone | .bridge | .staging => true
  | .roles _ | .image => decide (0x8420 ≤ key / 256 ∧ key / 256 ≤ 0x843F) && r.acc == .wo

/-- One record of *Directory* (11 R405). -/
def State.dirRecord (s : State) (key : Nat) (r : ObjRow) : List Nat :=
  let group := if r.unitLease key then none else groupOf (key / 256)
  let roles := if r.acc = .ro then 0 else bitsMask ((allRoles.filter (fun x => s.roleAdmitted x key r)).map Role.ctorIdx)
  let flags := bitsOf [r.persistent, r.mappable false, r.mappable true, limitedWrite key,
    r.acc != .ro && (r.unitLease key || (r.commit != .now && group.isSome))]
  bytesBE 2 (key / 256) ++ [key % 256, r.ty.code, roles, if r.acc = .ro then 0xFF else r.commit.ctorIdx, flags, group.getD 0xFF]

/-- The keys of every tabled object, ascending (11 R405). -/
def objectKeys : List Nat :=
  ((List.range 0xB000).filter (fun i => decide (topSub i ≠ 0))).flatMap (fun i =>
    ((List.range 256).map (okey i)).filter (fun k => (objRow k).isSome))

/-- *Directory* (11 R405). -/
def State.directory (s : State) : List Nat :=
  objectKeys.flatMap (fun k => ((objRow k).map (s.dirRecord k)).getD [])

/-! ### Records of the store as they are read -/

/-- A fault-log record of 64 bytes, least significant byte first (17 R620). -/
def LogRecord.bytes (r : LogRecord) : List Nat :=
  let b := bytesLE 8 r.stamp ++ bytesLE 4 r.lseq ++ [r.cls.code, r.source] ++ bytesLE 2 r.code ++ bytesLE 2 r.count ++
    [r.tstate, r.opstate, r.safestate, r.session, 0, 0] ++ padTo 32 r.detail ++ [0, 0, 0, 0]
  b ++ bytesLE 4 (crc32c b)

/-- A fault-log area: the record of LSEQ n in slot (n − 1) modulo the slots, and zeros in a slot without one
(12 R482, log 50). -/
def LogArea.bytes (a : LogArea) (slots : Nat) : List Nat :=
  (List.range slots).flatMap (fun i =>
    match a.records.find? (fun r => (r.lseq + slots - 1) % slots = i) with
    | some r => r.bytes
    | none => List.replicate 64 0)

/-- The tamper log: 16 entries, oldest first, the unwritten before the others (14 R538). -/
def Keeper.tamperBytes (k : Keeper) : List Nat :=
  List.replicate (256 - 16 * (k.tamper.take 16).length) 0 ++
    (k.tamper.take 16).flatMap (fun e => e.1 :: List.replicate 7 0 ++ bytesBE 8 e.2.1)

/-- An interval record of 80 bytes (13 R509), most significant byte first as an object's octets are (11 R402). -/
def IntervalRec.bytes (r : IntervalRec) : List Nat :=
  bytesBE 8 r.start ++ bytesBE 8 r.stop ++ bytesBE 8 r.tcut ++ [r.tariff, r.flags, r.minutes, 0] ++ bytesBE 4 r.count ++
    packBE 8 4 r.energy ++ packBE 4 4 r.demand

/-- The EdgeRing of a pin: 64 records of 16 bytes, oldest first, zeros in the places not yet written (15 R569). -/
def EdgeRec.bytes (e : EdgeRec) : List Nat := bytesBE 4 e.eseq ++ bytesBE 10 e.at_ ++ [if e.level then 1 else 0, 0]

/-! ### Identity, device control, power (11 R451, 14 R544, 16 R612) -/

/-- *SerialNumber*. -/
def serialNumber : Nat := Config.identity (okey 0x1000 4) % 2 ^ 64

/-- Hexadecimal digits of a number, `n` of them. -/
def hexDigits : Nat → Nat → List Nat
  | 0, _ => []
  | n + 1, v => hexDigits n (v / 16) ++ [if v % 16 < 10 then 0x30 + v % 16 else 0x57 + v % 16]

/-- Objects 1000 and 1001. -/
def State.readIdentity (s : State) (sub : Nat) : Val :=
  match sub with
  | 1 => vnat 0x4C5A
  | 2 => vnat 0x3232
  | 3 => vnat 0x43
  | 4 => vnat serialNumber
  | 5 => vnat (match s.op.gaffer with
    | .running k => (s.fw k).version
    | _ => 0)
  | 6 => vnat (Config.identity (okey 0x1000 6) % 2 ^ 32)
  | 7 => vnat (Config.identity (okey 0x1000 7) % 2 ^ 16)
  | 8 => .oct (padTo 16 (ascii (if Config.identity (okey 0x1000 8) % 2 = 0 then "LZ3232-KE" else "LZ3232-KS")))
  | 9 => vnat (Config.identity (okey 0x1000 9) % 2 ^ 64)
  | 10 => .oct (padTo 32 Config.deviceKey)
  | _ => vnat 1

/-- Objects 1010 (11 R451, 14 R528). -/
def State.readControl (s : State) (sub : Nat) : Val :=
  match sub with
  | 1 => vnat s.op.state.code
  | 4 => vnat s.op.lastResetCause
  | _ => vnat ((s.now - s.op.bootAt) / 1000000000)

/-- Objects 1020 (14 R544). -/
def State.readPower (s : State) (sub : Nat) : Val :=
  let p := s.power
  match sub with
  | 2 => vnat s.supplyBudget
  | 3 => vnat s.admissionBudget
  | 4 => vnat s.activeLimit
  | 5 => vnat s.committed.length
  | 6 => vnat (bitsMask (p.held.take p.powerHeld))
  | 7 => vnat (s.estimate / 10)
  | 8 => vnat p.drawNow
  | 9 => vnat p.drawPeak
  | _ => vnat p.holdEvents

/-- Objects 1021 and 1022 (14 R544). -/
def Feed.read (f : Feed) (sub : Nat) : Val :=
  match sub with
  | 1 => vnat f.state.ctorIdx
  | 2 => vnat f.classEvents
  | 3 => vnat (grantOf f.classEvents)
  | 4 => vnat f.voltage
  | 5 => vnat f.current
  | _ => vnat f.losses

/-- Objects 1023 (14 R544). -/
def State.readSupply (s : State) (sub : Nat) : Val :=
  let p := s.power
  match sub with
  | 1 => vnat p.dips
  | 2 => vnat p.sheds
  | 3 => vnat p.lastShed
  | 4 => vnat p.brownoutCount
  | 6 => vbool s.time.keeper.valid
  | 7 => .oct s.time.keeper.tamperBytes
  | _ => vnat s.op.wakeCause

/-- Objects 1025 (16 R612). -/
def PowerUnit.readThermal (p : PowerUnit) (sub : Nat) : Val :=
  match sub with
  | 1 => .num p.junction
  | 2 => .num p.junctionPeak
  | 3 => vnat (bitsMask (p.held.take p.thermalHeld))
  | 4 => vnat (p.life / (3600 * 2 ^ 20))
  | 5 => vnat (p.above95 / 3600)
  | 6 => vnat p.thermalEvents
  | _ => .oct ((List.range 69).flatMap (fun k => intBE 2 (tget 0 p.sensors k)))

/-! ### Communication, sessions and leases (11 R451) -/

/-- Objects 1100. -/
def State.readComm (s : State) (sub : Nat) : Val :=
  if sub ≤ 3 then .oct (bytesBE 6 (Config.identity (okey 0x1100 sub))) else vnat (tget 0 s.op.link (sub - 4))

/-- *Hostname*, "lz3232-" and the serial where nothing has been written. -/
def hostname (v : Val) : Val :=
  if v = .oct [] then .oct (padTo 32 (ascii "lz3232-" ++ hexDigits 16 serialNumber)) else v

/-- The leases a session holds. -/
def State.leasesOf (s : State) (n : SessionNo) : List Nat := leaseNumbers.filter (fun l => (s.lease l).holder == n)

/-- Objects 1201 to 1208. -/
def State.readSession (s : State) (n sub : Nat) : Val :=
  match s.session? n with
  | none => if sub = 4 then .oct (List.replicate 18 0) else if sub = 12 then .oct (List.replicate 16 0) else vnat 0
  | some x =>
    match sub with
    | 1 => vnat 1
    | 2 => vnat x.role.code
    | 3 => vnat x.credential
    | 4 => .oct (padTo 18 x.peer)
    | 5 => vnat x.keepAlive
    | 6 => vnat x.openedAt
    | 7 => vnat (s.time.t64 - (s.now - x.lastHeard))
    | 8 => vnat x.inFlight.length
    | 9 => vnat x.requests
    | 10 => vnat x.aborts
    | 11 => vnat x.busyRetries
    | 12 => .oct (padTo 16 x.clientName)
    | _ => vnat (s.leasesOf n).length

/-- Objects 1210, those of the session that asks. -/
def State.readOwn (s : State) (n sub : Nat) : Val :=
  match s.session? n with
  | none => vnat 0
  | some x =>
    match sub with
    | 1 => vnat n
    | 2 => vnat x.pendingSet.length
    | 4 => vnat x.pendingLost
    | 6 => vnat x.applyState.ctorIdx
    | 7 => vnat x.applyEdge
    | 8 => vnat (x.failObject * 256)
    | 9 => vnat x.failCode.code
    | 10 => vnat x.notifyMask
    | _ => vnat x.notifySeq

/-- ms of keep-alive that a session has left. -/
def State.keepAliveLeft (s : State) (n : SessionNo) : Nat :=
  match s.session? n with
  | some x => x.keepAlive * 1000 - (s.now - x.lastHeard) / 1000000
  | none => 0

/-- Objects 1400 to 1441. -/
def State.readLease (s : State) (l sub : Nat) : Val :=
  let x := s.lease l
  match sub with
  | 1 => .oct (padTo 16 (Config.leaseName l))
  | 2 => vnat x.holder
  | 3 => vnat x.epoch
  | 4 => vnat (if x.holder = 0 then 0xFFFFFFFF else s.keepAliveLeft x.holder)
  | 6 => vnat x.fence.ctorIdx
  | _ => vnat x.changes

/-! ### Time and angle (02 R71, R89) -/

/-- Objects 1300. -/
def State.readTime (s : State) (sub : Nat) : Val :=
  let t := s.time
  match sub with
  | 1 => vnat t.state.code
  | 2 => vnat t.quality.code
  | 3 => .num t.offset
  | 4 => .num ((t.freqAt s.now * 1000000).tdiv ppmF)
  | 5 => vnat (if t.state = .holdover then (s.now - t.holdoverAt) / 1000000 else 0)
  | 6 => .num t.utcOffset
  | 7 => .oct (bytesBE 8 t.gmIdentity)
  | 8 => vnat s.t80
  | _ => vnat t.origin.ctorIdx

/-- Objects 1304. -/
def TimeUnit.readCounters (t : TimeUnit) (sub : Nat) : Val :=
  match sub with
  | 1 => vnat t.outliers
  | 2 => vnat t.holdovers
  | 3 => vnat t.gmChanges
  | _ => vnat t.steps

/-- *Speed* in 0.001 rpm: the predicted ω while predictions are made, otherwise 0 (02 R83, R89). -/
def State.angleSpeed (s : State) (c : Nat) : Int :=
  let x := s.angleCh c
  match x.state with
  | .locked | .suspect => (x.wAt s.t80 * 60 * 10 ^ 12).tdiv (2 ^ 56)
  | .lost | .stopped => 0

/-- Objects 5010 and 5011. -/
def State.readAngle (s : State) (c sub : Nat) : Val :=
  let x := s.angleCh c
  match sub with
  | 1 => vnat x.state.ctorIdx
  | 2 => vnat x.reason.ctorIdx
  | 3 => vnat (s.publishedAngle c)
  | 4 => .num (s.angleSpeed c)
  | 5 => vbool x.homed
  | 6 => vnat x.illegalTotal
  | 7 => vnat x.slips
  | 8 => vnat x.suspectEntries
  | 9 => vnat x.lostEntries
  | _ => vnat x.residualMax

/-- Objects 5031. -/
def AngleUnit.readMarks (u : AngleUnit) (sub : Nat) : Val :=
  match sub with
  | 1 => vnat u.nextMarkTime
  | 2 => vnat u.courseNumber
  | _ => vnat u.marksSkipped

/-! ### Safety (10 R398) -/

/-- Objects 2000. -/
def State.readSafety (s : State) (sub : Nat) : Val :=
  let u := s.quench
  match sub with
  | 1 => vbool s.armed
  | 2 => vnat u.cause
  | 3 => .oct u.activeBytes
  | 4 => vbool s.sfJog
  | 5 => vbool u.request
  | 6 => vnat u.count
  | 7 => vnat u.armedSince
  | _ => vnat u.refused

/-- *SiState* of a pair. -/
def QuenchUnit.siState (u : QuenchUnit) (n : Nat) : Nat :=
  let p := u.pair n
  bitsOf [!p.openA, !p.openB, p.discrepancy, p.tpFault] + 16 * (u.siType n).ctorIdx

/-- *QoState* of an output; a contact is untested after 8 inconclusive tests (10 R380). -/
def QuenchUnit.qoState (u : QuenchUnit) (k : Nat) : Nat :=
  let a := u.contact (2 * k)
  let b := u.contact (2 * k + 1)
  bitsOf [a.conducts, b.conducts, a.stuck, b.stuck, decide (8 ≤ a.inconclusive), decide (8 ≤ b.inconclusive)]

/-- Objects 2001, 2002, 2100, 2200 and 2300. -/
def QuenchUnit.read (u : QuenchUnit) (idx sub : Nat) : Val :=
  if idx = 0x2001 then vnat (u.siState (sub - 1))
  else if idx = 0x2002 then vnat (if sub = 3 then u.inconclusive else u.qoState (sub - 1))
  else if idx = 0x2100 then
    (if sub = 2 then .oct (padTo 16 u.pduOut) else vnat (if sub = 3 then u.accepted else u.rejected))
  else if idx = 0x2200 then
    vnat (match sub with
      | 2 => u.cmp.length
      | 3 => u.mismatches
      | 4 => u.lastMismatch
      | _ => u.testsPassed)
  else vnat (tget 0 u.words (sub - 1))

/-! ### Zones, bridges and tasks (05 R196) -/

/-- Objects 3000 to 3007. -/
def State.readZone (s : State) (z sub : Nat) : Val :=
  match sub with
  | 1 => vnat (s.zoneMap z)
  | 2 => vnat ((s.leader z).getD 0xFF)
  | 3 => vnat (s.array.tasks.filter (fun p => p.2.state != .absent && p.2.zone == z)).length
  | 4 => vnat (s.lease (0x10 + z)).holder
  | _ => vnat (s.lease (0x10 + z)).epoch

/-- Objects 3010 to 302F. -/
def State.readBridge (s : State) (k sub : Nat) : Val :=
  let x := s.bridge k
  match sub with
  | 1 => vnat x.a
  | 2 => vnat x.b
  | 3 => vnat x.dir
  | 4 => vbool x.opened
  | 5 => vnat (s.lease (0x20 + k)).holder
  | _ => vnat (s.lease (0x20 + k)).epoch

/-- Objects 3100 to 31FF. -/
def Task.read (x : Task) (sub : Nat) : Val :=
  match sub with
  | 1 => vnat x.zone
  | 2 => vnat (bitsMask x.clusters)
  | 3 => vnat x.priority
  | 4 => vnat x.state.ctorIdx
  | 5 => vnat x.reason.ctorIdx
  | 6 => vnat x.kind.ctorIdx
  | 7 => vnat x.param
  | 9 => vnat x.triggers
  | 10 => vnat x.overruns
  | 11 => vnat x.cancelledPre
  | 12 => vnat x.flushed
  | 13 => vnat x.faultCause
  | 14 => vnat x.faultTile
  | 15 => vnat x.lastStart
  | 16 => vnat x.startLead
  | 17 => vnat x.drainMax
  | _ => vbool x.rearm

/-- Objects 3200. -/
def State.readDispatch (s : State) (sub : Nat) : Val :=
  vnat (if sub = 1 then (s.array.tasks.filter (fun p => p.2.state != .absent)).length else s.array.discards)

/-! ### The network (06 R239) -/

/-- Tags in use at an NI. -/
def Ni.tagsInUse (x : Ni) : Nat := (x.tags.filter (fun p => p.2.isSome)).length

/-- Objects 7010 to 705D. -/
def Ni.read (x : Ni) (sub : Nat) : Val :=
  vnat (match sub with
    | 1 => x.tagsInUse
    | 2 => x.timeouts
    | 3 => x.late
    | 4 => x.denied
    | 5 => (x.entries.filter (fun e => e.2.down)).length
    | 6 => x.unresolved.length
    | _ => x.multicasts)

/-- Objects 7060 to 709F. -/
def Flow.read (x : Flow) (sub : Nat) : Val :=
  vnat (match sub with
    | 1 => x.source
    | 2 => x.target
    | 3 => x.runs
    | 4 => x.runLength
    | 5 => x.firstSlot
    | _ => x.overruns)

/-- Objects 7002 and 7003. -/
def State.readNet (s : State) (idx sub : Nat) : Val :=
  if idx = 0x7002 then
    vnat (if sub = 1 then bitsMask ((List.range 64).filter (fun c => (s.cluster c).gated))
      else (s.net.nis.map (fun p => p.2.tagsInUse)).sum)
  else vnat (match sub with
    | 1 => s.net.linkCorrected
    | 2 => s.net.linkUncorrected
    | _ => s.net.routerDrops)

/-! ### Rings, heads and events (08 R316, 09 R358) -/

/-- Objects 4000 to 400F. -/
def Ring.read (x : Ring) (sub : Nat) : Val :=
  match sub with
  | 2 => vnat x.state.ctorIdx
  | 3 => vnat x.headCount
  | 4 => vnat x.segAEnd
  | 5 => vnat x.segBStart
  | 6 => vnat (positionMask x.island)
  | 7 => vnat x.codeErrors
  | 8 => vnat x.aborts
  | 9 => vnat x.fcsErrors
  | 10 => vnat x.wraps
  | 11 => vnat x.fTotal
  | 12 => vnat x.vTotal
  | 13 => .num x.closure
  | 14 => vnat 1
  | _ => vnat x.faultCause

/-- Objects 4100 to 44FF. -/
def HeadRec.read (x : HeadRec) (sub : Nat) : Val :=
  match sub with
  | 1 => vbool x.present
  | 2 => vnat x.desc.vendor
  | 3 => vnat x.desc.model
  | 4 => vnat x.desc.serial
  | 5 => vnat x.desc.hwRev
  | 6 => vnat x.desc.rev
  | 7 => vnat x.desc.channels
  | 8 => vnat x.desc.streams
  | 9 => vnat x.desc.evCap
  | 10 => vnat x.delayA
  | 11 => vnat x.delayB
  | 12 => vbool x.provisional
  | _ => vnat x.previous

/-- Objects 4700 to 4703. -/
def State.readNoise (s : State) (m sub : Nat) : Val :=
  let x := s.rc m
  match sub with
  | 7 => vnat (x.period * 1000)
  | 8 => vnat x.phase0
  | 9 => .oct (packBE 4 64 x.hist)
  | 10 => vnat (s.noiseMap m)
  | _ => vnat x.heldFrames

/-- Objects 5100 to 510F. -/
def Ring.readEvents (x : Ring) (sub : Nat) : Val :=
  vnat (match sub with
    | 2 => x.events.length
    | 3 => x.pendingHigh
    | 4 => x.evqFull
    | 5 => x.missed
    | 6 => x.unreachable
    | 7 => x.echoSkipped
    | 8 => x.trimsSent
    | 9 => x.completionsLost
    | 10 => x.openGroups
    | 11 => x.atomicCommitted
    | 12 => x.atomicAborted
    | _ => x.senseLost)

/-! ### Energy (13 R510) -/

/-- Objects 6001. -/
def EnergyUnit.readState (u : EnergyUnit) (sub : Nat) : Val :=
  match sub with
  | 1 => vnat u.tariff
  | 2 => vnat u.start
  | 3 => .oct (packBE 8 4 u.energy)
  | 4 => vnat u.running
  | 5 => vnat u.forecast
  | 6 => vnat u.advisory
  | 7 => vbool u.provisional
  | 8 => .oct (packBE 8 4 u.provEnergy)
  | 9 => vnat u.lastCut
  | 10 => vnat u.lastRestore
  | _ => vnat u.outages

/-- *SourceState*: OFF, ACTIVE, SILENT, UNCALIBRATED (13 R487, R489). -/
def State.sourceState (s : State) (k : Nat) : Nat :=
  if !s.flagOn (0x6010 + k) 1 (decide (k ≥ 2)) then 0
  else if k = 3 ∧ tget 0 s.fuse.latchedState 6 ≠ 1 then 3
  else if (s.source k).silent then 2 else 1

/-- Objects 6010 to 6013; the spec gives *Power* a rule for DEVICE alone, and elsewhere it is a free value (log 51). -/
def State.readSource (s : State) (k sub : Nat) : Val :=
  let x := s.source k
  match sub with
  | 5 => vnat (s.sourceState k)
  | 6 => vnat (((List.range 8).map (fun t => tget 0 s.energy.regs (4 * t + k))).sum)
  | 7 => vnat (if k = 3 then x.power else Config.freeNat s.free % 2 ^ 32)
  | 8 => vnat x.counts
  | 9 => vnat x.glitches
  | _ => vnat 0

/-- Objects 6020 to 6027. -/
def EnergyUnit.readTariff (u : EnergyUnit) (t sub : Nat) : Val :=
  let m := tget (0, 0) (tget {} u.periods 0).maxDemand t
  if sub ≤ 5 then vnat (tget 0 u.regs (4 * t + (sub - 2)))
  else vnat (if sub = 6 then m.1 else m.2)

/-- Objects 6040 to 604C. -/
def BillingPeriod.read (p : BillingPeriod) (sub : Nat) : Val :=
  match sub with
  | 1 => vnat p.start
  | 2 => vnat p.stop
  | 3 => .oct (packBE 8 32 p.regs)
  | _ => .oct ((List.range 8).flatMap (fun t =>
      let m := tget (0, 0) p.maxDemand t
      bytesBE 4 m.1 ++ bytesBE 8 m.2))

/-- Objects 6050 to 605F. -/
def RingMeter.read (x : RingMeter) (sub : Nat) : Val :=
  vnat (match sub with
    | 1 => x.energy
    | 2 => x.reporting.length
    | 3 => x.restarts
    | _ => x.dropped)

/-- *PushPending*: TIME, TARIFF and zeros; all zero when none (13 R497, R510). -/
def EnergyUnit.pushBytes (u : EnergyUnit) : List Nat :=
  match u.push with
  | some p => padTo 16 (bytesBE 8 p.time ++ [p.tariff])
  | none => List.replicate 16 0

/-- Objects 6000 to 6060. -/
def State.readEnergy (s : State) (idx sub : Nat) : Val :=
  let u := s.energy
  if idx = 0x6001 then u.readState sub
  else if idx < 0x6020 then s.readSource (idx - 0x6010) sub
  else if idx < 0x6030 then u.readTariff (idx - 0x6020) sub
  else if idx < 0x6040 then .oct u.pushBytes
  else if idx < 0x6050 then (tget {} u.periods (idx - 0x6040)).read sub
  else if idx < 0x6060 then (tget {} u.rings (idx - 0x6050)).read sub
  else if sub = 1 then .oct (u.history.reverse.flatMap IntervalRec.bytes) else vnat u.intervals

/-! ### Fuses and the store (12 R484) -/

/-- Objects 8000. -/
def State.readFuses (s : State) (sub : Nat) : Val :=
  let u := s.fuse
  match sub with
  | 1 => vnat u.scan.1
  | 2 => vnat u.scan.2.1
  | 3 => vnat u.scan.2.2.1
  | 4 => vnat u.scan.2.2.2
  | 5 => .oct ((List.range 256).map (fun k => ((List.range 4).map (fun j => u.shown (4 * k + j) * 4 ^ j)).sum))
  | 6 => vnat (bitsOf ((List.range 4).map u.keyRevoked ++ (List.range 2).map u.fwRevoked))
  | 7 => vbool s.op.fuseEn
  | 8 => vbool u.inWindow
  | 9 => vnat u.rail
  | _ => .num u.temp

/-- Objects 8001, 8002, 8020 and 8021. -/
def FuseUnit.readObject (u : FuseUnit) (idx sub : Nat) : Val :=
  if idx = 0x8001 then
    (if sub = 2 then
      .oct (bytesBE 2 u.last.1 ++ [u.last.2.1, u.last.2.2.1] ++ bytesBE 5 u.last.2.2.2.1 ++ bytesBE 5 u.last.2.2.2.2 ++ [0, 0])
    else .oct (padTo 64 ((u.incomplete.take 8).flatMap (fun p => bytesBE 2 p.1 ++ [0, 0] ++ bytesBE 4 p.2))))
  else if idx = 0x8002 then
    .oct ((List.range 1024).flatMap (fun a =>
      bytesBE 4 (fuseData (u.word a)) ++ [((u.word a).extractLsb' 32 8).toNat, u.shown a, 0, 0]))
  else if idx = 0x8020 then vnat (if sub = 1 then u.svn else u.remaining svnFloor)
  else if sub = 1 then .oct u.machineIdent else vnat (u.remaining machineIdentGen)

/-- Objects 8030. -/
def State.readStore (s : State) (sub : Nat) : Val :=
  let u := s.store
  vnat (match sub with
    | 1 => u.corrected
    | 2 => u.uncorrected
    | 3 => u.lastUe
    | 4 => u.scrubs
    | 5 => u.refreshes
    | 6 => u.lastRefresh
    | 7 => s.journalHead
    | 8 => u.torn
    | 9 => u.gaps
    | _ => u.replayed)

/-- Objects 8040. -/
def LogUnit.read (l : LogUnit) (sub : Nat) : Val :=
  let n : AreaName := match sub with
    | 1 => .general
    | 2 => .reserve
    | _ => .quench
  .oct ((l.area n).bytes n.slots)

/-! ### Blanks, the Assay and firmware (07 R276) -/

/-- Objects 8400. -/
def State.readBlanks (s : State) (sub : Nat) : Val :=
  match sub with
  | 1 => vnat ([0, 1].filter (fun k => (s.slot k).state != .empty)).length
  | 2 => vnat 1
  | 3 => vnat s.libraryFree
  | _ => vnat (bitsOf ((List.range 4).map s.fuse.keyUsable))

/-- Objects 8410 and 8411. -/
def StageSlot.read (x : StageSlot) (sub : Nat) : Val :=
  match sub with
  | 1 => vnat x.state.ctorIdx
  | 2 => vnat x.owner
  | 3 => vnat x.entry
  | 8 => vnat x.actMode
  | 9 => vnat x.actTime
  | 10 => vnat x.actFallback
  | 11 => vnat x.actFallbackTime
  | 14 => vnat x.result.ctorIdx
  | 15 => vnat (bitsMask x.failureMask)
  | 16 => vnat x.activatedAt
  | _ => vnat x.refusal.code

/-- Objects 8420 to 843F. -/
def LibEntry.read (x : LibEntry) (sub : Nat) : Val :=
  let b := x.image
  match sub with
  | 1 => vnat x.state.ctorIdx
  | 2 => vnat (leAt b 0x10 4)
  | 3 => vnat (leAt b 0x14 4)
  | 4 => vnat (leAt b 0x0F 1)
  | 5 => vnat (imageTotal b)
  | 6 => vnat (imageKeySlot b)
  | 7 => .oct (if b = [] then List.replicate 64 0 else imageDigest b)
  | 8 => .oct (padTo 24 ((b.drop 0x20).take 24))
  | _ => vnat x.activeSince

/-- Objects 8500 and 8501. -/
def AssayUnit.read (a : AssayUnit) (idx sub : Nat) : Val :=
  if idx = 0x8501 then .oct (bytesLE 128 (bitsMask (if sub = 1 then (a.tainted.map (· / 16)).eraseDups else a.failed)))
  else vnat (match sub with
    | 3 => a.passes
    | 4 => a.lastPassUs
    | 5 => a.taints
    | 6 => a.repairs
    | _ => a.failures)

/-- *RunningSlot*: the slot of the running image; 0 where the recovery service runs, for which the spec gives none
(log 52). -/
def GafferPhase.slotCode : GafferPhase → Nat
  | .running .b | .selected .b => 1
  | .running .a | .selected .a | .held | .bootRom | .recovery => 0

/-- Objects 8600. -/
def State.readFirmware (s : State) (sub : Nat) : Val :=
  vnat (match sub with
    | 1 => s.op.gaffer.slotCode
    | 2 => s.blank.fwA.version
    | 3 => s.blank.fwB.version
    | 4 => s.blank.fwA.mark.ctorIdx
    | _ => s.blank.fwB.mark.ctorIdx)

/-! ### I/O (15 R580) -/

/-- Objects 9000 and 9001. -/
def TwBus.read (x : TwBus) (sub : Nat) : Val :=
  match sub with
  | 5 => vnat x.state.ctorIdx
  | 7 => .oct (padTo 384 (x.results.flatMap (padTo 48)))
  | 8 => vnat x.commands
  | 9 => vnat x.nacks
  | 10 => vnat x.stretches
  | 11 => vnat x.requests
  | 12 => vnat x.recoveries
  | 13 => vnat x.lost
  | _ => vnat x.pollNacks

/-- Objects 9040. -/
def Twt.read (x : Twt) (sub : Nat) : Val :=
  match sub with
  | 3 => .oct ((List.range 128).map (tget 0 x.outArea))
  | 4 => .oct ((List.range 128).map (tget 0 x.inArea))
  | 7 => vnat x.reads
  | 8 => vnat x.writes
  | _ => vnat x.roWrites

/-- Objects 9100 to 9117. -/
def DioPin.read (p : DioPin) (sub : Nat) : Val :=
  match sub with
  | 6 => vbool p.level
  | 9 => .oct ((List.range 64).flatMap (fun i =>
      match p.edges.find? (fun e => (e.eseq + 63) % 64 = i) with
      | some e => e.bytes
      | none => List.replicate 16 0))
  | 10 => vnat p.edgeCount
  | 11 => vnat p.glitches
  | 12 => vnat p.late
  | 13 => vnat p.overruns
  | 14 => vnat p.badTokens
  | _ => vnat p.queue.length

/-- Objects 9200 and 9201. -/
def S0Loop.read (l : S0Loop) (sub : Nat) : Val :=
  vnat (match sub with
    | 1 => l.state.ctorIdx
    | 2 => l.current
    | _ => l.faults)

/-- Objects 9000 to 9201. -/
def State.readIo (s : State) (idx sub : Nat) : Val :=
  if idx < 0x9010 then (s.bus (idx - 0x9000)).read sub
  else if idx < 0x9040 then
    let e := tget {} (s.bus ((idx - 0x9010) / 8)).entries ((idx - 0x9010) % 8)
    vnat (if sub = 7 then e.lastPoll else e.requests)
  else if idx = 0x9040 then s.io.twt.read sub
  else if idx < 0x9200 then (s.pin (idx - 0x9100)).read sub
  else (tget {} s.io.loops (idx - 0x9200)).read sub

/-! ### Process images (11 R451) -/

/-- Objects A000 to A00F. -/
def ImageRec.read (x : ImageRec) (sub : Nat) : Val :=
  match sub with
  | 1 => vnat x.owner
  | 3 => vbool x.toHost
  | 4 => vnat x.cycleUnits
  | 5 => vnat x.phase
  | 6 => vnat x.port
  | 7 => vbool x.enable
  | 8 => vnat x.length
  | 9 => vnat x.watchdog
  | 10 => vbool x.failZero
  | 11 => vnat x.peerPort
  | 12 => vnat x.images
  | 13 => vnat x.late
  | 14 => vnat x.stale
  | 15 => vnat x.authFail
  | 16 => vnat x.replays
  | 17 => vnat x.mapErrors
  | _ => vnat x.trips

/-- Objects A000 to A800. -/
def State.readImages (s : State) (idx sub : Nat) : Val :=
  if idx < 0xA100 then (tget {} s.sess.images (idx - 0xA000)).read sub
  else if idx < 0xA800 then vnat (tget 0 (tget {} s.sess.images (idx - 0xA100)).map (sub - 1))
  else .oct ((List.range 8192).map (tget 0 s.sess.pda))

/-! ### Any object -/

/-- The value of an object that is not persistent, by its index (11 R450); `n` is the session that reads. -/
def State.liveValue (s : State) (n : SessionNo) (idx sub : Nat) : Val :=
  if idx = 0x1000 then s.readIdentity sub
  else if idx = 0x1001 then
    (match sub with
     | 1 => vnat (objectKeys.map (· / 256)).dedup.length
     | 2 => vnat objectKeys.length
     | _ => .oct s.directory)
  else if idx = 0x1010 then s.readControl sub
  else if idx = 0x1020 then s.readPower sub
  else if idx = 0x1021 ∨ idx = 0x1022 then (s.feed (idx - 0x1021)).read sub
  else if idx = 0x1023 then s.readSupply sub
  else if idx = 0x1025 then s.power.readThermal sub
  else if idx = 0x1100 then s.readComm sub
  else if idx = 0x1102 then vnat s.sess.handshakesDropped
  else if idx < 0x1210 then s.readSession (idx - 0x1200) sub
  else if idx = 0x1210 then s.readOwn n sub
  else if idx = 0x1300 then s.readTime sub
  else if idx = 0x1304 then s.time.readCounters sub
  else if idx < 0x1480 then s.readLease (idx - 0x1400) sub
  else if idx = 0x1480 then vnat s.sess.ackSeen
  else if idx < 0x1600 then vnat (tget 0 s.sess.lastUsed (idx - 0x1500))
  else if idx = 0x2000 then s.readSafety sub
  else if idx < 0x3000 then s.quench.read idx sub
  else if idx < 0x3010 then s.readZone (idx - 0x3000) sub
  else if idx < 0x3100 then s.readBridge (idx - 0x3010) sub
  else if idx < 0x3200 then (s.task (idx - 0x3100)).read sub
  else if idx = 0x3200 then s.readDispatch sub
  else if idx < 0x4100 then (s.ringAt (idx - 0x4000)).read sub
  else if idx < 0x4500 then ((s.ringAt ((idx - 0x4100) / 64)).headRec ((idx - 0x4100) % 64 + 1)).read sub
  else if idx < 0x5000 then s.readNoise (idx - 0x4700) sub
  else if idx = 0x5010 ∨ idx = 0x5011 then s.readAngle (idx - 0x5010) sub
  else if idx = 0x5031 then s.angle.readMarks sub
  else if idx < 0x6000 then (s.ringAt (idx - 0x5100)).readEvents sub
  else if idx < 0x7000 then s.readEnergy idx sub
  else if idx < 0x7010 then s.readNet idx sub
  else if idx < 0x7060 then (s.ni (idx - 0x7010)).read sub
  else if idx < 0x70A0 then (s.flow (idx - 0x7060)).read sub
  else if idx < 0x8000 then
    (if sub = 0x20 then .oct (s.probe (idx - 0x7100)).buffer else vnat ((s.probe (idx - 0x7100)).reg (sub - 1)))
  else if idx = 0x8000 then s.readFuses sub
  else if idx < 0x8030 then s.fuse.readObject idx sub
  else if idx = 0x8030 then s.readStore sub
  else if idx = 0x8040 then s.log.read sub
  else if idx = 0x8050 then vnat s.store.archiveNext
  else if idx < 0x8200 then .oct (padTo 8192 (tget [] s.store.archive (idx - 0x8100)))
  else if idx = 0x8400 then s.readBlanks sub
  else if idx = 0x8402 then vnat (tget 0xFF s.blank.active (sub - 1))
  else if idx < 0x8420 then (s.slot (idx - 0x8410)).read sub
  else if idx < 0x8500 then (s.lib (idx - 0x8420)).read sub
  else if idx < 0x8600 then s.blank.assay.read idx sub
  else if idx = 0x8600 then s.readFirmware sub
  else if idx < 0xA000 then s.readIo idx sub
  else s.readImages idx sub

/-- The value of an object as a session reads it: of a persistent one, the value in force (11 R407). -/
def State.objectValue (s : State) (n : SessionNo) (key : Nat) : Val :=
  match objRow key with
  | none => vnat (topSub (key / 256))
  | some r =>
    if r.persistent then (if key = okey 0x1101 8 then hostname (s.val key) else s.val key)
    else s.liveValue n (key / 256) (key % 256)

/-- The value that a READ with NEXT answers: the session's pending one, the stored one, or the one in force (11 R407). -/
def State.nextValue (s : State) (x : Session) (n : SessionNo) (key : Nat) : Val :=
  match x.pendingSet.find? (fun w => w.key == key) with
  | some w => w.value
  | none => (alook s.sess.stored key).getD (s.objectValue n key)

/-- The type of the object at a key; sub-index 0 is a U8 (11 R401). -/
def typeAt (key : Nat) : VType := ((objRow key).map (·.ty)).getD .u8

/-- Steps 1 and 2 of R421 for a read. -/
def State.readCheck (s : State) (key : Nat) : Abort :=
  if s.op.state = .halt ∧ !haltServes key then .noObject
  else match objRow key with
  | none => if key % 256 = 0 ∧ topSub (key / 256) ≠ 0 then .ok else .noObject
  | some r => if r.acc = .wo then .writeOnly else .ok

end Sys2Proof.Machine
end

