-- ==== Sys2Proof/Machine/NowOps.lean ====
section
/-!
DEFINITION. Writes of objects that have no row of their own: the checks each makes, what a write of class NOW does
at once, and the entering of every other write into the session's pending set (11 R406, R407, R421).
-/

namespace Sys2Proof.Machine

/-! ### Objects of class NOW -/

/-- A process-image record. -/
def State.imageRec (s : State) (i : Nat) : ImageRec := tget {} s.sess.images i

/-- Changes one process-image record. -/
def State.modImage (s : State) (i : Nat) (f : ImageRec → ImageRec) : State :=
  { s with sess := { s.sess with images := tmod {} s.sess.images i f } }

/-- A trigger kind's number (05 R179). -/
def triggerKindOf (n : Nat) : TriggerKind :=
  [TriggerKind.immediate, .time, .period, .angle, .course, .queue, .chain, .host].getD n .host

/-- The cycle of an image in ns (11 R440). -/
def cycleNs (units : Nat) : Nat := units * 31250

/-- A mapping entry's fields (11 R442): index, sub-index, SRCBIT, IMGBIT, NBITS. -/
structure MapEntry where
  idx : Nat
  sub : Nat
  src : Nat
  img : Nat
  n : Nat
  deriving DecidableEq, Repr

/-- The entry that a U64 spells (11 R442). -/
def mapEntry (v : Nat) : MapEntry :=
  { idx := v / 2 ^ 48 % 2 ^ 16, sub := v / 2 ^ 40 % 2 ^ 8, src := v / 2 ^ 24 % 2 ^ 16, img := v / 2 ^ 10 % 2 ^ 14, n := v % 2 ^ 10 }

/-- The entries of an image: up to the first of value 0 (11 R442). -/
def ImageRec.entries (x : ImageRec) : List MapEntry :=
  (((List.range 128).map (tget 0 x.map)).takeWhile (· != 0)).map mapEntry

/-- The payload length of an image: the last bit any entry uses, in whole bytes (11 R442). -/
def ImageRec.payloadLen (x : ImageRec) : Nat := ((x.entries.map (fun e => e.img + e.n)).foldl max 0 + 7) / 8

/-- Only the claiming session writes a record's settings, and only while *Enable* is 0; an OBSERVER's record stays
host-bound, and *Phase* stays below the cycle (11 R439, R440). -/
def State.imageSettingCheck (s : State) (n : SessionNo) (i sub v : Nat) : Abort × Nat :=
  let x := s.imageRec i
  let observer : Bool := match s.session? n with
    | some y => y.role == .observer
    | none => false
  firstFail [
    (decide (sub = 5 ∧ cycleNs x.cycleUnits ≤ v) || decide (sub = 4 ∧ cycleNs v ≤ x.phase), .range, 0),
    (sub == 3 && v == 0 && observer, .noAccess, 0),
    (x.owner != n || x.enable, .wrongState, 0)]

/-- The checks of a NOW write, after the range of its row (05 R196, 06 R238, 11 R439). -/
def State.nowCheck (s : State) (n : SessionNo) (key : Nat) (v : Val) : Abort × Nat :=
  let i := key / 256
  let sub := key % 256
  if 0x3010 ≤ i ∧ i ≤ 0x302F then (if (s.bridge (i - 0x3010)).opened then (.wrongState, 0) else (.ok, 0))
  else if 0x3100 ≤ i ∧ i ≤ 0x31FF ∧ (sub = 6 ∨ sub = 7) then
    (if (s.task (i - 0x3100)).state = .loaded ∨ (s.task (i - 0x3100)).state = .stopped then (.ok, 0) else (.wrongState, 0))
  else if 0x7100 ≤ i ∧ i ≤ 0x710F then
    (if ((s.probe (i - 0x7100)).write s.nclk (sub - 1) (valNat v)).isSome then (.ok, 0) else (.range, 0))
  else if 0xA000 ≤ i ∧ i ≤ 0xA00F then s.imageSettingCheck n (i - 0xA000) sub (valNat v)
  else if 0xA100 ≤ i ∧ i ≤ 0xA10F then
    (if (s.imageRec (i - 0xA100)).owner ≠ n ∨ (s.imageRec (i - 0xA100)).enable then (.wrongState, 0) else (.ok, 0))
  else (.ok, 0)

/-- A write of a task's settings (05 R196). -/
def Task.put (x : Task) (sub v : Nat) : Task :=
  match sub with
  | 3 => { x with priority := v }
  | 6 => { x with kind := triggerKindOf v, firedAt := none }
  | 7 => { x with param := v, firedAt := none }
  | 16 => { x with startLead := v }
  | 17 => { x with drainMax := v }
  | 18 => { x with rearm := v != 0 }
  | _ => x

/-- A write of a bridge's settings (05 R196). -/
def Bridge.put (x : Bridge) (sub v : Nat) : Bridge :=
  match sub with
  | 1 => { x with a := v }
  | 2 => { x with b := v }
  | 3 => { x with dir := v }
  | _ => x

/-- A write of a staging slot's settings (07 R276). -/
def StageSlot.put (x : StageSlot) (sub v : Nat) : StageSlot :=
  match sub with
  | 8 => { x with actMode := v }
  | 9 => { x with actTime := v }
  | 10 => { x with actFallback := v }
  | 11 => { x with actFallbackTime := v }
  | _ => x

/-- A write of an image's settings (11 R451). -/
def ImageRec.put (x : ImageRec) (sub v : Nat) : ImageRec :=
  match sub with
  | 3 => { x with toHost := v == 1 }
  | 4 => { x with cycleUnits := v }
  | 5 => { x with phase := v }
  | 6 => { x with port := v }
  | 9 => { x with watchdog := v }
  | 10 => { x with failZero := v == 1 }
  | 11 => { x with peerPort := v }
  | _ => x

/-- A write of one mapping entry; *Length* follows (11 R442). -/
def ImageRec.putMap (x : ImageRec) (sub v : Nat) : ImageRec :=
  let y := { x with map := tset 0 x.map (sub - 1) v }
  { y with length := y.payloadLen }

/-- What a NOW write of an object without a row of its own does (11 R406, and each chapter's table). -/
def State.nowEffect (s : State) (n : SessionNo) (key : Nat) (v : Val) : State :=
  let i := key / 256
  let sub := key % 256
  if key = okey 0x1020 9 then { s with power := { s.power with drawPeak := 0 } }
  else if key = okey 0x1025 2 then { s with power := { s.power with junctionPeak := 0 } }
  else if key = okey 0x1210 10 then s.modSession n (fun x => { x with notifyMask := valNat v })
  else if i = 0x5010 ∨ i = 0x5011 then s.modAngle (i - 0x5010) (fun x => { x with residualMax := 0 })
  else if 0x3010 ≤ i ∧ i ≤ 0x302F then s.modBridge (i - 0x3010) (fun x => x.put sub (valNat v))
  else if 0x3100 ≤ i ∧ i ≤ 0x31FF then s.modTask (i - 0x3100) (fun x => x.put sub (valNat v))
  else if 0x7100 ≤ i ∧ i ≤ 0x710F then
    (match (s.probe (i - 0x7100)).write s.nclk (sub - 1) (valNat v) with
     | some x => s.modProbe (i - 0x7100) (fun _ => x)
     | none => s)
  else if i = 0x8410 ∨ i = 0x8411 then s.modSlot (i - 0x8410) (fun x => x.put sub (valNat v))
  else if key = okey 0x9040 3 then
    { s with io := { s.io with twt := { s.io.twt with
        outArea := (valBytes v).zipIdx.foldl (fun t p => tset 0 t p.2 p.1) s.io.twt.outArea } } }
  else if 0xA000 ≤ i ∧ i ≤ 0xA00F then s.modImage (i - 0xA000) (fun x => x.put sub (valNat v))
  else if 0xA100 ≤ i ∧ i ≤ 0xA10F then s.modImage (i - 0xA100) (fun x => x.putMap sub (valNat v))
  else s

/-! ### Ranges that a row cannot say -/

/-- A legal *IntervalMinutes* (13 R492). -/
def intervalOk (n : Nat) : Bool := [1, 2, 3, 4, 5, 6, 10, 12, 15, 20, 30, 60].contains n

/-- The value that a session's next apply would leave an object with (11 R407). -/
def State.nextOf (s : State) (x : Session) (key : Nat) : Val :=
  match x.pendingSet.find? (fun w => w.key == key) with
  | some w => w.value
  | none => (alook s.sess.stored key).getD (s.val key)

/-- Step 7 of R421 where a range is more than an interval (02 R52, 11 R412, R451, 13 R492, R496). -/
def State.rangeCheck (s : State) (x : Session) (key : Nat) (v : Val) : Abort × Nat :=
  let i := key / 256
  let n := valNat v
  let bad : Bool :=
    if key = okey 0x1301 2 then n == 1 && valNat (s.nextOf x (okey 0x1301 3)) != 0
    else if key = okey 0x1301 3 then n != 0 && valNat (s.nextOf x (okey 0x1301 2)) == 1
    else if key = okey 0x1102 6 then !n.testBit 0
    else if 0x1500 ≤ i ∧ i ≤ 0x151F ∧ key % 256 = 2 then decide (0x3F < n)
    else if key = okey 0x6000 1 then !intervalOk n
    else if i = 0x6030 then
      decide (3 < (valBytes v).getD 8 0) || decide (s.num 0x6000 3 1 ≤ (valBytes v).getD 9 0)
    else false
  if bad then (.range, 0) else (.ok, 0)

/-- A zone whose lease a write of *PacketGrants* needs beside its own and whose holder the writer is not (06 R239). -/
def State.grantLack (s : State) (n : SessionNo) (key : Nat) (v : Val) : Abort × Nat :=
  let i := key / 256
  if 0x70A0 ≤ i ∧ i ≤ 0x70A7 then
    (let added := (List.range 8).filter (fun y => (valNat v).testBit y && !(valNat (s.val key)).testBit y)
     match s.zoneNotHeld n added with
     | some y => (.notHolder, 0x10 + y)
     | none => (.ok, 0))
  else (.ok, 0)

/-! ### The pending set (11 R407) -/

/-- The writes a session has pending but for one object, with a value for it. -/
def Session.withWrite (x : Session) (key : Nat) (v : Val) : List (Nat × Val) :=
  (key, v) :: (x.pendingSet.filter (fun w => w.key != key)).map (fun w => (w.key, w.value))

/-- Enters a write into a pending set: a second write of an object replaces the first (11 R407). -/
def Session.enter (x : Session) (w : PendingWrite) : Session :=
  if x.pendingSet.any (fun y => y.key == w.key) then
    { x with pendingSet := x.pendingSet.map (fun y => if y.key = w.key then w else y) }
  else { x with pendingSet := x.pendingSet ++ [w] }

/-- The checks of a write that enters the pending set, after the range of its row (11 R407, R421). -/
def State.pendCheck (s : State) (n : SessionNo) (x : Session) (key : Nat) (v : Val) : Abort × Nat :=
  match s.rangeCheck x key v with
  | (.ok, _) => match s.stateCheck (x.withWrite key v) key v with
    | (.ok, _) => match s.grantLack n key v with
      | (.ok, _) =>
        if x.pendingSet.length ≥ 64 ∧ !x.pendingSet.any (fun y => y.key == key) then (.pendingFull, 0) else (.ok, 0)
      | e => e
    | e => e
  | e => e

/-- Serves a write that enters the pending set (11 R406, R407, R421). -/
def State.servePending (s : State) (q : Req) (key : Nat) (b : List Nat)
    (more : State → Session → Val → Abort × Nat) : State :=
  s.serveBytes q key b
    (fun t x v => match t.pendCheck q.session x key v with
      | (.ok, _) => more t x v
      | e => e)
    (fun t x v =>
      let lease : Option Nat := (objRow key).bind (fun r => t.governing q.session x.role key r)
      { state := t.modSession q.session (fun y => y.enter { key := key, value := v, lease := lease, epoch := q.epoch }) })

/-- Serves a NOW write of an object without a row of its own (11 R406, R421). -/
def State.serveNow (s : State) (q : Req) (key : Nat) (b : List Nat) : State :=
  s.serveBytes q key b (fun t _ v => t.nowCheck q.session key v) (fun t _ v => { state := t.nowEffect q.session key v })

end Sys2Proof.Machine
end

