-- ==== Sys2Proof/Machine/Quench.lean ====
section
/-!
DEFINITION. The happenings at the Quench unit: safety inputs, test pulses, the safety PDU, the comparator, the
off-tests and the monitors (10 R361 to R395).
-/

namespace Sys2Proof.Machine

/-! ### Safety inputs -/

/-- A channel of an SI pair has read low beyond *SiFilter*: it is open (10 R378). -/
def execSiOpen (n : Fin 4) (b : Bool) (s : State) : Host.Outcome State Fault Refusal :=
  .next (if s.quenchRuns ∧ !(s.quench.pair n).opened b then s.siChannel n b true else s)

/-- A channel of an SI pair that was low reads high again: it is closed (10 R378). -/
def execSiClosed (n : Fin 4) (b : Bool) (s : State) : Host.Outcome State Fault Refusal :=
  .next (if s.quenchRuns ∧ (s.quench.pair n).opened b then s.siChannel n b false else s)

/-- The channels of a pair have differed for *SiDiscrepancy*: a discrepancy latches (10 R378). -/
def execSiDiscrepancy (n : Fin 4) (s : State) : Host.Outcome State Fault Refusal :=
  .next (match (s.quench.pair n).differSince with
    | some t =>
      if s.quenchRuns ∧ s.quench.siType n ≠ .unused ∧ t + s.quench.siDisc < s.now then
        (s.modPair n (fun p => { p with discrepancy := true, openedTogether := false })).standFault (0x14 + n)
      else s
    | none => s)

/-- A channel has read high through its source's whole pulse window: a test-pulse fault latches (10 R378). -/
def execSiTestpulse (n : Fin 4) (b : Bool) (s : State) : Host.Outcome State Fault Refusal :=
  .next (if s.quenchRuns ∧ s.quench.siType n ≠ .unused ∧ !(s.quench.pair n).opened b then
      (s.modPair n (fun p => { p with tpFault := true, passedA := p.passedA && b, passedB := p.passedB && !b })).standFault
        (0x18 + n)
    else s)

/-- Whether the test pulse of a source is due: 50 ms after its last, and its first 12.5 ms x n after TP0's
(10 R377). -/
def QuenchUnit.pulseDue (u : QuenchUnit) (src now : Nat) : Bool :=
  match tget none u.pulseAt src, tget none u.pulseAt 0 with
  | some t, _ => decide (t + 50000000 ≤ now)
  | none, some t0 => decide (t0 + 12500000 * src ≤ now)
  | none, none => src == 0

/-- A test pulse of a source: each closed channel it feeds passes it; a channel that does not is reported by
SI_TESTPULSE (10 R373, R377). -/
def execTestPulse (src : Fin 4) (s : State) : Host.Outcome State Fault Refusal :=
  .next (if s.quenchRuns ∧ s.quench.pulseDue src s.now then
      let s1 := s.modQuench (fun u => { u with pulseAt := tset none u.pulseAt src (some s.now) })
      let s2 := s1.modPair src (fun p => { p with passedA := p.passedA || !p.openA })
      s2.modPair ((src + 3) % 4) (fun p => { p with passedB := p.passedB || !p.openB })
    else s)

/-- A RESET pair that was closed for 100 ms to 2 s opens: a reset acknowledgement while PDU_EN is 0
(10 R375). -/
def execSiResetPress (n : Fin 4) (s : State) : Host.Outcome State Fault Refusal :=
  .next (match (s.quench.pair n).closedSince with
    | some t =>
      if s.quenchRuns ∧ s.quench.siType n = .reset ∧ t + 100000000 ≤ s.now ∧ s.now ≤ t + 2000000000 then
        let s1 := (s.siChannel n false true).siChannel n true true
        if s1.quench.pduEn then s1 else s1.acknowledge
      else s
    | none => s)

/-! ### The safety PDU -/

/-- A write of SafetyPduIn by a SAFETY session (10 R390, R393, R398). -/
def execSafetyPduIn (q : Req) (b : List Nat) (s : State) : Host.Outcome State Fault Refusal :=
  .next (s.serveBytes q (okey 0x2100 1) b noCheck (fun t _ v => { state := t.takePdu (valBytes v) }))

/-- No command PDU has been accepted for *PduWatchdog* (10 R393). -/
def execPduTimeout (s : State) : Host.Outcome State Fault Refusal :=
  .next (if s.quenchRuns ∧ s.quench.pduEn ∧ s.quench.pduAt + s.quench.pduWatchdog < s.now then
      (s.modQuench (fun u => { u with lastCnt := none })).quenchCause 0x20
    else s)

/-! ### The comparator -/

/-- A comparator channel compares its oldest tokens; `parity` when their parity bits differ, `oneCell` when
only one of its two cells reports (10 R384). -/
def execMirrorCompare (k : Fin 64) (parity oneCell : Bool) (s : State) : Host.Outcome State Fault Refusal :=
  .next (let s1 := s.compareTokens k parity
    if oneCell ∧ (alook s.quench.cmp k).isSome then s1.quenchCause 0x52 else s1)

/-- A token has waited 8 ACLK cycles without a partner (10 R384). -/
def execMirrorSkew (k : Fin 64) (s : State) : Host.Outcome State Fault Refusal :=
  .next (match (alook s.quench.cmp k).bind CmpChannel.unmatched with
    | some (_, t) => if t + 8 ≤ s.now then s.mirrorFault k 0x31 else s
    | none => s)

/-- A DEMAND stream has delivered no agreed KEEP for *DemandWatch* (10 R385). -/
def execMirrorWatch (k : Fin 64) (s : State) : Host.Outcome State Fault Refusal :=
  .next (match alook s.quench.cmp k with
    | some c =>
      if c.demand ∧ c.watchAt + s.demandWatch < s.now then
        (s.modCmp k (fun x => { x with late := true })).quenchCause 0x33
      else s
    | none => s)

/-- Every 1 s each comparator channel is fed a pair that differs in one bit and a matching pair; `failing` are
the channels with a cell that misreports one (10 R395). -/
def execComparatorSelftest (failing : List (Fin 64)) (s : State) : Host.Outcome State Fault Refusal :=
  .next (if s.quenchRuns ∧ s.quench.selfTestAt + 1000000000 ≤ s.now then
      let bad := failing.map (fun k => k.val)
      let good := s.quench.cmp.filter (fun p => !bad.contains p.1)
      let s1 := s.modQuench (fun u =>
        { u with selfTestAt := s.now, testsPassed := (u.testsPassed + good.length) % 2 ^ 32
                 cmp := u.cmp.map (fun p => (p.1, { p.2 with testBit := (p.2.testBit + 1) % 33 })) })
      if good.length < s.quench.cmp.length then s1.quenchCause 0x52 else s1
    else s)

/-! ### The contacts -/

/-- Whether an off-test of a contact may begin: it conducts, 10 s after its last, 1 s from any other's
(10 R380). -/
def State.offTestDue (s : State) (k : Nat) : Bool :=
  let u := s.quench
  s.armed && (u.contact k).conducts && (u.contact k).lastTest.all (fun t => decide (t + 10000000000 ≤ s.now)) &&
    (List.range 4).all (fun j => (u.contact j).testAt.isNone &&
      (u.contact j).lastTest.all (fun t => decide (t + 1000000000 ≤ s.now)))

/-- The off-test of a closed contact begins (10 R380). -/
def execQoOffTest (k : Fin 4) (s : State) : Host.Outcome State Fault Refusal :=
  .next (if s.offTestDue k then
      s.modContact k (fun c => { c with conducts := false, testAt := some s.now, lastTest := some s.now })
    else s)

/-- The contact opens again for the end of its test: inconclusive tests are counted, the eighth in a row raises
QO_UNTESTED (10 R380). -/
def State.inconclusiveTest (s : State) (k : Nat) : State :=
  let s1 := (s.modContact k (fun c => { c with conducts := true, testAt := none, inconclusive := c.inconclusive + 1 })).modQuench
    (fun u => { u with inconclusive := inc32 u.inconclusive })
  if (s1.quench.contact k).inconclusive = 8 then s1.record .quench .safety 0x80 0x01F0 [k] else s1

/-- The end of an off-test, 200 µs after it began (10 R380). -/
def execQoOffTestEnd (k : Fin 4) (res : OffTest) (s : State) : Host.Outcome State Fault Refusal :=
  .next (match (s.quench.contact k).testAt with
    | some t =>
      if t + 200000 ≤ s.now then
        match res with
        | .opened => s.modContact k (fun c => { c with conducts := true, testAt := none, inconclusive := 0 })
        | .noVoltage => s.inconclusiveTest k
        | .conducting =>
          (s.modContact k (fun c => { c with conducts := true, testAt := none, stuck := true })).quenchCause 0x50
      else s
    | none => s)

/-! ### The monitors -/

/-- Every 40 µs TCLK edges are counted against the nominal 10,000 (10 R363). -/
def execClockCheck (count : Nat) (s : State) : Host.Outcome State Fault Refusal :=
  .next (if s.quenchRuns ∧ s.quench.clockAt + 40000 ≤ s.now then
      let s1 := s.modQuench (fun u => { u with clockAt := s.now })
      if count < 9000 ∨ 11000 < count then s1.quenchCause 0x54 else s1
    else s)

/-- The two channels have differed for more than 4 QOSC cycles (10 R361). -/
def execChannelDisagree (s : State) : Host.Outcome State Fault Refusal := .next (s.quenchCause 0x53)

/-- A rail has been out of its window for more than 2 µs, or all are within theirs again (10 R363). -/
def execSupply (out : Bool) (s : State) : Host.Outcome State Fault Refusal := .next (s.demand 0x55 out)

/-- The Quench unit's sensor reads a temperature in 0.1 °C: above 110 °C a demand, below 105 °C none
(10 R363). -/
def execOvertemp (temp : Int) (s : State) : Host.Outcome State Fault Refusal :=
  .next (if s.quenchRuns then
      let s1 := s.modQuench (fun u => { u with temp := temp })
      if 1100 < temp then s1.quenchCause 0x56 else if temp < 1050 then s1.endDemand 0x56 else s1
    else s)

/-- QOSC, or a channel's pump, stops: the contacts of a stopped channel open, and with both stopped the other
clock domain finds CLOCK (10 R362, R397). -/
def execQoscStop (a b : Bool) (s : State) : Host.Outcome State Fault Refusal :=
  .next (let s1 := s.modQuench (fun u =>
      { u with stoppedA := u.stoppedA || a, stoppedB := u.stoppedB || b
               qo := tmap {} (fun k c => if (if k % 2 = 0 then a else b) then
                 { c with conducts := c.stuck, testAt := none } else c) u.qo })
    if a ∧ b then s1.quenchCause 0x54 else s1)

/-- A write of QuenchRequest sets or clears HOST_REQUEST (10 R365, R398). -/
def execQuenchRequest (q : Req) (b : List Nat) (s : State) : Host.Outcome State Fault Refusal :=
  .next (s.serveBytes q (okey 0x2000 5) b noCheck (fun t _ v =>
    { state := (t.modQuench (fun u => { u with request := valNat v != 0 })).demand 0x40 (valNat v != 0) q.session }))

/-- An enabled end has sent no SAFE frame for 300 µs, or one that the readback finds wrong (10 R371). -/
def execSafeReadbackTimeout (r : Fin 16) (b wrong : Bool) (s : State) : Host.Outcome State Fault Refusal :=
  .next (let x := s.ringAt r
    let fed := x.feeds (if b then .b else .a)
    let last := if b then x.safeAtB else x.safeAtA
    if fed ∧ (wrong ∨ last + 300000 < s.now) then s.quenchCause 0x51 else s)

end Sys2Proof.Machine
end

