-- ==== Sys2Proof/Machine/ImageOps.lean ====
section
/-!
DEFINITION. Process images: their mappings, the checks of *Enable*, sampling and writing mapped bits, and the fail
action (11 R439 to R449).
-/

namespace Sys2Proof.Machine

/-! ### Mapped bits (11 R442, R443) -/

/-- The index that stands for the process-data area. -/
def pdaIndex : Nat := 0xA800

/-- The object of a mapping entry. -/
def MapEntry.key (e : MapEntry) : Nat := okey e.idx e.sub

/-- The bits that a mapping entry reads from an object's wire bytes: whole bytes in the order sent, or a bit field
counted from the value's least significant bit. -/
def MapEntry.take (e : MapEntry) (b : List Nat) : Nat :=
  if 8 ≤ e.n then ofBytesLE ((b.drop (e.src / 8)).take (e.n / 8)) else ofBytesBE b / 2 ^ e.src % 2 ^ e.n

/-- An object's wire bytes with the entry's bits replaced. -/
def MapEntry.give (e : MapEntry) (b : List Nat) (v : Nat) : List Nat :=
  if 8 ≤ e.n then b.take (e.src / 8) ++ bytesLE (e.n / 8) v ++ b.drop (e.src / 8 + e.n / 8)
  else
    let old := ofBytesBE b
    bytesBE b.length (old - (old / 2 ^ e.src % 2 ^ e.n) * 2 ^ e.src + v % 2 ^ e.n * 2 ^ e.src)

/-- Bits of the process-data area. -/
def State.pdaBits (s : State) (src n : Nat) : Nat :=
  ofBytesLE ((List.range ((src % 8 + n + 7) / 8)).map (fun k => tget 0 s.sess.pda (src / 8 + k))) / 2 ^ (src % 8) % 2 ^ n

/-- Writes bits of the process-data area. -/
def State.putPdaBits (s : State) (src n v : Nat) : State :=
  let len := (src % 8 + n + 7) / 8
  let old := ofBytesLE ((List.range len).map (fun k => tget 0 s.sess.pda (src / 8 + k)))
  let new := old - (old / 2 ^ (src % 8) % 2 ^ n) * 2 ^ (src % 8) + v % 2 ^ n * 2 ^ (src % 8)
  { s with sess := { s.sess with
      pda := (bytesLE len new).zipIdx.foldl (fun t p => tset 0 t (src / 8 + p.2) p.1) s.sess.pda } }

/-- The wire bytes of an object as a session reads it; zeros for one that cannot be read. -/
def State.wireBytes (s : State) (n : SessionNo) (key : Nat) : List Nat :=
  match objRow key with
  | some r => if r.acc = .wo then List.replicate (r.ty.size.getD 0) 0 else r.ty.encode (s.objectValue n key)
  | none => []

/-- What a mapping entry carries to a host-bound image. -/
def State.entryBits (s : State) (n : SessionNo) (e : MapEntry) : Nat :=
  if e.idx = pdaIndex then s.pdaBits e.src e.n else e.take (s.wireBytes n e.key)

/-- The payload of a host-bound image (11 R442, R443, R446). -/
def State.imagePayload (s : State) (x : ImageRec) : List Nat :=
  bytesLE x.payloadLen ((x.entries.map (fun e => s.entryBits x.owner e * 2 ^ e.img)).sum)

/-- The bits that a payload carries for an entry. -/
def MapEntry.ofPayload (e : MapEntry) (p : List Nat) : Nat := ofBytesLE p / 2 ^ e.img % 2 ^ e.n

/-! ### The checks of *Enable* (11 R441, R443) -/

/-- Two spans of bits share one. -/
def spansMeet (a n b m : Nat) : Bool := decide (a < b + m ∧ b < a + n)

/-- Two entries map the same object, or the same bit of the process-data area. -/
def MapEntry.shares (e f : MapEntry) : Bool :=
  if e.idx = pdaIndex ∨ f.idx = pdaIndex then e.idx == f.idx && spansMeet e.src e.n f.src f.n else e.key == f.key

/-- An entry's own shape, its source and its object (11 R442, R443). -/
def MapEntry.legal (e : MapEntry) (toHost : Bool) : Bool :=
  decide (1 ≤ e.n ∧ e.img + e.n ≤ 11200) &&
    (if 8 ≤ e.n then e.n % 8 == 0 && e.src % 8 == 0 && e.img % 8 == 0 else decide (e.img % 8 + e.n ≤ 8)) &&
    (if e.idx = pdaIndex then e.sub == 0 && decide (e.src + e.n ≤ 65536)
     else match objRow e.key with
      | some r => r.mappable toHost && decide (e.src + e.n ≤ 8 * r.ty.size.getD 0)
      | none => false)

/-- Entries of the other enabled device-bound images. -/
def State.otherEntries (s : State) (i : Nat) : List MapEntry :=
  (s.sess.images.filter (fun p => p.1 != i && p.2.enable && !p.2.toHost)).flatMap (fun p => p.2.entries)

/-- The first entry that breaks R443, by its sub-index; an image without an entry has no payload (11 R441 to R444). -/
def State.badEntry (s : State) (i : Nat) : Option Nat :=
  let x := s.imageRec i
  let l := x.entries
  let others := if x.toHost then [] else s.otherEntries i
  if l = [] then some 0
  else ((l.zipIdx).find? (fun p =>
    !p.1.legal x.toHost || (l.take p.2).any (fun e => spansMeet e.img e.n p.1.img p.1.n) ||
      others.any (fun e => e.shares p.1))).map (·.2 + 1)

/-- A session's peer is an IPv4-mapped address. -/
def State.peerV4 (s : State) (n : SessionNo) : Bool :=
  match s.session? n with
  | some x => x.peer.take 12 == List.replicate 10 0 ++ [0xFF, 0xFF]
  | none => false

/-- W of R441: the wire bytes of an image. -/
def State.wireSize (s : State) (x : ImageRec) : Nat := x.payloadLen + (if s.peerV4 x.owner then 110 else 130)

/-- Whether the images on a port stay within 500 Mbit/s: the sum of 8 W / C as a fraction (11 R441). -/
def State.portFits (s : State) (l : List ImageRec) (port : Nat) : Bool :=
  let f := (l.filter (fun x => x.port == port || x.port == 2)).foldl (fun (a : Nat × Nat) x =>
    (a.1 * (31250 * x.cycleUnits) + 16 * s.wireSize x * a.2, a.2 * (31250 * x.cycleUnits))) (0, 1)
  decide (f.1 ≤ f.2)

/-- The checks of *Enable* (11 R441). -/
def State.enableCheck (s : State) (n : SessionNo) (role : Role) (i : Nat) : Abort × Nat :=
  let x := s.imageRec i
  let others := (s.sess.images.filter (fun p => p.1 != i && p.2.enable)).map (·.2)
  let bad := s.badEntry i
  firstFail [
    (x.owner != n, .wrongState, 0),
    (!(s.portFits (x :: others) 0 && s.portFits (x :: others) 1), .cycleBad, 0),
    (decide (x.cycleUnits < 8) && decide (4 ≤ (others.filter (fun y => decide (y.cycleUnits < 8))).length), .cycleBad, 0),
    (bad.isSome, .mapBad, bad.getD 0),
    (!x.toHost && x.entries.any (fun e => e.idx != pdaIndex && (match objRow e.key with
      | some r => !s.roleAdmitted role e.key r
      | none => true)), .noAccess, 0)]

/-- The cycle boundary at or before a time: T64 ≡ *Phase* modulo C (11 R440). -/
def ImageRec.boundaryAt (x : ImageRec) (t : Nat) : Nat :=
  t - (((t : Int) - x.phase).emod (cycleNs x.cycleUnits)).toNat

/-- The first boundary after a time. -/
def ImageRec.boundaryAfter (x : ImageRec) (t : Nat) : Nat := x.boundaryAt t + cycleNs x.cycleUnits

/-- The image starts (11 R441, R447, R448). -/
def ImageRec.start (x : ImageRec) (t : Nat) : ImageRec :=
  { x with enable := true, waiting := [], lastCycle := none, last := [], missed := 0, tripped := false
           boundary := some (x.boundaryAt t) }

/-! ### The fail action (11 R448) -/

/-- Writes 0 to a mapped RW object; a limited-write object takes no part, and a value or a state that its checks
refuse leaves it as it is. -/
def State.zeroObject (s : State) (n : SessionNo) (key : Nat) : State :=
  match objRow key with
  | none => s
  | some r =>
    if r.acc ≠ .rw ∨ limitedWrite key then s
    else
      let v := r.ty.decode (List.replicate (r.ty.size.getD 0) 0)
      if key = okey 0x2000 5 then (s.modQuench (fun u => { u with request := false })).demand 0x40 false
      else if 0x3010 ≤ key / 256 ∧ key / 256 ≤ 0x302F ∧ key % 256 = 4 then
        (if s.bridgeUsed (key / 256 - 0x3010) then s
         else s.modBridge (key / 256 - 0x3010) (fun b => { b with opened := false }))
      else if 0xA000 ≤ key / 256 ∧ key / 256 ≤ 0xA00F ∧ key % 256 = 7 then
        s.modImage (key / 256 - 0xA000) (fun x => { x with enable := false })
      else if r.inRange v then (match s.nowCheck n key v with
        | (.ok, _) => s.nowEffect n key v
        | _ => s)
      else s

/-- *FailAction* ZERO: every mapped bit of the process-data area and every mapped RW object, once (11 R448). -/
def State.zeroImage (s : State) (x : ImageRec) : State :=
  x.entries.foldl (fun t e =>
    if e.idx = pdaIndex then t.putPdaBits e.src e.n 0 else t.zeroObject x.owner e.key) s

/-- The watchdog of an image has tripped, or its session has ended: PI_WATCHDOG and the fail action (11 R448). -/
def State.failImage (s : State) (i : Nat) : State :=
  let x := s.imageRec i
  let s1 := (s.alarm .alarm 0x0906 i (i :: bytesLE 4 x.missed)).modImage i (fun y =>
    { y with trips := inc32 y.trips, tripped := true })
  if x.failZero then s1.zeroImage x else s1

end Sys2Proof.Machine
end

