-- ==== Sys2Proof/Machine/SessionOps.lean ====
section
/-!
DEFINITION. Sessions and leases: lapses and fences, the end of a session, credentials and handshakes (11 R413 to
R418, R427 to R435).
-/

namespace Sys2Proof.Machine

/-! ### Lapses and fences (11 R433, R435, 07 R260) -/

/-- A lease that lapses or is fenced: its holder is cleared, and a staging slot's staging is withdrawn (11 R433,
07 R260). -/
def State.dropHolder (s : State) (l code : Nat) (session : SessionNo) : State :=
  let s1 := s.clearHolder l code session
  if l = 0x40 ∨ l = 0x41 then s1.withdraw (l - 0x40) else s1

/-- A lapse (11 R433). -/
def State.lapseLease (s : State) (l : Nat) : State := s.dropHolder l 0x0614 0

/-- A fence that is carried out (11 R435). -/
def State.fenceLease (s : State) (l : Nat) (session : SessionNo) : State :=
  (s.dropHolder l 0x0613 session).modLease l (fun x => { x with fence := .done })

/-! ### The end of a session (11 R418) -/

/-- The records that a session holds are freed; its enabled device-bound images take their fail actions first
(11 R418, R448, R451). -/
def State.endImages (s : State) (n : SessionNo) : State :=
  let mine := (s.sess.images.filter (fun p => p.2.owner == n)).map (·.1)
  let s1 := mine.foldl (fun t i =>
    if (t.imageRec i).enable ∧ !(t.imageRec i).toHost then t.failImage i else t) s
  mine.foldl (fun t i => t.modImage i (fun _ => {})) s1

/-- What a session has outstanding goes: its requests, its pending set and its transfers; a programming it asked for
goes on without an answer (11 R418). -/
def State.dropRequests (s : State) (n : SessionNo) : State :=
  let s1 := s.modSession n (fun x => { x with inFlight := [], pendingSet := [], snapshots := [], segWrite := none })
  { s1 with fuse := { s1.fuse with prog := s1.fuse.prog.map (fun p => if p.session = n then { p with session := 0 } else p) } }

/-- An accepted apply proceeds when its session ends (11 R410). -/
def State.disownApplies (s : State) (n : SessionNo) : State :=
  { s with sess := { s.sess with applies := s.sess.applies.map (fun a => if a.session = n then { a with session := 0 } else a) } }

/-- A session ends: its requests and pending set, its leases, its images, its number, in this order; at RESET and at a
Gaffer restart the leases lapse at the next start instead (11 R418, R432). -/
def State.endSession (s : State) (n : SessionNo) (lapse : Bool) : State :=
  let s1 := s.dropRequests n
  let s2 := if lapse then (s1.leasesOf n).foldl State.lapseLease s1 else s1
  let s3 := (s2.endImages n).disownApplies n
  { s3 with sess := { s3.sess with sessions := s3.sess.sessions.filter (fun p => p.1 != n) } }

/-- Every session ends, without a lapse (11 R418, R432). -/
def State.endSessions (s : State) : State :=
  let t := (s.sess.sessions.map (·.1)).foldl (fun t n => t.endSession n false) s
  { t with sess := { t.sess with handshakes := [] } }

/-! ### Credentials (11 R414, R415) -/

/-- *Enabled* of a credential entry. -/
def State.credEnabled (s : State) (c : Nat) : Bool := s.flagOn (0x1500 + c) 4 false

/-- The device is in commissioning: no credential entry is enabled (11 R415). -/
def State.commissioning (s : State) : Bool := !(List.range 32).any s.credEnabled

/-- *RoleMask* of a credential admits a role; a commissioning session is MAINTENANCE (11 R412, R415). -/
def State.credRole (s : State) (c : Nat) (r : Role) : Bool :=
  if c = 0xFF then r == .maintenance else (s.num (0x1500 + c) 2 0).testBit (r.code - 1)

/-- The enabled entry whose *PublicKey* a client's key equals. -/
def State.credOf (s : State) (key : List Nat) : Option Nat :=
  (List.range 32).find? (fun c => s.credEnabled c && valBytes (s.val (okey (0x1500 + c) 1)) == key)

/-- A session's right to be open still stands (11 R414, R415). -/
def State.credStands (s : State) (x : Session) : Bool :=
  if x.credential = 0xFF then s.commissioning else s.credEnabled x.credential && s.credRole x.credential x.role

/-- A connection that waits for OPEN still has its credential. -/
def State.shakeStands (s : State) (h : Handshake) : Bool :=
  match h.credential with
  | none => true
  | some c => if c = 0xFF then s.commissioning else s.credEnabled c

/-- The apply edge of a change to a credential: sessions without their right end (11 R414, R415). -/
def State.credentialEdge (s : State) : State :=
  let gone := (s.sess.sessions.filter (fun p => !s.credStands p.2)).map (·.1)
  let t := gone.foldl (fun t n => t.endSession n true) s
  { t with sess := { t.sess with handshakes := t.sess.handshakes.filter t.shakeStands } }

/-! ### Handshakes (11 R413 to R416) -/

/-- A connection that has no session yet. -/
def State.shake? (s : State) (conn : Nat) : Option Handshake := s.sess.handshakes.find? (fun h => h.conn == conn)

/-- A connection's handshake is forgotten. -/
def State.dropShake (s : State) (conn : Nat) : State :=
  { s with sess := { s.sess with handshakes := s.sess.handshakes.filter (fun h => h.conn != conn) } }

/-- Something on the Gaffer serves sessions: the firmware or the recovery service (01 R30, 07 R270). -/
def State.servesHosts (s : State) : Bool :=
  match s.op.gaffer with
  | .running _ | .recovery => true
  | _ => false

/-- FUSE_EN's level as it is sensed; while it is low no acknowledgement of its is in progress (11 R435). -/
def State.senseEn (s : State) (en : Bool) : State :=
  { s with op := { s.op with fuseEn := en }
           sess := if en then s.sess else { s.sess with ackFuse := none } }

/-- The lowest free session number (11 R416). -/
def State.freeSession (s : State) : Option Nat :=
  ((List.range 8).map (· + 1)).find? (fun n => (s.session? n).isNone)

/-- The role of a code (11 R411). -/
def roleOf (n : Nat) : Option Role := if n = 0 then none else allRoles[n - 1]?

/-- Why OPEN is refused; in HALT one MAINTENANCE session is served (11 R415, R416, 07 R270). -/
def State.openCheck (s : State) (c : Nat) (role : Option Role) : Abort :=
  match role with
  | none => .badRole
  | some r =>
    if !s.credRole c r ∨ (s.op.state = .halt ∧ r ≠ .maintenance) then .badRole
    else if r = .safety ∧ s.sess.sessions.any (fun p => p.2.role == .safety) then .roleTaken
    else if s.freeSession.isNone ∨ (s.op.state = .halt ∧ s.sess.sessions ≠ []) then .sessionsFull
    else .ok

/-- The keep-alive time in force for the one OPEN names, in s (11 R417). -/
def State.keepAliveFor (s : State) (k : Nat) : Nat := if k = 0 then s.num 0x1102 8 10 else min k 600

/-- The session of a connection. -/
def State.sessionOn (s : State) (conn : Nat) : Option Nat := (s.sess.sessions.find? (fun p => p.2.conn == conn)).map (·.1)

end Sys2Proof.Machine
end

