-- ==== Sys2Proof/Machine/ApplyOps.lean ====
section
/-!
DEFINITION. Applies: their acceptance, their ATOMIC rounds, the edge at which their values take effect, and the
rounds' decisions (11 R406 to R410, 06 R235).
-/

namespace Sys2Proof.Machine

/-! ### Acceptance (11 R408, R409) -/

/-- *ApplyCommand*'s fields (11 R408). -/
structure ApplyReq where
  mode : Nat
  fallback : Nat
  time : T64
  fallbackTime : T64
  deriving DecidableEq, Repr

/-- The fields of *ApplyCommand*'s 24 bytes. -/
def applyReq (b : List Nat) : ApplyReq :=
  { mode := b.getD 0 0, fallback := b.getD 1 0, time := ofBytesBE ((b.drop 8).take 8)
    fallbackTime := ofBytesBE ((b.drop 16).take 8) }

/-- The mode of a code (11 R408). -/
def edgeModeOf (n : Nat) : EdgeMode :=
  match n with
  | 0 => .atOnce
  | 1 => .atTime
  | _ => .atMark

/-- The commit class of an object; NOW where there is none. -/
def commitOf (key : Nat) : Commit := ((objRow key).map (·.commit)).getD .now

/-- The checks of *ApplyCommand* (11 R408). -/
def State.applyRequestCheck (s : State) (x : Session) (r : ApplyReq) : Abort × Nat :=
  firstFail [
    (decide (2 < r.mode) || decide (1 < r.fallback), .range, 0),
    (x.pendingSet.isEmpty || x.applyState == .waiting ||
      (r.mode == 1 && decide (r.time < s.time.t64 + s.activateLead)), .wrongState, 0),
    (x.pendingSet.any (fun w => !(commitOf w.key).allows (edgeModeOf r.mode)), .classMismatch, 0)]

/-- The persistent values of a set of writes, as its DICT_APPLY record holds them (11 R409, 12 R478). -/
def persistentOf (l : List PendingWrite) : List (Nat × Val) :=
  (l.filter (fun w => (objRow w.key).any ObjRow.persistent)).map (fun w => (w.key, w.value))

/-- The pending set becomes an apply, its persistent values journalled as pending (11 R408, R409). -/
def State.acceptApply (s : State) (n : SessionNo) (x : Session) (r : ApplyReq) : State :=
  let m := edgeModeOf r.mode
  let edge : Option T64 := match m with
    | .atOnce => some (s.time.t64 + s.activateLead)
    | .atTime => some r.time
    | .atMark => none
  let a : Apply := { session := n, mode := m, fallback := if m = .atMark ∧ r.fallback = 1 then some r.fallbackTime else none
                     set := x.pendingSet, edge := edge, since := s.now, aborted := 0, stage := 0, jseq := s.store.nextJseq }
  let s1 := s.commit (.dictApply (persistentOf x.pendingSet))
  let s2 := { s1 with sess := { s1.sess with applies := s1.sess.applies ++ [a] } }
  s2.modSession n (fun y =>
    { y with pendingSet := [], applyState := .waiting, applyEdge := 0, failObject := 0, failCode := .ok })

/-! ### Rounds (11 R409) -/

/-- An apply's round is due: none is out, its edge is known, and an AT_TIME apply is within *ActivateLead* of it. -/
def State.applyDue (s : State) (a : Apply) (e : T64) : Bool :=
  a.stage == 0 && !s.net.rounds.any (fun r => r.kind == .applySet a.jseq) &&
    (a.mode != .atTime || decide (e ≤ s.time.t64 + s.activateLead))

/-- The units that hold a value of an apply. -/
def Apply.members (a : Apply) : List Nat := (a.set.flatMap (fun w => unitsOf w.key)).eraseDups

/-- What the Gaffer holds itself of an apply that fails its repeated checks now (11 R409). -/
def State.ownFailure (s : State) (a : Apply) : Option (Nat × Abort) := s.applyFailure a (fun k => (unitsOf k).isEmpty)

/-- An apply ends FAILED: the first object that failed and its abort code (11 R409, R410). -/
def State.failApply (s : State) (a : Apply) (f : Nat × Abort) : State :=
  let s1 := { s with sess := { s.sess with applies := s.sess.applies.filter (fun y => y.jseq != a.jseq) } }
  if a.session = 0 then s1
  else s1.modSession a.session (fun y => { y with applyState := .failed, failObject := f.1, failCode := f.2 })

/-- A round of an apply has aborted: another for the next E of the same mode, or failure after the third
(11 R409). -/
def State.retryApply (s : State) (a : Apply) (f : Nat × Abort) : State :=
  if 3 ≤ a.aborted + 1 then s.failApply a f
  else s.modApply a.jseq (fun y =>
    { y with
      aborted := y.aborted + 1, since := s.now, stage := 0
      edge := match y.mode with
        | .atMark => none
        | _ => y.edge.map (· + s.activateLead) })

/-- The Gaffer sends an apply's STAGE to every unit that holds a value of it; the values it holds itself are checked
at that moment (11 R409). -/
def State.startApplyRound (s : State) (a : Apply) (e : T64) : State :=
  let own := s.ownFailure a
  let r := s.sendStage niGaffer a.members (.round a.jseq 0 true) (.applySet a.jseq) (e - 1000) 1000 false
  match r.1 with
  | none => s
  | some tag =>
    let s1 : State := { r.2 with net := { r.2.net with rounds := r.2.net.rounds ++
      [{ kind := .applySet a.jseq, tag := tag, members := a.members, oks := [], deadline := e - 4000, hold := e - 1000
         edge := e, fails := own.toList }] } }
    s1.modApply a.jseq (fun y => { y with stage := 1 })

/-- An apply whose values the Gaffer alone holds is judged at E − 4 µs (11 R409). -/
def State.judgeApply (s : State) (a : Apply) (e : T64) : State :=
  if s.time.t64 + 4000 < e then s
  else match s.ownFailure a with
    | some f => s.retryApply a f
    | none => s.modApply a.jseq (fun y => { y with stage := 2 })

/-- The lower of two objects that failed. -/
def lowerFail (f g : Nat × Abort) : Nat × Abort := if g.1 < f.1 then g else f

/-- The first object of an aborted round that failed: one that failed its checks, or one whose unit has given no OK in
time (11 R410, R425, log 54). -/
def AtomicRound.firstFailure (r : AtomicRound) (a : Apply) : Nat × Abort :=
  let silent := r.members.filter (fun m => !r.oks.contains m && !r.fails.any (fun f => (unitsOf f.1).contains m))
  let late : List (Nat × Abort) := (a.set.filter (fun w => (unitsOf w.key).any silent.contains)).map (fun w => (w.key, .unitTimeout))
  match r.fails ++ late with
  | [] => (0, .internal)
  | f :: l => l.foldl lowerFail f

/-- DEADLINE of a round of the Gaffer: COMMIT when every member's OK counted and nothing failed, otherwise ABORT
(06 R235, 07 R264, 11 R409). -/
def State.decideRound (s : State) (r : AtomicRound) : State :=
  let ok : Bool := r.members.all r.oks.contains && r.fails.isEmpty
  let s0 := { s with net := { s.net with rounds := s.net.rounds.filter (fun x => x.tag != r.tag) } }
  let s1 := s0.sendDecision niGaffer r.tag zoneSys r.members ok
  match r.kind with
  | .activation k =>
    if ok then s1.modSlot k (fun y => { y with committed := true })
    else s1.retryActivation k (r.members.filter (fun m => !r.oks.contains m))
  | .applySet j => match s1.applyOf? j with
    | none => s1
    | some a => if ok then s1.modApply j (fun y => { y with stage := 2 }) else s1.retryApply a (r.firstFailure a)

/-- DEADLINE of an ATOMIC multicast of an initiator's tag (06 R235). -/
def State.deadlineDue (s : State) (n k : Nat) : State :=
  match tget none (s.ni n).tags k with
  | none => s
  | some t =>
    if t.decided then s
    else match t.use with
      | .descriptor _ => s
      | .start m => s.decisionDue m
      | .round _ _ _ => match s.net.rounds.find? (fun r => r.tag == k) with
        | some r => if n = niGaffer ∧ r.deadline ≤ s.time.t64 then s.decideRound r else s
        | none => s

/-! ### The edge (11 R406, R409) -/

/-- Writes that wait for their home records (12 R474). -/
def StoreUnit.soil (u : StoreUnit) (key : Nat) : StoreUnit :=
  if key ∈ u.dirty then u else { u with dirty := u.dirty ++ [key] }

/-- What a value in force changes at once beside what its readers see (02 R89, 05 R171, 08 R313, 13 R487, 14 R519,
15 R568). -/
def State.settled (s : State) (key : Nat) (v : Val) : State :=
  let i := key / 256
  let sub := key % 256
  if key = okey 0x1020 1 then s.judgeHold.judgeRedundant
  else if (i = 0x5000 ∨ i = 0x5001) ∧ sub ≤ 3 then s.modAngle (i - 0x5000) AngleChannel.unhome
  else if i = 0x5030 then { s with angle := { s.angle with awaited := none } }
  else if (0x3001 ≤ i ∧ i ≤ 0x3007) ∨ (0x70A0 ≤ i ∧ i ≤ 0x70A7) then s.recomputeAllow
  else if 0x4000 ≤ i ∧ i ≤ 0x400F then s.ringEnabled (i - 0x4000) (valNat v != 0)
  else if 0x6000 ≤ i ∧ i ≤ 0x6FFF then s.energyApplied key
  else if 0x9000 ≤ i ∧ i ≤ 0x9FFF then s.ioApplied key
  else s

/-- One value takes effect: in force at once, or stored for the next start of the firmware (11 R406). -/
def State.putInForce (s : State) (key : Nat) (v : Val) : State :=
  if key = okey 0x1010 3 then { s with sess := { s.sess with restoreDefaults := valNat v != 0 } }
  else if key = okey 0x8600 8 then
    (if valNat v = 0 then s else { s with blank := { s.blank with trialStored := some s.fwTarget } })
  else if commitOf key = .restart then { s with sess := { s.sess with stored := tput key v s.sess.stored } }
  else
    let s1 := { s with sess := s.sess.force key v, store := if (objRow key).any ObjRow.persistent then s.store.soil key else s.store }
    s1.settled key v

/-- A unit holds COMMIT of an apply (06 R235). -/
def State.holdsApply (s : State) (j n : Nat) : Bool :=
  (s.ni n).staged.any (fun e => e.src == niGaffer && e.committed && e.msg == .applySet j)

/-- A value takes effect at E: the Gaffer holds it, or a unit of its holds COMMIT (11 R409). -/
def State.effective (s : State) (j key : Nat) : Bool :=
  (unitsOf key).isEmpty || (unitsOf key).any (s.holdsApply j)

/-- The edge E of an apply: its values take effect, credentials among them, and its staged messages are done
(11 R409, R414, R415). -/
def State.applyEdgeDue (s : State) (j : Nat) : State :=
  match s.applyOf? j with
  | none => s
  | some a => match a.edge with
    | none => s
    | some e =>
      if a.stage ≠ 2 ∨ s.time.t64 < e then s
      else
        let vs := a.values.filter (fun p => s.effective j p.1)
        let s1 := vs.foldl (fun t p => t.putInForce p.1 p.2) s
        let s2 := a.members.foldl (fun t n => t.unstage n (fun x => x.src == niGaffer && x.msg == .applySet j)) s1
        let s3 := if vs.any (fun p => decide (0x1500 ≤ p.1 / 256 ∧ p.1 / 256 ≤ 0x151F)) then s2.credentialEdge else s2
        s3.modApply j (fun y => { y with stage := 3 })

/-- A committed staged message whose apply edge has come takes effect at a member (06 R235). -/
def State.stagedDue (s : State) (n : Nat) (e : StagedEntry) : State :=
  if !e.committed ∨ s.time.t64 < e.applyAt then s
  else match e.msg with
    | .taskStart k _ => s.startDue k
    | .activation k => s.activationDue k
    | .applySet j => s.applyEdgeDue j
    | .words _ => s.unstage n (fun x => x == e)

/-! ### Waiting for a mark (07 R265, 11 R408) -/

/-- A fallback to TIME: the later of its time and the present moment plus *ActivateLead*. -/
def State.fallbackEdge (s : State) (t : T64) : T64 := max t (s.time.t64 + s.activateLead)

/-- A slot's activation has waited *MarkWait* for a mark (07 R265). -/
def State.slotWaited (s : State) (k : Nat) : State :=
  let x := s.slot k
  if x.state ≠ .activating ∨ x.mode ≠ .atMark ∨ x.edge.isSome ∨ s.now < x.since + s.markWait then s
  else if x.actFallback = 1 then
    s.modSlot k (fun y => { y with mode := .atTime, edge := some (s.fallbackEdge x.actFallbackTime) })
  else s.failActivation k .markTimeout []

/-- An apply has waited *MarkWait* for a mark (11 R408). -/
def State.applyWaited (s : State) (j : Nat) : State :=
  match s.applyOf? j with
  | none => s
  | some a =>
    if a.mode ≠ .atMark ∨ a.edge.isSome ∨ s.now < a.since + s.markWait then s
    else match a.fallback with
      | some t => s.modApply j (fun y => { y with mode := .atTime, edge := some (s.fallbackEdge t) })
      | none =>
        let s1 := { s with sess := { s.sess with applies := s.sess.applies.filter (fun y => y.jseq != j) } }
        if a.session = 0 then s1 else s1.modSession a.session (fun y => { y with applyState := .markTimeout })

end Sys2Proof.Machine
end

