-- ==== Sys2Proof/Machine/Applies.lean ====
section
/-!
DEFINITION. The commands of the pending set and of applies, and the ATOMIC deadlines and edges (06 R235, 11 R404 to
R410).
-/

namespace Sys2Proof.Machine

/-- A write of *ClusterMap* of Z1 to Z7: its checks, and the pending set (05 R171). -/
def execClusterMapWrite (q : Req) (z : Fin 7) (b : List Nat) (s : State) : Host.Outcome State Fault Refusal :=
  .next (s.servePending q (okey (0x3001 + z) 1) b noCheck)

/-- *ApplyCommand* (11 R408, R409). -/
def execApplyCommand (q : Req) (b : List Nat) (s : State) : Host.Outcome State Fault Refusal :=
  .next (s.serveBytes q (okey 0x1210 5) b
    (fun t x v => t.applyRequestCheck x (applyReq (valBytes v)))
    (fun t x v => { state := t.acceptApply q.session x (applyReq (valBytes v)) }))

/-- The Gaffer carries an apply's values to the units that hold them, or judges one whose values it alone holds
(11 R409). -/
def execApplyRound (j : Nat) (s : State) : Host.Outcome State Fault Refusal :=
  .next (if !s.gafferRuns then s
    else match s.applyOf? j with
    | none => s
    | some a => match a.edge with
      | none => s
      | some e =>
        if !s.applyDue a e then s
        else if a.members = [] then s.judgeApply a e
        else s.startApplyRound a e)

/-- The edge E of an apply comes (11 R409). -/
def execApplyEdge (j : Nat) (s : State) : Host.Outcome State Fault Refusal := .next (s.applyEdgeDue j)

/-- The journal marks an apply in force, and its session reads APPLIED (11 R410). -/
def execApplyInforce (j : Nat) (s : State) : Host.Outcome State Fault Refusal :=
  .next (match s.applyOf? j with
    | none => s
    | some a =>
      if a.stage ≠ 3 ∨ !s.gafferRuns then s
      else
        let e := a.edge.getD 0
        let s1 := s.commit (.dictInforce j e)
        let s2 := { s1 with sess := { s1.sess with applies := s1.sess.applies.filter (fun y => y.jseq != j) } }
        if a.session = 0 then s2 else s2.modSession a.session (fun y => { y with applyState := .applied, applyEdge := e }))

/-- *PendingDiscard*: 1 empties the session's pending set (11 R407, R451). -/
def execPendingDiscard (q : Req) (b : List Nat) (s : State) : Host.Outcome State Fault Refusal :=
  .next (s.serveBytes q (okey 0x1210 3) b noCheck (fun t _ v =>
    { state := if valNat v = 0 then t else t.modSession q.session (fun y => { y with pendingSet := [] }) }))

/-- *RestoreDefaults*, of class RESTART (11 R404, R406). -/
def execRestoreDefaults (q : Req) (b : List Nat) (s : State) : Host.Outcome State Fault Refusal :=
  .next (s.servePending q (okey 0x1010 3) b noCheck)

/-- The slot that *FwTrial* marks holds no image that verifies (07 R269). -/
def trialCheck (s : State) (_ : Session) (v : Val) : Abort × Nat :=
  firstFail [(valNat v != 0 && !s.fwGood s.fwTarget, .wrongState, 0)]

/-- The recovery service's verified image that is not CONFIRMED (07 R270). -/
def State.recoveryTrial (s : State) : Option FwSlot :=
  [FwSlot.a, .b].find? (fun k => s.fwGood k && (s.fw k).mark != .confirmed)

/-- *FwTrial*: of class RESTART; in HALT, where there are no leases and no applies, it marks the verified image at once
(07 R269, R270). -/
def execFwTrial (q : Req) (b : List Nat) (s : State) : Host.Outcome State Fault Refusal :=
  .next (
    if s.op.state = .halt then
      s.serve q (fun t ss => match objRow (okey 0x8600 8) with
        | none => refuse t .noObject
        | some r =>
          if ss.role ≠ .maintenance then refuse t .noAccess
          else if q.epoch ≠ 0 then refuse t .badMessage
          else match bytesCheck (okey 0x8600 8) r b with
            | (.ok, _) =>
              if valNat (r.ty.decode b) = 0 then { state := t }
              else match t.recoveryTrial with
                | some k => { state := t.modFw k (fun x => { x with mark := .trial }) }
                | none => refuse t .wrongState
            | (c, d) => refuse t c d)
    else s.servePending q (okey 0x8600 8) b trialCheck)

/-- DEADLINE of the ATOMIC multicast of a tag (06 R235). -/
def execAtomicDeadline (n : Fin 78) (k : Fin 64) (s : State) : Host.Outcome State Fault Refusal := .next (s.deadlineDue n k)

/-- The apply edge of what a member holds committed (06 R235). -/
def execAtomicApplyEdge (n : Fin 78) (s : State) : Host.Outcome State Fault Refusal :=
  .next ((s.ni n).staged.foldl (fun t e => t.stagedDue n e) s)

/-- *MarkWait* has passed without a mark, for an activation or for an apply (07 R265, 11 R408). -/
def execMarkWaitExpiry (slot : Option (Fin 2)) (j : Nat) (s : State) : Host.Outcome State Fault Refusal :=
  .next (match slot with
    | some k => s.slotWaited k
    | none => s.applyWaited j)

end Sys2Proof.Machine
end

