-- ==== Sys2Proof/Machine/Assay.lean ====
section
/-!
DEFINITION. The commands of the Assay: a pass, a repair, and a pass that is late (07 R271 to R275).
-/

namespace Sys2Proof.Machine

/-- The Assay runs: in every state that has released RESET (01 R35, 07 R272). -/
def State.assayRuns (s : State) : Bool := s.op.state != .off && s.op.state != .reset

/-- *ScrubPeriod* in ns. -/
def State.scrubPeriod (s : State) : Nat := s.num 0x8500 1 10 * 1000000

/-- A pass of `us` microseconds completes: every slot it checks that has changed is tainted, and a program bank that
has changed is logged (07 R271 to R273, log 46). -/
def execAssayPass (us : Fin 151) (s : State) : Host.Outcome State Fault Refusal :=
  .next (if s.assayRuns ∧ s.blank.assay.lastPassAt + s.scrubPeriod ≤ s.now + 150000 then
      let s1 := (s.modAssay (fun a => { a with passes := inc32 a.passes, lastPassUs := us, lastPassAt := s.now })).clearAlarm 0x0602 0
      let s2 := s1.assayFinds.foldl State.taint s1
      let s3 := s2.banksChanged.foldl (fun u c =>
        (u.modAssay (fun a => { a with taints := inc32 a.taints })).record .general .fault niGaffer 0x0601 (bytesLE 2 (tileOf c 0) ++ [0xFF])) s2
      s3.settleAssayLine
    else s)

/-- The Assay repairs a tainted slot of tile `t` (07 R274). -/
def execAssayRepair (t : Fin 1024) (k : Fin 15) (s : State) : Host.Outcome State Fault Refusal :=
  .next (let key := 16 * t.val + k.val
    if s.assayRuns ∧ s.repairable key then s.repairSlot key else s)

/-- Z0 holds a VALID slot. -/
def State.z0Valid (s : State) : Bool :=
  (s.zoneClusters 0).any (fun c => (clusterTiles c).any (fun t => (List.range 15).any ((s.tile t).slotValid)))

/-- No pass has completed within two periods (07 R272). -/
def execAssayLate (s : State) : Host.Outcome State Fault Refusal :=
  .next (if s.assayRuns ∧ s.blank.assay.lastPassAt + 2 * s.scrubPeriod < s.now ∧ !s.alarmOn 0x0602 0 then
      let s1 := s.alarm .fault 0x0602 0 [0, 0, 0]
      if s1.z0Valid then s1.standFault 0x34 else s1
    else s)

end Sys2Proof.Machine
end

