-- ==== Sys2Proof/Machine/Claims.lean ====
section
/-!
DEFINITION. The meanings of the image claims and of *Enable* (11 R439 to R442, R451).
-/

namespace Sys2Proof.Machine

/-- The records that a session holds. -/
def State.imagesOf (s : State) (n : SessionNo) : Nat := (s.sess.images.filter (fun p => p.2.owner == n)).length

/-- IMAGE_CLAIM (11 R439, R451): 1 claims a free record, which starts with its defaults; 0 frees one's own. -/
def execImageClaim (q : Req) (i : Fin 16) (b : List Nat) (s : State) : Host.Outcome State Fault Refusal :=
  .next (s.serveBytes q (okey (0xA000 + i) 2) b
    (fun t _ v =>
      let o := (t.imageRec i).owner
      if valNat v ≠ 0 then firstFail [(o != q.session && (o != 0 || decide (4 ≤ t.imagesOf q.session)), .imagesFull, 0)]
      else firstFail [(o != q.session, .wrongState, 0)])
    (fun t _ v =>
      if valNat v ≠ 0 then
        (if (t.imageRec i).owner = q.session then { state := t }
         else { state := t.modImage i (fun _ => { owner := q.session }) })
      else { state := t.modImage i (fun _ => {}) }))

/-- IMAGE_ENABLE (11 R440 to R442): a write of *Enable*; the mapping is checked and the record starts. -/
def execImageEnable (q : Req) (i : Fin 16) (b : List Nat) (s : State) : Host.Outcome State Fault Refusal :=
  .next (s.serveBytes q (okey (0xA000 + i) 7) b
    (fun t x v =>
      let r := t.imageRec i
      if r.owner ≠ q.session then (.wrongState, 0)
      else if valNat v ≠ 0 ∧ !r.enable then t.enableCheck q.session x.role i
      else (.ok, 0))
    (fun t _ v =>
      let r := t.imageRec i
      if valNat v ≠ 0 then (if r.enable then { state := t } else { state := t.modImage i (fun y => y.start t.time.t64) })
      else { state := t.modImage i (fun y => { y with enable := false, waiting := [] }) }))

end Sys2Proof.Machine
end

