-- ==== Sys2Proof/Machine/DirectIo.lean ====
section
/-!
DEFINITION. The meanings of the direct-I/O commands (15 R567 to R577).
-/

namespace Sys2Proof.Machine

/-- *FilterNs* of a pin. -/
def State.filterNs (s : State) (y : Nat) : Nat := s.num (0x9100 + y) 3 0

/-- The transition that waits for its filter has held long enough at a time (15 R568). -/
def State.filterHeld (s : State) (y : Nat) (t : T80) : Bool :=
  match (s.pin y).waiting with
  | some a => decide (a + s.filterNs y * 65536 ≤ t)
  | none => false

/-- The waiting transition is accepted with its original timestamp (15 R568). -/
def State.filterAccept (s : State) (y : Nat) : State :=
  match (s.pin y).waiting with
  | some a => s.dioAccept y a (s.pin y).raw
  | none => s

/-- A transition of an input pin at a time, through its filter (15 R568). -/
def State.dioTransition (s : State) (y : Nat) (t : T80) (level : Bool) : State :=
  let p := s.pin y
  if s.filterNs y = 0 then (s.modPin y (fun x => { x with raw := level })).dioAccept y t level
  else if p.waiting.isSome then
    s.modPin y (fun x => { x with raw := level, waiting := none, glitches := inc32 x.glitches })
  else s.modPin y (fun x => { x with raw := level, waiting := if level = x.level then none else some t })

/-- DIO_TRANSITION: a pin crosses its threshold `sub` times 125 ps after the last TCLK edge (02 R69, 15 R568). -/
def execDioTransition (y : Fin 24) (level : Bool) (sub : Fin 32) (s : State) : Host.Outcome State Fault Refusal :=
  .next (let t := s.t80 + sub.val * 8192
    if (s.pin y).raw = level then s
    else if s.dioIn y then (if s.filterHeld y t then s.filterAccept y else s).dioTransition y t level
    else s.modPin y (fun x => { x with raw := level }))

/-- DIO_FILTER_ACCEPT (15 R568). -/
def execDioFilterAccept (y : Fin 24) (s : State) : Host.Outcome State Fault Refusal :=
  .next (if s.dioIn y ∧ s.filterHeld y s.t80 then s.filterAccept y else s)

/-- OUT_LEVEL (15 R571, R580). -/
def execOutLevel (q : Req) (y : Fin 24) (b : List Nat) (s : State) : Host.Outcome State Fault Refusal :=
  .next (s.serveBytes q (okey (0x9100 + y) 7) b
    (fun t _ _ => firstFail [(!t.dioOut y, .wrongState, 0)])
    (fun t _ v => { state := t.dioDrive y (valNat v != 0) }))

/-- The time of *ScheduleEdge* (02 R68, 15 R573). -/
def edgeTime (b : List Nat) : T80 := ofBytesBE (b.take 10)

/-- SCHEDULE_EDGE (15 R573, R574). -/
def execScheduleEdge (q : Req) (y : Fin 24) (b : List Nat) (s : State) : Host.Outcome State Fault Refusal :=
  .next (s.serveBytes q (okey (0x9100 + y) 8) b
    (fun t _ v =>
      let l := valBytes v
      let slot := gridSlot (edgeTime l)
      firstFail [(l.getD 11 0 != 0, .reservedSet, 11), (decide (1 < l.getD 10 0 ∨ edgeTime l ≤ t.t80), .range, 0),
        (!t.dioOut y, .wrongState, 0), (!t.slotLate slot && !(t.pin y).hasPlace slot, .busyRetry, 0)])
    (fun t _ v => { state := (t.dioEntry y (gridSlot (edgeTime (valBytes v))) ((valBytes v).getD 10 0 != 0)).2 }))

/-- The instant nearest to `now` whose low 30 bits are given, in units of 125 ps (15 R572). -/
def nearestSlot (now w : Nat) : Nat :=
  let b := now / 2 ^ 30 * 2 ^ 30 + w
  if now + 2 ^ 29 < b ∧ 2 ^ 30 ≤ b then b - 2 ^ 30 else if b + 2 ^ 29 < now then b + 2 ^ 30 else b

/-- A token of STREAM_OUT takes effect (15 R571, R572). -/
def State.outToken (s : State) (y : Nat) (v : Word) : State :=
  let level := v.getLsbD 31
  let w := v.toNat % 2 ^ 30
  if v.getLsbD 30 then
    let x := s.dioEntry y (nearestSlot s.slotNow w) level
    if x.1 then x.2 else x.2.modPin y (fun p => { p with overruns := inc32 p.overruns })
  else if w ≠ 0 then s.modPin y (fun p => { p with badTokens := inc32 p.badTokens })
  else s.dioDrive y level

/-- STREAM_OUT_TOKEN: the oldest token at the pin's endpoint (05 R169, 15 R571, R572). -/
def execStreamOutToken (y : Fin 24) (s : State) : Host.Outcome State Fault Refusal :=
  .next (match (s.pin y).outTokens with
    | [] => s
    | v :: rest =>
      if s.dioOut y ∧ s.dioMode y = 4 then
        ((s.modPin y (fun p => { p with outTokens := rest })).outToken y v).settleAt (32 * y.val + 31)
      else s)

/-- SCHEDULED_EDGE_PLACE: the first entry's grid slot lies in the tick that device time has reached (02 R70,
15 R575). -/
def execScheduledEdgePlace (y : Fin 24) (s : State) : Host.Outcome State Fault Refusal :=
  .next (match (s.pin y).queue with
    | (slot, level) :: rest =>
      if s.dioOut y ∧ slot < s.slotNow + 32 then
        s.modPin y (fun p => { p with queue := rest, drive := some level, placedAt := some slot })
      else s
    | [] => s)

end Sys2Proof.Machine
end

