-- ==== Sys2Proof/Machine/Energy.lean ====
section
/-!
DEFINITION. The meanings of the energy commands (13).
-/

namespace Sys2Proof.Machine

/-- S0_PULSE (13 R486, R487, 15 R579): an active level on a source's loop has lasted `active` ns, after `inactive` ns of
inactive level. -/
def execS0Pulse (m : Fin 2) (active inactive : Nat) (s : State) : Host.Outcome State Fault Refusal :=
  let width := s.num (0x6010 + m.val) 3 30 * 1000000
  if !s.counting m.val ∨ (tget {} s.io.loops m.val).state = .short then .next s
  else if active < width ∨ inactive < width then
    .next (s.modSource m.val (fun x => { x with glitches := inc32 x.glitches }))
  else
    let c := s.num (0x6010 + m.val) 2 1000
    let n := (s.source m.val).n + 1
    let s1 := (s.modSource m.val (fun x =>
      { x with n, counts := inc32 x.counts, lastPulse := s.now, silent := false })).clearAlarm 0x0901 m.val
    .next (s1.accept m.val (n * 1000000 / c - (n - 1) * 1000000 / c))

/-- S0_SILENCE (13 R487). -/
def execS0Silence (m : Fin 2) (s : State) : Host.Outcome State Fault Refusal :=
  let x := s.source m.val
  let wait := s.num (0x6010 + m.val) 4 15 * 60000000000
  if s.counting m.val ∧ !x.silent ∧ x.lastPulse + wait ≤ s.now then
    .next ((s.modSource m.val (fun x => { x with silent := true })).alarm .alarm 0x0901 m.val
      (m.val :: bytesLE 4 0))
  else .next s

/-- DEVICE_ENERGY_SAMPLE (13 R489, 14 R544): both feeds' voltages in 10 mV and currents in mA, as they are
measured; the draw they give is integrated over 1 ms. -/
def execDeviceEnergySample (va ia vb ib : Fin 65536) (s : State) : Host.Outcome State Fault Refusal :=
  let units := va.val * ia.val + vb.val * ib.val
  let draw := units / 10000
  let feeds := tmod {} (tmod {} s.power.feeds 0 (fun x => { x with voltage := va.val, current := ia.val })) 1
    (fun x => { x with voltage := vb.val, current := ib.val })
  let s1 := { s with
    power := { s.power with feeds, drawNow := draw, drawPeak := max s.power.drawPeak draw }
    energy := { s.energy with sampleAt := s.now } }
  if s.counting 3 then
    .next ((s1.modSource 3 (fun x => { x with power := units / 100000 })).acceptParts 3 (units * 10) 3600000000)
  else .next s1

/-- DEMAND_BOUNDARY (13 R492, R500): the boundary that T64 has reached is processed, once. -/
def execDemandBoundary (s : State) : Host.Outcome State Fault Refusal :=
  .next (if s.boundaryDue then s.processBoundary s.energy.stop 0 else s)

/-- Whether a tariff push is refused for a past TIME or for its TARIFF (13 R496, R497). -/
def pushCheck (t : State) (_ : Session) (v : Val) : Abort × Nat :=
  let e := entryOfValue 0 v
  firstFail [(decide (e.time ≠ 0 ∧ e.time < t.time.t64), .range, 0),
    (decide (e.tariff ≥ t.num 0x6000 3 1), .range, 0)]

/-- TARIFF_PUSH (13 R497). -/
def execTariffPush (q : Req) (b : List Nat) (s : State) : Host.Outcome State Fault Refusal :=
  .next (s.serveBytes q (okey 0x6031 1) b pushCheck
    (fun t _ v =>
      let e := entryOfValue 0 v
      { state := { t with energy := { t.energy with push := some { time := e.time, tariff := e.tariff } } } }))

/-- BILLING_CLOSE (13 R497). -/
def execBillingClose (q : Req) (b : List Nat) (s : State) : Host.Outcome State Fault Refusal :=
  .next (s.serveBytes q (okey 0x6031 3) b noCheck
    (fun t _ v => { state := if valNat v = 0 then t else { t with energy := { t.energy with closeDue := true } } }))

/-- COUNTER_JOURNAL (13 R501). -/
def execCounterJournal (s : State) : Host.Outcome State Fault Refusal :=
  if s.energy.accepting ∧ s.energy.countersAt + s.num 0x6000 8 60 * 1000000000 ≤ s.now then
    .next (({ s with energy := { s.energy with countersAt := s.now } }).energyCommit (s.countersRec s.time.t64 0))
  else .next s

/-- FORECAST (13 R502, R503). -/
def execForecast (s : State) : Host.Outcome State Fault Refusal :=
  if s.energy.accepting ∧ s.energy.forecastAt + 1000000000 ≤ s.now then
    .next ({ s with energy := { s.energy with forecastAt := s.now } }).forecast
  else .next s

/-- PROVISIONAL_MAX (13 R507): the span has outlasted *ProvisionalMax*, and goes on. -/
def execProvisionalMax (s : State) : Host.Outcome State Fault Refusal :=
  if s.energy.provisional ∧ !s.energy.longRaised ∧
      s.energy.restoreAt + s.num 0x6000 9 24 * 3600000000000 ≤ s.now then
    .next (({ s with energy := { s.energy with longRaised := true } }).alarm .alarm 0x0905 0
      (0 :: bytesLE 4 (s.num 0x6000 9 24)))
  else .next s

end Sys2Proof.Machine
end

