-- ==== Sys2Proof/Machine/Events.lean ====
section
/-!
DEFINITION. The ring controllers' steps on event queues, firing groups and SENSE frames (09 R317 to R345).
-/

namespace Sys2Proof.Machine

/-- An EVENT record of a zone's packet arrives (09 R318, R320, R321). -/
def execEventRecord (r : Fin 16) (zone : Fin 16) (w k : BitVec 64) (s : State) : Host.Outcome State Fault Refusal :=
  .next (if s.eventZone r zone then s.takeEvent r zone w k else s)

/-- A GROUP_OPEN record arrives through an initiator's entry (09 R318, R338). -/
def execGroupOpen (r : Fin 16) (zone : Fin 16) (entry : Nat) (w k : BitVec 64) (s : State) :
    Host.Outcome State Fault Refusal :=
  .next (if s.eventZone r zone then s.takeOpen r zone entry w k else s)

/-- A GROUP_MEMBER record arrives through an initiator's entry (09 R318, R338). -/
def execGroupMember (r : Fin 16) (zone : Fin 16) (entry : Nat) (w k : BitVec 64) (s : State) :
    Host.Outcome State Fault Refusal :=
  .next (if s.eventZone r zone then s.takeMember r zone entry w k else s)

/-- 100 µs after its GROUP_OPEN a group that still assembles is discarded whole (09 R338). -/
def execGroupAssemblyTimeout (r g : Fin 16) (s : State) : Host.Outcome State Fault Refusal :=
  .next (match (s.ringAt r).group? g with
    | some x => if x.stage = .assembling ∧ x.openedAt + 100000 ≤ s.now then s.failGroup r g else s
    | none => s)

/-- The first sends that are due for one position, in one frame (09 R325 to R332). -/
def execEventSend (r : Fin 16) (p : Fin 65) (s : State) : Host.Outcome State Fault Refusal :=
  .next (s.sendEvents r p)

/-- The echoes that are due for one position, in one frame (09 R328, R329). -/
def execEventEcho (r : Fin 16) (p : Fin 65) (s : State) : Host.Outcome State Fault Refusal :=
  .next (s.echoEvents r p)

/-- Trims one event when its prediction has moved and its last trim lies TrimInterval back (09 R335). -/
def execTrimSend (r : Fin 16) (uid : Nat) (s : State) : Host.Outcome State Fault Refusal :=
  .next (match (s.ringAt r).event? uid with
    | some e => match s.trimTo r e with
      | some w =>
        if e.trimAt + s.num 0x5200 4 10 * 1000 ≤ s.now ∧
            s.t80 + lockLead + s.num 0x5200 5 8 * 1000 * 65536 < e.when_ then s.sendTrim r e w else s
      | none => s
    | none => s)

/-- LockGuard before lock-in the final trim is sent twice (09 R336). -/
def execFinalTrim (r : Fin 16) (uid : Nat) (s : State) : Host.Outcome State Fault Refusal :=
  .next (match (s.ringAt r).event? uid with
    | some e => match s.trimTo r e with
      | some w =>
        if e.when_ ≤ s.t80 + lockLead + s.num 0x5200 5 8 * 1000 * 65536 then
          (s.sendTrim r e w).sendTo r e.pos (.event [{ s.entryOf e with trim := true, when_ := w }])
        else s
      | none => s
    | none => s)

/-- At WHEN − 20 µs the event is frozen (09 R336, R344). -/
def execEventFreeze (r : Fin 16) (uid : Nat) (s : State) : Host.Outcome State Fault Refusal :=
  .next (match (s.ringAt r).event? uid with
    | some e =>
      if e.stage = .sent ∧ e.when_ ≤ s.t80 + lockLead then
        s.modEvent r uid (fun y => { y with stage := .frozen, suspect := s.keySuspect e.key })
      else s
    | none => s)

/-- At WHEN + 1 µs the event is done (09 R324, R344). -/
def execEventDone (r : Fin 16) (uid : Nat) (s : State) : Host.Outcome State Fault Refusal :=
  .next (match (s.ringAt r).event? uid with
    | some e =>
      if e.stage = .frozen ∧ e.when_ + 1000 * 65536 ≤ s.t80 then
        s.completeMember r { e with suspect := e.suspect || s.keySuspect e.key } .done (e.when_ / 65536)
      else s
    | none => s)

/-- The positions of a group's members. -/
def Ring.memberPositions (x : Ring) (g : Nat) : List Nat :=
  ((x.members g).map (·.pos)).foldl (fun l p => if p ∈ l then l else l ++ [p]) []

/-- The send instant of a group: STAGE for ATOMIC, its members' frames for BEST (09 R339, R340, R342). -/
def execGroupSend (r g : Fin 16) (s : State) : Host.Outcome State Fault Refusal :=
  .next (match (s.ringAt r).group? g with
    | some x =>
      if x.stage ≠ .waiting then s
      else if x.atomic then s.sendGroup r g x
      else ((s.ringAt r).memberPositions g).foldl (fun u p => u.sendEvents r p) s
    | none => s)

/-- After StageRetry STAGE is repeated to the members without an OK (09 R340). -/
def execStageRetry (r g : Fin 16) (s : State) : Host.Outcome State Fault Refusal :=
  .next (match (s.ringAt r).group? g with
    | some x =>
      let mask := x.mask.filter (fun p => !x.oks.contains p)
      if x.stage = .staged ∧ !x.retried ∧ x.stagedAt + 50000 ≤ s.now ∧ s.time.t64 < x.deadline ∧ !mask.isEmpty then
        (s.modGroup r g (fun y => { y with retried := true })).sendAll r (s.stageBody r g x mask)
      else s
    | none => s)

/-- DEADLINE of a staged group (09 R340). -/
def execGroupDeadline (r g : Fin 16) (s : State) : Host.Outcome State Fault Refusal :=
  .next (match (s.ringAt r).group? g with
    | some x => if x.stage = .staged ∧ x.deadline ≤ s.time.t64 then s.decideGroup r g x else s
    | none => s)

/-- COMMIT is repeated to members without an ACK that it can still reach before HOLD (09 R340). -/
def execCommitRepeat (r g : Fin 16) (s : State) : Host.Outcome State Fault Refusal :=
  .next (match (s.ringAt r).group? g with
    | some x =>
      let ring := s.ringAt r
      let mask := x.unanswered.filter (fun p =>
        ring.reaches p && decide (s.t80 + 2700 * 65536 + ring.delayTo p ≤ x.hold * 65536))
      if x.stage = .committed ∧ x.commitAt + 10000 ≤ s.now ∧ !mask.isEmpty then
        (s.modGroup r g (fun y => { y with commitAt := s.now })).sendAll r (.commit x.gid mask)
      else s
    | none => s)

/-- HOLD of a committed group (09 R340, R341). -/
def execGroupHold (r g : Fin 16) (s : State) : Host.Outcome State Fault Refusal :=
  .next (match (s.ringAt r).group? g with
    | some x => if x.stage = .committed ∧ x.hold ≤ s.time.t64 then s.closeGroup r g x else s
    | none => s)

/-- Counts an ACK of a member: OK to STAGE by DEADLINE, OK to COMMIT (09 R340, R341). -/
def Group.countAck (x : Group) (p kind status : Nat) (t : T64) : Group :=
  if status ≠ 0 ∨ ¬ x.mask.contains p then x
  else if kind = 1 ∧ x.stage = .staged ∧ t ≤ x.deadline ∧ ¬ x.oks.contains p then { x with oks := x.oks ++ [p] }
  else if kind = 2 ∧ x.stage = .committed ∧ ¬ x.commits.contains p then { x with commits := x.commits ++ [p] }
  else x

/-- A head's ACK reaches the controller (08 R288, 09 R340). -/
def execAckFrame (r : Fin 16) (p : Fin 65) (gid kind status : Nat) (good : Bool) (s : State) :
    Host.Outcome State Fault Refusal :=
  .next (if good then
      s.modRing r (fun x => { x with groups := x.groups.map (fun q =>
        if q.2.gid = gid ∧ q.2.stage ≠ .assembling ∧ q.2.stage ≠ .waiting then
          (q.1, q.2.countAck p kind status s.time.t64)
        else q) })
    else s.badFrame r)

/-! ### SENSE frames (09 R322, R323, R345) -/

/-- The task that a sense binding in force names, by ring, position and stream (09 R322, R323). -/
def State.senseTask (s : State) (r p stream : Nat) : Option Nat :=
  (s.ring.sections.findSome? (fun e =>
    (e.2.bindings.find? (fun b => b.ring == r && b.pos == p && b.stream == stream)).bind (fun b =>
      s.taskList.find? (fun n =>
        let k := s.task n
        k.state != .absent && k.entry == e.1 && k.tref == b.tref)))).bind (fun n =>
    if s.eventZone r (s.task n).zone then some n else none)

/-- Bytes of a sample by FMT (08 R290). -/
def sampleBytes (fmt : Nat) : Nat := if fmt = 0 then 2 else 4

/-- Cuts a list into parts of `n`, at most `k` of them. -/
def cutParts {α : Type} (n : Nat) : Nat → List α → List (List α)
  | 0, _ => []
  | _, [] => []
  | k + 1, l => l.take n :: cutParts n k (l.drop n)

/-- The T64 of a chunk's first sample, rounded to the nearest ns (09 R345). -/
def sampleTime (t0 : T80) (off sper : Nat) : Nat :=
  (divNearEven ((t0 * 1000 + off * sper * 65536 : Nat) : Int) (65536 * 1000)).toNat

/-- The words of a chunk: its header, the time of its first sample, and the samples packed (09 R345). -/
def senseChunk (r p stream fmt sper : Nat) (t0 : T80) (off : Nat) (samples : List Nat) : List Nat :=
  let bytes := samples.flatMap (fun v => bytesLE (sampleBytes fmt) v)
  let words := (List.range ((bytes.length + 7) / 8)).map (fun i => ofBytesLE ((bytes.drop (8 * i)).take 8))
  (0x40 + r % 4 * 2 ^ 8 + (p - 1) % 64 * 2 ^ 12 + stream % 8 * 2 ^ 18 + fmt % 4 * 2 ^ 21 + samples.length * 2 ^ 23 +
    sper % 2 ^ 32 * 2 ^ 32) :: sampleTime t0 off sper :: words

/-- The chunks of a SENSE frame: as many samples as five words hold in each (09 R345). -/
def senseChunks (r p stream fmt sper : Nat) (t0 : T80) (samples : List Nat) : List (List Nat) :=
  let n := 40 / sampleBytes fmt
  ((cutParts n samples.length samples).zipIdx).map (fun c => senseChunk r p stream fmt sper t0 (c.2 * n) c.1)

/-- Pushes one chunk; a chunk that its queue refuses is lost and counted (09 R345). -/
def State.pushChunk (s : State) (r n : Nat) (words : List Nat) : State :=
  match s.pushQueue n words with
  | some u => u
  | none => s.modRing r (fun x => { x with senseLost := inc32 x.senseLost })

/-- A head's SENSE frame: turned into chunks for the bound task, or counted and dropped (08 R288, 09 R345). -/
def execSenseFrame (r : Fin 16) (p : Fin 65) (stream fmt : Nat) (t0 : T80) (sper : Nat) (samples : List Nat)
    (good : Bool) (s : State) : Host.Outcome State Fault Refusal :=
  .next (if !good then s.badFrame r
    else match s.senseTask r p stream with
      | some n =>
        if fmt ≤ 2 then (senseChunks r p stream fmt sper t0 samples).foldl (fun u c => u.pushChunk r n c) s
        else s
      | none => s.modRing r (fun x => { x with senseUnbound := inc32 x.senseUnbound }))

end Sys2Proof.Machine
end

