-- ==== Sys2Proof/Machine/Fuses.lean ====
section
/-!
DEFINITION. The meanings of the fuse and store commands (12).
-/

namespace Sys2Proof.Machine

/-- The firmware slot that runs. -/
def State.runningFw (s : State) : Option FwImage :=
  match s.op.gaffer with
  | .running .a => some s.blank.fwA
  | .running .b => some s.blank.fwB
  | _ => none

/-- R457 refuses revoking firmware key `k`: it signed the running image, or the other key is revoked. -/
def State.keepsFwKey (s : State) (k : Nat) : Bool :=
  s.fuse.fwRevoked (1 - k) || (match s.runningFw with
    | some f => imageKeySlot f.image == k
    | none => false)

/-- *FuseProgram* may name the address with that data: by the writer's role, and a revocation word with its own
value only (12 R454, R484). -/
def fuseAddressable (r : Role) (a d : Nat) : Bool :=
  if r = .safety then decide (8 ≤ a ∧ a < 0x10)
  else if 0x10 ≤ a ∧ a < 0x16 then (if a < 0x14 then d == 0x52564B00 + (a - 0x10) else d == 0x52564B10 + (a - 0x14))
  else decide (0x20 ≤ a ∧ a < 0x40)

/-- FUSE_PROGRAM (12 R484): bytes 0 and 1 the address, 4 to 7 the data. -/
def execFuseProgram (q : Req) (b : List Nat) (e : FuseEnv) (s : State) : Host.Outcome State Fault Refusal :=
  let a := ofBytesBE (b.take 2)
  let d := ofBytesBE ((b.drop 4).take 4)
  .next ((s.senseFuse e).serveBytes q (okey 0x8001 1) b
    (fun t ss _ => firstFail [
      (!fuseAddressable ss.role a d, .range, 0),
      (!t.op.fuseEn, .needPhysical, 0),
      (t.op.state != .service || (decide (0x14 ≤ a ∧ a < 0x16) && t.keepsFwKey (a - 0x14)) ||
        (decide (0x20 ≤ a) && t.fuse.keyRevoked ((a - 0x20) / 8)) ||
        t.fuse.word a &&& ~~~(fuseTarget a d) != 0, .wrongState, 0)])
    (fun t _ _ => t.fuseAsk q [(a, d)]))

/-- FUSE_PROGRAM_COMPLETE (12 R460, R461): the places that stayed clear after 8 pulses, the most pulses a bit took,
and the place before whose pulse the window or FUSE_EN was found to have failed. -/
def execFuseProgramComplete (fails : BitVec 80) (pulses : Fin 9) (stop : Option (Fin 80)) (e : FuseEnv) (s : State) :
    Host.Outcome State Fault Refusal :=
  match s.fuse.prog with
  | none => .next s
  | some p =>
    let s1 := s.senseFuse e
    match stop with
    | none =>
      let x := s1.fuse.pulse p fails 80
      .next (State.fuseEnd { s1 with fuse := x.1 } p x.2 pulses.val)
    | some l =>
      if s1.op.fuseEn ∧ s1.fuse.inWindow then .next s1
      else
        let x := s1.fuse.pulse p fails l.val
        .next (State.fuseEnd { s1 with fuse := x.1 } p (if s1.op.fuseEn then .window else .noFuseEn) pulses.val)

/-- FC_READ (12 R458); discarded while BUSY. -/
def execFcRead (a : Fin 1024) (s : State) : Host.Outcome State Fault Refusal :=
  if s.gafferRuns ∧ s.fuse.prog = none then .next { s with fuse := s.fuse.read a.val 0 0 } else .next s

/-- FC_MARGIN_READ (12 R458): the bits of each copy that the raised threshold shows clear; discarded while BUSY. -/
def execFcMarginRead (a : Fin 1024) (clearA clearB : BitVec 40) (s : State) : Host.Outcome State Fault Refusal :=
  if s.gafferRuns ∧ s.fuse.prog = none then .next { s with fuse := s.fuse.read a.val clearA clearB } else .next s

/-- FC_SCAN (12 R458, R463): the words with a WEAK bit; discarded while BUSY. -/
def execFcScan (weak : List (Fin 64)) (s : State) : Host.Outcome State Fault Refusal :=
  if s.gafferRuns ∧ s.fuse.prog = none then .next { s with fuse := s.fuse.scanned weak } else .next s

/-- FW_SVN_FLOOR (12 R468): never below the value in force nor above the running image's SVN. -/
def execFwSvnFloor (q : Req) (b : List Nat) (e : FuseEnv) (s : State) : Host.Outcome State Fault Refusal :=
  .next ((s.senseFuse e).serveBytes q (okey 0x8020 1) b noCheck (fun t _ v =>
    let n := valNat v
    t.genWrite q svnFloor [n] (n == t.fuse.svn)
      (decide (n < t.fuse.svn) || (match t.runningFw with
        | some f => decide (f.svn < n)
        | none => false))))

/-- MACHINE_IDENT (12 R468). -/
def execMachineIdent (q : Req) (b : List Nat) (e : FuseEnv) (s : State) : Host.Outcome State Fault Refusal :=
  .next ((s.senseFuse e).serveBytes q (okey 0x8021 1) b noCheck (fun t _ _ =>
    t.genWrite q machineIdentGen ((List.range 4).map (fun j => ofBytesLE ((b.drop (4 * j)).take 4)))
      (b == t.fuse.machineIdent) false))

/-- STORE_SCRUB (12 R472, R475): every word is read; single-bit errors are put right, and each uncorrectable one is
counted and logged. `corrected` and `lost` are the words whose upsets the pass is the first to meet. -/
def execStoreScrub (corrected lost : List (Fin 1048576)) (s : State) : Host.Outcome State Fault Refusal :=
  if s.gafferRuns ∧ s.store.scrubAt + s.num 0x8031 1 24 * 3600000000000 ≤ s.now then
    let u0 := lost.foldl (fun (u : Tab Nat) w => tset 0 u w.val 2) s.store.upsets
    let bad := (u0.filter (fun p => p.2 == 2)).map (·.1)
    let fixed := corrected.length + (u0.filter (fun p => p.2 == 1)).length
    let s1 : State := { s with store := { s.store with
      upsets := u0.filter (fun p => p.2 == 2), scrubs := inc32 s.store.scrubs, scrubAt := s.now
      corrected := (s.store.corrected + fixed) % 2 ^ 32
      uncorrected := (s.store.uncorrected + bad.length) % 2 ^ 32
      lastUe := match bad.getLast? with
        | some w => 8 * w
        | none => s.store.lastUe } }
    .next (bad.foldl (fun t w => State.alarm t .alarm 0x0706 0 (bytesLE 4 (8 * w))) s1)
  else .next s

/-- STORE_REFRESH (12 R475): 90 days of powered time after the last one, 30 after operation above 90 °C, or at
once where the start found more than 90 days without power. -/
def execStoreRefresh (s : State) : Host.Outcome State Fault Refusal :=
  let day := 86400000000000
  if s.gafferRuns ∧ (s.store.refreshDue ∨ s.store.refreshAt + (if s.store.hot then 30 else 90) * day ≤ s.now) then
    .next { s with store := { s.store with
      refreshes := inc32 s.store.refreshes, lastRefresh := s.time.t64, refreshAt := s.now, hot := false
      refreshDue := false } }
  else .next s

/-- HOME_RECORD_WRITE (12 R474): a value waits and 100 ms have passed since the object's last write. -/
def execHomeRecordWrite (key : Fin 16777216) (s : State) : Host.Outcome State Fault Refusal :=
  let k := key.val
  let rested : Bool := match alook s.store.homeAt k with
    | some t => decide (t + 100000000 ≤ s.now)
    | none => true
  if s.gafferRuns ∧ k ∈ s.store.dirty ∧ rested then
    .next { s with store := { s.store with
      homes := tput k (s.val k) s.store.homes, dirty := s.store.dirty.erase k
      homeAt := tput k s.now s.store.homeAt } }
  else .next s

end Sys2Proof.Machine
end

