-- ==== Sys2Proof/Machine/Heads.lean ====
section
/-!
DEFINITION. The commands of heads: their events and groups, MGMT, COAST, self-quench, energy and sensing, and what of
them reaches the device (08 R288, R289, 09 R333 to R356, 13 R488).
-/

namespace Sys2Proof.Machine

/-- A head's ENERGY frame reaches the device (08 R288, 09 R346, 13 R488). -/
def execEnergyFrame (r : Fin 16) (p : Fin 65) (good : Bool) (ecum rcount : Nat) (s : State) :
    Host.Outcome State Fault Refusal :=
  .next (if good then s.headEnergy r ((s.ringAt r).descOf p).serial ecum (rcount % 65536) else s.badFrame r)

/-- A head answers a MGMT read (09 R350, R355). -/
def execMgmtRd (r : Fin 16) (p : Fin 65) (dst : Fin 256) (good : Bool) (tag addr : Fin 65536) (n : Fin 256) (s : State) :
    Host.Outcome State Fault Refusal :=
  .next (s.headFrame r p dst good (fun u =>
    match (u.headAt r p).readRegs addr n with
    | some l => u.headSends r p (.mgmt 3 tag addr 0 l)
    | none => u.headSends r p (.mgmt 5 tag addr 1 [])))

/-- A head carries out a MGMT write, or answers why not (09 R350, R355). -/
def execMgmtWr (r : Fin 16) (p : Fin 65) (dst : Fin 256) (good : Bool) (tag addr : Fin 65536)
    (data : List (Fin 4294967296)) (s : State) : Host.Outcome State Fault Refusal :=
  .next (s.headFrame r p dst good (fun u =>
    let l := data.map (·.val)
    match (u.headAt r p).writesStatus addr l with
    | 0 => (u.modHead r p (fun h => h.writeRegs addr l)).headSends r p (.mgmt 4 tag addr 0 [])
    | c => u.headSends r p (.mgmt 5 tag addr c [])))

/-- A MGMT answer of a position closes the request it answers. -/
def State.mgmtAnswered (s : State) (r p tag : Nat) : State :=
  s.modRing r (fun x => { x with mgmtOpen := x.mgmtOpen.filter (fun m => !(m.1 == tag && m.2.1 == p)) })

/-- Read data reaches the device: a STATUS that shows a self-quench raises HEAD_SELF_QUENCHED (08 R289, 09 R354,
R355). -/
def execMgmtRdRsp (r : Fin 16) (p : Fin 65) (good : Bool) (tag addr : Fin 65536) (data : List (Fin 4294967296))
    (s : State) : Host.Outcome State Fault Refusal :=
  .next (if !good then s.badFrame r
    else
      let s1 := s.mgmtAnswered r p tag
      match data.zipIdx.find? (fun e => addr.val + e.2 = 2) with
      | some (v, _) =>
        if v.val.testBit 0 ∧ 2 ≤ v.val / 2 % 8 then
          s1.alarm .alarm 0x0403 (64 * r + p) (ringDetail r p ((s.ringAt r).descOf p).serial 0)
        else s1.clearAlarm 0x0403 (64 * r + p)
      | none => s1)

/-- A write confirmation reaches the device (08 R289). -/
def execMgmtWrRsp (r : Fin 16) (p : Fin 65) (good : Bool) (tag : Fin 65536) (s : State) :
    Host.Outcome State Fault Refusal :=
  .next (if good then s.mgmtAnswered r p tag else s.badFrame r)

/-- An error status reaches the device (08 R289). -/
def execMgmtErr (r : Fin 16) (p : Fin 65) (good : Bool) (tag : Fin 65536) (s : State) :
    Host.Outcome State Fault Refusal :=
  .next (if good then s.mgmtAnswered r p tag else s.badFrame r)

/-- An EVENT frame reaches a head (09 R348). -/
def execEventFrame (r : Fin 16) (p : Fin 65) (dst : Fin 256) (good : Bool) (es : List EventEntry) (s : State) :
    Host.Outcome State Fault Refusal :=
  .next (s.headFrame r p dst good (fun u => u.modHead r p (fun h => es.foldl (Head.takeEntry u.now) h)))

/-- A group frame reaches a head: it acts and answers when MASK names its position (09 R349). -/
def State.groupFrame (s : State) (r p : Nat) (good : Bool) (mask : List Nat) (gid kind fseq : Nat)
    (act : Head → Nat → Head) (status : Head → Nat → Nat) : State :=
  s.headFrame r p 0xFF good (fun u =>
    let h := u.headAt r p
    if h.pos ∈ mask ∧ h.pos ≠ 0 then
      (u.modHead r p (fun x => act x u.now)).headSends r p (.ack gid kind (status h u.now) fseq)
    else u)

/-- The entries of a STAGE for one position. -/
def entriesFor (pos : Nat) (es : List (Fin 65 × EventEntry)) : List EventEntry :=
  (es.filter (fun e => e.1.val == pos)).map (·.2)

/-- A STAGE reaches a head (09 R349). -/
def execStageFrame (r : Fin 16) (p : Fin 65) (good : Bool) (gid fseq : Fin 65536) (hold : Nat) (mask : List (Fin 65))
    (es : List (Fin 65 × EventEntry)) (s : State) : Host.Outcome State Fault Refusal :=
  .next (s.groupFrame r p good (mask.map (·.val)) gid 1 fseq
    (fun h now => h.takeStage gid hold (entriesFor h.pos es) now)
    (fun h now => h.stageStatus gid (entriesFor h.pos es) now))

/-- A COMMIT reaches a head (09 R349). -/
def execCommitFrame (r : Fin 16) (p : Fin 65) (good : Bool) (gid fseq : Fin 65536) (mask : List (Fin 65)) (s : State) :
    Host.Outcome State Fault Refusal :=
  .next (s.groupFrame r p good (mask.map (·.val)) gid 2 fseq (fun h now => h.takeCommit gid now)
    (fun h now => h.commitStatus gid now))

/-- An ABORT reaches a head (09 R349). -/
def execAbortFrame (r : Fin 16) (p : Fin 65) (good : Bool) (gid fseq : Fin 65536) (mask : List (Fin 65)) (s : State) :
    Host.Outcome State Fault Refusal :=
  .next (s.groupFrame r p good (mask.map (·.val)) gid 3 fseq (fun h _ => h.takeAbort gid) (fun _ _ => 0))

/-- A staged group that is still uncommitted when local time reaches HOLD is discarded (09 R349). -/
def execHeadHoldDiscard (r : Fin 16) (p : Fin 65) (gid : Fin 65536) (s : State) : Host.Outcome State Fault Refusal :=
  .next (s.modHead r p (fun h =>
    { h with staged := h.staged.filter (fun g => !(g.gid == gid.val && decide ((g.hold : Int) * 65536 ≤ h.localTime s.now))) }))

/-- Local time reaches WHEN − 20 µs: the event is locked (09 R337). -/
def execHeadLockIn (r : Fin 16) (p : Fin 65) (eid : Fin 65536) (s : State) : Host.Outcome State Fault Refusal :=
  .next (s.modHead r p (fun h => h.modHeld eid (fun x => { x with locked := x.locked || h.atLock x.entry.when_ s.now })))

/-- WHEN of the events due first on a channel (09 R334, R347). -/
def execHeadFire (r : Fin 16) (p : Fin 65) (ch : Fin 16) (s : State) : Host.Outcome State Fault Refusal :=
  .next (s.modHead r p (fun h => h.fireDue ch s.now))

/-- A PULSE ends (09 R333). -/
def execPulseEnd (r : Fin 16) (p : Fin 65) (ch : Fin 16) (s : State) : Host.Outcome State Fault Refusal :=
  .next (s.modHead r p (fun h =>
    match (tget {} h.channels ch).pulseEnd with
    | some t => if (t : Int) ≤ h.localTime s.now then
        { h with channels := tmod {} h.channels ch (fun c => { c with level := 0, pulseEnd := none }) } else h
    | none => h))

/-- No TIME pair for 3 × TIME_PERIOD, or the feed port down: COAST (09 R351). -/
def execCoastEntry (r : Fin 16) (p : Fin 65) (s : State) : Host.Outcome State Fault Refusal :=
  .next (
    let h := s.headAt r p
    let down : Bool := match h.feed with
      | .u => h.downU
      | .d => h.downD
    if h.powered ∧ (down ∨ h.pairAt + 3000 * h.timePeriod ≤ s.now) then s.modHead r p (fun x => x.startCoast s.now) else s)

/-- COAST_MAX spent in COAST: the head quenches itself (09 R351, R353). -/
def execCoastMaxExpiry (r : Fin 16) (p : Fin 65) (s : State) : Host.Outcome State Fault Refusal :=
  .next (
    let h := s.headAt r p
    if h.powered ∧ h.coast ∧ h.coastAt + 1000 * h.coastMax ≤ s.now ∧ ¬ (h.quenched ∧ h.cause = 3) then
      s.modHead r p (fun x => x.selfQuench 3)
    else s)

/-- SAFE_TIMEOUT since the last accepted SAFE frame: the head quenches itself (09 R353). -/
def execSafeTimeoutExpiry (r : Fin 16) (p : Fin 65) (s : State) : Host.Outcome State Fault Refusal :=
  .next (
    let h := s.headAt r p
    match h.safeAt with
    | some t => if h.powered ∧ t + 1000 * h.safeTimeout ≤ s.now then s.modHead r p (fun x => x.selfQuench 2) else s
    | none => s)

/-- A head that declares ENERGY reports every ENERGY_PERIOD; it has metered `uwh` since its last report (08 R290,
09 R356). -/
def execEnergyReport (r : Fin 16) (p : Fin 65) (uwh : Nat) (s : State) : Host.Outcome State Fault Refusal :=
  .next (
    let h := s.headAt r p
    let ms := (s.now - h.energyAt) / 1000000
    if h.powered ∧ h.desc.energy ∧ h.energyAt + 1000000 * h.energyPeriod ≤ s.now then
      let n := (h.rcount + 1) % 65536
      (s.modHead r p (fun x => { x with ecum := h.ecum + uwh, rcount := n, energyAt := s.now })).headSends r p
        (.energy (h.localTime s.now / 65536).toNat (h.ecum + uwh) (uwh * 3600 / max 1 ms) n)
    else s)

/-- A head sends samples of a stream that is enabled (08 R290, 09 R355, R356). -/
def execSenseSend (r : Fin 16) (p : Fin 65) (stream : Fin 8) (t0 : Nat) (samples : List Nat) (s : State) :
    Host.Outcome State Fault Refusal :=
  .next (
    let h := s.headAt r p
    let w := tget 0 h.streams stream
    if h.powered ∧ h.desc.sense ∧ w.testBit 0 ∧ stream.val < h.desc.streams ∧ samples ≠ [] then
      (s.modHead r p (fun x => { x with captures := x.captures.filter (fun c => c.1 ≠ stream.val) })).headSends r p
        (.sense stream (w / 2 % 4) t0 (w / 256 * 125) samples)
    else s)

/-- A head powers up: quenched, without a position and not time-valid (09 R350). -/
def execHeadPowerUp (r : Fin 16) (p : Fin 65) (d : HeadDesc) (jogCapable : Bool) (channelRegs : List (Fin 4294967296))
    (s : State) : Host.Outcome State Fault Refusal :=
  .next (if p.val = 0 then s
    else s.modHead r p (fun _ =>
      { powered := true, desc := d, jogCapable := jogCapable, pairAt := s.now, energyAt := s.now
        localAt := s.now
        channelRegs := channelRegs.zipIdx.foldl (fun t e => tset 0 t e.2 e.1.val) [] }))

end Sys2Proof.Machine
end

