-- ==== Sys2Proof/Machine/Leases.lean ====
section
/-!
DEFINITION. The meanings of the lease commands and of the physical acknowledgement (11 R431 to R435).
-/

namespace Sys2Proof.Machine

/-! ### *LeaseCommand* (11 R431, R435) -/

/-- A write of a lease's *LeaseCommand*: the role at step 3 of R421, then the lease's own rules, and the epoch in the
answer (11 R421, R431). -/
def State.leaseRequest (s : State) (q : Req) (l : Nat) (may : Role → Bool) (run : State → Session → Served) : State :=
  let key := okey (0x1400 + l) 5
  s.serve q (fun t ss =>
    if t.op.state ≠ .halt ∧ (objRow key).isSome ∧ !may ss.role then refuse t .noAccess
    else match t.gate q.session ss.role key q.epoch with
      | (.ok, _) =>
        let r := run t ss
        if r.code = .ok then { r with value := some (.num (r.state.lease l).epoch) } else r
      | (c, d) => refuse t c d)

/-- LEASE_TAKE (11 R427, R431). -/
def execLeaseTake (q : Req) (l : Fin 256) (s : State) : Host.Outcome State Fault Refusal :=
  .next (s.leaseRequest q l (fun r => mayTake r l) (fun t _ =>
    let h := (t.lease l).holder
    if l.val = 0x40 ∨ l.val = 0x41 then refuse t .wrongState
    else if h = q.session then { state := t }
    else if h ≠ 0 then refuse t .leaseHeld h
    else if t.leaseBusy l then refuse t .busyRetry
    else { state := t.changeHolder l q.session }))

/-- LEASE_RELEASE (11 R431). -/
def execLeaseRelease (q : Req) (l : Fin 256) (s : State) : Host.Outcome State Fault Refusal :=
  .next (s.leaseRequest q l (fun _ => true) (fun t _ =>
    if (t.lease l).holder ≠ q.session then refuse t .notHolder l
    else if t.leaseBusy l then refuse t .busyRetry
    else { state := t.changeHolder l 0 }))

/-- LEASE_FENCE (11 R435): at once where no other session holds the lease, otherwise it waits for a physical
acknowledgement. -/
def execLeaseFence (q : Req) (l : Fin 256) (s : State) : Host.Outcome State Fault Refusal :=
  .next (s.leaseRequest q l (fun r => r == .maintenance) (fun t _ =>
    let h := (t.lease l).holder
    if t.leaseBusy l then refuse t .busyRetry
    else if h = 0 ∨ h = q.session then { state := t.fenceLease l q.session }
    else { state := t.modLease l (fun x => { x with fence := .waitAck, fenceAt := t.now }) }))

/-! ### The physical acknowledgement (11 R435) -/

/-- *PhysAckWindow* in ns. -/
def State.physWindow (s : State) : Nat := s.num 0x1480 1 30 * 1000000000

/-- An acknowledgement begun at an instant serves a fence that waits. -/
def State.ackServes (s : State) (l since : Nat) : Bool :=
  let x := s.lease l
  x.fence == .waitAck && decide (x.fenceAt ≤ since ∧ since ≤ x.fenceAt + s.physWindow)

/-- PHYSICAL_ACK_BEGIN (11 R435): FUSE_EN rises, or WAKE falls. -/
def execPhysicalAckBegin (byFuse : Bool) (s : State) : Host.Outcome State Fault Refusal :=
  let edge := if byFuse then !s.op.fuseEn else !s.op.wakeLow
  if !edge then .next s
  else
    let s1 : State := { s with op :=
      if byFuse then { s.op with fuseEn := true } else { s.op with wakeLow := true, wakeFellAt := some s.now } }
    .next (if !s1.gafferRuns then s1
      else { s1 with sess := { s1.sess with
        ackFuse := if byFuse then some s.now else s1.sess.ackFuse
        ackWake := if byFuse then s1.sess.ackWake else some s.now
        ackSeen := s.time.t64 } })

/-- PHYSICAL_ACK_DONE (11 R435): the level has ended, or it has lasted 50 ms and every fence that it serves is carried
out. -/
def execPhysicalAckDone (byFuse held : Bool) (s : State) : Host.Outcome State Fault Refusal :=
  let since := if byFuse then s.sess.ackFuse else s.sess.ackWake
  let clear := fun (t : State) => { t with sess :=
    if byFuse then { t.sess with ackFuse := none } else { t.sess with ackWake := none } }
  if !held then
    .next (clear { s with op := if byFuse then { s.op with fuseEn := false } else { s.op with wakeLow := false } })
  else match since with
    | none => .next s
    | some t0 =>
      if s.now < t0 + 50000000 then .next s
      else .next (clear ((leaseNumbers.filter (fun l => s.ackServes l t0)).foldl (fun t l => t.fenceLease l 0) s))

/-- PHYS_ACK_WINDOW_EXPIRY (11 R435): no acknowledgement that may yet serve the fence began within the window. -/
def execPhysAckWindowExpiry (l : Fin 256) (s : State) : Host.Outcome State Fault Refusal :=
  let x := s.lease l
  let serving : Bool := [s.sess.ackFuse, s.sess.ackWake].any (fun a => a.any (s.ackServes l))
  .next (if x.fence = .waitAck ∧ x.fenceAt + s.physWindow < s.now ∧ !serving then
    s.modLease l (fun y => { y with fence := .expired }) else s)

end Sys2Proof.Machine
end

