-- ==== Sys2Proof/Machine/Power.lean ====
section
/-!
DEFINITION. The meanings of the feed, governor and thermal commands (14, 16).
-/

namespace Sys2Proof.Machine

/-- FEED_STABLE (14 R514): a feed has stood at 40 V or more for FeedStable; an ABSENT one was classified with
`events` class events, a LOST one keeps its grant. -/
def execFeedStable (f : Fin 2) (events : Fin 6) (s : State) : Host.Outcome State Fault Refusal :=
  if (s.feed f).state = .powered then .next s
  else
    let s1 := s.modFeed f (fun x =>
      { x with state := .powered, poweredSince := some s.now
               classEvents := if x.state = .absent then events.val else x.classEvents })
    let s2 : State := { s1 with power := { s1.power with holdup := true } }
    .next (((s2.feedChange f 1).endDemand 0x58).judgeHold.judgeRedundant)

/-- FEED_LOST (14 R514). -/
def execFeedLost (f : Fin 2) (s : State) : Host.Outcome State Fault Refusal :=
  if (s.feed f).state = .powered then
    .next (((s.modFeed f (fun x => { x with state := .lost, poweredSince := none, losses := inc32 x.losses })).feedChange
      f 2).judgeRedundant)
  else .next s

/-- FEED_ABSENT (14 R514): below 30 V, by way of LOST. -/
def execFeedAbsent (f : Fin 2) (s : State) : Host.Outcome State Fault Refusal :=
  let x := s.feed f
  if x.state = .absent then .next s
  else
    .next (((s.modFeed f (fun y =>
      { y with state := .absent, classEvents := 0, poweredSince := none
               losses := if y.state = .powered then inc32 y.losses else y.losses })).feedChange f 0).judgeRedundant)

/-- DIP (14 R522): both feeds were below 37 V for 50 µs or less. -/
def execDip (s : State) : Host.Outcome State Fault Refusal :=
  if s.op.state = .off then .next s
  else .next (State.record { s with power := { s.power with dips := inc32 s.power.dips } } .general .power niGaffer 0x0802 [])

/-- POWER_HOLD (14 R521). -/
def execPowerHold (s : State) : Host.Outcome State Fault Refusal :=
  if s.governs ∧ s.estimate > s.supplyBudget * 10 then .next s.judgeHold else .next s

/-- The last thermal hold or release lies at least so long back. -/
def State.thermalRested (s : State) (ns : Nat) : Bool :=
  match s.power.thermalAt with
  | some t => decide (t + ns ≤ s.now)
  | none => true

/-- THERMAL_HOLD (16 R602): the sensors as they read, in 0.1 °C. -/
def execThermalHold (temps : List Int) (s : State) : Host.Outcome State Fault Refusal :=
  let s1 := s.sensed temps
  if s1.governs ∧ s1.power.junction > 1000 ∧ s1.thermalRested 1000000 then
    let s2 : State := { s1 with power := { s1.power with thermalAt := some s1.now } }
    .next (s2.setHolds s2.power.powerHeld (s2.power.thermalHeld + 1))
  else .next s1

/-- THERMAL_RELEASE (16 R602). -/
def execThermalRelease (temps : List Int) (s : State) : Host.Outcome State Fault Refusal :=
  let s1 := s.sensed temps
  if s1.governs ∧ s1.power.junction ≤ 970 ∧ s1.power.thermalHeld > 0 ∧ s1.thermalRested 10000000 then
    let s2 : State := { s1 with power := { s1.power with thermalAt := some s1.now } }
    .next (s2.setHolds s2.power.powerHeld (s2.power.thermalHeld - 1))
  else .next s1

/-- The largest number of `bits` more bits, from `x`, whose 100th power is at most `lim`. -/
def root100 (lim : Nat) : Nat → Nat → Nat
  | 0, x => x
  | bits + 1, x => root100 lim bits (if (x + 2 ^ bits) ^ 100 ≤ lim then x + 2 ^ bits else x)

/-- 2^20 × 2^((Tj − 95 °C) / 10 K) above 95 °C, and 2^20 at or below it, with Tj in 0.1 °C (16 R606). -/
def lifeFactor (tj : Int) : Nat :=
  let n := (tj - 950).toNat
  2 ^ (n / 100) * root100 (2 ^ (2000 + n % 100)) 21 0

/-- LIFE_SAMPLE (16 R606): one second of powered operation at the sensors as they read. -/
def execLifeSample (temps : List Int) (s : State) : Host.Outcome State Fault Refusal :=
  if s.op.state = .off then .next s
  else
    let s1 := s.sensed temps
    let p := s1.power
    let life := p.life + lifeFactor p.junction
    let reached := decide (life > 263000 * 3600 * 2 ^ 20)
    let s2 : State := { s1 with power := { p with
      life, above95 := if p.junction > 950 then p.above95 + 1 else p.above95, lifeRaised := p.lifeRaised || reached } }
    .next (if reached ∧ !p.lifeRaised then s2.alarm .power 0x0809 0 [] else s2)

/-- The voltage on VKEEP while it feeds the keeper domain (14 R537, R538). -/
def TimeUnit.vkeep (t : TimeUnit) (mv : Nat) : TimeUnit :=
  { t with keeper := { t.keeper with valid := t.keeper.valid && decide (1800 ≤ mv)
                                     tamper := if mv < 1200 then [] else t.keeper.tamper } }

/-- VKEEP_LOW (14 R538): VKEEP, in mV, stands below 1.8 V. -/
def execVkeepLow (mv : Fin 1800) (s : State) : Host.Outcome State Fault Refusal :=
  let s1 : State := { s with power := { s.power with vkeep := mv.val } }
  .next (if s.op.state = .off then { s1 with time := s1.time.vkeep mv.val } else s1)

/-- BROWNOUT_HOLD_EXPIRY (14 R545). -/
def execBrownoutHoldExpiry (s : State) : Host.Outcome State Fault Refusal :=
  let hold := s.num 0x1023 5 30 * 1000000000
  let held : Bool := [0, 1].any (fun f => match (s.feed f).poweredSince with
    | some t => decide (max t s.op.bootAt + hold ≤ s.now)
    | none => false)
  .next (if s.power.brownoutCount ≥ 3 ∧ held then
    State.clearAlarm { s with power := { s.power with brownoutCount := 0 } } 0x0807 0 else s)

/-- BROWNOUT_WINDOW (14 R545): 60 s in SERVICE or RUN without a shed. -/
def execBrownoutWindow (s : State) : Host.Outcome State Fault Refusal :=
  let passed : Bool := match s.op.serviceAt with
    | some t => decide (t + 60000000000 ≤ s.now)
    | none => false
  .next (if s.op.brownoutOpen ∧ passed ∧ (s.op.state = .service ∨ s.op.state = .run) then
    State.clearAlarm { s with power := { s.power with brownoutCount := 0 }
                              op := { s.op with brownoutOpen := false } } 0x0807 0 else s)

end Sys2Proof.Machine
end

