-- ==== Sys2Proof/Machine/OpOps.lean ====
section
/-!
DEFINITION. The operational transitions: leaving RUN, RESET and what it keeps, BOOT and the start of the timebase,
HALT, the shed and SLEEP (01 R35 to R46, 14 R523 to R538, 17 R623).
-/

namespace Sys2Proof.Machine

/-! ### Leaving RUN (01 R38, 05 R194) -/

/-- A task outside Z0 stops as the device leaves RUN. -/
def State.leaveTask (s : State) (n : Nat) : State :=
  let t := s.modTask n (fun k => { k with waking := [] })
  match (s.task n).state with
  | .running => t.drainTask n s.now
  | .armed => t.cancelPre n
  | .ready => (if s.pastDecision n then t else t.decideStart n false).cancelPre n
  | _ => t

/-- Pending events and groups go, without a frame. -/
def State.discardEvents (s : State) : State :=
  { s with ring := { s.ring with rings := tmap {} (fun _ x => { x with events := [], groups := [], refusedOpens := [] }) s.ring.rings } }

/-- The device leaves RUN: it quenches and stops Z0, the other tasks stop, and the event queues are emptied; `frames`
where the rings still carry what withdraws the events sent (01 R38). -/
def State.leaveRun (s : State) (frames : Bool) : State :=
  let s1 := (s.quenchCause 0x01).quenchStop
  let s2 := s1.taskList.foldl State.leaveTask s1
  if frames then (List.range 16).foldl State.emptyQueue s2 else s2.discardEvents

/-- The same, where the device is in RUN. -/
def State.leaving (s : State) (frames : Bool) : State := if s.op.state = .run then s.leaveRun frames else s

/-! ### RESET and OFF (14 R528 to R530) -/

/-- The code of a reset source (14 R528). -/
def ResetSource.code : ResetSource → Nat
  | .powerOn => 1
  | .feedLoss => 2
  | .nreset => 3
  | .command => 4

/-- What stays of a library entry when the volatile state of its staging is lost (07 R254, R266). -/
def LibEntry.kept (x : LibEntry) : LibEntry :=
  match x.state with
  | .empty | .verified | .active | .retired => x
  | .receiving => {}
  | .verifying => if x.golden.isEmpty then {} else { x with state := .verified }
  | _ => { x with state := .verified }

/-- A value outlives RESET: it belongs to a persistent object (11 R404). -/
def keptKey (key : Nat) : Bool := (objRow key).any ObjRow.persistent

/-- What the store, the fuses and the retained cells keep of the dictionary, of the leases and of what was stored for
the next start (11 R404, R432). -/
def SessionUnit.kept (u : SessionUnit) : SessionUnit :=
  { inForce := u.inForce.filter (fun p => keptKey p.1), stored := u.stored, restoreDefaults := u.restoreDefaults
    leases := u.leases }

/-- What the timebase keeps while its supply stands, and what persistence keeps (14 R530, R532). -/
def TimeUnit.kept (t : TimeUnit) (now : Nat) (stood : Bool) : TimeUnit :=
  { t64 := t.t64, f := t.freqAt now, fTarget := t.freqAt now, fAt := now, journalAt := now, saved := t.saved
    supplyStood := stood, keeper := t.keeper }

/-- What the store keeps: its words, its journal, its home records and its archive (12 R471 to R483). -/
def StoreUnit.kept (u : StoreUnit) : StoreUnit :=
  { u with homeAt := [], corrected := 0, uncorrected := 0, lastUe := 0, scrubs := 0, refreshes := 0, torn := 0, gaps := 0
           replayed := 0 }

/-- What stays of the rings: the tables of their last CLOSED states, in the store, and the heads outside (08 R307). -/
def RingUnit.kept (u : RingUnit) : RingUnit :=
  { rings := tmap {} (fun _ x => { serials := x.serials, lastCount := x.lastCount }) u.rings, heads := u.heads }

/-- What stays of the energy unit: what its journal records, its schedule and its periods hold (13 R506, R510). -/
def EnergyUnit.kept (u : EnergyUnit) : EnergyUnit :=
  { u with accepting := false, sources := [], rings := [], heads := [], recent := [], backlog := [], running := 0
           forecast := 0, advisory := 0 }

/-- What stays of the power unit: the feeds as they stand, and the counts that outlive a restart (14 R523, R545,
16 R606). -/
def PowerUnit.kept (u : PowerUnit) : PowerUnit :=
  { feeds := u.feeds, sheds := u.sheds, lastShed := u.lastShed, shed := u.shed, brownoutCount := u.brownoutCount
    holdup := u.holdup, vkeep := u.vkeep, junction := u.junction, junctionPeak := u.junction, life := u.life
    above95 := u.above95, lifeRaised := u.lifeRaised, sensors := u.sensors }

/-- What stays of blanks, library and firmware (07 R254, R266, R267). -/
def BlankUnit.kept (u : BlankUnit) : BlankUnit :=
  { library := tmap {} (fun _ x => x.kept) u.library, active := u.active, fwA := u.fwA, fwB := u.fwB
    trialStored := u.trialStored }

/-- The fuses, with what their users hold of the critical words (12 R455). -/
def FuseUnit.kept (u : FuseUnit) : FuseUnit :=
  { copyA := u.copyA, copyB := u.copyB, rail := u.rail, temp := u.temp, scan := u.scan, weak := u.weak
    latched := u.latched, latchedState := u.latchedState, floor := u.floor }

/-- RESET holds the array, the rings and the Gaffer, and volatile state is lost; the Quench unit runs on (14 R530). -/
def State.loseVolatile (s : State) (stood : Bool) : State :=
  let o := s.op
  { (s.quenchReset) with
    op := { sources := o.sources, lastResetCause := o.lastResetCause, nresetLow := o.nresetLow, wakeLow := o.wakeLow
            wakeFellAt := o.wakeFellAt, fuseEn := o.fuseEn, bootAt := o.bootAt, fatalSeen := o.fatalSeen, offAt := o.offAt }
    time := s.time.kept s.now stood
    angle := {}
    power := s.power.kept
    log := { s.log with alarms := [] }
    sess := s.sess.kept
    array := {}
    net := {}
    blank := s.blank.kept
    ring := s.ring.kept
    fuse := s.fuse.kept
    store := s.store.kept
    energy := s.energy.kept
    io := {} }

/-- A reset source is asserted, and RESET lasts while any is; *LastResetCause* takes the source that starts RESET, and
the lowest code when several start on one edge (14 R528). -/
def State.assertReset (s : State) (r : ResetSource) : State :=
  let cause := s.op.lastResetCause
  let sameEdge := s.op.sources.any (fun p => p.1.code == cause && p.2 == s.now)
  let src := if s.op.sources.any (fun p => p.1 == r) then s.op.sources else s.op.sources ++ [(r, s.now)]
  if s.op.state = .reset then
    { s with op := { s.op with sources := src, lastResetCause := if sameEdge then min cause r.code else cause } }
  else
    let s1 := s.loseVolatile true
    { s1 with op := { s1.op with sources := [(r, s.now)], lastResetCause := r.code } }

/-- Both feeds and the holdup store are exhausted: nothing but fuses, store, keeper domain and pins is left
(01 R36, 14 R537). -/
def State.powerOff (s : State) (vkeep : Nat) : State :=
  let s1 := s.loseVolatile false
  { s1 with
    op := { s1.op with state := .off, sources := [], bootAt := 0, offAt := some s.now }
    quench := {}
    power := { s1.power with feeds := [], shed := false, holdup := false, vkeep }
    time := s1.time.vkeep vkeep }

/-- Either feed reaches its operating voltage: RESET, held by POWER_ON (01 R36, 14 R528, 12 R475). -/
def State.powerUp (s : State) : State :=
  let off := (s.op.offAt.map (fun t => s.now - t)).getD 0
  let low := if s.op.nresetLow then [(ResetSource.nreset, s.now)] else []
  { s with
    op := { s.op with state := .reset, sources := (.powerOn, s.now) :: low, lastResetCause := 1, offAt := none }
    store := { s.store with refreshAt := s.store.refreshAt + off, scrubAt := s.store.scrubAt + off
                            refreshDue := s.store.refreshDue || decide (90 * 86400000000000 < off) } }

/-! ### The release of RESET (14 R531, R532) -/

/-- A reset source is released (14 R513, R526, R528). -/
def State.sourceReleased (s : State) (powerReady nresetHigh : Bool) (p : ResetSource × Nat) : Bool :=
  match p.1 with
  | .powerOn => powerReady
  | .feedLoss => [0, 1].any (fun f => (s.feed f).state == .powered)
  | .nreset => nresetHigh
  | .command => decide (p.2 + 10000000 ≤ s.now)

/-- The fuse check, and what the users of the critical words read over their own paths (12 R455, R463, R470). -/
def FuseUnit.released (u : FuseUnit) (weak : List (Fin 64)) : FuseUnit :=
  let crit := List.range 32
  { u.scanned weak with
    latched := crit.foldl (fun t a => tset 0 t a (fuseData (u.word a))) []
    latchedState := crit.foldl (fun t a => tset 0 t a (u.wstate a).code) []
    floor := u.svn }

/-- The Quench unit reads its words and judges them (10 R367, R368, 12 R464). -/
def State.quenchFuses (s : State) : State :=
  let u := s.fuse
  s.readQuenchFuses ((List.range 8).foldl (fun t k => tset 0 t k (fuseData (u.word (8 + k)))) [])
    ([4, 5].any (fun a => u.wstate a != .good) || ((List.range 8).any (fun k => u.wstate (8 + k) == .bad)))

/-- The newest record's STAMP (12 R477). -/
def StoreUnit.newestStamp (u : StoreUnit) : T64 := (u.journal.head?.map (·.stamp)).getD 0

/-- The timebase starts: T64 runs on, or loads from the keeper or the journal; F loads the learned frequency kept,
corrected by the temperature model (02 R51, 14 R532). -/
def State.startTime (s : State) : State :=
  let t := s.time
  let elapsed := s.now - t.keeper.loadedAt
  let f := clampF (t.saved + Config.temperatureModel s.power.junction)
  let kept := (((t.keeper.t64 + elapsed : Nat) : Int) + Config.keeperError elapsed).toNat
  let t64 := if t.supplyStood then t.t64 else if t.keeper.valid then kept else s.store.newestStamp
  let origin := if t.supplyStood ∨ t.keeper.valid then .keeper else .journal
  { s with time := { t with t64, origin, f, fTarget := f, learned := t.saved, fAt := s.now, journalAt := s.now } }

/-- An entry of the tamper log; the oldest gives way when it is full (14 R538). -/
def Keeper.write (k : Keeper) (type t : Nat) : Keeper :=
  { k with tamper := (k.tamper ++ [(type, t, false)]).drop (k.tamper.length - 15) }

/-- The tamper entries of a BOOT: the end of the outage last begun, and a keeper that was found lost (14 R538). -/
def State.bootTamper (s : State) : State :=
  let k := s.time.keeper
  let k1 := if (k.tamper.getLast?.map (·.1)) = some 1 then k.write 2 s.time.t64 else k
  let k2 := if !s.time.supplyStood ∧ !k.valid then k1.write 3 s.time.t64 else k1
  { s with time := { s.time with keeper := k2 } }

/-- BOOT: the fuse check, the Quench unit's reading of its words, the start of the timebase and the built-in self-test
(14 R531, 10 R394). -/
def State.enterBoot (s : State) (weak : List (Fin 64)) (bistPass : Bool) : State :=
  let s1 : State := { s with
    op := { s.op with state := .boot, bootAt := s.now, gaffer := .bootRom, gafferCause := .reset, watchdogCount := 0 }
    power := { s.power with shed := false, holdup := true }
    fuse := s.fuse.released weak }
  let s2 := s1.startTime.bootTamper.quenchFuses
  let s3 := s2.modQuench (fun u => { u with bistRun := true })
  let s4 := if bistPass then s3 else s3.quenchCause 0x57
  (s4.modAssay (fun a => { a with lastPassAt := s.now })).judgeHold.judgeRedundant

/-! ### HALT (01 R37, R46, 17 R623) -/

/-- A task stops as the device halts: the array is stopped (01 R35). -/
def State.haltTask (s : State) (n : Nat) : State :=
  if (s.task n).live then s.stopTask n (s.task n).clusters .cancelled .cancel else s

/-- Without the servo F runs on a frequency, adjusted by the temperature model alone (02 R627). -/
def TimeUnit.coast (t : TimeUnit) (now : Nat) (base tj : Int) : TimeUnit :=
  { t.integrate now with fTarget := clampF (base + Config.temperatureModel tj) }

/-- The Gaffer forgets the rounds it leads. -/
def State.dropRounds (s : State) : State :=
  let s1 := { s with net := { s.net with rounds := [] } }
  s1.modNi niGaffer (fun x => { x with tags := [] })

/-- A FATAL fault: its record in the reserve, and HALT, where the recovery service runs; in RESET the record alone,
which the boot ROM judges (01 R36, R37, R46, 07 R270, 12 R482). -/
def State.fatal (s : State) (code source addr : Nat) : State :=
  let s1 := s.record .reserve .fatal source code (bytesLE 4 addr)
  if s.op.state = .halt ∨ s.op.state = .off then s1
  else if s.op.state = .reset then { s1 with op := { s1.op with fatalSeen := some code } }
  else
    let s2 := s1.leaving false
    let s3 := (s2.taskList.foldl State.haltTask s2).endSessions.dropRounds
    State.judgeHold { s3 with
      op := { s3.op with state := .halt, gaffer := .recovery, trial := false, trialSince := none, fatalSeen := none }
      time := { s3.time.coast s3.now s3.time.saved s3.power.junction with
        state := .free, quality := .none, candidates := [], disciplinedAt := none }
      blank := { s3.blank with upload := none }
      io := { s3.io with loops := [] } }

/-! ### The shed (14 R523, R524) -/

/-- The shed: Tcut and the keeper, FEED_LOSS, the journal, and RESET (14 R523, R524, 13 R505). -/
def State.shedNow (s : State) : State :=
  let tcut := s.time.t64
  let s1 := if s.timeRuns then
      { s with time := { s.time with keeper := { s.time.keeper.write 1 tcut with t64 := tcut, loadedAt := s.now, valid := true } } }
    else s
  let s2 := (s1.energyCut tcut).quenchCause 0x58
  let s3 := s2.leaving false
  let s4 := match s3.fuse.prog with
    | some p => s3.fuseEnd p .window 0
    | none => s3
  let p := s4.power
  let s5 : State := { s4 with power := { p with
    shed := true, sheds := inc32 p.sheds, lastShed := tcut
    brownoutCount := if s4.op.brownoutOpen then p.brownoutCount + 1 else p.brownoutCount } }
  let s6 := if s5.gafferRuns then
      ((s5.energyCommit (s5.countersRec tcut 2)).energyFlush.commit
        (.time tcut s5.time.state.code s5.time.quality.code)).commit (.shed tcut 2)
    else s5
  (s6.record .reserve .power niGaffer 0x0803 (bytesLE 8 tcut)).assertReset .feedLoss

/-! ### SERVICE, SLEEP and waking (14 R535, R536) -/

/-- Each ring with *RingEnable* 1 enters TRAINING. -/
def State.ringsStart (s : State) : State :=
  (List.range 16).foldl (fun u r => if u.flagOn (0x4000 + r) 1 false then u.startTraining r else u) s

/-- SLEEP: every cluster is gated, every ring is OFF, and each angle channel is not homed (14 R535). -/
def State.enterSleep (s : State) : State :=
  let s1 := (List.range 64).foldl State.gateCluster s
  let s2 := (List.range 16).foldl State.ringOff s1
  let s3 := [0, 1].foldl (fun u c => u.modAngle c AngleChannel.unhome) s2
  State.judgeHold { s3 with op := { s3.op with state := .sleep, sleepAt := some s.now } }

/-- The device leaves SLEEP for SERVICE (14 R536). -/
def State.wake (s : State) (cause : Nat) : State :=
  State.judgeHold (State.ringsStart { s with op := { s.op with state := .service, wakeCause := cause, sleepAt := none } })

/-! ### *OpCommand* (11 R451) -/

/-- A request for *OpCommand* `v`: the role's limit at step 3, HALT's at step 1, and then the transition's own check
(01 R36, R45, 07 R270, 11 R421, R451). -/
def State.opRequest (s : State) (q : Req) (v : Nat) (run : State → Served) : State :=
  s.serve q (fun t ss =>
    if t.op.state = .halt ∧ v ≠ 4 then refuse t .noObject
    else if 4 ≤ v ∧ ss.role ≠ .maintenance then refuse t .noAccess
    else match t.gate q.session ss.role (okey 0x1010 2) q.epoch with
      | (.ok, _) => run t
      | (c, d) => refuse t c d)

/-- A zone holds an active blank (01 R36). -/
def State.someActive (s : State) : Bool := (List.range 8).any (fun z => tget 0xFF s.blank.active z != 0xFF)

/-- SERVICE to RUN, with the refusals of R519, R534 and R545 (01 R36, R40). -/
def State.toRun (s : State) (n : SessionNo) : Served :=
  if s.op.state ≠ .service ∨ !s.someActive ∨ s.store.refreshDue then refuse s .wrongState
  else if 3 ≤ s.power.brownoutCount then
    refuse (if s.alarmOn 0x0807 0 then s else s.alarm .power 0x0807 0 []) .wrongState
  else if !s.admits s.committed then
    refuse (s.record .general .power niGaffer 0x0804 [] n) .wrongState
  else { state := (State.endDemand { s with op := { s.op with state := .run } } 0x01).judgeHold }

end Sys2Proof.Machine
end

