-- ==== Sys2Proof/Machine/GafferOps.lean ====
section
/-!
DEFINITION. The Gaffer's starts: the boot ROM's selection, and what the firmware does before it serves anyone: the
leases, the dictionary, the journal, applies and activations cut short, and SERVICE from BOOT (01 R30, 07 R268, R277,
11 R404, R409, R432, 12 R464, R465, R469, R476, R481, 14 R531).
-/

namespace Sys2Proof.Machine

/-! ### The boot ROM (07 R268, 12 R464, 01 R46) -/

/-- The FATAL fault that the boot ROM finds at a release from RESET. -/
def State.bootFault (s : State) : Option Nat :=
  if tget 0 s.fuse.latchedState 0 ≠ 1 then some 5
  else if tget 0 s.fuse.latchedState 7 ≠ 1 then some 6
  else if s.op.fatalSeen = some 4 ∧ 1150 ≤ s.power.junction then some 4
  else none

/-- The slot that *FwTrial* named is marked TRIAL at this start (07 R269). -/
def State.markTrial (s : State) : State :=
  match s.blank.trialStored with
  | none => s
  | some k =>
    let s1 : State := { s with blank := { s.blank with trialStored := none } }
    if s1.fwGood k then s1.modFw k (fun x => { x with mark := .trial }) else s1

/-- The image selected: TRIAL, then CONFIRMED, then any, each where it verifies, A before B (07 R268). -/
def State.selectFw (s : State) : Option FwSlot :=
  let with_ := fun (m : FwMark) => [FwSlot.a, .b].find? (fun k => (s.fw k).mark == m && s.fwGood k)
  match with_ .trial with
  | some k => some k
  | none => match with_ .confirmed with
    | some k => some k
    | none => [FwSlot.a, .b].find? s.fwGood

/-- The boot ROM starts an image: a TRIAL mark becomes NONE first, and an image of another slot than the one that
expired starts the count of expiries at 0 (01 R30, 07 R268). -/
def State.startImage (s : State) (k : FwSlot) : State :=
  let trial := (s.fw k).mark == .trial
  let s1 := if trial then s.modFw k (fun x => { x with mark := .none }) else s
  { s1 with op := { s1.op with
      gaffer := .selected k, trial, trialSince := none, fatalSeen := none
      watchdogCount := if s1.op.expiredSlot.any (· != k) then 0 else s1.op.watchdogCount
      expiredSlot := none } }

/-- The boot ROM's selection (07 R268, 12 R464). -/
def State.bootSelect (s : State) : State :=
  match (if s.op.state = .boot then s.bootFault else none) with
  | some c => s.fatal c 0x81 0
  | none =>
    let s1 := s.markTrial
    match s1.selectFw with
    | some k => s1.startImage k
    | none => s1.fatal 7 0x81 0

/-! ### Leases and stagings (11 R432, 07 R260) -/

/-- One lease at a start of the firmware: no holder, the next epoch; a holder it had lapses with a record (11 R432,
R433). -/
def State.freshLease (s : State) (l : Nat) : State :=
  let held := (s.lease l).holder != 0
  let s1 := s.modLease l (fun x =>
    { x with holder := 0, epoch := nextEpoch x.epoch, fence := .none, recent := []
             changes := if held then inc32 x.changes else x.changes })
  if held then s1.record .reserve .config niGaffer 0x0614 (l :: bytesLE 4 (s1.lease l).epoch ++ bytesLE 8 0) else s1

/-- A staging whose owner has lapsed: an activation without COMMIT has no effect; one with COMMIT goes on
(07 R254, R260, R277). -/
def State.freshSlot (s : State) (k : Nat) : State :=
  let x := s.slot k
  if x.state ≠ .activating then s.withdraw k
  else if x.committed then s.modSlot k (fun y => { y with owner := 0 })
  else (s.failActivation k .failed []).withdraw k

/-! ### The dictionary (11 R404, R406, 12 R476) -/

/-- The default of an object. -/
def defaultOf (key : Nat) : Val := ((objRow key).map (·.dflt)).getD (.num 0)

/-- A value comes into force at the start, with what it changes at once. -/
def State.load (s : State) (key : Nat) (v : Val) : State :=
  State.settled { s with sess := s.sess.force key v, store := s.store.soil key } key v

/-- *RestoreDefaults* returns every persistent object to its default; otherwise the values stored for this start come
into force (11 R404, R406). -/
def State.loadDictionary (s : State) : State :=
  let u := s.sess
  let s1 : State := { s with sess := { u with stored := [], restoreDefaults := false } }
  if u.restoreDefaults then
    ((u.inForce.map (·.1)).filter keptKey).foldl (fun t k => t.load k (defaultOf k)) s1
  else u.stored.foldl (fun t p => t.load p.1 p.2) s1

/-- The journal holds a value of an object. -/
def StoreUnit.journals (u : StoreUnit) (key : Nat) : Bool :=
  u.journal.any (fun r => match r.body with
    | .dictApply set => set.any (fun p => p.1 == key)
    | _ => false)

/-- A home record that fails its check is rebuilt from the journal, or its object takes its default with DICT_LOST
(12 R476). -/
def State.homeLost (s : State) (key : Nat) : State :=
  if !keptKey key then s
  else if s.store.journals key then { s with store := s.store.soil key }
  else (s.load key (defaultOf key)).alarm .alarm 0x0707 key (bytesLE 2 (key / 256) ++ [key % 256])

/-! ### The journal (12 R477 to R481) -/

/-- The JSEQ that the last CHECKPOINT covers. -/
def StoreUnit.covered (u : StoreUnit) : Nat :=
  (u.journal.findSome? (fun r => match r.body with
    | .checkpoint j => some j
    | _ => none)).getD 0

/-- The records after the last CHECKPOINT, newest first. -/
def StoreUnit.toReplay (u : StoreUnit) : List JRec := u.journal.filter (fun r => decide (u.covered < r.jseq))

/-- A record after the last CHECKPOINT reads invalid with valid ones after it: JOURNAL_GAP, and the values that it alone
held fall back to their home records (12 R481). -/
def State.journalGap (s : State) (j : Nat) : State :=
  match s.store.toReplay.find? (fun r => r.jseq == j) with
  | none => s
  | some r =>
    if s.journalHead ≤ j then s
    else
      let s1 : State := { s with store := { s.store with gaps := inc32 s.store.gaps
                                                         journal := s.store.journal.filter (fun x => x.jseq != j) } }
      let keys : List Nat := match r.body with
        | .dictApply set => (set.map (fun p => p.1)).filter (fun k => s1.store.dirty.contains k && !s1.store.journals k)
        | _ => []
      (keys.foldl (fun (t : State) k => t.load k ((alook t.store.homes k).getD (defaultOf k))) s1).alarm .alarm 0x0708 j (bytesLE 8 j)

/-- The replay's counts, START and CHECKPOINT (12 R481). -/
def State.replay (s : State) (torn : Bool) (gaps : List Nat) : State :=
  let s1 := gaps.foldl State.journalGap s
  let l := s1.store.toReplay
  let s2 : State := { s1 with store := { s1.store with
    torn := if torn then inc32 s1.store.torn else s1.store.torn
    replayed := (s1.store.replayed + l.length) % 2 ^ 32 } }
  (s2.commit (.start s2.op.lastResetCause s2.time.origin.ctorIdx ((l.getLast?.map (·.jseq)).getD 0))).checkpoint

/-! ### Applies and activations cut short (07 R277, 11 R409) -/

/-- An apply at a start of the firmware: without COMMIT it has no effect; past its edge its values are written to the
units that lack them, marked in force and logged; before its edge its units apply it (11 R409). -/
def State.freshApply (s : State) (a : Apply) : State :=
  let drop : State → State := fun t => { t with sess := { t.sess with applies := t.sess.applies.filter (fun y => y.jseq != a.jseq) } }
  match a.edge with
  | none => drop s
  | some e =>
    if a.stage < 2 then drop s
    else if s.time.t64 < e then s
    else
      let s1 := a.values.foldl (fun t p => t.putInForce p.1 p.2) s
      let s2 := a.members.foldl (fun t n => t.unstage n (fun x => x.src == niGaffer && x.msg == .applySet a.jseq)) s1
      drop ((s2.commit (.dictInforce a.jseq e)).record .reserve .config niGaffer 0x0612 (0 :: bytesLE 4 0 ++ bytesLE 8 e))

/-- A task of a zone whose activation is completed after a restart: it is cancelled, and STOPPED (07 R277). -/
def State.splitTask (s : State) (n : Nat) : State :=
  let s1 := s.cancelTask n
  if (s1.task n).state = .loaded then s1.modTask n (fun k => { k with state := .stopped, reason := .cancelled }) else s1

/-- An active blank that some clusters of its zones missed: ACTIVATE_SPLIT, and the activation completed there
(07 R277). -/
def State.joinBlank (s : State) (e : Nat) : State :=
  let b := s.image e
  let zones := imageZones b
  let missed := (s.activationMembers b).filter (fun c => (s.cluster c).gen != genOf e)
  if missed.isEmpty then s
  else
    let ts := s.taskList.filter (fun n => (s.task n).state != .absent && zones.contains (s.task n).zone)
    let s1 := ts.foldl State.splitTask s
    let s2 := s1.record .reserve .config niGaffer 0x0611 (bitsMask zones :: bytesLE 4 0 ++ bytesLE 8 (s.lib e).activeSince)
    let old := (List.range 32).filter (fun o => (s.lib o).state == .retired)
    (missed.foldl (fun t c => t.activateCluster c e (bankOf (imageSetup b c)) old) s2).recomputeAllow

/-! ### From BOOT to SERVICE (12 R464, R465, R469, 14 R531, R538, R545) -/

/-- An active blank is laid down again from its library entry, its tasks LOADED (14 R531). -/
def State.relayBlank (s : State) (e : Nat) : State :=
  let b := s.image e
  let members := s.activationMembers b
  let nos := s.freeTasks.take (imageTasks b).length
  let s1 := (imageClusters b).foldl (fun u c => u.primeCluster 2 e c b) s
  let s2 := (s1.modAssay (fun a => { a with golden := (s1.lib e).golden.foldl (fun t p => tput p.1 p.2 t) a.golden })).declareFlows e b
  let s3 := members.foldl (fun u c => u.activateCluster c e (tget [] s2.blank.secondBank (128 + c)) []) s2
  let s4 : State := { s3 with
    blank := { s3.blank with secondBank := s3.blank.secondBank.filter (fun p => p.1 / 64 ≠ 2) }
    ring := { s3.ring with sections := match imageEvents b with
      | some x => s3.ring.sections ++ [(e, x)]
      | none => s3.ring.sections } }
  let s5 := if (imageZones b).contains 0 then s4.modQuench (fun u => { u with cmp := comparatorOf b s.now }) else s4
  s5.loadTasks e b nos false

/-- The target of a word's newest FUSE_INTENT that no FUSE_DONE follows (12 R465). -/
def openIntent (a : Nat) : List JRec → Option Nat
  | [] => none
  | r :: t => match r.body with
    | .fuseIntent b d => if b = a then some d else openIntent a t
    | .fuseDone b _ => if b = a then none else openIntent a t
    | _ => openIntent a t

/-- The INCOMPLETE words, each with its target (12 R465). -/
def State.incompleteWords (s : State) : List (Nat × Nat) :=
  (List.range 1024).filterMap (fun a =>
    if s.fuse.wstate a = .good then none
    else match openIntent a s.store.journal with
      | some d => if s.fuse.word a &&& ~~~(fuseTarget a d) = 0 then some (a, d) else none
      | none => none)

/-- A generation that is used and not whole, by the address of its first word (12 R469). -/
def FuseUnit.badGens (u : FuseUnit) (g : GenSetting) : List Nat :=
  ((List.range g.gens).filter (fun k => u.genUsed g k && !u.genWhole g k)).map (fun k => g.base + k * g.words)

/-- A fuse alarm (17 R622). -/
def State.fuseAlarm (code : Nat) (s : State) (a : Nat) : State := s.alarm .alarm code a (bytesLE 2 a ++ [0])

/-- The alarms of the fuse check: BAD words, words BLANK that must not be, WEAK bits, broken generations and INCOMPLETE
words (12 R464, R465, R469). -/
def State.fuseAlarms (s : State) : State :=
  let u := s.fuse
  let bad := (List.range 1024).filter (fun a => u.wstate a == .bad || (decide (a < 8) && u.wstate a == .blank))
  let inc := s.incompleteWords
  let s1 := bad.foldl (State.fuseAlarm 0x0701) s
  let s2 := u.weak.foldl (State.fuseAlarm 0x0702) s1
  let s3 := (inc.map (·.1)).foldl (State.fuseAlarm 0x0703) { s2 with fuse := { s2.fuse with incomplete := inc.take 8 } }
  (u.badGens svnFloor ++ u.badGens machineIdentGen).foldl (State.fuseAlarm 0x0704) s3

/-- The tamper entries not yet copied go to the fault log, each once (14 R538). -/
def State.copyTamper (s : State) : State :=
  let k := s.time.keeper
  let s1 := (k.tamper.filter (fun e => !e.2.2)).foldl (fun t e =>
    t.record .general .info 0x82 (0x0A00 + e.1) (bytesLE 8 e.2.1)) s
  { s1 with time := { s1.time with keeper := { k with tamper := k.tamper.map (fun e => (e.1, e.2.1, true)) } } }

/-- SERVICE, from BOOT: tables, rings, blanks and the energy unit, with what this start has to report (14 R531). -/
def State.enterService (s : State) : State :=
  let s1 := s.fuseAlarms.copyTamper
  let s2 := if 3 ≤ s1.power.brownoutCount then s1.alarm .power 0x0807 0 [] else s1
  let s3 := s2.record .general .power niGaffer 0x080A [s2.op.lastResetCause]
  let s4 : State := { s3 with
    time := { s3.time with state := .free, quality := .none }
    op := { s3.op with state := .service, serviceAt := some s.now, brownoutOpen := true, lockRef := some s.now }
    io := { s3.io with loops := (List.range 2).foldl (fun t m => tset {} t m { state := .off }) s3.io.loops } }
  let s5 := s4.activeEntries.foldl State.relayBlank s4
  (s5.recomputeAllow.ringsStart.energyRestore).judgeHold.judgeRedundant

/-! ### A start of the firmware, and a restart of the Gaffer -/

/-- The firmware starts (01 R30, 11 R432, 12 R481, 14 R531): `torn` and `gaps` are what the journal's checks find,
`lost` the home records that fail theirs. -/
def State.firmwareStart (s : State) (k : FwSlot) (torn : Bool) (gaps lost : List Nat) : State :=
  let o := s.op
  let boot := o.state == .boot
  let s1 : State := { s with op := { o with
    gaffer := .running k, servedSince := s.now
    watchdogCount := if o.gafferCause = .watchdog then o.watchdogCount else 0
    trialSince := if o.trial then some s.now else none } }
  let s2 := [0, 1].foldl State.freshSlot (leaseNumbers.foldl State.freshLease s1)
  let s3 := lost.foldl State.homeLost (s2.replay torn gaps).loadDictionary
  let s4 := s3.sess.applies.foldl State.freshApply s3
  let s5 := if boot then s4.enterService else s4.activeEntries.foldl State.joinBlank s4
  s5.energyFlush

/-- The Gaffer restarts on its own: sessions end, and the boot ROM runs; F is held as in HOLDOVER (01 R30, 02 R627, 11 R418). -/
def State.gafferRestart (s : State) (cause : GafferCause) : State :=
  let expired := match s.op.gaffer with
    | .running k => if cause = .watchdog then some k else none
    | _ => none
  let s1 := s.endSessions.dropRounds
  { s1 with
    op := { s1.op with gaffer := .bootRom, gafferCause := cause, expiredSlot := expired, trial := false, trialSince := none }
    time := s1.time.coast s1.now s1.time.learned s1.power.junction }

end Sys2Proof.Machine
end

