-- ==== Sys2Proof/Machine/Operation.lean ====
section
/-!
DEFINITION. The meanings of the commands of power, RESET, the Gaffer and the operational states (01, 07, 14, 17).
-/

namespace Sys2Proof.Machine

/-! ### RESET (14 R528 to R532) -/

/-- POWER_ON (14 R513, R528): a feed reaches its operating voltage. -/
def execPowerOn (_f : Fin 2) (s : State) : Host.Outcome State Fault Refusal :=
  .next (if s.op.state = .off then s.powerUp else s)

/-- RESET_RELEASE (14 R528, R531): what of POWER_ON's and NRESET's conditions is met now, the words with a WEAK bit and
the built-in self-test's outcome; BOOT follows the last source. -/
def execResetRelease (powerReady nresetHigh bistPass : Bool) (weak : List (Fin 64)) (s : State) :
    Host.Outcome State Fault Refusal :=
  if s.op.state ≠ .reset then .next s
  else
    let left := s.op.sources.filter (fun p => !s.sourceReleased powerReady nresetHigh p)
    let s1 : State := { s with op := { s.op with sources := left, nresetLow := !nresetHigh } }
    .next (if left.isEmpty then s1.enterBoot weak bistPass else s1)

/-- NRESET_LOW (14 R529): the pin has been low for `ns`; below 200 ns it is ignored, from 1 µs on it asserts NRESET, and
in between either may be. -/
def execNresetLow (ns : Nat) (s : State) : Host.Outcome State Fault Refusal :=
  if ns < 200 then .next s
  else
    let r : Nat × State := if ns < 1000 then s.takeFree else (1, s)
    let s1 := r.2
    if r.1 % 2 = 0 then .next s1
    else
      let s2 : State := { s1 with op := { s1.op with nresetLow := true } }
      .next (if s2.op.state = .off then s2 else (s2.leaving false).assertReset .nreset)

/-- HOLDUP_EXHAUSTED (01 R36, 14 R537): the voltage on VKEEP as it then feeds the keeper domain, in mV. -/
def execHoldupExhausted (mv : Nat) (s : State) : Host.Outcome State Fault Refusal :=
  .next (if s.op.state = .off then s else (s.leaving false).powerOff mv)

/-- SHED_DECISION (14 R523, R524): both feeds have stayed below 37 V for more than 50 µs. -/
def execShedDecision (s : State) : Host.Outcome State Fault Refusal :=
  .next (if s.op.state = .off ∨ s.power.shed ∨ [0, 1].any (fun f => (s.feed f).state == .powered) then s else s.shedNow)

/-! ### The Gaffer (01 R30, 07 R268, R277, 12 R481) -/

/-- IMAGE_SELECTION (07 R268). -/
def execImageSelection (s : State) : Host.Outcome State Fault Refusal :=
  .next (if s.op.gaffer = .bootRom then s.bootSelect else s)

/-- GAFFER_FIRMWARE_START (11 R432, 12 R481): whether the journal's head is torn, the JSEQs that read invalid before valid
records, and the objects whose home records fail their checks. -/
def execGafferFirmwareStart (torn : Bool) (gaps : List Nat) (lost : List (Fin 16777216)) (s : State) :
    Host.Outcome State Fault Refusal :=
  match s.op.gaffer with
  | .selected k => .next (s.firmwareStart k torn gaps (lost.map Fin.val))
  | _ => .next s

/-- GAFFER_WATCHDOG_EXPIRY (01 R30): the third in a row is FATAL. -/
def execGafferWatchdogExpiry (s : State) : Host.Outcome State Fault Refusal :=
  if s.gafferRuns then
    let n := s.op.watchdogCount + 1
    let s1 : State := { s with op := { s.op with watchdogCount := n } }
    .next (if 3 ≤ n then s1.fatal 2 niGaffer 0 else s1.gafferRestart .watchdog)
  else .next s

/-- WATCHDOG_COUNT_CLEAR (01 R30): 10 s served without an expiry. -/
def execWatchdogCountClear (s : State) : Host.Outcome State Fault Refusal :=
  .next (if s.gafferRuns ∧ s.op.servedSince + 10000000000 ≤ s.now then { s with op := { s.op with watchdogCount := 0 } } else s)

/-- TRIAL_CONFIRM (07 R268): the running image's slot is CONFIRMED, and the other slot's CONFIRMED mark goes. -/
def execTrialConfirm (s : State) : Host.Outcome State Fault Refusal :=
  match s.op.gaffer, s.op.trialSince with
  | .running k, some t =>
    if t + 10000000000 ≤ s.now ∧ (s.op.state = .service ∨ s.op.state = .run) then
      let s1 := (s.modFw k (fun x => { x with mark := .confirmed })).modFw k.other (fun x =>
        { x with mark := if x.mark = .confirmed then .none else x.mark })
      .next { s1 with op := { s1.op with trial := false, trialSince := none } }
    else .next s
  | _, _ => .next s

/-- OVERTEMP_HALT (16 R604): the sensors as they read, in 0.1 °C. -/
def execOvertempHalt (temps : List Int) (s : State) : Host.Outcome State Fault Refusal :=
  let s1 := s.sensed temps
  .next (if 1150 ≤ s1.power.junction ∧ s1.op.state ≠ .off then s1.fatal 4 niGaffer 0 else s1)

/-- GAFFER_CODE_UE (17 R623): the address of the uncorrectable error in Gaffer code memory. -/
def execGafferCodeUe (addr : Nat) (s : State) : Host.Outcome State Fault Refusal :=
  .next (if s.gafferRuns then s.fatal 1 niGaffer addr else s)

/-! ### *OpCommand* (01 R36, R45, 11 R451) -/

/-- *OpCommand* 1: SERVICE to RUN. -/
def execOpcommandRun (q : Req) (s : State) : Host.Outcome State Fault Refusal :=
  .next (s.opRequest q 1 (fun t => t.toRun q.session))

/-- *OpCommand* 2: RUN to SERVICE, or SLEEP to SERVICE. -/
def execOpcommandService (q : Req) (s : State) : Host.Outcome State Fault Refusal :=
  .next (s.opRequest q 2 (fun t =>
    if t.op.state = .run then
      (let u := t.leaveRun true
       { state := State.judgeHold { u with op := { u.op with state := .service } } })
    else if t.op.state = .sleep then { state := t.wake 2 }
    else refuse t .wrongState))

/-- *OpCommand* 3: SERVICE to SLEEP. -/
def execOpcommandSleep (q : Req) (s : State) : Host.Outcome State Fault Refusal :=
  .next (s.opRequest q 3 (fun t => if t.op.state = .service then { state := t.enterSleep } else refuse t .wrongState))

/-- *OpCommand* 4: RESET by COMMAND, after the journal's flush (14 R528, R529). -/
def execOpcommandReset (q : Req) (s : State) : Host.Outcome State Fault Refusal :=
  .next (s.opRequest q 4 (fun t =>
    let u := if t.gafferRuns then (t.energyFlush.energyCommit (t.countersRec t.time.t64 0)) else t
    { state := (u.leaving false).assertReset .command }))

/-- *OpCommand* 5: the Gaffer restarts (01 R30). -/
def execOpcommandGafferRestart (q : Req) (s : State) : Host.Outcome State Fault Refusal :=
  .next (s.opRequest q 5 (fun t => { state := t.gafferRestart .command }))

/-! ### Waking (14 R536) -/

/-- Bytes hold a magic packet of an address: six 0xFF and sixteen copies. -/
def holdsMagic (mac : List Nat) : List Nat → Bool
  | [] => false
  | b :: t => (List.replicate 6 0xFF ++ (List.replicate 16 mac).flatten).isPrefixOf (b :: t) || holdsMagic mac t

/-- WAKE_FRAME: the bytes of a frame or datagram received on FA or FB. -/
def execWakeFrame (_p : Port) (b : List Nat) (s : State) : Host.Outcome State Fault Refusal :=
  .next (if s.op.state = .sleep ∧ holdsMagic (bytesBE 6 (Config.identity (okey 0x1100 1))) b then s.wake 1 else s)

/-- WAKE_PIN: WAKE is low and has been since a falling edge in SLEEP, for 10 ms. -/
def execWakePin (s : State) : Host.Outcome State Fault Refusal :=
  let held : Bool := match s.op.wakeFellAt, s.op.sleepAt with
    | some f, some z => decide (z ≤ f ∧ f + 10000000 ≤ s.now)
    | _, _ => false
  .next (if s.op.state = .sleep ∧ s.op.wakeLow ∧ held then s.wake 3 else s)

/-! ### Ethernet (14 R531, R533, 11 R451) -/

/-- A port's place in *LinkFA* and *LinkFB*. -/
def Port.place : Port → Nat
  | .fa => 0
  | .fb => 1

/-- The port that carries PTP once a port's link has changed: the one that does, while its link is up, otherwise the
other while that is up. -/
def State.ptpPortNow (s : State) : Option Port :=
  let up := fun (p : Port) => tget 0 s.op.link (Port.place p) != 0
  match s.op.ptpPort with
  | some p => if up p then some p else [Port.fa, .fb].find? up
  | none => [Port.fa, .fb].find? up

/-- ETHERNET_LINK: a PHY gains its link, at 100 or 1000 Mb/s, or loses it; the PHYs run from BOOT on. -/
def execEthernetLink (p : Port) (mode : Fin 3) (s : State) : Host.Outcome State Fault Refusal :=
  if s.op.state = .off ∨ s.op.state = .reset then .next s
  else
    let was := tget 0 s.op.link (Port.place p)
    let s1 : State := { s with op := { s.op with link := tset 0 s.op.link (Port.place p) mode.val } }
    let port := s1.ptpPortNow
    let s2 : State := { s1 with op := { s1.op with
      ptpPort := port, lockRef := if port ≠ s1.op.ptpPort ∧ port.isSome then some s.now else s1.op.lockRef } }
    .next (if was = 0 ∧ mode.val ≠ 0 then s2.emit (.linkUp p) else s2)

end Sys2Proof.Machine
end

