-- ==== Sys2Proof/Machine/TwoWire.lean ====
section
/-!
DEFINITION. The meanings of the two-wire and TWT commands and of the S0 loop (15 R546 to R566, R579).
-/

namespace Sys2Proof.Machine

/-! ### Commands (15 R551 to R553) -/

/-- The words of *HostTransfer*: as many of the five as its record has, most significant byte first (00 R12,
15 R580). -/
def hostTransferWords (b : List Nat) : List Nat :=
  let l := (List.range 5).map (fun i => ofBytesBE ((b.drop (8 * i)).take 8))
  l.take (twWords (l.headD 0))

/-- HOST_TRANSFER (15 R551). -/
def execHostTransfer (q : Req) (bus : Fin 2) (b : List Nat) (s : State) : Host.Outcome State Fault Refusal :=
  .next (s.serveBytes q (okey (0x9000 + bus) 6) b
    (fun t _ _ => firstFail [(decide (16 ≤ (t.bus bus).queue.length), .busyRetry, 0)])
    (fun t _ v => { state := t.twArrive bus { issuer := .host, words := hostTransferWords (valBytes v) } }))

/-- The command that a bus carries out now: the oldest, unless a poll round or a recovery goes before it
(15 R552, R557, R561). -/
def State.twNext (s : State) (b op : Nat) : Option TwCommand :=
  let x := s.bus b
  if s.ioRuns ∧ x.state ≠ .fault ∧ !x.roundDue ∧ !x.recoverDue then
    match x.queue with
    | c :: _ => if twField c.head 0 2 = op then some c else none
    | [] => none
  else none

/-- SCL has risen within 1 ms of a stretch timeout: the controller sends a STOP and goes on (15 R559). -/
def State.twResume (s : State) (b : Nat) : State :=
  if (s.bus b).stretchAt.isSome then (s.modBus b (fun x => { x with stretchAt := none })).emit (.twStop b) else s

/-- A transfer of the oldest command from START to STOP with its outcome (15 R552). -/
def State.twTransfer (s : State) (b : Nat) (c : TwCommand) (st : TwStatus) (n : Nat) (data : List Nat) : State :=
  let w := c.head
  let s1 := ((s.twResume b).emit (.twStart b (twField w 0 2) (twField w 3 7) (twField w 10 8) c.data)).emit (.twStop b)
  let s2 := s1.twComplete b st n data
  if st = .busFault then s2.modBus b (fun x => { x with recoverDue := true }) else s2

/-- TW_WRITE: whether the address was acknowledged, how many of the bytes after it were, the pointer byte among
them, and whether the controller read back what it did not send (15 R552). -/
def execTwWrite (bus : Fin 2) (addrAck : Bool) (acked : Fin 34) (corrupt : Bool) (s : State) :
    Host.Outcome State Fault Refusal :=
  .next (match s.twNext bus 1 with
    | none => s
    | some c =>
      let pointer : Nat := if c.head.testBit 2 then 0 else 1
      let len := twField c.head 18 6
      if corrupt then s.twTransfer bus c .busFault 0 []
      else if !addrAck then s.twTransfer bus c .nackAddr 0 []
      else if acked.val < pointer + len then s.twTransfer bus c .nackData (acked.val - pointer) []
      else s.twTransfer bus c .ok len [])

/-- The bytes a read takes: as many as LEN, 0xFF where the target sends none. -/
def readData (len : Nat) (data : List (Fin 256)) : List Nat :=
  (List.range len).map (fun i => ((data[i]?).map Fin.val).getD 0xFF)

/-- TW_READ (15 R552). -/
def execTwRead (bus : Fin 2) (addrAck : Bool) (data : List (Fin 256)) (corrupt : Bool) (s : State) :
    Host.Outcome State Fault Refusal :=
  .next (match s.twNext bus 2 with
    | none => s
    | some c =>
      let len := twField c.head 18 6
      if corrupt then s.twTransfer bus c .busFault 0 []
      else if !addrAck then s.twTransfer bus c .nackAddr 0 []
      else s.twTransfer bus c .ok len (readData len data))

/-- What a WRITE_READ meets: no NACK, or one of the address, of the pointer, or of the address after the repeated
START. -/
def execTwWriteRead (bus : Fin 2) (nack : Fin 4) (data : List (Fin 256)) (corrupt : Bool) (s : State) :
    Host.Outcome State Fault Refusal :=
  .next (match s.twNext bus 3 with
    | none => s
    | some c =>
      let len := twField c.head 18 6
      if corrupt then s.twTransfer bus c .busFault 0 []
      else if nack.val = 0 then s.twTransfer bus c .ok len (readData len data)
      else s.twTransfer bus c (if nack.val = 2 then .nackData else .nackAddr) 0 [])

/-! ### Requests and polling (15 R554 to R558) -/

/-- A poll round is due, with the time its request was recognised. -/
def TwBus.callRound (x : TwBus) (t : T64) : TwBus := { x with roundDue := true, request := some (x.request.getD t) }

/-- TW_REQUEST: SDA has risen again after `low` ns on an idle bus (15 R556). -/
def execTwRequest (bus : Fin 2) (low : Nat) (s : State) : Host.Outcome State Fault Refusal :=
  .next (if s.ioRuns ∧ (s.bus bus).state ≠ .fault ∧ 1000 ≤ low ∧ low ≤ 50000 then
      s.modBus bus (fun x => { x.callRound s.time.t64 with requests := inc32 x.requests })
    else s)

/-- POLL_PERIOD (15 R557). -/
def execPollPeriod (bus : Fin 2) (s : State) : Host.Outcome State Fault Refusal :=
  .next (let p := s.num (0x9000 + bus) 4 0
    let x := s.bus bus
    if s.ioRuns ∧ x.state ≠ .fault ∧ p ≠ 0 ∧ x.pollAt + p * 1000000 ≤ s.now then
      s.modBus bus (fun y => { y.callRound s.time.t64 with pollAt := s.now })
    else s)

/-- The request-capable entries of a bus, ascending (15 R554). -/
def State.reqEntries (s : State) (b : Nat) : List Nat :=
  (List.range 8).filter (fun e => s.num (0x9010 + 8 * b + e) 1 0xFF ≠ 0xFF && s.flagOn (0x9010 + 8 * b + e) 2 false)

/-- The request token of an entry (15 R557). -/
def requestToken (b e addr bytes : Nat) (t : T64) : List Nat :=
  [0x51 + b * 2 ^ 8 + e * 2 ^ 9 + addr * 2 ^ 16 + bytes * 2 ^ 32, t]

/-- One entry of a round: the bytes read, first in [7:0], or none for NACK_ADDR (15 R557). -/
def State.pollEntry (s : State) (b e : Nat) (t : T64) (read : Option (Fin 4294967296)) : State :=
  let i := 0x9010 + 8 * b + e
  let s1 := (s.emit (.twStart b 3 (s.num i 1 0xFF) (s.num i 3 0) [])).emit (.twStop b)
  match read with
  | none => s1.modBus b (fun x => { x with pollNacks := inc32 x.pollNacks })
  | some v =>
    let bytes := v.val % 2 ^ (8 * s.num i 4 1)
    if bytes &&& s.num i 5 0xFFFFFFFF = 0 then s1
    else
      let s2 := s1.modBus b (fun x => { x with entries := tmod {} x.entries e (fun y =>
        { y with lastPoll := bytes, requests := inc32 y.requests }) })
      if s.num i 6 0xFF = 0xFF then s2
      else s2.twPush b (s.num i 6 0xFF) (requestToken b e (s.num i 1 0xFF % 128) bytes t)

/-- POLL_ROUND: what each request-capable entry answered, in ascending entry number, and whether a request was
recognised during the round (15 R557). -/
def execPollRound (bus : Fin 2) (reads : List (Option (Fin 4294967296))) (again : Bool) (s : State) :
    Host.Outcome State Fault Refusal :=
  .next (let x := s.bus bus
    if s.ioRuns ∧ x.state ≠ .fault ∧ x.roundDue ∧ !x.recoverDue then
      let t := x.request.getD s.time.t64
      let s1 := (s.reqEntries bus).zipIdx.foldl (fun (u : State) p =>
        u.pollEntry bus p.1 t ((reads[p.2]?).getD none)) (s.twResume bus)
      s1.modBus bus (fun y =>
        if again then { y with roundDue := true, request := some s.time.t64, requests := inc32 y.requests }
        else { y with roundDue := false, request := none })
    else s)

/-! ### Stretching and recovery (15 R559 to R561) -/

/-- STRETCH_TIMEOUT: a target has held SCL low for longer than *StretchMax* (15 R559). -/
def execStretchTimeout (bus : Fin 2) (s : State) : Host.Outcome State Fault Refusal :=
  .next (if s.ioRuns ∧ (s.bus bus).state ≠ .fault then
      (s.twComplete bus .stretchTimeout 0 []).modBus bus (fun x => { x with stretchAt := some s.now })
    else s)

/-- TW_BUS_FAULT: SCL is still low 1 ms after a stretch timeout (15 R560). -/
def execTwBusFault (bus : Fin 2) (s : State) : Host.Outcome State Fault Refusal :=
  .next (match (s.bus bus).stretchAt with
    | some t => if t + 1000000 ≤ s.now ∧ (s.bus bus).state ≠ .fault then s.twFault bus else s
    | none => s)

/-- TW_FAULT_EXIT: SCL has stood high for 1 ms after recovery (15 R560). -/
def execTwFaultExit (bus : Fin 2) (s : State) : Host.Outcome State Fault Refusal :=
  .next (if (s.bus bus).state = .fault ∧ !(s.bus bus).recoverDue then
      (s.modBus bus (fun x => { x with state := .idle })).clearAlarm 0x0907 bus
    else s)

/-- STUCK_SDA: SDA has been low for more than 50 µs, with a command in progress or none (15 R556, R561). -/
def execStuckSda (bus : Fin 2) (inProgress : Bool) (s : State) : Host.Outcome State Fault Refusal :=
  .next (if s.ioRuns ∧ (s.bus bus).state ≠ .fault then
      (if inProgress then s.twComplete bus .stuckSda 0 [] else s).modBus bus (fun x => { x with recoverDue := true })
    else s)

/-- BUS_RECOVERY: up to 9 clocks of SCL, after which SDA reads high or not (15 R561). -/
def execBusRecovery (bus : Fin 2) (sdaHigh : Bool) (s : State) : Host.Outcome State Fault Refusal :=
  .next (let x := s.bus bus
    if !x.recoverDue ∨ (x.state = .fault ∧ s.now < x.recoverAt + 100000000) then s
    else
      let s1 := s.modBus bus (fun y => { y with recoveries := inc32 y.recoveries, recoverAt := s.now })
      if sdaHigh then (s1.modBus bus (fun y => { y with recoverDue := false })).emit (.twStop bus)
      else if x.state = .fault then s1
      else s1.twFault bus)

/-! ### TWT (15 R562 to R566) -/

/-- Changes the target port. -/
def State.modTwt (s : State) (f : Twt → Twt) : State := { s with io := { s.io with twt := f s.io.twt } }

/-- One byte written from the bus at the pointer (15 R563). -/
def Twt.writeByte (w : Twt) (v : Nat) : Twt :=
  { (if w.pointer < 128 then { w with roWrites := inc32 w.roWrites }
     else { w with inArea := tset 0 w.inArea (w.pointer - 128) v }) with pointer := (w.pointer + 1) % 256 }

/-- The addresses of the IN area that a write of `n` bytes from an address reaches, in order. -/
def inWritten (a n : Nat) : List Nat := ((List.range n).map (fun i => (a + i) % 256)).filter (128 ≤ ·)

/-- The notify token at a STOP after a write into the IN area (15 R565). -/
def State.twtNotify (s : State) (l : List Nat) : State :=
  let task := s.num 0x9040 5 0xFF
  if l = [] ∨ task = 0xFF then s
  else match s.pushQueue task [0x52 + l.headD 0 * 2 ^ 8 + l.getLastD 0 * 2 ^ 16, s.time.t64] with
    | some u => u
    | none => s.modTwt (fun w => { w with lost := inc32 w.lost })

/-- TWT_WRITE: a write transfer from START to STOP; its first byte is the pointer (15 R549, R563 to R565). -/
def execTwtWrite (data : List (Fin 256)) (s : State) : Host.Outcome State Fault Refusal :=
  .next (if s.twtOn then
      match data with
      | [] => s.modTwt (fun w => { w with writes := inc32 w.writes })
      | p :: rest =>
        (s.modTwt (fun w => rest.foldl (fun x v => x.writeByte v.val) { w with writes := inc32 w.writes, pointer := p })).twtNotify
          (inWritten p rest.length)
    else s)

/-- TWT_READ: a read transfer of `n` bytes from the pointer, which releases a request (15 R549, R564, R566). -/
def execTwtRead (n : Fin 4096) (s : State) : Host.Outcome State Fault Refusal :=
  .next (if s.twtOn then
      let w := s.io.twt
      (s.modTwt (fun x => { x with reads := inc32 x.reads, pointer := (x.pointer + n.val) % 256
                                   request := x.request && n.val == 0 })).emit
        (.twtBytes ((List.range n).map (fun i => w.byte ((w.pointer + i) % 256))))
    else s)

/-- A request pulse of 10 µs (15 R566). -/
def State.twtPulse (s : State) : State :=
  if s.twtOn then (s.modTwt (fun w => { w with pulseAt := some s.now })).emit .twPulse else s

/-- TWT_REQUEST (15 R566). -/
def execTwtRequest (q : Req) (b : List Nat) (s : State) : Host.Outcome State Fault Refusal :=
  .next (s.serveBytes q (okey 0x9040 6) b noCheck (fun t _ v =>
    { state := if valNat v = 0 then t else (t.modTwt (fun w => { w with request := true })).twtPulse }))

/-- TWT_REQUEST_REPEAT: an unreleased request pulses again every 10 ms (15 R566). -/
def execTwtRequestRepeat (s : State) : Host.Outcome State Fault Refusal :=
  .next (if s.io.twt.request ∧ s.io.twt.pulseAt.all (fun t => decide (t + 10000000 ≤ s.now)) then s.twtPulse else s)

/-! ### S0 loops (15 R579) -/

/-- S0_LOOP_SHORT: a loop's current in 0.1 mA, as it has been held for 1 s where it is 27 mA or more (15 R579). -/
def execS0LoopShort (m : Fin 2) (current : Fin 65536) (s : State) : Host.Outcome State Fault Refusal :=
  .next (
    let x := tget {} s.io.loops m
    let put := fun (u : State) (y : S0Loop) => { u with io := { u.io with loops := tset {} u.io.loops m y } }
    if x.state = .unsupplied then s
    else if 270 ≤ current.val then
      if x.state = .short then put s { x with current := current }
      else (put s { x with state := .short, current := current, faults := inc32 x.faults }).alarm .alarm 0x0902 m
        (m.val :: bytesLE 4 current)
    else (put s { x with current := current
                         state := if 100 ≤ current.val ∨ (x.state = .short ∧ 20 < current.val) then .on
                                  else if current.val ≤ 20 then .off else x.state }).clearAlarm 0x0902 m)

end Sys2Proof.Machine
end

