-- ==== Sys2Proof/Machine/HostOps.lean ====
section
/-!
DEFINITION. WRITE and SEG_WRITE of any object: an object with a command of its own is that command, and any other
enters the pending set or takes effect at once by its commit class (11 R406, R420, R421, R424).
-/

namespace Sys2Proof.Machine

/-- A write that its object's check refuses whatever the state. -/
def State.refuseWrite (s : State) (q : Req) (key : Nat) (b : List Nat) (c : Abort) : State :=
  s.serveBytes q key b (fun _ _ _ => (c, 0)) (fun t _ _ => refuse t c)

/-- What the fuse controller senses as it stands. -/
def State.fuseEnv (s : State) : FuseEnv :=
  { en := s.op.fuseEn, rail := Fin.ofNat 65536 s.fuse.rail, temp := s.fuse.temp }

/-- A write of *OpCommand* (11 R451). -/
def State.writeOp (s : State) (q : Req) (b : List Nat) : Host.Outcome State Fault Refusal :=
  match b with
  | [1] => execOpcommandRun q s
  | [2] => execOpcommandService q s
  | [3] => execOpcommandSleep q s
  | [4] => execOpcommandReset q s
  | [5] => execOpcommandGafferRestart q s
  | _ => .next (s.refuseWrite q (okey 0x1010 2) b .range)

/-- A write of a task's *Command* (05 R196). -/
def State.writeTask (s : State) (q : Req) (n : Fin 256) (b : List Nat) : Host.Outcome State Fault Refusal :=
  match b with
  | [1] => execTaskArm q n s
  | [2] => execTaskCancel q n s
  | [3] => execTaskDrain q n s
  | [4] => execTaskAckFault q n s
  | [5] => execTaskUnload q n s
  | [6] => execTaskFire q n s
  | _ => .next (s.refuseWrite q (okey (0x3100 + n) 8) b .range)

/-- A write of a bridge's *Open* (05 R196). -/
def State.writeBridge (s : State) (q : Req) (k : Fin 32) (b : List Nat) : Host.Outcome State Fault Refusal :=
  match b with
  | [0] => execBridgeClose q k s
  | [1] => execBridgeOpen q k s
  | _ => .next (s.refuseWrite q (okey (0x3010 + k) 4) b .range)

/-- A write of a lease's *LeaseCommand* (11 R451). -/
def State.writeLease (s : State) (q : Req) (l : Fin 256) (b : List Nat) : Host.Outcome State Fault Refusal :=
  match b with
  | [1] => execLeaseTake q l s
  | [2] => execLeaseRelease q l s
  | [3] => execLeaseFence q l s
  | _ => .next (s.refuseWrite q (okey (0x1400 + l) 5) b .range)

/-- A write of one of a staging slot's commands (07 R276). -/
def State.writeSlot (s : State) (q : Req) (k : Fin 2) (sub : Nat) (b : List Nat) : Host.Outcome State Fault Refusal :=
  match sub with
  | 4 => execStagingHeader q k b s
  | 6 => execFromLibrary q k b s
  | 7 => execPrime q k b s
  | 12 => execGo q k b s
  | 13 => execWithdraw q k b s
  | _ => .next (s.serveNow q (slotKey k sub) b)

/-- A write of one of the session's own objects or of the system's commands of class NOW. -/
def State.writeOwn (s : State) (q : Req) (key : Nat) (b : List Nat) : Host.Outcome State Fault Refusal :=
  if key = okey 0x1210 5 then execApplyCommand q b s
  else if key = okey 0x1210 3 then execPendingDiscard q b s
  else if key = okey 0x2000 5 then execQuenchRequest q b s
  else if key = okey 0x2100 1 then execSafetyPduIn q b s
  else if key = okey 0x5020 1 then execAngleFaultAck q b s
  else if key = okey 0x6031 1 then execTariffPush q b s
  else if key = okey 0x6031 3 then execBillingClose q b s
  else if key = okey 0x8001 1 then execFuseProgram q b s.fuseEnv s
  else if key = okey 0x8020 1 then execFwSvnFloor q b s.fuseEnv s
  else if key = okey 0x8021 1 then execMachineIdent q b s.fuseEnv s
  else if key = okey 0x9040 6 then execTwtRequest q b s
  else .next (s.serveNow q key b)

/-- A write of an object of class NOW. -/
def State.writeNow (s : State) (q : Req) (key : Nat) (b : List Nat) : Host.Outcome State Fault Refusal :=
  let i := key / 256
  let sub := key % 256
  if key = okey 0x1010 2 then s.writeOp q b
  else if 0x1400 ≤ i ∧ i ≤ 0x1441 ∧ sub = 5 then s.writeLease q (Fin.ofNat 256 (i - 0x1400)) b
  else if 0x3010 ≤ i ∧ i ≤ 0x302F ∧ sub = 4 then s.writeBridge q (Fin.ofNat 32 (i - 0x3010)) b
  else if 0x3100 ≤ i ∧ i ≤ 0x31FF ∧ sub = 8 then s.writeTask q (Fin.ofNat 256 (i - 0x3100)) b
  else if 0x7100 ≤ i ∧ i ≤ 0x710F ∧ sub = 1 then execProbeClear q (Fin.ofNat 16 (i - 0x7100)) b s
  else if i = 0x8410 ∨ i = 0x8411 then s.writeSlot q (Fin.ofNat 2 (i - 0x8410)) sub b
  else if 0x8420 ≤ i ∧ i ≤ 0x843F ∧ sub = 9 then execLibraryDelete q (Fin.ofNat 32 (i - 0x8420)) b s
  else if (i = 0x9000 ∨ i = 0x9001) ∧ sub = 6 then execHostTransfer q (Fin.ofNat 2 (i - 0x9000)) b s
  else if 0x9100 ≤ i ∧ i ≤ 0x9117 ∧ sub = 7 then execOutLevel q (Fin.ofNat 24 (i - 0x9100)) b s
  else if 0x9100 ≤ i ∧ i ≤ 0x9117 ∧ sub = 8 then execScheduleEdge q (Fin.ofNat 24 (i - 0x9100)) b s
  else if 0xA000 ≤ i ∧ i ≤ 0xA00F ∧ sub = 2 then execImageClaim q (Fin.ofNat 16 (i - 0xA000)) b s
  else if 0xA000 ≤ i ∧ i ≤ 0xA00F ∧ sub = 7 then execImageEnable q (Fin.ofNat 16 (i - 0xA000)) b s
  else s.writeOwn q key b

/-- A write of any object, as the command that the object has (11 R406, R421). -/
def State.writeAny (s : State) (q : Req) (key : Nat) (b : List Nat) : Host.Outcome State Fault Refusal :=
  match objRow key with
  | none => .next (s.serve q (fun t ss =>
      let g := t.gate q.session ss.role key q.epoch
      refuse t g.1 g.2))
  | some r =>
    if r.acc = .ro ∨ r.commit = .now then s.writeNow q key b
    else if key = okey 0x1010 3 then execRestoreDefaults q b s
    else if key = okey 0x8600 8 then execFwTrial q b s
    else if 0x3001 ≤ key / 256 ∧ key / 256 ≤ 0x3007 ∧ key % 256 = 1 then
      execClusterMapWrite q (Fin.ofNat 7 (key / 256 - 0x3001)) b s
    else .next (s.servePending q key b noCheck)

/-- The state after a write of any object. -/
def State.hostWrite (s : State) (q : Req) (key : Nat) (b : List Nat) : State :=
  match s.writeAny q key b with
  | .next t => t
  | _ => s

/-! ### A write inside another request -/

/-- The answer to a request among what has left the block. -/
def answerTo (q : Req) : Output → Option Answer
  | .answer n a => if n = q.session ∧ a.rid = q.rid then some a else none
  | _ => none

/-- Carries out a write as part of something else: what it answers is taken back, and the session's counts and kept
answers stay as they were (11 R424, R447). -/
def State.innerWrite (s : State) (q : Req) (key : Nat) (b : List Nat) : Served :=
  let t := s.hostWrite q key b
  match s.session? q.session, t.session? q.session with
  | some x, some y =>
    let new := t.out.take (t.out.length - s.out.length)
    let a := (new.findSome? (answerTo q)).getD { rid := q.rid, code := .ok }
    let u : State := { t with out := (new.eraseP (fun o => (answerTo q o).isSome)) ++ s.out }
    { code := a.code, detail := a.detail, value := a.value, later := y.inFlight.contains q.rid && !x.inFlight.contains q.rid
      state := u.modSession q.session (fun z =>
        { z with inFlight := x.inFlight, kept := x.kept, requests := x.requests, aborts := x.aborts
                 busyRetries := x.busyRetries, lastHeard := x.lastHeard }) }
  | _, _ => { state := t }

/-- The segment with LAST takes effect as one write of the whole data; the header of a firmware image begins an upload
(07 R269, 11 R424). -/
def State.lastSegment (s : State) (q : Req) (key : Nat) (whole : List Nat) : Served :=
  if key = okey 0x8600 6 then
    (match fwHeaderCheck (octets whole) with
     | (.ok, _) => { state := s.startUpload (octets whole) }
     | (c, d) => refuse s c d)
  else s.innerWrite q key whole

/-- One segment of a segmented write of any object (11 R424). -/
def State.segWriteAny (s : State) (q : Req) (key : Nat) (off : Fin 4294967296) (last : Bool) (data : List Nat) :
    Host.Outcome State Fault Refusal :=
  if key = slotKey 0 5 then execStagingBody q 0 off last data s
  else if key = slotKey 1 5 then execStagingBody q 1 off last data s
  else if key = okey 0x8600 7 then execFwBody q off last data s
  else
    let whole := (((s.session? q.session).map (fun x => x.soFar off)).getD []) ++ data
    .next (s.serveSegment q key off last data whole (fun t _ =>
      if 65536 < whole.length then refuse t .tooLarge
      else if last then t.lastSegment q key whole
      else { state := t }))

end Sys2Proof.Machine
end

