-- ==== Sys2Proof/Machine/Images.lean ====
section
/-!
DEFINITION. The meanings of the process-image commands: images that arrive, boundaries, images sent, and the watchdog
(11 R440 to R449).
-/

namespace Sys2Proof.Machine

/-! ### An image arrives (11 R445, R447) -/

/-- A sequence number may still be accepted: it is not more than 64 below the highest, and new (11 R445). -/
def ImageRec.fresh (x : ImageRec) (seq : Nat) : Bool :=
  !x.window.contains seq && decide (x.window.headD 0 ≤ seq + 64)

/-- Insertion of a sequence number, highest first, into the 65 that can still matter. -/
def insertSeq (n : Nat) : List Nat → List Nat
  | [] => [n]
  | a :: t => if a ≤ n then n :: a :: t else a :: insertSeq n t

/-- A sequence number is accepted; an image of the higher generation discards the lower one's key (11 R445). -/
def ImageRec.acceptSeq (x : ImageRec) (gen seq : Nat) : ImageRec :=
  let w := insertSeq seq x.window
  { x with gen, window := (w.filter (fun a => decide (w.headD 0 ≤ a + 64))).take 65 }

/-- Where an accepted image takes effect: at its own boundary when it is there 10 µs before it, otherwise at the next,
counted in *Late*; one for a boundary that has passed is dropped (11 R447). -/
def ImageRec.queue (x : ImageRec) (t cycle : Nat) (payload : List Nat) : ImageRec :=
  if x.lastCycle.any (fun c => decide (cycle ≤ c)) then { x with stale := inc32 x.stale }
  else if t + 10000 ≤ cycle then
    { x with waiting := x.waiting ++ [(if x.boundaryAt cycle = cycle then cycle else x.boundaryAfter cycle, cycle, payload)] }
  else { x with late := inc32 x.late, waiting := x.waiting ++ [(x.boundaryAfter t, cycle, payload)] }

/-- DEVICE_BOUND_IMAGE: an image datagram for a record, with what its header names and whether its tag verifies
(11 R444, R445, R447). -/
def execDeviceBoundImage (i : Fin 16) (n gen seq cycle : Nat) (payload : List Nat) (tagOk : Bool) (s : State) :
    Host.Outcome State Fault Refusal :=
  let x := s.imageRec i
  if !x.enable ∨ x.toHost then .next s
  else if !tagOk ∨ n ≠ x.owner ∨ (gen ≠ x.gen ∧ gen ≠ x.gen + 1) ∨ payload.length ≠ x.payloadLen then
    .next (s.modImage i (fun y => { y with authFail := inc32 y.authFail }))
  else if !x.fresh seq then .next (s.modImage i (fun y => { y with replays := inc32 y.replays }))
  else .next (s.modImage i (fun y => (y.acceptSeq gen seq).queue s.time.t64 cycle (octets payload)))

/-! ### A boundary (11 R440, R446 to R448) -/

/-- The request as which a mapped object write is carried out: with the current epoch of the governing lease that the
session holds (11 R447). -/
def State.mappedReq (s : State) (n : SessionNo) (key : Nat) : Req :=
  let lease : Option Nat := match s.session? n, objRow key with
    | some x, some r => s.governing n x.role key r
    | _, _ => none
  { session := n, rid := 65536
    epoch := match lease with
      | some l => if (s.lease l).holder = n then (s.lease l).epoch else 0
      | none => 0 }

/-- Carries out a mapped object write: the session has no request outstanding of its own in it, and a programming that
it begins answers no request. -/
def State.mappedWrite (s : State) (n : SessionNo) (key : Nat) (b : List Nat) : Abort × State :=
  let keep := fun (f : Session → Session) (t : State) => t.modSession n f
  let kept := ((s.session? n).map (·.kept)).getD []
  let flight := ((s.session? n).map (·.inFlight)).getD []
  let r := (keep (fun x => { x with kept := [], inFlight := [] }) s).innerWrite (s.mappedReq n key) key b
  let t := keep (fun x => { x with kept := kept, inFlight := flight }) r.state
  (r.code, { t with fuse := { t.fuse with prog := t.fuse.prog.map (fun p =>
    if p.session = n ∧ p.rid = 65536 then { p with session := 0 } else p) } })

/-- A failed mapped write is counted, and recorded once per second at most (11 R447). -/
def State.mapFailed (s : State) (i key : Nat) : State :=
  let due : Bool := match (s.imageRec i).mapLoggedAt with
    | some t => decide (t + 1000000000 ≤ s.now)
    | none => true
  let s1 := s.modImage i (fun y => { y with mapErrors := inc32 y.mapErrors, mapLoggedAt := if due then some s.now else y.mapLoggedAt })
  if due then s1.record .general .alarm niGaffer 0x090A (i :: bytesLE 4 key) (s.imageRec i).owner else s1

/-- One entry of an image that takes effect. -/
def State.applyEntry (i : Nat) (p : List Nat) (s : State) (e : MapEntry) : State :=
  let v := e.ofPayload p
  let x := s.imageRec i
  if e.idx = pdaIndex then s.putPdaBits e.src e.n v
  else
    let r := s.mappedWrite x.owner e.key (e.give (s.wireBytes x.owner e.key) v)
    if r.1 = .ok then r.2 else r.2.mapFailed i e.key

/-- An image takes effect: the entries whose bits differ from those of the last one, and at first every entry
(11 R447, R448). -/
def State.imageTakesEffect (s : State) (i cycle : Nat) (p : List Nat) : State :=
  let x := s.imageRec i
  let l := x.entries.filter (fun e => x.lastCycle.isNone || e.ofPayload p != e.ofPayload x.last)
  let s1 := s.modImage i (fun y =>
    { y with lastCycle := some cycle, last := p, missed := 0, tripped := false, images := inc32 y.images })
  l.foldl (State.applyEntry i p) (s1.clearAlarm 0x0906 i)

/-- The images that wait for a boundary, in the order of their cycles; an image whose cycle is not later than the last
one's is dropped (11 R447). -/
def State.serveWaiting (i : Nat) (s : State) (w : Nat × Nat × List Nat) : State :=
  if (s.imageRec i).lastCycle.any (fun c => decide (w.2.1 ≤ c)) then s.modImage i (fun y => { y with stale := inc32 y.stale })
  else s.imageTakesEffect i w.2.1 w.2.2

/-- Insertion by CYCLE. -/
def insertCycle (w : Nat × Nat × List Nat) : List (Nat × Nat × List Nat) → List (Nat × Nat × List Nat)
  | [] => [w]
  | a :: t => if w.2.1 < a.2.1 then w :: a :: t else a :: insertCycle w t

/-- IMAGE_BOUNDARY: a cycle boundary of a device-bound image; one at which none takes effect is counted (11 R440,
R447, R448). -/
def execImageBoundary (i : Fin 16) (s : State) : Host.Outcome State Fault Refusal :=
  let x := s.imageRec i
  let b := x.boundaryAt s.time.t64
  if !x.enable ∨ x.toHost ∨ x.boundary = some b then .next s
  else
    let due := (x.waiting.filter (fun w => decide (w.1 ≤ b))).foldl (fun l w => insertCycle w l) []
    let s1 := s.modImage i (fun y =>
      { y with boundary := some b, waiting := y.waiting.filter (fun w => decide (b < w.1)) })
    let s2 := due.foldl (State.serveWaiting i) s1
    .next (if (s2.imageRec i).images = x.images then s2.modImage i (fun y => { y with missed := y.missed + 1 }) else s2)

/-- HOST_BOUND_SEND: within 20 µs after a boundary, once for it; GEN advances after 2^24 images (11 R445, R446). -/
def execHostBoundSend (i : Fin 16) (s : State) : Host.Outcome State Fault Refusal :=
  let x := s.imageRec i
  let b := x.boundaryAt s.time.t64
  if !x.enable ∨ !x.toHost ∨ x.boundary = some b ∨ b + 20000 < s.time.t64 then .next s
  else
    let gen := x.seq / 2 ^ 24 % 65536
    let seq := x.seq + 1
    .next ((s.emit (.image i gen seq b (s.imagePayload x))).modImage i (fun y =>
      { y with boundary := some b, gen, seq, images := inc32 y.images }))

/-- PI_WATCHDOG: *Watchdog* boundaries in a row have brought no image (11 R448). -/
def execPiWatchdog (i : Fin 16) (s : State) : Host.Outcome State Fault Refusal :=
  let x := s.imageRec i
  .next (if x.enable ∧ !x.toHost ∧ !x.tripped ∧ x.watchdog ≤ x.missed then s.failImage i else s)

end Sys2Proof.Machine
end

