-- ==== Sys2Proof/Machine/Sessions.lean ====
section
/-!
DEFINITION. The meanings of the commands of connections, sessions, reads and writes (11 R413 to R426).
-/

namespace Sys2Proof.Machine

/-! ### Handshakes (11 R413 to R415) -/

/-- CLIENT_HELLO: a ClientHello of a connection, with or without a valid cookie, from a peer's address and port, with
FUSE_EN's level as it arrives (11 R413, R415). -/
def execClientHello (conn : Nat) (cookie : Bool) (peer : List Nat) (en : Bool) (s : State) : Host.Outcome State Fault Refusal :=
  let s1 := s.senseEn en
  if !s1.servesHosts ∨ (s1.shake? conn).isSome ∨ (s1.sessionOn conn).isSome then .next s1
  else if 4 ≤ (s1.sess.handshakes.filter (fun h => h.credential.isNone)).length then
    .next { s1 with sess := { s1.sess with handshakesDropped := inc32 s1.sess.handshakesDropped } }
  else if !cookie then .next (s1.emit (.cookieRetry conn))
  else .next { s1 with sess := { s1.sess with handshakes := s1.sess.handshakes ++
    [{ conn, since := s1.now, fuseEn := en, peer := padTo 18 peer, credential := none }] } }

/-- HANDSHAKE_COMPLETE: the client has proved that it holds a key; an enabled entry with that key, or commissioning,
lets the handshake succeed (11 R414, R415). -/
def execHandshakeComplete (conn : Nat) (key : List Nat) (s : State) : Host.Outcome State Fault Refusal :=
  match s.shake? conn with
  | none => .next s
  | some h =>
    if h.credential.isSome then .next s
    else
      let with_ : Nat → State := fun c => State.emit { s with sess := { s.sess with
        handshakes := s.sess.handshakes.map (fun x => if x.conn = conn then { x with credential := some c } else x)
        lastUsed := if c < 32 then tset 0 s.sess.lastUsed c s.time.t64 else s.sess.lastUsed } } (.established conn)
      match s.credOf key with
      | some c => .next (with_ c)
      | none => .next (if s.commissioning ∧ h.fuseEn then with_ 0xFF else s.dropShake conn)

/-- HANDSHAKE_LIMIT: 10 s after its first ClientHello with a valid cookie (11 R413). -/
def execHandshakeLimit (conn : Nat) (s : State) : Host.Outcome State Fault Refusal :=
  match s.shake? conn with
  | none => .next s
  | some h => .next (if h.credential = none ∧ h.since + 10000000000 ≤ s.now then s.dropShake conn else s)

/-- DTLS_FATAL_ALERT: the connection is gone, and with it its session (11 R418). -/
def execDtlsFatalAlert (conn : Nat) (s : State) : Host.Outcome State Fault Refusal :=
  let s1 := s.dropShake conn
  match s1.sessionOn conn with
  | some n => .next (s1.endSession n true)
  | none => .next s1

/-! ### Sessions (11 R416 to R418) -/

/-- OPEN (11 R416, R417, R420). -/
def execOpenSession (conn : Nat) (role : Fin 256) (keepAlive : Fin 65536) (name : List Nat) (s : State) :
    Host.Outcome State Fault Refusal :=
  match s.sessionOn conn with
  | some n => .next ((s.modSession n (fun x => { x with lastHeard := s.now })).emit (.refusedOpen conn .wrongState))
  | none => match s.shake? conn with
    | none => .next s
    | some h => match h.credential with
      | none => .next s
      | some c => match roleOf role, s.freeSession, s.openCheck c (roleOf role) with
        | some r, some n, .ok =>
          let k := s.keepAliveFor keepAlive
          let x : Session := { role := r, credential := c, conn, keepAlive := k, openedAt := s.time.t64, lastHeard := s.now
                               clientName := padTo 16 name, peer := h.peer }
          let s1 := s.dropShake conn
          .next (State.emit { s1 with sess := { s1.sess with sessions := s1.sess.sessions ++ [(n, x)] } }
            (.opened conn n k s.time.t64))
        | _, _, code => .next (((s.dropShake conn).emit (.refusedOpen conn code)).emit (.closeNotify conn))

/-- A request would be carried out now: its RID is new and the session has room (11 R422, R423). -/
def State.carries (s : State) (q : Req) : Bool :=
  match s.session? q.session with
  | some x => !x.kept.any (fun a => a.rid == q.rid) && !x.inFlight.contains q.rid && decide (x.inFlight.length < 8)
  | none => false

/-- CLOSE: answered, then close_notify, and the session ends (11 R418, R420). -/
def execCloseSession (q : Req) (s : State) : Host.Outcome State Fault Refusal :=
  let s1 := s.serve q (fun t _ => { state := t })
  match s.session? q.session with
  | some x => .next (if s.carries q then (s1.emit (.closeNotify x.conn)).endSession q.session true else s1)
  | none => .next s1

/-- PING: PONG carries T64 (11 R420). -/
def execPing (q : Req) (s : State) : Host.Outcome State Fault Refusal :=
  .next (s.serve q (fun t _ => { state := t, value := some (.num t.time.t64) }))

/-- KEEPALIVE_LAPSE (11 R417). -/
def execKeepaliveLapse (n : Fin 9) (s : State) : Host.Outcome State Fault Refusal :=
  match s.session? n with
  | some x => .next (if x.lastHeard + x.keepAlive * 1000000000 ≤ s.now then s.endSession n true else s)
  | none => .next s

/-! ### Reads and writes (11 R407, R420 to R424) -/

/-- READ, with NEXT or without (11 R407, R421, R424). -/
def execRead (q : Req) (key : Fin 16777216) (next : Bool) (s : State) : Host.Outcome State Fault Refusal :=
  .next (s.serve q (fun t x =>
    match t.readCheck key with
    | .ok =>
      if (typeAt key).segmented then refuse t .tooLarge
      else { state := t, value := some (if next then t.nextValue x q.session key else t.objectValue q.session key) }
    | c => refuse t c))

/-- WRITE: the value as its wire bytes (11 R406, R421). -/
def execWrite (q : Req) (key : Fin 16777216) (b : List Nat) (s : State) : Host.Outcome State Fault Refusal :=
  s.writeAny q key (octets b)

/-- The data of a segmented read: a snapshot taken at OFFSET 0, or the live one (11 R424). -/
def State.snapshotFor (s : State) (x : Session) (n : SessionNo) (key off : Nat) : Option (List Nat) :=
  if off = 0 then some ((typeAt key).encode (s.objectValue n key))
  else (x.snapshots.find? (fun p => p.key == key && decide (s.now < p.usedAt + 10000000000))).map (·.data)

/-- SEG_READ (11 R420, R424). -/
def execSegRead (q : Req) (key : Fin 16777216) (off : Fin 4294967296) (len : Fin 65536) (s : State) :
    Host.Outcome State Fault Refusal :=
  .next (s.serve q (fun t x =>
    if len.val = 0 ∨ 1016 < len.val then refuse t .badMessage
    else match t.readCheck key with
      | .ok => match t.snapshotFor x q.session key off with
        | none => refuse t .segmentErr
        | some d =>
          if d.length < off.val then refuse t .range
          else
            let snap : Snapshot := { key := key, data := d, usedAt := t.now }
            { state := t.modSession q.session (fun y => { y with snapshots := snap :: y.snapshots.filter (fun p => p.key != key.val) })
              value := some (.oct (bytesBE 4 off ++ bytesBE 4 d.length ++ (d.drop off).take len)) }
      | c => refuse t c))

/-- SEG_WRITE (11 R420, R424). -/
def execSegWrite (q : Req) (key : Fin 16777216) (off : Fin 4294967296) (last : Bool) (data : List Nat) (s : State) :
    Host.Outcome State Fault Refusal :=
  s.segWriteAny q key off last (octets data)

/-- SNAPSHOT_EXPIRY: 10 s without a SEG_READ of the object (11 R424). -/
def execSnapshotExpiry (n : Fin 9) (key : Fin 16777216) (s : State) : Host.Outcome State Fault Refusal :=
  .next (s.modSession n (fun x =>
    { x with snapshots := x.snapshots.filter (fun p => !(p.key == key.val && decide (p.usedAt + 10000000000 ≤ s.now))) }))

end Sys2Proof.Machine
end

