-- ==== Sys2Proof/Machine/TileAlu.lean ====
section
/-!
DEFINITION. The commands of the ALU slot and of ALU2 (03 R99 to R101, 04 R152 to R154).
-/

namespace Sys2Proof.Machine

/-- The flow/switch operation that an ALU2 command carries (04 R154). -/
def alu2Flow : Alu2Op → FlowOp
  | .reg op s d a b => .alu2Reg op s d a b
  | .imm op s d a n => .alu2Imm op s d a n

/-- ADD (04 R153). -/
def execAdd (t : Fin 1024) (u sat : Bool) (d a b : Reg) (c : Companions) (s : State) :
    Host.Outcome State Fault Refusal :=
  .next (s.issue t (joinWord c.mac (encodeAlu (.reg .add u sat d a b)) c.mem c.flow))

/-- SUB (04 R153). -/
def execSub (t : Fin 1024) (u sat : Bool) (d a b : Reg) (c : Companions) (s : State) :
    Host.Outcome State Fault Refusal :=
  .next (s.issue t (joinWord c.mac (encodeAlu (.reg .sub u sat d a b)) c.mem c.flow))

/-- ADDU (04 R153). -/
def execAddu (t : Fin 1024) (u sat : Bool) (d a b : Reg) (c : Companions) (s : State) :
    Host.Outcome State Fault Refusal :=
  .next (s.issue t (joinWord c.mac (encodeAlu (.reg .addu u sat d a b)) c.mem c.flow))

/-- SUBU (04 R153). -/
def execSubu (t : Fin 1024) (u sat : Bool) (d a b : Reg) (c : Companions) (s : State) :
    Host.Outcome State Fault Refusal :=
  .next (s.issue t (joinWord c.mac (encodeAlu (.reg .subu u sat d a b)) c.mem c.flow))

/-- ADD2 (04 R153). -/
def execAdd2 (t : Fin 1024) (u sat : Bool) (d a b : Reg) (c : Companions) (s : State) :
    Host.Outcome State Fault Refusal :=
  .next (s.issue t (joinWord c.mac (encodeAlu (.reg .add2 u sat d a b)) c.mem c.flow))

/-- SUB2 (04 R153). -/
def execSub2 (t : Fin 1024) (u sat : Bool) (d a b : Reg) (c : Companions) (s : State) :
    Host.Outcome State Fault Refusal :=
  .next (s.issue t (joinWord c.mac (encodeAlu (.reg .sub2 u sat d a b)) c.mem c.flow))

/-- NEG (04 R153). -/
def execNeg (t : Fin 1024) (u sat : Bool) (d a : Reg) (c : Companions) (s : State) :
    Host.Outcome State Fault Refusal :=
  .next (s.issue t (joinWord c.mac (encodeAlu (.reg .neg u sat d a 0)) c.mem c.flow))

/-- ABS (04 R153). -/
def execAbs (t : Fin 1024) (u sat : Bool) (d a : Reg) (c : Companions) (s : State) :
    Host.Outcome State Fault Refusal :=
  .next (s.issue t (joinWord c.mac (encodeAlu (.reg .abs u sat d a 0)) c.mem c.flow))

/-- MIN (04 R153). -/
def execMin (t : Fin 1024) (u sat : Bool) (d a b : Reg) (c : Companions) (s : State) :
    Host.Outcome State Fault Refusal :=
  .next (s.issue t (joinWord c.mac (encodeAlu (.reg .min u sat d a b)) c.mem c.flow))

/-- MAX (04 R153). -/
def execMax (t : Fin 1024) (u sat : Bool) (d a b : Reg) (c : Companions) (s : State) :
    Host.Outcome State Fault Refusal :=
  .next (s.issue t (joinWord c.mac (encodeAlu (.reg .max u sat d a b)) c.mem c.flow))

/-- AND (04 R153). -/
def execAnd (t : Fin 1024) (u sat : Bool) (d a b : Reg) (c : Companions) (s : State) :
    Host.Outcome State Fault Refusal :=
  .next (s.issue t (joinWord c.mac (encodeAlu (.reg .and u sat d a b)) c.mem c.flow))

/-- OR (04 R153). -/
def execOr (t : Fin 1024) (u sat : Bool) (d a b : Reg) (c : Companions) (s : State) :
    Host.Outcome State Fault Refusal :=
  .next (s.issue t (joinWord c.mac (encodeAlu (.reg .or u sat d a b)) c.mem c.flow))

/-- XOR (04 R153). -/
def execXor (t : Fin 1024) (u sat : Bool) (d a b : Reg) (c : Companions) (s : State) :
    Host.Outcome State Fault Refusal :=
  .next (s.issue t (joinWord c.mac (encodeAlu (.reg .xor u sat d a b)) c.mem c.flow))

/-- ANDN (04 R153). -/
def execAndn (t : Fin 1024) (u sat : Bool) (d a b : Reg) (c : Companions) (s : State) :
    Host.Outcome State Fault Refusal :=
  .next (s.issue t (joinWord c.mac (encodeAlu (.reg .andn u sat d a b)) c.mem c.flow))

/-- MOV (04 R153). -/
def execMov (t : Fin 1024) (u sat : Bool) (d a : Reg) (c : Companions) (s : State) :
    Host.Outcome State Fault Refusal :=
  .next (s.issue t (joinWord c.mac (encodeAlu (.reg .mov u sat d a 0)) c.mem c.flow))

/-- SHL (04 R153). -/
def execShl (t : Fin 1024) (u sat : Bool) (d a b : Reg) (c : Companions) (s : State) :
    Host.Outcome State Fault Refusal :=
  .next (s.issue t (joinWord c.mac (encodeAlu (.reg .shl u sat d a b)) c.mem c.flow))

/-- SHR (04 R153). -/
def execShr (t : Fin 1024) (u sat : Bool) (d a b : Reg) (c : Companions) (s : State) :
    Host.Outcome State Fault Refusal :=
  .next (s.issue t (joinWord c.mac (encodeAlu (.reg .shr u sat d a b)) c.mem c.flow))

/-- SAR (04 R153). -/
def execSar (t : Fin 1024) (u sat : Bool) (d a b : Reg) (c : Companions) (s : State) :
    Host.Outcome State Fault Refusal :=
  .next (s.issue t (joinWord c.mac (encodeAlu (.reg .sar u sat d a b)) c.mem c.flow))

/-- ROR (04 R153). -/
def execRor (t : Fin 1024) (u sat : Bool) (d a b : Reg) (c : Companions) (s : State) :
    Host.Outcome State Fault Refusal :=
  .next (s.issue t (joinWord c.mac (encodeAlu (.reg .ror u sat d a b)) c.mem c.flow))

/-- CMP (04 R153). -/
def execCmp (t : Fin 1024) (u sat : Bool) (a b : Reg) (c : Companions) (s : State) :
    Host.Outcome State Fault Refusal :=
  .next (s.issue t (joinWord c.mac (encodeAlu (.reg .cmp u sat 0 a b)) c.mem c.flow))

/-- TST (04 R153). -/
def execTst (t : Fin 1024) (u sat : Bool) (a b : Reg) (c : Companions) (s : State) :
    Host.Outcome State Fault Refusal :=
  .next (s.issue t (joinWord c.mac (encodeAlu (.reg .tst u sat 0 a b)) c.mem c.flow))

/-- NORM (04 R153). -/
def execNorm (t : Fin 1024) (u sat : Bool) (d a : Reg) (c : Companions) (s : State) :
    Host.Outcome State Fault Refusal :=
  .next (s.issue t (joinWord c.mac (encodeAlu (.reg .norm u sat d a 0)) c.mem c.flow))

/-- PACK (04 R153). -/
def execPack (t : Fin 1024) (u sat : Bool) (d a b : Reg) (c : Companions) (s : State) :
    Host.Outcome State Fault Refusal :=
  .next (s.issue t (joinWord c.mac (encodeAlu (.reg .pack u sat d a b)) c.mem c.flow))

/-- RDS (04 R153). -/
def execRds (t : Fin 1024) (u sat : Bool) (d : Reg) (c : Companions) (s : State) :
    Host.Outcome State Fault Refusal :=
  .next (s.issue t (joinWord c.mac (encodeAlu (.reg .rds u sat d 0 0)) c.mem c.flow))

/-- HADD2 (04 R153). -/
def execHadd2 (t : Fin 1024) (u sat : Bool) (d a b : Reg) (c : Companions) (s : State) :
    Host.Outcome State Fault Refusal :=
  .next (s.issue t (joinWord c.mac (encodeAlu (.reg .hadd2 u sat d a b)) c.mem c.flow))

/-- HSUB2 (04 R153). -/
def execHsub2 (t : Fin 1024) (u sat : Bool) (d a b : Reg) (c : Companions) (s : State) :
    Host.Outcome State Fault Refusal :=
  .next (s.issue t (joinWord c.mac (encodeAlu (.reg .hsub2 u sat d a b)) c.mem c.flow))

/-- ADDI (04 R153). -/
def execAddi (t : Fin 1024) (u sat : Bool) (d a : Reg) (i : BitVec 8) (c : Companions) (s : State) :
    Host.Outcome State Fault Refusal :=
  .next (s.issue t (joinWord c.mac (encodeAlu (.imm .addi u sat d a i)) c.mem c.flow))

/-- ANDI (04 R153). -/
def execAndi (t : Fin 1024) (u sat : Bool) (d a : Reg) (i : BitVec 8) (c : Companions) (s : State) :
    Host.Outcome State Fault Refusal :=
  .next (s.issue t (joinWord c.mac (encodeAlu (.imm .andi u sat d a i)) c.mem c.flow))

/-- ORI (04 R153). -/
def execOri (t : Fin 1024) (u sat : Bool) (d a : Reg) (i : BitVec 8) (c : Companions) (s : State) :
    Host.Outcome State Fault Refusal :=
  .next (s.issue t (joinWord c.mac (encodeAlu (.imm .ori u sat d a i)) c.mem c.flow))

/-- XORI (04 R153). -/
def execXori (t : Fin 1024) (u sat : Bool) (d a : Reg) (i : BitVec 8) (c : Companions) (s : State) :
    Host.Outcome State Fault Refusal :=
  .next (s.issue t (joinWord c.mac (encodeAlu (.imm .xori u sat d a i)) c.mem c.flow))

/-- SHLI (04 R153). -/
def execShli (t : Fin 1024) (u sat : Bool) (d a : Reg) (n : BitVec 5) (c : Companions) (s : State) :
    Host.Outcome State Fault Refusal :=
  .next (s.issue t (joinWord c.mac (encodeAlu (.imm .shli u sat d a (n.zeroExtend 8))) c.mem c.flow))

/-- SHRI (04 R153). -/
def execShri (t : Fin 1024) (u sat : Bool) (d a : Reg) (n : BitVec 5) (c : Companions) (s : State) :
    Host.Outcome State Fault Refusal :=
  .next (s.issue t (joinWord c.mac (encodeAlu (.imm .shri u sat d a (n.zeroExtend 8))) c.mem c.flow))

/-- SARI (04 R153). -/
def execSari (t : Fin 1024) (u sat : Bool) (d a : Reg) (n : BitVec 5) (c : Companions) (s : State) :
    Host.Outcome State Fault Refusal :=
  .next (s.issue t (joinWord c.mac (encodeAlu (.imm .sari u sat d a (n.zeroExtend 8))) c.mem c.flow))

/-- RORI (04 R153). -/
def execRori (t : Fin 1024) (u sat : Bool) (d a : Reg) (n : BitVec 5) (c : Companions) (s : State) :
    Host.Outcome State Fault Refusal :=
  .next (s.issue t (joinWord c.mac (encodeAlu (.imm .rori u sat d a (n.zeroExtend 8))) c.mem c.flow))

/-- CMPI (04 R153). -/
def execCmpi (t : Fin 1024) (u sat : Bool) (a : Reg) (i : BitVec 8) (c : Companions) (s : State) :
    Host.Outcome State Fault Refusal :=
  .next (s.issue t (joinWord c.mac (encodeAlu (.imm .cmpi u sat 0 a i)) c.mem c.flow))

/-- CLRS (04 R153, R161). -/
def execClrs (t : Fin 1024) (csat covf : Bool) (c : Companions) (s : State) :
    Host.Outcome State Fault Refusal :=
  .next (s.issue t (joinWord c.mac (encodeAlu (.imm .clrs false false 0 0 (bit false ++ bit false ++ bit false ++ bit false ++ bit false ++ bit false ++ bit covf ++ bit csat))) c.mem c.flow))

/-- XMASK beside an STM or LDM (04 R152, R153). -/
def execXmask (t : Fin 1024) (m : BitVec 18) (c : Companions) (s : State) :
    Host.Outcome State Fault Refusal :=
  .next (s.issue t (joinWord c.mac (encodeAlu (.mask m)) c.mem c.flow))

/-- MOVL (04 R153). -/
def execMovl (t : Fin 1024) (d : Reg) (i : BitVec 16) (c : Companions) (s : State) :
    Host.Outcome State Fault Refusal :=
  .next (s.issue t (joinWord c.mac (encodeAlu (.const .movl d i)) c.mem c.flow))

/-- MOVLU (04 R153). -/
def execMovlu (t : Fin 1024) (d : Reg) (i : BitVec 16) (c : Companions) (s : State) :
    Host.Outcome State Fault Refusal :=
  .next (s.issue t (joinWord c.mac (encodeAlu (.const .movlu d i)) c.mem c.flow))

/-- MOVH (04 R153). -/
def execMovh (t : Fin 1024) (d : Reg) (i : BitVec 16) (c : Companions) (s : State) :
    Host.Outcome State Fault Refusal :=
  .next (s.issue t (joinWord c.mac (encodeAlu (.const .movh d i)) c.mem c.flow))

/-- ALU2 (04 R154). -/
def execAlu2 (t : Fin 1024) (op : Alu2Op) (c : Companions) (s : State) :
    Host.Outcome State Fault Refusal :=
  .next (s.issue t (joinWord c.mac c.alu c.mem (encodeFlow (alu2Flow op))))

end Sys2Proof.Machine
end

