-- ==== Sys2Proof/Machine/TileFlow.lean ====
section
/-!
DEFINITION. The commands of the flow/switch slot (03 R111 to R127, 04 R157 to R159).
-/

namespace Sys2Proof.Machine

/-- The tiles whose marked port has met a token with a parity error fault with LANE_PARITY (05 R167). -/
def State.takeParity (s : State) (p : Option (Fin 1024 × Fin 8)) : State :=
  match p with
  | none => s
  | some (u, _) =>
    let hit := (s.tile u).parityHit
    let s1 := s.modTile u (fun x => { x with parityPort := none, parityHit := false })
    if hit then s1.tileFault u .laneParity else s1

/-- Marks the port whose next arriving token has a parity error. -/
def State.markParity (s : State) (p : Option (Fin 1024 × Fin 8)) : State :=
  match p with
  | none => s
  | some (u, q) => s.modTile u (fun x => { x with parityPort := some q.val, parityHit := false })

/-- SW (04 R159, 05 R165, R167); `parity` names a port whose next token has a parity error. -/
def execSw (t : Fin 1024) (rx : Bool) (rxp : BitVec 3) (rxd : Reg) (tx : Bool) (txp : BitVec 3) (txs : Reg)
    (parity : Option (Fin 1024 × Fin 8)) (c : Companions) (s : State) : Host.Outcome State Fault Refusal :=
  .next (((s.markParity parity).issue t
    (joinWord c.mac c.alu c.mem (encodeFlow (.sw rx rxp rxd tx txp txs)))).takeParity parity)

/-- JMP (04 R157, R158). -/
def execJmp (t : Fin 1024) (u : Bool) (cond : BitVec 4) (target : BitVec 9) (c : Companions) (s : State) :
    Host.Outcome State Fault Refusal :=
  .next (s.issue t (joinWord c.mac c.alu c.mem (encodeFlow (.jmp u cond target))))

/-- CALL (03 R111, R113). -/
def execCall (t : Fin 1024) (ind : Bool) (a : Reg) (target : BitVec 9) (c : Companions) (s : State) :
    Host.Outcome State Fault Refusal :=
  .next (s.issue t (joinWord c.mac c.alu c.mem (encodeFlow (.call ind a target))))

/-- RET (03 R112, R114). -/
def execRet (t : Fin 1024) (c : Companions) (s : State) :
    Host.Outcome State Fault Refusal :=
  .next (s.issue t (joinWord c.mac c.alu c.mem (encodeFlow (.ret))))

/-- REPS (03 R124, 04 R157). -/
def execRepeatImm (t : Fin 1024) (len : BitVec 4) (count : BitVec 16) (c : Companions) (s : State) :
    Host.Outcome State Fault Refusal :=
  .next (s.issue t (joinWord c.mac c.alu c.mem (encodeFlow (.reps len count))))

/-- REPR (03 R124, 04 R157). -/
def execRepeatReg (t : Fin 1024) (a : Reg) (stop : BitVec 9) (c : Companions) (s : State) :
    Host.Outcome State Fault Refusal :=
  .next (s.issue t (joinWord c.mac c.alu c.mem (encodeFlow (.repr a stop))))

/-- BREAK (03 R127, 04 R157). -/
def execBreakOp (t : Fin 1024) (c : Companions) (s : State) :
    Host.Outcome State Fault Refusal :=
  .next (s.issue t (joinWord c.mac c.alu c.mem (encodeFlow (.brk))))

/-- CTX (03 R131, R133, 04 R157, 05 R186). -/
def execCtx (t : Fin 1024) (slot : BitVec 4) (c : Companions) (s : State) :
    Host.Outcome State Fault Refusal :=
  .next (s.issue t (joinWord c.mac c.alu c.mem (encodeFlow (.ctx slot))))

/-- TRAP (03 R137, 04 R157, 05 R189). -/
def execTrap (t : Fin 1024) (code : BitVec 8) (c : Companions) (s : State) :
    Host.Outcome State Fault Refusal :=
  .next (s.issue t (joinWord c.mac c.alu c.mem (encodeFlow (.trap code))))

end Sys2Proof.Machine
end

