-- ==== Sys2Proof/Machine/TileMac.lean ====
section
/-!
DEFINITION. The commands of the MAC slot, and NOP (03 R95 to R98, 04 R150, R151).
-/

namespace Sys2Proof.Machine

/-- The all-zero instruction: one cycle and nothing else (04 R144). -/
def execNop (t : Fin 1024) (s : State) :
    Host.Outcome State Fault Refusal :=
  .next (s.issue t (0))

/-- CMAC (03 R96, 04 R151). -/
def execCmac (t : Fin 1024) (f sat cj : Bool) (a b : Reg) (c : Companions) (s : State) :
    Host.Outcome State Fault Refusal :=
  .next (s.issue t (joinWord (encodeMac (.mul .cmac .acc f sat cj a b)) c.alu c.mem c.flow))

/-- CMSB (03 R96, 04 R151). -/
def execCmsb (t : Fin 1024) (f sat cj : Bool) (a b : Reg) (c : Companions) (s : State) :
    Host.Outcome State Fault Refusal :=
  .next (s.issue t (joinWord (encodeMac (.mul .cmac .sub f sat cj a b)) c.alu c.mem c.flow))

/-- CMUL (03 R96, 04 R151). -/
def execCmul (t : Fin 1024) (f sat cj : Bool) (a b : Reg) (c : Companions) (s : State) :
    Host.Outcome State Fault Refusal :=
  .next (s.issue t (joinWord (encodeMac (.mul .cmac .mul f sat cj a b)) c.alu c.mem c.flow))

/-- DMAC (03 R96, 04 R151). -/
def execDmac (t : Fin 1024) (f sat : Bool) (a b : Reg) (c : Companions) (s : State) :
    Host.Outcome State Fault Refusal :=
  .next (s.issue t (joinWord (encodeMac (.mul .dmac .acc f sat false a b)) c.alu c.mem c.flow))

/-- DMSB (03 R96, 04 R151). -/
def execDmsb (t : Fin 1024) (f sat : Bool) (a b : Reg) (c : Companions) (s : State) :
    Host.Outcome State Fault Refusal :=
  .next (s.issue t (joinWord (encodeMac (.mul .dmac .sub f sat false a b)) c.alu c.mem c.flow))

/-- DMUL (03 R96, 04 R151). -/
def execDmul (t : Fin 1024) (f sat : Bool) (a b : Reg) (c : Companions) (s : State) :
    Host.Outcome State Fault Refusal :=
  .next (s.issue t (joinWord (encodeMac (.mul .dmac .mul f sat false a b)) c.alu c.mem c.flow))

/-- WMAC (03 R96, 04 R151). -/
def execWmac (t : Fin 1024) (f sat : Bool) (a b : Reg) (c : Companions) (s : State) :
    Host.Outcome State Fault Refusal :=
  .next (s.issue t (joinWord (encodeMac (.mul .wmac .acc f sat false a b)) c.alu c.mem c.flow))

/-- WMSB (03 R96, 04 R151). -/
def execWmsb (t : Fin 1024) (f sat : Bool) (a b : Reg) (c : Companions) (s : State) :
    Host.Outcome State Fault Refusal :=
  .next (s.issue t (joinWord (encodeMac (.mul .wmac .sub f sat false a b)) c.alu c.mem c.flow))

/-- WMUL (03 R96, 04 R151). -/
def execWmul (t : Fin 1024) (f sat : Bool) (a b : Reg) (c : Companions) (s : State) :
    Host.Outcome State Fault Refusal :=
  .next (s.issue t (joinWord (encodeMac (.mul .wmac .mul f sat false a b)) c.alu c.mem c.flow))

/-- EXT.H (03 R97, R98). -/
def execExtH (t : Fin 1024) (sat : Bool) (rnd : BitVec 2) (n : BitVec 5) (im hi : Bool) (d : Reg) (c : Companions) (s : State) :
    Host.Outcome State Fault Refusal :=
  .next (s.issue t (joinWord (encodeMac (.extH sat rnd n im hi d)) c.alu c.mem c.flow))

/-- EXT.W (03 R97, R98). -/
def execExtW (t : Fin 1024) (sat : Bool) (rnd : BitVec 2) (n : BitVec 5) (im : Bool) (d : Reg) (c : Companions) (s : State) :
    Host.Outcome State Fault Refusal :=
  .next (s.issue t (joinWord (encodeMac (.extW sat rnd n im d)) c.alu c.mem c.flow))

/-- EXT.C (03 R97, R98). -/
def execExtC (t : Fin 1024) (sat : Bool) (rnd : BitVec 2) (n : BitVec 5) (d : Reg) (c : Companions) (s : State) :
    Host.Outcome State Fault Refusal :=
  .next (s.issue t (joinWord (encodeMac (.extC sat rnd n d)) c.alu c.mem c.flow))

/-- LDA (04 R151). -/
def execLda (t : Fin 1024) (sat : Bool) (n : BitVec 5) (im both : Bool) (a : Reg) (c : Companions) (s : State) :
    Host.Outcome State Fault Refusal :=
  .next (s.issue t (joinWord (encodeMac (.lda sat n im both a)) c.alu c.mem c.flow))

/-- ACLR (04 R151). -/
def execAclr (t : Fin 1024) (re im : Bool) (c : Companions) (s : State) :
    Host.Outcome State Fault Refusal :=
  .next (s.issue t (joinWord (encodeMac (.aclr re im)) c.alu c.mem c.flow))

/-- ASUM (04 R151). -/
def execAsum (t : Fin 1024) (sat : Bool) (c : Companions) (s : State) :
    Host.Outcome State Fault Refusal :=
  .next (s.issue t (joinWord (encodeMac (.asum sat)) c.alu c.mem c.flow))

end Sys2Proof.Machine
end

