-- ==== Sys2Proof/Machine/TileMem.lean ====
section
/-!
DEFINITION. The commands of the memory slot (03 R103 to R110, R119 to R123, 04 R155, R156).
-/

namespace Sys2Proof.Machine

/-- LD (04 R155). -/
def execLd (t : Fin 1024) (ag : Bool) (sz : MemSize) (d : Reg) (pm : Bool) (c : Companions) (s : State) :
    Host.Outcome State Fault Refusal :=
  .next (s.issue t (joinWord c.mac c.alu (encodeMem (.ld ag sz d pm)) c.flow))

/-- ST (04 R155). -/
def execSt (t : Fin 1024) (ag : Bool) (sz : MemSize) (r : Reg) (pm : Bool) (c : Companions) (s : State) :
    Host.Outcome State Fault Refusal :=
  .next (s.issue t (joinWord c.mac c.alu (encodeMem (.st ag sz r pm)) c.flow))

/-- LD2 (04 R155). -/
def execLd2 (t : Fin 1024) (da db : Reg) (pm0 pm1 : Bool) (c : Companions) (s : State) :
    Host.Outcome State Fault Refusal :=
  .next (s.issue t (joinWord c.mac c.alu (encodeMem (.ld2 da db pm0 pm1)) c.flow))

/-- LDR (04 R155). -/
def execLdr (t : Fin 1024) (d a : Reg) (off : BitVec 8) (c : Companions) (s : State) :
    Host.Outcome State Fault Refusal :=
  .next (s.issue t (joinWord c.mac c.alu (encodeMem (.ldr d a off)) c.flow))

/-- STR (04 R155). -/
def execStr (t : Fin 1024) (r a : Reg) (off : BitVec 8) (c : Companions) (s : State) :
    Host.Outcome State Fault Refusal :=
  .next (s.issue t (joinWord c.mac c.alu (encodeMem (.str r a off)) c.flow))

/-- AMOD STEP (04 R156). -/
def execAmodStep (t : Fin 1024) (ag : Bool) (c : Companions) (s : State) :
    Host.Outcome State Fault Refusal :=
  .next (s.issue t (joinWord c.mac c.alu (encodeMem (.amod ag .step 0)) c.flow))

/-- AMOD SETI (04 R156). -/
def execAmodSeti (t : Fin 1024) (ag : Bool) (a : Reg) (c : Companions) (s : State) :
    Host.Outcome State Fault Refusal :=
  .next (s.issue t (joinWord c.mac c.alu (encodeMem (.amod ag .seti a)) c.flow))

/-- AMOD SETB (04 R156). -/
def execAmodSetb (t : Fin 1024) (ag : Bool) (a : Reg) (c : Companions) (s : State) :
    Host.Outcome State Fault Refusal :=
  .next (s.issue t (joinWord c.mac c.alu (encodeMem (.amod ag .setb a)) c.flow))

/-- AMOD SETM (04 R156). -/
def execAmodSetm (t : Fin 1024) (ag : Bool) (a : Reg) (c : Companions) (s : State) :
    Host.Outcome State Fault Refusal :=
  .next (s.issue t (joinWord c.mac c.alu (encodeMem (.amod ag .setm a)) c.flow))

/-- One beat of STM (03 R119 to R122, 04 R155). -/
def execStm (t : Fin 1024) (bk : Bool) (base : Reg) (pm : Bool) (c : Companions) (s : State) :
    Host.Outcome State Fault Refusal :=
  .next (s.issue t (joinWord c.mac c.alu (encodeMem (.stm bk base pm)) c.flow))

/-- One beat of LDM (03 R119 to R123, 04 R155). -/
def execLdm (t : Fin 1024) (bk : Bool) (base : Reg) (pm : Bool) (c : Companions) (s : State) :
    Host.Outcome State Fault Refusal :=
  .next (s.issue t (joinWord c.mac c.alu (encodeMem (.ldm bk base pm)) c.flow))

/-- MFENCE: stores to cluster memory have landed with the instruction that made them (03 R110, 04 R155, log 32). -/
def execMfence (t : Fin 1024) (c : Companions) (s : State) :
    Host.Outcome State Fault Refusal :=
  .next (s.issue t (joinWord c.mac c.alu (encodeMem (.mfence)) c.flow))

end Sys2Proof.Machine
end

