-- ==== Sys2Proof/Machine/Time.lean ====
section
/-!
DEFINITION. The meanings of the time and PTP commands (02 R48 to R65).
-/

namespace Sys2Proof.Machine

/-- PTP_SYNC_SAMPLE (02 R60): a port, logSyncInterval, and the offset and path delay measured, in ps. -/
def execPtpSyncSample (p : Port) (log offset delay : Int) (s : State) : Host.Outcome State Fault Refusal :=
  .next (s.syncSample p log offset delay)

/-- SYNC_TIMEOUT (02 R61): three Sync intervals without a valid Sync. -/
def execSyncTimeout (s : State) : Host.Outcome State Fault Refusal :=
  .next (match s.time.lastSync with
    | some t =>
      if s.time.state = .disciplined ∧ s.servoRuns ∧ t + 3 * (1000000000 / 2 ^ s.time.syncLog.natAbs) ≤ s.now then
        s.holdoverEntry
      else s
    | none => s)

/-- ANNOUNCE_TIMEOUT (02 R61). -/
def execAnnounceTimeout (s : State) : Host.Outcome State Fault Refusal :=
  .next (if s.time.state = .disciplined ∧ s.servoRuns then s.holdoverEntry else s)

/-- ANNOUNCE (02 R57, R61): the UTC offset and the grandmaster's identity; a change of a known identity leads to
HOLDOVER and starts GmSettle. -/
def execAnnounce (identity : Fin 18446744073709551616) (utc : Int) (s : State) : Host.Outcome State Fault Refusal :=
  if s.servoRuns then
    let t := s.time
    let changed : Bool := decide (t.gmIdentity ≠ 0 ∧ t.gmIdentity ≠ identity.val)
    let s1 : State := { s with time := { t with utcOffset := utc, gmIdentity := identity.val } }
    if changed then
      let s2 : State := { s1 with time := { s1.time with
        gmChanges := inc32 t.gmChanges, gmChangedAt := some s.now, candidates := [] } }
      .next (if t.state = .disciplined then s2.holdoverEntry else s2)
    else .next s1
  else .next s

/-- PTP_FORWARD (02 R53, R627, 14 R541): a PTP message received on a port leaves on the other with its
correctionField, to which a transparent clock adds the residence time; a boundary clock forwards none. -/
def execPtpForward (p : Port) (correction residence : Int) (s : State) : Host.Outcome State Fault Refusal :=
  let up : Bool := s.op.state == .service || s.op.state == .run || s.op.state == .sleep
  let mode := s.num 0x1301 1 0
  let other : Port := if p = .fa then .fb else .fa
  if s.op.state = .off ∨ s.op.state = .reset ∨ (up ∧ mode = 1) then .next s
  else .next (s.emit (.ptp other (if up ∧ mode = 2 then correction + residence else correction)))

/-- HOLDOVER_QUALITY_EXPIRY (02 R58). -/
def execHoldoverQualityExpiry (s : State) : Host.Outcome State Fault Refusal :=
  .next (if s.time.state = .holdover ∧ s.time.holdoverAt + 60000000000 ≤ s.now then
    { s with time := { s.time with quality := .none } } else s)

/-- HOLDOVER_MAX_EXPIRY (02 R58, R61): FREE, and F is frozen. -/
def execHoldoverMaxExpiry (s : State) : Host.Outcome State Fault Refusal :=
  .next (if s.time.state = .holdover ∧ s.time.holdoverAt + s.num 0x1303 3 300 * 1000000000 ≤ s.now then
    let t := s.time.integrate s.now
    { s with time := { t with state := .free, quality := .none, fTarget := t.f } } else s)

/-- JOURNAL_TIME (12 R478): every 10 s. -/
def execJournalTime (s : State) : Host.Outcome State Fault Refusal :=
  .next (if s.gafferRuns ∧ s.time.journalAt + 10000000000 ≤ s.now then
    State.commit { s with time := { s.time with journalAt := s.now } }
      (.time s.time.t64 s.time.state.code s.time.quality.code)
  else s)

/-- FREQUENCY_SAVE (14 R532): after 10 minutes DISCIPLINED, at most once per 10 minutes. -/
def execFrequencySave (s : State) : Host.Outcome State Fault Refusal :=
  let since : Bool := match s.time.disciplinedAt with
    | some t => decide (t + 600000000000 ≤ s.now)
    | none => false
  let rested : Bool := match s.time.savedAt with
    | some t => decide (t + 600000000000 ≤ s.now)
    | none => true
  .next (if s.gafferRuns ∧ s.time.state = .disciplined ∧ since ∧ rested then
    { s with time := { s.time with saved := s.time.learned, savedAt := some s.now } } else s)

end Sys2Proof.Machine
end

