-- ==== Sys2Proof/Machine/Dispatch.lean ====
section
/-!
DEFINITION. The command dispatch: one arm per constructor of Instr.
-/

namespace Sys2Proof.Machine

def exec (i : Instr) (s : State) : Host.Outcome State Fault Refusal :=
  match i with
  | .powerOn f => Sys2Proof.Machine.execPowerOn f s
  | .resetRelease powerReady nresetHigh bistPass weak => Sys2Proof.Machine.execResetRelease powerReady nresetHigh bistPass weak s
  | .imageSelection => Sys2Proof.Machine.execImageSelection s
  | .gafferFirmwareStart torn gaps lost => Sys2Proof.Machine.execGafferFirmwareStart torn gaps lost s
  | .opcommandRun q => Sys2Proof.Machine.execOpcommandRun q s
  | .opcommandService q => Sys2Proof.Machine.execOpcommandService q s
  | .opcommandSleep q => Sys2Proof.Machine.execOpcommandSleep q s
  | .opcommandReset q => Sys2Proof.Machine.execOpcommandReset q s
  | .opcommandGafferRestart q => Sys2Proof.Machine.execOpcommandGafferRestart q s
  | .nresetLow ns => Sys2Proof.Machine.execNresetLow ns s
  | .gafferWatchdogExpiry => Sys2Proof.Machine.execGafferWatchdogExpiry s
  | .watchdogCountClear => Sys2Proof.Machine.execWatchdogCountClear s
  | .trialConfirm => Sys2Proof.Machine.execTrialConfirm s
  | .holdupExhausted mv => Sys2Proof.Machine.execHoldupExhausted mv s
  | .wakeFrame p b => Sys2Proof.Machine.execWakeFrame p b s
  | .wakePin => Sys2Proof.Machine.execWakePin s
  | .ptpSyncSample p log offset delay => Sys2Proof.Machine.execPtpSyncSample p log offset delay s
  | .syncTimeout => Sys2Proof.Machine.execSyncTimeout s
  | .announceTimeout => Sys2Proof.Machine.execAnnounceTimeout s
  | .announce identity utc => Sys2Proof.Machine.execAnnounce identity utc s
  | .ptpForward p correction residence => Sys2Proof.Machine.execPtpForward p correction residence s
  | .holdoverQualityExpiry => Sys2Proof.Machine.execHoldoverQualityExpiry s
  | .holdoverMaxExpiry => Sys2Proof.Machine.execHoldoverMaxExpiry s
  | .journalTime => Sys2Proof.Machine.execJournalTime s
  | .frequencySave => Sys2Proof.Machine.execFrequencySave s
  | .encoderEdge c b level sub => Sys2Proof.Machine.execEncoderEdge c b level sub s
  | .zEdge c sub => Sys2Proof.Machine.execZEdge c sub s
  | .angleGridUpdate c ph amp => Sys2Proof.Machine.execAngleGridUpdate c ph amp s
  | .signalLoss c => Sys2Proof.Machine.execSignalLoss c s
  | .stopTimeExpiry c => Sys2Proof.Machine.execStopTimeExpiry c s
  | .angleFaultAck q b => Sys2Proof.Machine.execAngleFaultAck q b s
  | .courseMarkFix => Sys2Proof.Machine.execCourseMarkFix s
  | .courseMark => Sys2Proof.Machine.execCourseMark s
  | .firingResidual r uid => Sys2Proof.Machine.execFiringResidual r uid s
  | .nop t => Sys2Proof.Machine.execNop t s
  | .cmac t f sat cj a b c => Sys2Proof.Machine.execCmac t f sat cj a b c s
  | .cmsb t f sat cj a b c => Sys2Proof.Machine.execCmsb t f sat cj a b c s
  | .cmul t f sat cj a b c => Sys2Proof.Machine.execCmul t f sat cj a b c s
  | .dmac t f sat a b c => Sys2Proof.Machine.execDmac t f sat a b c s
  | .dmsb t f sat a b c => Sys2Proof.Machine.execDmsb t f sat a b c s
  | .dmul t f sat a b c => Sys2Proof.Machine.execDmul t f sat a b c s
  | .wmac t f sat a b c => Sys2Proof.Machine.execWmac t f sat a b c s
  | .wmsb t f sat a b c => Sys2Proof.Machine.execWmsb t f sat a b c s
  | .wmul t f sat a b c => Sys2Proof.Machine.execWmul t f sat a b c s
  | .extH t sat rnd n im hi d c => Sys2Proof.Machine.execExtH t sat rnd n im hi d c s
  | .extW t sat rnd n im d c => Sys2Proof.Machine.execExtW t sat rnd n im d c s
  | .extC t sat rnd n d c => Sys2Proof.Machine.execExtC t sat rnd n d c s
  | .lda t sat n im both a c => Sys2Proof.Machine.execLda t sat n im both a c s
  | .aclr t re im c => Sys2Proof.Machine.execAclr t re im c s
  | .asum t sat c => Sys2Proof.Machine.execAsum t sat c s
  | .add t u sat d a b c => Sys2Proof.Machine.execAdd t u sat d a b c s
  | .sub t u sat d a b c => Sys2Proof.Machine.execSub t u sat d a b c s
  | .addu t u sat d a b c => Sys2Proof.Machine.execAddu t u sat d a b c s
  | .subu t u sat d a b c => Sys2Proof.Machine.execSubu t u sat d a b c s
  | .add2 t u sat d a b c => Sys2Proof.Machine.execAdd2 t u sat d a b c s
  | .sub2 t u sat d a b c => Sys2Proof.Machine.execSub2 t u sat d a b c s
  | .neg t u sat d a c => Sys2Proof.Machine.execNeg t u sat d a c s
  | .abs t u sat d a c => Sys2Proof.Machine.execAbs t u sat d a c s
  | .min t u sat d a b c => Sys2Proof.Machine.execMin t u sat d a b c s
  | .max t u sat d a b c => Sys2Proof.Machine.execMax t u sat d a b c s
  | .and t u sat d a b c => Sys2Proof.Machine.execAnd t u sat d a b c s
  | .or t u sat d a b c => Sys2Proof.Machine.execOr t u sat d a b c s
  | .xor t u sat d a b c => Sys2Proof.Machine.execXor t u sat d a b c s
  | .andn t u sat d a b c => Sys2Proof.Machine.execAndn t u sat d a b c s
  | .mov t u sat d a c => Sys2Proof.Machine.execMov t u sat d a c s
  | .shl t u sat d a b c => Sys2Proof.Machine.execShl t u sat d a b c s
  | .shr t u sat d a b c => Sys2Proof.Machine.execShr t u sat d a b c s
  | .sar t u sat d a b c => Sys2Proof.Machine.execSar t u sat d a b c s
  | .ror t u sat d a b c => Sys2Proof.Machine.execRor t u sat d a b c s
  | .cmp t u sat a b c => Sys2Proof.Machine.execCmp t u sat a b c s
  | .tst t u sat a b c => Sys2Proof.Machine.execTst t u sat a b c s
  | .norm t u sat d a c => Sys2Proof.Machine.execNorm t u sat d a c s
  | .pack t u sat d a b c => Sys2Proof.Machine.execPack t u sat d a b c s
  | .rds t u sat d c => Sys2Proof.Machine.execRds t u sat d c s
  | .hadd2 t u sat d a b c => Sys2Proof.Machine.execHadd2 t u sat d a b c s
  | .hsub2 t u sat d a b c => Sys2Proof.Machine.execHsub2 t u sat d a b c s
  | .addi t u sat d a imm c => Sys2Proof.Machine.execAddi t u sat d a imm c s
  | .andi t u sat d a imm c => Sys2Proof.Machine.execAndi t u sat d a imm c s
  | .ori t u sat d a imm c => Sys2Proof.Machine.execOri t u sat d a imm c s
  | .xori t u sat d a imm c => Sys2Proof.Machine.execXori t u sat d a imm c s
  | .shli t u sat d a n c => Sys2Proof.Machine.execShli t u sat d a n c s
  | .shri t u sat d a n c => Sys2Proof.Machine.execShri t u sat d a n c s
  | .sari t u sat d a n c => Sys2Proof.Machine.execSari t u sat d a n c s
  | .rori t u sat d a n c => Sys2Proof.Machine.execRori t u sat d a n c s
  | .cmpi t u sat a imm c => Sys2Proof.Machine.execCmpi t u sat a imm c s
  | .clrs t csat covf c => Sys2Proof.Machine.execClrs t csat covf c s
  | .xmask t m c => Sys2Proof.Machine.execXmask t m c s
  | .movl t d imm c => Sys2Proof.Machine.execMovl t d imm c s
  | .movlu t d imm c => Sys2Proof.Machine.execMovlu t d imm c s
  | .movh t d imm c => Sys2Proof.Machine.execMovh t d imm c s
  | .alu2 t op c => Sys2Proof.Machine.execAlu2 t op c s
  | .ld t ag sz d pm c => Sys2Proof.Machine.execLd t ag sz d pm c s
  | .st t ag sz r pm c => Sys2Proof.Machine.execSt t ag sz r pm c s
  | .ld2 t da db pm0 pm1 c => Sys2Proof.Machine.execLd2 t da db pm0 pm1 c s
  | .ldr t d a off c => Sys2Proof.Machine.execLdr t d a off c s
  | .str t r a off c => Sys2Proof.Machine.execStr t r a off c s
  | .amodStep t ag c => Sys2Proof.Machine.execAmodStep t ag c s
  | .amodSeti t ag a c => Sys2Proof.Machine.execAmodSeti t ag a c s
  | .amodSetb t ag a c => Sys2Proof.Machine.execAmodSetb t ag a c s
  | .amodSetm t ag a c => Sys2Proof.Machine.execAmodSetm t ag a c s
  | .stm t bk base pm c => Sys2Proof.Machine.execStm t bk base pm c s
  | .ldm t bk base pm c => Sys2Proof.Machine.execLdm t bk base pm c s
  | .mfence t c => Sys2Proof.Machine.execMfence t c s
  | .sw t rx rxp rxd tx txp txs parity c => Sys2Proof.Machine.execSw t rx rxp rxd tx txp txs parity c s
  | .jmp t u cond target c => Sys2Proof.Machine.execJmp t u cond target c s
  | .call t ind a target c => Sys2Proof.Machine.execCall t ind a target c s
  | .ret t c => Sys2Proof.Machine.execRet t c s
  | .windowTrapComplete t wait => Sys2Proof.Machine.execWindowTrapComplete t wait s
  | .repeatImm t len count c => Sys2Proof.Machine.execRepeatImm t len count c s
  | .repeatReg t a stop c => Sys2Proof.Machine.execRepeatReg t a stop c s
  | .breakOp t c => Sys2Proof.Machine.execBreakOp t c s
  | .ctx t slot c => Sys2Proof.Machine.execCtx t slot c s
  | .trap t code c => Sys2Proof.Machine.execTrap t code c s
  | .scheduledSwitch c => Sys2Proof.Machine.execScheduledSwitch c s
  | .switchGuard c arm => Sys2Proof.Machine.execSwitchGuard c arm s
  | .sequencerHold t => Sys2Proof.Machine.execSequencerHold t s
  | .holdRelease t => Sys2Proof.Machine.execHoldRelease t s
  | .loadDataArrival t => Sys2Proof.Machine.execLoadDataArrival t s
  | .clusterMemoryScrub c bank w => Sys2Proof.Machine.execClusterMemoryScrub c bank w s
  | .sequencerPortTake t bank => Sys2Proof.Machine.execSequencerPortTake t bank s
  | .descriptorWrite t k j v => Sys2Proof.Machine.execDescriptorWrite t k j v s
  | .instructionWordWrite t imm j v => Sys2Proof.Machine.execInstructionWordWrite t imm j v s
  | .registerWrite src w => Sys2Proof.Machine.execRegisterWrite src w s
  | .clusterPowerGate c => Sys2Proof.Machine.execClusterPowerGate c s
  | .clusterWake c => Sys2Proof.Machine.execClusterWake c s
  | .taskArm q n => Sys2Proof.Machine.execTaskArm q n s
  | .taskCancel q n => Sys2Proof.Machine.execTaskCancel q n s
  | .taskDrain q n => Sys2Proof.Machine.execTaskDrain q n s
  | .taskAckFault q n => Sys2Proof.Machine.execTaskAckFault q n s
  | .taskUnload q n => Sys2Proof.Machine.execTaskUnload q n s
  | .taskFire q n => Sys2Proof.Machine.execTaskFire q n s
  | .triggerTime n => Sys2Proof.Machine.execTriggerTime n s
  | .triggerPeriod n => Sys2Proof.Machine.execTriggerPeriod n s
  | .triggerAngle n => Sys2Proof.Machine.execTriggerAngle n s
  | .taskDispatch c => Sys2Proof.Machine.execTaskDispatch c s
  | .startDecision n => Sys2Proof.Machine.execStartDecision n s
  | .startTick n => Sys2Proof.Machine.execStartTick n s
  | .drainComplete n => Sys2Proof.Machine.execDrainComplete n s
  | .drainTimeout n => Sys2Proof.Machine.execDrainTimeout n s
  | .inputFlush n => Sys2Proof.Machine.execInputFlush n s
  | .cancelMessage n c => Sys2Proof.Machine.execCancelMessage n c s
  | .quenchStop => Sys2Proof.Machine.execQuenchStop s
  | .clusterMapWrite q z b => Sys2Proof.Machine.execClusterMapWrite q z b s
  | .bridgeOpen q k => Sys2Proof.Machine.execBridgeOpen q k s
  | .bridgeClose q k => Sys2Proof.Machine.execBridgeClose q k s
  | .rd n p => Sys2Proof.Machine.execRd n p s
  | .wr n p => Sys2Proof.Machine.execWr n p s
  | .wrm n p => Sys2Proof.Machine.execWrm n p s
  | .swap n p => Sys2Proof.Machine.execSwap n p s
  | .fadd n p => Sys2Proof.Machine.execFadd n p s
  | .cas n p => Sys2Proof.Machine.execCas n p s
  | .qpush n p => Sys2Proof.Machine.execQpush n p s
  | .msg n p m => Sys2Proof.Machine.execMsg n p m s
  | .atomicStage n q => Sys2Proof.Machine.execAtomicStage n q s
  | .atomicCommit n p => Sys2Proof.Machine.execAtomicCommit n p s
  | .atomicAbort n p => Sys2Proof.Machine.execAtomicAbort n p s
  | .csync n p => Sys2Proof.Machine.execCsync n p s
  | .gwr f words => Sys2Proof.Machine.execGwr f words s
  | .rsp n p => Sys2Proof.Machine.execRsp n p s
  | .requestTimeout n k => Sys2Proof.Machine.execRequestTimeout n k s
  | .routerDrop r port p => Sys2Proof.Machine.execRouterDrop r port p s
  | .linkUncorrectable r p => Sys2Proof.Machine.execLinkUncorrectable r p s
  | .descriptorProducer c v => Sys2Proof.Machine.execDescriptorProducer c v s
  | .atomicDeadline n k => Sys2Proof.Machine.execAtomicDeadline n k s
  | .atomicHoldExpiry n => Sys2Proof.Machine.execAtomicHoldExpiry n s
  | .atomicApplyEdge n => Sys2Proof.Machine.execAtomicApplyEdge n s
  | .slotTableSwap => Sys2Proof.Machine.execSlotTableSwap s
  | .probeClear q k b => Sys2Proof.Machine.execProbeClear q k b s
  | .traceArchive k => Sys2Proof.Machine.execTraceArchive k s
  | .stagingHeader q k b => Sys2Proof.Machine.execStagingHeader q k b s
  | .stagingBody q k off last data => Sys2Proof.Machine.execStagingBody q k off last data s
  | .verificationComplete k => Sys2Proof.Machine.execVerificationComplete k s
  | .fromLibrary q k b => Sys2Proof.Machine.execFromLibrary q k b s
  | .prime q k b => Sys2Proof.Machine.execPrime q k b s
  | .primingComplete k => Sys2Proof.Machine.execPrimingComplete k s
  | .go q k b => Sys2Proof.Machine.execGo q k b s
  | .withdraw q k b => Sys2Proof.Machine.execWithdraw q k b s
  | .activationRound k => Sys2Proof.Machine.execActivationRound k s
  | .activationEdge k => Sys2Proof.Machine.execActivationEdge k s
  | .markWaitExpiry slot j => Sys2Proof.Machine.execMarkWaitExpiry slot j s
  | .libraryDelete q e b => Sys2Proof.Machine.execLibraryDelete q e b s
  | .fwHeader q b => Sys2Proof.Machine.execFwHeader q b s
  | .fwBody q off last data => Sys2Proof.Machine.execFwBody q off last data s
  | .fwTrial q b => Sys2Proof.Machine.execFwTrial q b s
  | .assayPass us => Sys2Proof.Machine.execAssayPass us s
  | .assayRepair t k => Sys2Proof.Machine.execAssayRepair t k s
  | .assayLate => Sys2Proof.Machine.execAssayLate s
  | .ringEnable r on => Sys2Proof.Machine.execRingEnable r on s
  | .trainingTimeout r => Sys2Proof.Machine.execTrainingTimeout r s
  | .tmarkSend r => Sys2Proof.Machine.execTmarkSend r s
  | .tmark r p portD => Sys2Proof.Machine.execTmark r p portD s
  | .timeFrame r p b good ttx epoch => Sys2Proof.Machine.execTimeFrame r p b good ttx epoch s
  | .cmark r at_ => Sys2Proof.Machine.execCmark r at_ s
  | .abt r p => Sys2Proof.Machine.execAbt r p s
  | .codeViolation r p => Sys2Proof.Machine.execCodeViolation r p s
  | .portDownDetect r p portD => Sys2Proof.Machine.execPortDownDetect r p portD s
  | .portUpDetect r p portD => Sys2Proof.Machine.execPortUpDetect r p portD s
  | .enumCount r b good at_ hops base => Sys2Proof.Machine.execEnumCount r b good at_ hops base s
  | .enumDescribe r p good => Sys2Proof.Machine.execEnumDescribe r p good s
  | .enumClose r p good => Sys2Proof.Machine.execEnumClose r p good s
  | .enumDesc r p prov good d => Sys2Proof.Machine.execEnumDesc r p prov good d s
  | .enumPortDown r p portD good => Sys2Proof.Machine.execEnumPortDown r p portD good s
  | .enumPortUp r p portD good => Sys2Proof.Machine.execEnumPortUp r p portD good s
  | .calArmU r p dst good => Sys2Proof.Machine.execCalArmU r p dst good s
  | .calArmD r p dst good => Sys2Proof.Machine.execCalArmD r p dst good s
  | .calSet r p dst good a b => Sys2Proof.Machine.execCalSet r p dst good a b s
  | .calReport r p good a b => Sys2Proof.Machine.execCalReport r p good a b s
  | .calibrationCycle r => Sys2Proof.Machine.execCalibrationCycle r s
  | .unknownFrame r p => Sys2Proof.Machine.execUnknownFrame r p s
  | .safeFrameGenerate r => Sys2Proof.Machine.execSafeFrameGenerate r s
  | .safeFrame r p good f => Sys2Proof.Machine.execSafeFrame r p good f s
  | .histDecay m => Sys2Proof.Machine.execHistDecay m s
  | .mainsPhaseUpdate m => Sys2Proof.Machine.execMainsPhaseUpdate m s
  | .deferredFrameSend m => Sys2Proof.Machine.execDeferredFrameSend m s
  | .eventRecord r zone w k => Sys2Proof.Machine.execEventRecord r zone w k s
  | .groupOpen r zone entry w k => Sys2Proof.Machine.execGroupOpen r zone entry w k s
  | .groupMember r zone entry w k => Sys2Proof.Machine.execGroupMember r zone entry w k s
  | .groupAssemblyTimeout r g => Sys2Proof.Machine.execGroupAssemblyTimeout r g s
  | .eventSend r p => Sys2Proof.Machine.execEventSend r p s
  | .eventEcho r p => Sys2Proof.Machine.execEventEcho r p s
  | .trimSend r uid => Sys2Proof.Machine.execTrimSend r uid s
  | .finalTrim r uid => Sys2Proof.Machine.execFinalTrim r uid s
  | .eventFreeze r uid => Sys2Proof.Machine.execEventFreeze r uid s
  | .eventDone r uid => Sys2Proof.Machine.execEventDone r uid s
  | .groupSend r g => Sys2Proof.Machine.execGroupSend r g s
  | .stageRetry r g => Sys2Proof.Machine.execStageRetry r g s
  | .groupDeadline r g => Sys2Proof.Machine.execGroupDeadline r g s
  | .commitRepeat r g => Sys2Proof.Machine.execCommitRepeat r g s
  | .groupHold r g => Sys2Proof.Machine.execGroupHold r g s
  | .ackFrame r p gid kind status good => Sys2Proof.Machine.execAckFrame r p gid kind status good s
  | .senseFrame r p stream fmt t0 sper samples good => Sys2Proof.Machine.execSenseFrame r p stream fmt t0 sper samples good s
  | .energyFrame r p good ecum rcount => Sys2Proof.Machine.execEnergyFrame r p good ecum rcount s
  | .mgmtRd r p dst good tag addr n => Sys2Proof.Machine.execMgmtRd r p dst good tag addr n s
  | .mgmtWr r p dst good tag addr data => Sys2Proof.Machine.execMgmtWr r p dst good tag addr data s
  | .mgmtRdRsp r p good tag addr data => Sys2Proof.Machine.execMgmtRdRsp r p good tag addr data s
  | .mgmtWrRsp r p good tag => Sys2Proof.Machine.execMgmtWrRsp r p good tag s
  | .mgmtErr r p good tag => Sys2Proof.Machine.execMgmtErr r p good tag s
  | .eventFrame r p dst good es => Sys2Proof.Machine.execEventFrame r p dst good es s
  | .stageFrame r p good gid fseq hold mask es => Sys2Proof.Machine.execStageFrame r p good gid fseq hold mask es s
  | .commitFrame r p good gid fseq mask => Sys2Proof.Machine.execCommitFrame r p good gid fseq mask s
  | .abortFrame r p good gid fseq mask => Sys2Proof.Machine.execAbortFrame r p good gid fseq mask s
  | .headHoldDiscard r p gid => Sys2Proof.Machine.execHeadHoldDiscard r p gid s
  | .headLockIn r p eid => Sys2Proof.Machine.execHeadLockIn r p eid s
  | .headFire r p ch => Sys2Proof.Machine.execHeadFire r p ch s
  | .pulseEnd r p ch => Sys2Proof.Machine.execPulseEnd r p ch s
  | .coastEntry r p => Sys2Proof.Machine.execCoastEntry r p s
  | .coastMaxExpiry r p => Sys2Proof.Machine.execCoastMaxExpiry r p s
  | .safeTimeoutExpiry r p => Sys2Proof.Machine.execSafeTimeoutExpiry r p s
  | .energyReport r p uwh => Sys2Proof.Machine.execEnergyReport r p uwh s
  | .senseSend r p stream t0 samples => Sys2Proof.Machine.execSenseSend r p stream t0 samples s
  | .headPowerUp r p d jogCapable channelRegs => Sys2Proof.Machine.execHeadPowerUp r p d jogCapable channelRegs s
  | .siOpen n b => Sys2Proof.Machine.execSiOpen n b s
  | .siDiscrepancy n => Sys2Proof.Machine.execSiDiscrepancy n s
  | .siTestpulse n b => Sys2Proof.Machine.execSiTestpulse n b s
  | .testPulse src => Sys2Proof.Machine.execTestPulse src s
  | .siResetPress n => Sys2Proof.Machine.execSiResetPress n s
  | .safetyPduIn q b => Sys2Proof.Machine.execSafetyPduIn q b s
  | .pduTimeout => Sys2Proof.Machine.execPduTimeout s
  | .mirrorCompare k parity oneCell => Sys2Proof.Machine.execMirrorCompare k parity oneCell s
  | .mirrorSkew k => Sys2Proof.Machine.execMirrorSkew k s
  | .mirrorWatch k => Sys2Proof.Machine.execMirrorWatch k s
  | .comparatorSelftest failing => Sys2Proof.Machine.execComparatorSelftest failing s
  | .qoOffTest k => Sys2Proof.Machine.execQoOffTest k s
  | .qoOffTestEnd k res => Sys2Proof.Machine.execQoOffTestEnd k res s
  | .clockCheck count => Sys2Proof.Machine.execClockCheck count s
  | .channelDisagree => Sys2Proof.Machine.execChannelDisagree s
  | .supply out => Sys2Proof.Machine.execSupply out s
  | .overtemp temp => Sys2Proof.Machine.execOvertemp temp s
  | .qoscStop a b => Sys2Proof.Machine.execQoscStop a b s
  | .quenchRequest q b => Sys2Proof.Machine.execQuenchRequest q b s
  | .safeReadbackTimeout r b wrong => Sys2Proof.Machine.execSafeReadbackTimeout r b wrong s
  | .clientHello conn cookie peer en => Sys2Proof.Machine.execClientHello conn cookie peer en s
  | .handshakeComplete conn key => Sys2Proof.Machine.execHandshakeComplete conn key s
  | .handshakeLimit conn => Sys2Proof.Machine.execHandshakeLimit conn s
  | .dtlsFatalAlert conn => Sys2Proof.Machine.execDtlsFatalAlert conn s
  | .openSession conn role keepAlive name => Sys2Proof.Machine.execOpenSession conn role keepAlive name s
  | .closeSession q => Sys2Proof.Machine.execCloseSession q s
  | .ping q => Sys2Proof.Machine.execPing q s
  | .read q key next => Sys2Proof.Machine.execRead q key next s
  | .write q key b => Sys2Proof.Machine.execWrite q key b s
  | .segRead q key off len => Sys2Proof.Machine.execSegRead q key off len s
  | .segWrite q key off last data => Sys2Proof.Machine.execSegWrite q key off last data s
  | .snapshotExpiry n key => Sys2Proof.Machine.execSnapshotExpiry n key s
  | .keepaliveLapse n => Sys2Proof.Machine.execKeepaliveLapse n s
  | .leaseTake q l => Sys2Proof.Machine.execLeaseTake q l s
  | .leaseRelease q l => Sys2Proof.Machine.execLeaseRelease q l s
  | .leaseFence q l => Sys2Proof.Machine.execLeaseFence q l s
  | .physicalAckBegin byFuse => Sys2Proof.Machine.execPhysicalAckBegin byFuse s
  | .physicalAckDone byFuse held => Sys2Proof.Machine.execPhysicalAckDone byFuse held s
  | .physAckWindowExpiry l => Sys2Proof.Machine.execPhysAckWindowExpiry l s
  | .applyCommand q b => Sys2Proof.Machine.execApplyCommand q b s
  | .applyRound j => Sys2Proof.Machine.execApplyRound j s
  | .applyEdge j => Sys2Proof.Machine.execApplyEdge j s
  | .applyInforce j => Sys2Proof.Machine.execApplyInforce j s
  | .pendingDiscard q b => Sys2Proof.Machine.execPendingDiscard q b s
  | .restoreDefaults q b => Sys2Proof.Machine.execRestoreDefaults q b s
  | .imageClaim q imm b => Sys2Proof.Machine.execImageClaim q imm b s
  | .imageEnable q imm b => Sys2Proof.Machine.execImageEnable q imm b s
  | .deviceBoundImage imm n gen seq cycle payload tagOk => Sys2Proof.Machine.execDeviceBoundImage imm n gen seq cycle payload tagOk s
  | .imageBoundary imm => Sys2Proof.Machine.execImageBoundary imm s
  | .hostBoundSend imm => Sys2Proof.Machine.execHostBoundSend imm s
  | .piWatchdog imm => Sys2Proof.Machine.execPiWatchdog imm s
  | .fuseProgram q b e => Sys2Proof.Machine.execFuseProgram q b e s
  | .fcRead a => Sys2Proof.Machine.execFcRead a s
  | .fcMarginRead a clearA clearB => Sys2Proof.Machine.execFcMarginRead a clearA clearB s
  | .fcScan weak => Sys2Proof.Machine.execFcScan weak s
  | .fuseProgramComplete fails pulses stop e => Sys2Proof.Machine.execFuseProgramComplete fails pulses stop e s
  | .fwSvnFloor q b e => Sys2Proof.Machine.execFwSvnFloor q b e s
  | .machineIdent q b e => Sys2Proof.Machine.execMachineIdent q b e s
  | .storeScrub corrected lost => Sys2Proof.Machine.execStoreScrub corrected lost s
  | .storeRefresh => Sys2Proof.Machine.execStoreRefresh s
  | .homeRecordWrite key => Sys2Proof.Machine.execHomeRecordWrite key s
  | .s0Pulse m active inactive => Sys2Proof.Machine.execS0Pulse m active inactive s
  | .s0Silence m => Sys2Proof.Machine.execS0Silence m s
  | .s0LoopShort m current => Sys2Proof.Machine.execS0LoopShort m current s
  | .deviceEnergySample va ia vb ib => Sys2Proof.Machine.execDeviceEnergySample va ia vb ib s
  | .demandBoundary => Sys2Proof.Machine.execDemandBoundary s
  | .tariffPush q b => Sys2Proof.Machine.execTariffPush q b s
  | .billingClose q b => Sys2Proof.Machine.execBillingClose q b s
  | .counterJournal => Sys2Proof.Machine.execCounterJournal s
  | .forecast => Sys2Proof.Machine.execForecast s
  | .provisionalMax => Sys2Proof.Machine.execProvisionalMax s
  | .feedStable f events => Sys2Proof.Machine.execFeedStable f events s
  | .feedLost f => Sys2Proof.Machine.execFeedLost f s
  | .feedAbsent f => Sys2Proof.Machine.execFeedAbsent f s
  | .dip => Sys2Proof.Machine.execDip s
  | .shedDecision => Sys2Proof.Machine.execShedDecision s
  | .powerHold => Sys2Proof.Machine.execPowerHold s
  | .thermalHold temps => Sys2Proof.Machine.execThermalHold temps s
  | .thermalRelease temps => Sys2Proof.Machine.execThermalRelease temps s
  | .overtempHalt temps => Sys2Proof.Machine.execOvertempHalt temps s
  | .lifeSample temps => Sys2Proof.Machine.execLifeSample temps s
  | .vkeepLow mv => Sys2Proof.Machine.execVkeepLow mv s
  | .brownoutHoldExpiry => Sys2Proof.Machine.execBrownoutHoldExpiry s
  | .hostTransfer q bus b => Sys2Proof.Machine.execHostTransfer q bus b s
  | .twWrite bus addrAck acked corrupt => Sys2Proof.Machine.execTwWrite bus addrAck acked corrupt s
  | .twRead bus addrAck data corrupt => Sys2Proof.Machine.execTwRead bus addrAck data corrupt s
  | .twWriteRead bus nack data corrupt => Sys2Proof.Machine.execTwWriteRead bus nack data corrupt s
  | .twRequest bus low => Sys2Proof.Machine.execTwRequest bus low s
  | .pollPeriod bus => Sys2Proof.Machine.execPollPeriod bus s
  | .pollRound bus reads again => Sys2Proof.Machine.execPollRound bus reads again s
  | .stretchTimeout bus => Sys2Proof.Machine.execStretchTimeout bus s
  | .twBusFault bus => Sys2Proof.Machine.execTwBusFault bus s
  | .twFaultExit bus => Sys2Proof.Machine.execTwFaultExit bus s
  | .stuckSda bus inProgress => Sys2Proof.Machine.execStuckSda bus inProgress s
  | .busRecovery bus sdaHigh => Sys2Proof.Machine.execBusRecovery bus sdaHigh s
  | .twtWrite data => Sys2Proof.Machine.execTwtWrite data s
  | .twtRead n => Sys2Proof.Machine.execTwtRead n s
  | .twtRequest q b => Sys2Proof.Machine.execTwtRequest q b s
  | .twtRequestRepeat => Sys2Proof.Machine.execTwtRequestRepeat s
  | .dioTransition y level sub => Sys2Proof.Machine.execDioTransition y level sub s
  | .dioFilterAccept y => Sys2Proof.Machine.execDioFilterAccept y s
  | .outLevel q y b => Sys2Proof.Machine.execOutLevel q y b s
  | .scheduleEdge q y b => Sys2Proof.Machine.execScheduleEdge q y b s
  | .streamOutToken y => Sys2Proof.Machine.execStreamOutToken y s
  | .scheduledEdgePlace y => Sys2Proof.Machine.execScheduledEdgePlace y s
  | .siClosed n b => Sys2Proof.Machine.execSiClosed n b s
  | .ethernetLink p mode => Sys2Proof.Machine.execEthernetLink p mode s
  | .ringEndDown r b => Sys2Proof.Machine.execRingEndDown r b s
  | .tmarkLoss r => Sys2Proof.Machine.execTmarkLoss r s
  | .gafferCodeUe addr => Sys2Proof.Machine.execGafferCodeUe addr s
  | .brownoutWindow => Sys2Proof.Machine.execBrownoutWindow s

end Sys2Proof.Machine
end

