-- ==== Sys2Proof/WellFormed.lean ====
section
/-!
DEFINITION. Which commands the part can be given: the slot of a tile command obeys the field rules of its own
form, and what a command carries as octets holds octets. Every other operand is in range by its type.
-/

namespace Sys2Proof

/-- The field rules of a MAC form (04 R145, R150, R151). -/
def MacOp.legal : MacOp → Bool
  | .mul m _ _ _ cj _ _ => m == .cmac || !cj
  | .extH _ r _ _ _ _ | .extW _ r _ _ _ | .extC _ r _ _ => r != 3
  | .lda _ _ im both _ => !(im && both)
  | .aclr re im => re || im
  | .nop | .asum _ => true

/-- The field rules of an ALU form (04 R145, R152, R153). -/
def AluOp.legal : AluOp → Bool
  | .reg op _ _ d a b => aluRegFieldsOk op d a b
  | .imm op u s d a i => aluImmFieldsOk op u s d a i
  | .nop | .mask _ | .const _ _ _ => true

/-- The field rules of a memory form (04 R145, R155, R156). -/
def MemOp.legal : MemOp → Bool
  | .amod _ .step a => a == 0
  | .stm bk base _ | .ldm bk base _ => bk || field base 1 3 == 0
  | _ => true

/-- What ALU2 may carry (04 R154). -/
def Alu2Op.legal : Alu2Op → Bool
  | .reg op _ d a b => aluRegFieldsOk op d a b
  | .imm op _ _ _ _ => op == .shli || op == .shri || op == .sari || op == .rori

/-- The field rules of a flow/switch form (04 R145, R154, R157, R159). -/
def FlowOp.legal : FlowOp → Bool
  | .sw rx rxp rxd tx txp txs =>
    (rx || tx) && (rx || (rxp == 0 && rxd == 0)) && (tx || (txp == 0 && txs == 0))
  | .alu2Reg op s d a b => (Alu2Op.reg op s d a b).legal
  | .alu2Imm op s d a n => (Alu2Op.imm op s d a n).legal
  | .jmp u cond _ => !u || (cond != 0 && cond != 15)
  | .call ind a target => if ind then target == 0 else a == 0
  | _ => true

/-- Every slot of a word obeys the field rules of its form. -/
def TileWord.legal (w : TileWord) : Bool := w.mac.legal && w.alu.legal && w.mem.legal && w.flow.legal

/-- The register of a 64-bit access is even (04 R155). -/
def evenFor (sz : MemSize) (d : Reg) : Bool := sz != .d || !d.getLsbD 0

/-- Every element is an octet. -/
def octets (b : List Nat) : Bool := b.all (fun x => decide (x < 256))

/-- A command the part can be given. -/
def Instr.wellFormed : Instr → Bool
  | .powerOn _ | .resetRelease _ _ _ _ | .imageSelection | .gafferFirmwareStart _ _ _ | .opcommandRun _
  | .opcommandService _ | .opcommandSleep _ | .opcommandReset _ | .opcommandGafferRestart _ | .nresetLow _
  | .gafferWatchdogExpiry | .watchdogCountClear | .trialConfirm | .holdupExhausted _ => true
  | .wakeFrame _ b => octets b
  | .wakePin | .ptpSyncSample _ _ _ _ | .syncTimeout | .announceTimeout | .announce _ _ | .ptpForward _ _ _
  | .holdoverQualityExpiry | .holdoverMaxExpiry | .journalTime | .frequencySave | .encoderEdge _ _ _ _
  | .zEdge _ _ | .angleGridUpdate _ _ _ | .signalLoss _ | .stopTimeExpiry _ => true
  | .angleFaultAck _ b => octets b
  | .courseMarkFix | .courseMark | .firingResidual _ _ | .nop _ => true
  | .cmac _ f sat cj a b _ => (MacOp.mul .cmac .acc f sat cj a b).legal
  | .cmsb _ f sat cj a b _ => (MacOp.mul .cmac .sub f sat cj a b).legal
  | .cmul _ f sat cj a b _ => (MacOp.mul .cmac .mul f sat cj a b).legal
  | .dmac _ _ _ _ _ _ | .dmsb _ _ _ _ _ _ | .dmul _ _ _ _ _ _ | .wmac _ _ _ _ _ _ | .wmsb _ _ _ _ _ _
  | .wmul _ _ _ _ _ _ => true
  | .extH _ sat rnd n im hi d _ => (MacOp.extH sat rnd n im hi d).legal
  | .extW _ sat rnd n im d _ => (MacOp.extW sat rnd n im d).legal
  | .extC _ sat rnd n d _ => (MacOp.extC sat rnd n d).legal
  | .lda _ sat n im both a _ => (MacOp.lda sat n im both a).legal
  | .aclr _ re im _ => (MacOp.aclr re im).legal
  | .asum _ _ _ | .add _ _ _ _ _ _ _ | .sub _ _ _ _ _ _ _ | .addu _ _ _ _ _ _ _ | .subu _ _ _ _ _ _ _
  | .add2 _ _ _ _ _ _ _ | .sub2 _ _ _ _ _ _ _ | .neg _ _ _ _ _ _ | .abs _ _ _ _ _ _ | .min _ _ _ _ _ _ _
  | .max _ _ _ _ _ _ _ | .and _ _ _ _ _ _ _ | .or _ _ _ _ _ _ _ | .xor _ _ _ _ _ _ _ | .andn _ _ _ _ _ _ _
  | .mov _ _ _ _ _ _ | .shl _ _ _ _ _ _ _ | .shr _ _ _ _ _ _ _ | .sar _ _ _ _ _ _ _ | .ror _ _ _ _ _ _ _
  | .cmp _ _ _ _ _ _ | .tst _ _ _ _ _ _ | .norm _ _ _ _ _ _ | .pack _ _ _ _ _ _ _ | .rds _ _ _ _ _
  | .hadd2 _ _ _ _ _ _ _ | .hsub2 _ _ _ _ _ _ _ | .addi _ _ _ _ _ _ _ | .andi _ _ _ _ _ _ _
  | .ori _ _ _ _ _ _ _ | .xori _ _ _ _ _ _ _ | .shli _ _ _ _ _ _ _ | .shri _ _ _ _ _ _ _
  | .sari _ _ _ _ _ _ _ | .rori _ _ _ _ _ _ _ | .cmpi _ _ _ _ _ _ | .clrs _ _ _ _ | .xmask _ _ _
  | .movl _ _ _ _ | .movlu _ _ _ _ | .movh _ _ _ _ => true
  | .alu2 _ op _ => op.legal
  | .ld _ _ sz d _ _ => evenFor sz d
  | .st _ _ sz r _ _ => evenFor sz r
  | .ld2 _ _ _ _ _ _ | .ldr _ _ _ _ _ | .str _ _ _ _ _ | .amodStep _ _ _ | .amodSeti _ _ _ _
  | .amodSetb _ _ _ _ | .amodSetm _ _ _ _ => true
  | .stm _ bk base pm _ => (MemOp.stm bk base pm).legal
  | .ldm _ bk base pm _ => (MemOp.ldm bk base pm).legal
  | .mfence _ _ => true
  | .sw _ rx rxp rxd tx txp txs _ _ => (FlowOp.sw rx rxp rxd tx txp txs).legal
  | .jmp _ u cond target _ => (FlowOp.jmp u cond target).legal
  | .call _ ind a target _ => (FlowOp.call ind a target).legal
  | .ret _ _ | .windowTrapComplete _ _ | .repeatImm _ _ _ _ | .repeatReg _ _ _ _ | .breakOp _ _ | .ctx _ _ _
  | .trap _ _ _ | .scheduledSwitch _ | .switchGuard _ _ | .sequencerHold _ | .holdRelease _
  | .loadDataArrival _ | .clusterMemoryScrub _ _ _ | .sequencerPortTake _ _ | .descriptorWrite _ _ _ _
  | .instructionWordWrite _ _ _ _ | .registerWrite _ _ | .clusterPowerGate _ | .clusterWake _ | .taskArm _ _
  | .taskCancel _ _ | .taskDrain _ _ | .taskAckFault _ _ | .taskUnload _ _ | .taskFire _ _ | .triggerTime _
  | .triggerPeriod _ | .triggerAngle _ | .taskDispatch _ | .startDecision _ | .startTick _ | .drainComplete _
  | .drainTimeout _ | .inputFlush _ | .cancelMessage _ _ | .quenchStop => true
  | .clusterMapWrite _ _ b => octets b
  | .bridgeOpen _ _ | .bridgeClose _ _ | .rd _ _ | .wr _ _ | .wrm _ _ | .swap _ _ | .fadd _ _ | .cas _ _
  | .qpush _ _ | .msg _ _ _ | .atomicStage _ _ | .atomicCommit _ _ | .atomicAbort _ _ | .csync _ _ | .gwr _ _
  | .rsp _ _ | .requestTimeout _ _ | .routerDrop _ _ _ | .linkUncorrectable _ _ | .descriptorProducer _ _
  | .atomicDeadline _ _ | .atomicHoldExpiry _ | .atomicApplyEdge _ | .slotTableSwap => true
  | .probeClear _ _ b => octets b
  | .traceArchive _ => true
  | .stagingHeader _ _ b => octets b
  | .stagingBody _ _ _ _ data => octets data
  | .verificationComplete _ => true
  | .fromLibrary _ _ b => octets b
  | .prime _ _ b => octets b
  | .primingComplete _ => true
  | .go _ _ b => octets b
  | .withdraw _ _ b => octets b
  | .activationRound _ | .activationEdge _ | .markWaitExpiry _ _ => true
  | .libraryDelete _ _ b => octets b
  | .fwHeader _ b => octets b
  | .fwBody _ _ _ data => octets data
  | .fwTrial _ b => octets b
  | .assayPass _ | .assayRepair _ _ | .assayLate | .ringEnable _ _ | .trainingTimeout _ | .tmarkSend _
  | .tmark _ _ _ | .timeFrame _ _ _ _ _ _ | .cmark _ _ | .abt _ _ | .codeViolation _ _
  | .portDownDetect _ _ _ | .portUpDetect _ _ _ | .enumCount _ _ _ _ _ _ | .enumDescribe _ _ _
  | .enumClose _ _ _ | .enumDesc _ _ _ _ _ | .enumPortDown _ _ _ _ | .enumPortUp _ _ _ _ | .calArmU _ _ _ _
  | .calArmD _ _ _ _ | .calSet _ _ _ _ _ _ | .calReport _ _ _ _ _ | .calibrationCycle _ | .unknownFrame _ _
  | .safeFrameGenerate _ | .safeFrame _ _ _ _ | .histDecay _ | .mainsPhaseUpdate _ | .deferredFrameSend _
  | .eventRecord _ _ _ _ | .groupOpen _ _ _ _ _ | .groupMember _ _ _ _ _ | .groupAssemblyTimeout _ _
  | .eventSend _ _ | .eventEcho _ _ | .trimSend _ _ | .finalTrim _ _ | .eventFreeze _ _ | .eventDone _ _
  | .groupSend _ _ | .stageRetry _ _ | .groupDeadline _ _ | .commitRepeat _ _ | .groupHold _ _
  | .ackFrame _ _ _ _ _ _ | .senseFrame _ _ _ _ _ _ _ _ | .energyFrame _ _ _ _ _ | .mgmtRd _ _ _ _ _ _ _
  | .mgmtWr _ _ _ _ _ _ _ | .mgmtRdRsp _ _ _ _ _ _ | .mgmtWrRsp _ _ _ _ | .mgmtErr _ _ _ _
  | .eventFrame _ _ _ _ _ | .stageFrame _ _ _ _ _ _ _ _ | .commitFrame _ _ _ _ _ _ | .abortFrame _ _ _ _ _ _
  | .headHoldDiscard _ _ _ | .headLockIn _ _ _ | .headFire _ _ _ | .pulseEnd _ _ _ | .coastEntry _ _
  | .coastMaxExpiry _ _ | .safeTimeoutExpiry _ _ | .energyReport _ _ _ | .senseSend _ _ _ _ _
  | .headPowerUp _ _ _ _ _ | .siOpen _ _ | .siDiscrepancy _ | .siTestpulse _ _ | .testPulse _
  | .siResetPress _ => true
  | .safetyPduIn _ b => octets b
  | .pduTimeout | .mirrorCompare _ _ _ | .mirrorSkew _ | .mirrorWatch _ | .comparatorSelftest _
  | .qoOffTest _ | .qoOffTestEnd _ _ | .clockCheck _ | .channelDisagree | .supply _ | .overtemp _
  | .qoscStop _ _ => true
  | .quenchRequest _ b => octets b
  | .safeReadbackTimeout _ _ _ | .clientHello _ _ _ _ => true
  | .handshakeComplete _ key => octets key
  | .handshakeLimit _ | .dtlsFatalAlert _ => true
  | .openSession _ _ _ name => octets name
  | .closeSession _ | .ping _ | .read _ _ _ => true
  | .write _ _ b => octets b
  | .segRead _ _ _ _ => true
  | .segWrite _ _ _ _ data => octets data
  | .snapshotExpiry _ _ | .keepaliveLapse _ | .leaseTake _ _ | .leaseRelease _ _ | .leaseFence _ _
  | .physicalAckBegin _ | .physicalAckDone _ _ | .physAckWindowExpiry _ => true
  | .applyCommand _ b => octets b
  | .applyRound _ | .applyEdge _ | .applyInforce _ => true
  | .pendingDiscard _ b => octets b
  | .restoreDefaults _ b => octets b
  | .imageClaim _ _ b => octets b
  | .imageEnable _ _ b => octets b
  | .deviceBoundImage _ _ _ _ _ payload _ => octets payload
  | .imageBoundary _ | .hostBoundSend _ | .piWatchdog _ => true
  | .fuseProgram _ b _ => octets b
  | .fcRead _ | .fcMarginRead _ _ _ | .fcScan _ | .fuseProgramComplete _ _ _ _ => true
  | .fwSvnFloor _ b _ => octets b
  | .machineIdent _ b _ => octets b
  | .storeScrub _ _ | .storeRefresh | .homeRecordWrite _ | .s0Pulse _ _ _ | .s0Silence _ | .s0LoopShort _ _
  | .deviceEnergySample _ _ _ _ | .demandBoundary => true
  | .tariffPush _ b => octets b
  | .billingClose _ b => octets b
  | .counterJournal | .forecast | .provisionalMax | .feedStable _ _ | .feedLost _ | .feedAbsent _ | .dip
  | .shedDecision | .powerHold | .thermalHold _ | .thermalRelease _ | .overtempHalt _ | .lifeSample _
  | .vkeepLow _ | .brownoutHoldExpiry => true
  | .hostTransfer _ _ b => octets b
  | .twWrite _ _ _ _ | .twRead _ _ _ _ | .twWriteRead _ _ _ _ | .twRequest _ _ | .pollPeriod _
  | .pollRound _ _ _ | .stretchTimeout _ | .twBusFault _ | .twFaultExit _ | .stuckSda _ _ | .busRecovery _ _
  | .twtWrite _ | .twtRead _ => true
  | .twtRequest _ b => octets b
  | .twtRequestRepeat | .dioTransition _ _ _ | .dioFilterAccept _ => true
  | .outLevel _ _ b => octets b
  | .scheduleEdge _ _ b => octets b
  | .streamOutToken _ | .scheduledEdgePlace _ | .siClosed _ _ | .ethernetLink _ _ | .ringEndDown _ _
  | .tmarkLoss _ | .gafferCodeUe _ | .brownoutWindow => true

end Sys2Proof
end

