-- ==== Sys2Proof/Safety.lean ====
section
/-!
DEFINITION. The terms that statements about runs are made in: when a tile is ready to issue, what an
instruction's completion leaves, and what a request of a session finds and leaves.
-/

namespace Sys2Proof.Machine

/-! ### Tiles -/

/-- Tile `t` issues the word given to it: it runs a context other than 15 in a cluster that has power, nothing
holds it, its PC lies in its code region and reads without error, and no cluster load is in flight
(03 R115, R130, R136 to R138, 04 R145 to R148). -/
abbrev State.ready (s : State) (t : Nat) : Prop :=
  (s.tile t).ctx ≠ 15 ∧ (s.cluster (tileCluster t)).gated = false ∧ s.standing t = false ∧
    (s.tile t).inCode (s.tile t).pc.toNat = true ∧ (s.tile t).pc.toNat ∉ (s.tile t).imemUe ∧
    (s.tile t).loads = []

/-- A tile whose PC is not at the END of its top repeat entry. -/
abbrev State.offEnd (s : State) (t : Nat) : Prop := (s.tile t).topRep.all (fun e => decide (e.stop ≠ (s.tile t).pc)) = true

/-- `u` differs from `s` in tile `t` alone. -/
def State.onlyTile (s u : State) (t : Nat) : Prop :=
  u = { s with array := { s.array with tiles := u.array.tiles } } ∧ ∀ k, k ≠ t → u.tile k = s.tile k

/-- Registers `r` of window `w` after the listed writes to the current window, later ones winning. -/
def Tile.regAfter (x : Tile) (l : List (Nat × Word)) (w r : Nat) : Word :=
  if w = x.cwp.toNat then l.foldl (fun v p => if p.1 = r then p.2 else v) (x.reg w r) else x.reg w r

/-- Command `c` is issued by tile `t` and completes: a next state, in which tile `t` alone differs: the listed
registers of its current window are written and no other, its accumulators there are `re` and `im`, its
status is `st`, its AGUs are `g0` and `g1`, the PC goes on in order, and everything else of the tile that an
instruction can reach stands (04 R144, R146). -/
def State.completes (s : State) (t : Nat) (c : Instr) (regs : List (Nat × Word)) (re im : BitVec 40)
    (st : TileStatus) (g0 g1 : Agu) : Prop :=
  let x := s.tile t
  ∃ u, exec c s = .next u ∧ s.onlyTile u t ∧
    (∀ w r, (u.tile t).reg w r = x.regAfter regs w r) ∧
    (∀ w, (u.tile t).window w =
      { (x.window w) with
        d := ((u.tile t).window w).d
        accRe := if w = x.cwp.toNat then re else (x.window w).accRe
        accIm := if w = x.cwp.toNat then im else (x.window w).accIm }) ∧
    (u.tile t).pc = (repAdvance x.pc x.frames x.rep).1 ∧ (u.tile t).rep = (repAdvance x.pc x.frames x.rep).2 ∧
    u.tile t = { x with win := (u.tile t).win, pc := (u.tile t).pc, rep := (u.tile t).rep, status := st
                        agu0 := g0, agu1 := g1, cyc := (u.tile t).cyc, busyBank := (u.tile t).busyBank
                        refused := (u.tile t).refused, eccn := (u.tile t).eccn, eccSat := (u.tile t).eccSat
                        rxHeld := none, trapping := none }

/-- The completion of an ALU form: at most one register written, the flags of the ALU that U names, sticky
bits added (03 R99 to R101). -/
def State.aluDoes (s : State) (t : Nat) (c : Instr) (u : Bool) (reg : List (Nat × Word)) (f : AluFlags)
    (sat ovf : Bool) : Prop :=
  let x := s.tile t
  s.completes t c reg (x.window x.cwp.toNat).accRe (x.window x.cwp.toNat).accIm
    { x.status with a := if u then x.status.a else f, b := if u then f else x.status.b
                    sat := x.status.sat || sat, ovf := x.status.ovf || ovf } x.agu0 x.agu1

/-- The completion of a MAC form: the accumulators, MV, at most one register, sticky bits added
(03 R96, R97). -/
def State.macDoes (s : State) (t : Nat) (c : Instr) (reg : List (Nat × Word)) (re im : BitVec 40) (mv sat ovf : Bool) :
    Prop :=
  let x := s.tile t
  s.completes t c reg re im
    { x.status with mv := mv, sat := x.status.sat || sat, ovf := x.status.ovf || ovf } x.agu0 x.agu1

/-- Tile `t` can read or write `n` bytes at `a` of its own memory: aligned, inside, and no word of them with an
uncorrectable error (03 R106, R108, R109). -/
abbrev State.ownAccess (s : State) (t a n : Nat) : Prop :=
  a % n = 0 ∧ a < 0x4000 ∧ (upsetsIn (s.tile t).upsets (a / 4) ((a + n - 1) / 4 - a / 4 + 1)).1 = false

/-- Tile `t` can read or write `n` bytes at `a` of its cluster's memory, outside the spill regions
(03 R93, R106, R109, R116). -/
abbrev State.sharedAccess (s : State) (t a n : Nat) : Prop :=
  a % n = 0 ∧ 0x40000 ≤ a ∧ a < 0x80000 ∧ a % 0x10000 < 0xF000 ∧
    (upsetsIn (s.cluster (tileCluster t)).upsets ((a - 0x40000) / 8) ((a - 0x40000 + n - 1) / 8 - (a - 0x40000) / 8 + 1)).1 = false

/-- Command `c` stores the `n` low bytes of `v` at data address `a` of tile `t`: those bytes change and no other
byte of any memory, every register stands, and the AGUs are `g0` and `g1` (03 R106 to R109, 04 R146). -/
def State.stores (s : State) (t : Nat) (c : Instr) (a n v : Nat) (g0 g1 : Agu) : Prop :=
  let x := s.tile t
  ∃ u, exec c s = .next u ∧
    u = { s with array := { s.array with tiles := u.array.tiles, clusters := u.array.clusters } } ∧
    (∀ k, k ≠ t → u.tile k = s.tile k) ∧ (∀ k, k ≠ tileCluster t → u.cluster k = s.cluster k) ∧
    u.cluster (tileCluster t) = { s.cluster (tileCluster t) with
      mem := (u.cluster (tileCluster t)).mem, upsets := (u.cluster (tileCluster t)).upsets } ∧
    (∀ j, tget 0 (u.tile t).mem j =
      if a < 0x4000 ∧ a ≤ j ∧ j < a + n then BitVec.ofNat 8 (v / 256 ^ (j - a)) else tget 0 x.mem j) ∧
    (∀ j, tget 0 (u.cluster (tileCluster t)).mem j =
      if 0x40000 ≤ a ∧ a - 0x40000 ≤ j ∧ j < a - 0x40000 + n then BitVec.ofNat 8 (v / 256 ^ (j - (a - 0x40000)))
      else tget 0 (s.cluster (tileCluster t)).mem j) ∧
    (∀ w, (u.tile t).window w = x.window w) ∧
    (u.tile t).pc = (repAdvance x.pc x.frames x.rep).1 ∧ (u.tile t).rep = (repAdvance x.pc x.frames x.rep).2 ∧
    u.tile t = { x with win := (u.tile t).win, pc := (u.tile t).pc, rep := (u.tile t).rep, mem := (u.tile t).mem
                        upsets := (u.tile t).upsets, agu0 := g0, agu1 := g1, cyc := (u.tile t).cyc
                        busyBank := (u.tile t).busyBank, refused := (u.tile t).refused, eccn := (u.tile t).eccn
                        eccSat := (u.tile t).eccSat, rxHeld := none, trapping := none }

/-- Command `c` issues a load of cluster memory: the listed data is in flight for the current window, no register
has changed yet, and the PC goes on in order (03 R110, 04 R147). -/
def State.fetches (s : State) (t : Nat) (c : Instr) (regs : List (Nat × Word)) (g0 g1 : Agu) : Prop :=
  let x := s.tile t
  ∃ u, exec c s = .next u ∧ s.onlyTile u t ∧ (∀ w, (u.tile t).window w = x.window w) ∧
    (u.tile t).pc = (repAdvance x.pc x.frames x.rep).1 ∧ (u.tile t).rep = (repAdvance x.pc x.frames x.rep).2 ∧
    u.tile t = { x with win := (u.tile t).win, pc := (u.tile t).pc, rep := (u.tile t).rep
                        loads := [⟨x.cwp.toNat, regs⟩], agu0 := g0, agu1 := g1, cyc := (u.tile t).cyc
                        busyBank := (u.tile t).busyBank, refused := (u.tile t).refused, eccn := (u.tile t).eccn
                        eccSat := (u.tile t).eccSat, rxHeld := none, trapping := none }

/-- What a load of size `sz` of the value `v` puts into registers (04 R155). -/
def loaded (sz : MemSize) (d : Reg) (v : Nat) : List (Nat × Word) :=
  match sz with
  | .h => [(d.toNat, (BitVec.ofNat 16 v).signExtend 32)]
  | .w => [(d.toNat, BitVec.ofNat 32 v)]
  | .d => [(d.toNat, BitVec.ofNat 32 v), (d.toNat + 1, BitVec.ofNat 32 (v / 2 ^ 32))]

/-- What a store of size `sz` from register `r` writes (04 R155). -/
def toStore (x : Tile) (sz : MemSize) (r : Reg) : Nat :=
  match sz with
  | .h => (x.rd r).toNat % 2 ^ 16
  | .w => (x.rd r).toNat
  | .d => (x.rd r).toNat + 2 ^ 32 * (x.rd (r + 1)).toNat

/-- Command `c` moves tile `t` to `pc` with repeat stack `rep`, and changes no register, no memory and no other tile
(03 R124 to R127, R130). -/
def State.goesTo (s : State) (t : Nat) (c : Instr) (pc : BitVec 9) (rep : List RepEntry) : Prop :=
  let x := s.tile t
  ∃ u, exec c s = .next u ∧ s.onlyTile u t ∧ (∀ w, (u.tile t).window w = x.window w) ∧
    u.tile t = { x with win := (u.tile t).win, pc := pc, rep := rep, cyc := (u.tile t).cyc
                        busyBank := (u.tile t).busyBank, refused := (u.tile t).refused, eccn := (u.tile t).eccn
                        eccSat := (u.tile t).eccSat, rxHeld := none, trapping := none }

/-- Command `c` moves tile `t` to `pc` in window `cwp` with `frames` frames, `res` of them resident: the listed
registers of that window are written and its LNK is `lnk`, and nothing else of the machine changes (03 R111,
R112). -/
def State.movesFrame (s : State) (t : Nat) (c : Instr) (pc : BitVec 9) (cwp : BitVec 2) (frames res : Nat)
    (regs : List (Nat × Word)) (lnk : BitVec 9) : Prop :=
  let x := s.tile t
  ∃ u, exec c s = .next u ∧ s.onlyTile u t ∧
    (∀ w r, (u.tile t).reg w r = ({ x with cwp := cwp }).regAfter regs w r) ∧
    (∀ w, (u.tile t).window w =
      { (x.window w) with d := ((u.tile t).window w).d, lnk := if w = cwp.toNat then lnk else (x.window w).lnk }) ∧
    u.tile t = { x with win := (u.tile t).win, pc := pc, cwp := cwp, frames := frames, res := res
                        cyc := (u.tile t).cyc, busyBank := (u.tile t).busyBank, refused := (u.tile t).refused
                        eccn := (u.tile t).eccn, eccSat := (u.tile t).eccSat, rxHeld := none, trapping := none }

/-- Tile `y` is tile `x` just entered into slot `k`: the slot's entry, window and AGUs, one frame, an empty repeat
stack, no progress, SAT and OVF clear; registers and memories stand (03 R118, R131). -/
def Tile.enteredFrom (y x : Tile) (k : Nat) (r : CtxReason) : Prop :=
  y.ctx = k ∧ y.prev = x.ctx ∧ y.reason = r ∧ y.pc = (x.descWord k 0).extractLsb' 0 9 ∧
    y.cwp = (x.descWord k 0).extractLsb' 27 2 ∧ y.frames = 1 ∧ y.res = 1 ∧ y.rep = [] ∧ y.mprog = {} ∧
    y.status.sat = false ∧ y.status.ovf = false ∧ y.agu0.idx = 0 ∧ y.agu1.idx = 0 ∧
    y.agu0.base = (x.descWord k 2).extractLsb' 0 20 ∧ y.agu1.base = (x.descWord k 4).extractLsb' 0 20 ∧
    y.swcnt = x.swcnt + 1 ∧ (∀ w, y.window w = x.window w) ∧ y.mem = x.mem ∧ y.desc = x.desc ∧ y.imem = x.imem

/-- No token stands in any lane or waits at a pin (05 R162). -/
def State.lanesEmpty (s : State) : Bool :=
  s.array.tiles.all (fun p => p.2.inbuf.isEmpty) && s.io.dio.all (fun p => p.2.tokens.isEmpty)

/-- The flags of the ALU that U names. -/
abbrev Tile.flags (x : Tile) (u : Bool) : AluFlags := if u then x.status.b else x.status.a

/-- An exact result lies outside the signed numbers of `w` bits (03 R99). -/
def outside (w : Nat) (e : Int) : Bool := decide (e < -(2 : Int) ^ (w - 1) ∨ (2 : Int) ^ (w - 1) - 1 < e)

/-- An exact signed result in `w` bits: held to the range with S set, its low bits otherwise (03 R99). -/
def narrow (w : Nat) (s : Bool) (e : Int) : BitVec w :=
  BitVec.ofInt w (if s then max (-(2 : Int) ^ (w - 1)) (min ((2 : Int) ^ (w - 1) - 1) e) else e)

/-- An exact unsigned result in 32 bits (03 R99). -/
def narrowU (s : Bool) (e : Int) : Word := BitVec.ofInt 32 (if s then max 0 (min (2 ^ 32 - 1) e) else e)

/-- Z and N of a value, with the C and V given (03 R100). -/
def flagsOf (v : Word) (c o : Bool) : AluFlags := ⟨decide (v = 0), v.msb, c, o⟩

/-- A signed 32-bit result: its register where one is written, its flags, and SAT or OVF when it does not fit
(03 R99 to R101). -/
def State.aluSigned (s : State) (t : Nat) (c : Instr) (u sat : Bool) (d : Option Reg) (e : Int) (carry : Bool) : Prop :=
  s.aluDoes t c u (d.toList.map (fun r => (r.toNat, narrow 32 sat e)))
    (flagsOf (narrow 32 sat e) carry (outside 32 e)) (outside 32 e && sat) (outside 32 e && !sat)

/-- A result that leaves C and V as they were (03 R101). -/
def State.aluPlain (s : State) (t : Nat) (c : Instr) (u : Bool) (d : Option Reg) (v : Word) : Prop :=
  s.aluDoes t c u (d.toList.map (fun r => (r.toNat, v)))
    (flagsOf v ((s.tile t).flags u).c ((s.tile t).flags u).v) false false

/-- Two signed halves, low and high: each narrowed by itself, C of the high halves (03 R101). -/
def State.aluPair (s : State) (t : Nat) (c : Instr) (u sat : Bool) (d : Reg) (lo hi : Int) (carry : Bool) : Prop :=
  let v := narrow 16 sat hi ++ narrow 16 sat lo
  let o := outside 16 lo || outside 16 hi
  s.aluDoes t c u [(d.toNat, v)] (flagsOf v carry o) (o && sat) (o && !sat)

/-- An accumulator shifted right by `n` under a rounding mode: 0 toward minus infinity, 1 to nearest with ties up,
2 to nearest with ties to even (03 R97, R98). -/
def rounded (acc : Int) (n : Nat) (rnd : BitVec 2) : Int :=
  let near := (acc + 2 ^ (n - 1)) / 2 ^ n
  if n = 0 ∨ rnd = 0 then acc / 2 ^ n
  else if rnd = 2 ∧ acc % 2 ^ n = 2 ^ (n - 1) ∧ near % 2 = 1 then near - 1
  else near

/-- The completion of a multiply that adds `dre` and `dim` to what the form starts from, in both accumulators
(03 R96). -/
def State.macSums (s : State) (t : Nat) (c : Instr) (sat : Bool) (re im : Int) : Prop :=
  let o := outside 40 re || outside 40 im
  s.macDoes t c [] (narrow 40 sat re) (narrow 40 sat im) o (o && sat) (o && !sat)

/-! ### Data addresses -/

/-- The byte at a data address of tile `t`: its own memory below 0x4000, its cluster's from 0x40000 (03 R106,
R109). -/
def State.dataByte (s : State) (t a : Nat) : Byte :=
  if a < 0x4000 then tget 0 (s.tile t).mem a else tget 0 (s.cluster (tileCluster t)).mem (a - 0x40000)

/-- `n` bytes from a data address of tile `t`, least significant first (00 R12). -/
def State.dataBytes (s : State) (t a n : Nat) : Nat :=
  if a < 0x4000 then readBytes (s.tile t).mem a n else readBytes (s.cluster (tileCluster t)).mem (a - 0x40000) n

/-- `n` bytes from `a`, 8-byte aligned, lie in tile `t`'s own memory or in its cluster's outside the spill regions,
and no word of either memory has an upset (03 R106, R109, R116). -/
abbrev State.imageAccess (s : State) (t a n : Nat) : Prop :=
  a % 8 = 0 ∧ (a + n ≤ 0x4000 ∨ (0x40000 ≤ a ∧ a < 0x80000 ∧ a % 0x10000 + n ≤ 0xF000)) ∧ (s.tile t).upsets = [] ∧
    (s.cluster (tileCluster t)).upsets = []

/-- Every byte of every tile's memory reads in `u` as in `s`, and every byte of every cluster's memory outside the
spill regions (03 R106, R116). -/
def State.memoryStands (s u : State) : Prop :=
  (∀ k j, tget 0 (u.tile k).mem j = tget 0 (s.tile k).mem j) ∧
    ∀ k j, j % 0x10000 < 0xF000 → tget 0 (u.cluster k).mem j = tget 0 (s.cluster k).mem j

/-- The memories of every tile and every cluster have their canonical form. -/
def State.memoryCanonical (s : State) : Prop :=
  ∀ k, Memory.wf (s.tile k).mem = true ∧ Memory.wf (s.cluster k).mem = true

/-! ### Records and notices -/

/-- `u` is `w` with fault-log records, alarms and the notices of them: no other unit differs, the sessions differ in
their notice counters alone, and nothing that has left the block is taken back (11 R426, 12 R482, 17 R620). -/
def State.logsOver (u w : State) : Prop :=
  u = { w with log := u.log, sess := u.sess, out := u.out } ∧
    u.sess = { w.sess with sessions := u.sess.sessions } ∧
    u.sess.sessions.map (fun p => (p.1, { p.2 with notifySeq := 0 })) =
      w.sess.sessions.map (fun p => (p.1, { p.2 with notifySeq := 0 })) ∧
    w.out <:+ u.out

/-- The newest record of the general area has this code. -/
abbrev State.lastCode (u : State) : Nat := (u.log.general.records.headD {}).code

/-! ### Requests of a session -/

/-- The request `q` of open session `ss` is carried out: no answer of its RID is kept, it is not outstanding, and
fewer than eight are (11 R417, R422, R423). -/
abbrev State.hears (s : State) (q : Req) (ss : Session) : Prop :=
  s.session? q.session = some ss ∧ ss.kept.all (fun a => a.rid != q.rid) = true ∧ q.rid ∉ ss.inFlight ∧
    ss.inFlight.length < 8

/-- The answer to `q` has just been sent: its abort code and its DETAIL (11 R419). -/
abbrev State.answers (u : State) (q : Req) (c : Abort) (detail : Nat := 0) : Prop :=
  u.out.head? = some (.answer q.session { rid := q.rid, code := c, detail := detail })

/-- Steps 1 to 4 of R421 find nothing against a write of `key` by `q`. -/
abbrev State.admitted (s : State) (q : Req) (ss : Session) (key : Nat) : Prop :=
  (s.gate q.session ss.role key q.epoch).1 = .ok

/-- A write of `v` by `q` has entered the pending set of its session: in the place of an earlier write of the same
object, or after the others, with the lease and the epoch it was checked against; and nothing but the session and what
has left the block differs (11 R406, R407). -/
def State.entersPending (s u : State) (q : Req) (ss : Session) (key : Nat) (v : Val) : Prop :=
  let w : PendingWrite :=
    { key := key, value := v, epoch := q.epoch, lease := (objRow key).bind (fun r => s.governing q.session ss.role key r) }
  u = { s with sess := u.sess, out := u.out } ∧
    (u.session? q.session).map (·.pendingSet) = some
      (if ss.pendingSet.any (fun y => y.key == key) then ss.pendingSet.map (fun y => if y.key = key then w else y)
       else ss.pendingSet ++ [w])

/-! ### Tasks -/

/-- A task whose trigger has fired, in one cluster or not ARMED: an ARMED task is READY; in another live state the
trigger is kept pending, or counts an overrun when one is (05 R180). -/
def Task.fired (k : Task) (now : Nat) : Task :=
  let j := { k with triggers := (k.triggers + 1) % 2 ^ 32 }
  if k.state = .armed then { j with state := .ready, readyAt := now, start := none }
  else if k.pending then { j with overruns := (k.overruns + 1) % 2 ^ 32 }
  else { j with pending := true }

/-- `u` differs from `s` in task `n` alone, which is `k` there. -/
def State.onlyTask (s u : State) (n : Nat) (k : Task) : Prop :=
  u = { s with array := { s.array with tasks := u.array.tasks } } ∧ u.task n = k ∧ ∀ m, m ≠ n → u.task m = s.task m

/-- `u` is what a session's request left that changed task `n` alone, to `k`, and was answered OK. -/
def State.taskTold (s u : State) (q : Req) (n : Nat) (k : Task) : Prop :=
  u.answers q .ok ∧ u = { s with array := { s.array with tasks := u.array.tasks }, sess := u.sess, out := u.out } ∧
    u.task n = k ∧ ∀ m, m ≠ n → u.task m = s.task m

/-- The listed tiles of a stopped task are free in `u`, and those that no window trap held back stand in context 15 for
the reason (03 R133, R134, 05 R188). -/
def State.tilesStopped (s u : State) (ts : List Nat) (r : CtxReason) : Prop :=
  (∀ t, t ∈ ts → (u.tile t).owner = none ∧ ((s.tile t).trapping = none → (u.tile t).ctx = 15 ∧ (u.tile t).reason = r)) ∧
    ∀ t, ts.contains t = false → (u.tile t).ctx = (s.tile t).ctx ∧ (u.tile t).owner = (s.tile t).owner

/-- The tiles of a task can all enter their slots now: no lane holds a token, each tile stands once, and each slot is
valid. -/
abbrev State.canStart (s : State) (n : Nat) : Prop :=
  s.lanesEmpty = true ∧ ((s.task n).tiles.map (·.1)).Nodup ∧
    ((s.task n).tiles.all (fun p => decide (p.1 < 1024) && (s.tile p.1).trapping.isNone && decide (p.2 < 15) && (s.tile p.1).slotValid p.2)) = true

/-- Task `n` runs in `u` from now on: it owns its tiles, and each has entered its slot (05 R177, R182, R183). -/
def State.hasStarted (s u : State) (n : Nat) : Prop :=
  (u.task n).state = .running ∧ (u.task n).reason = .none ∧ (u.task n).lastStart = s.time.t64 ∧ (u.task n).start = none ∧
    (∀ p, p ∈ (s.task n).tiles → (u.tile p.1).owner = some n ∧ (u.tile p.1).enteredFrom (s.tile p.1) p.2 .dispatch) ∧
    (∀ t, ((s.task n).tiles.map (·.1)).contains t = false → u.tile t = s.tile t) ∧ ∀ m, m ≠ n → u.task m = s.task m

/-! ### The packet network -/

/-- The 64-bit word `w` of cluster `c`'s memory (03 R93, 06 R205). -/
def State.wordAt (s : State) (c w : Nat) : Nat := readBytes (s.cluster c).mem (8 * w) 8

/-- A request of opcode `opc` for one word reaches cluster `n`'s memory: it has power, admits the zone, the word lies
outside the spill regions or the zone is SYS, and no word has an upset (06 R205, R219, R231). -/
abbrev State.takes (s : State) (n : Nat) (p : Packet) (opc : Nat) : Prop :=
  n < 64 ∧ (s.cluster n).gated = false ∧ s.niAdmits n (p.zone % 16) opc = true ∧ p.addr < 0x8000 ∧
    (spillWord p.addr = false ∨ p.zone % 16 = zoneSys) ∧ (s.cluster n).upsets = []

/-- Target `n` has just answered the request `p` of opcode `opc` (06 R204). -/
abbrev State.responds (u : State) (n : Nat) (p : Packet) (opc : Nat) (st : NetStatus) (data : List Nat) : Prop :=
  u.out.head? = some (.packet n (response n { wirePacket p with opc := opc, dst := n } st data))

/-- `u` differs from `s` in the array's clusters, the network's own units and what has left the block. -/
abbrev State.netOnly (s u : State) : Prop :=
  u = { s with array := { s.array with clusters := u.array.clusters }, net := u.net, out := u.out, free := u.free }

/-- Word `w` of cluster `c` is `v` in `u`, and no other byte of any cluster's memory differs from `s`. -/
def State.onlyWord (s u : State) (c w v : Nat) : Prop :=
  s.netOnly u ∧ u.wordAt c w = v ∧
    (∀ a, a < 8 * w ∨ 8 * w + 8 ≤ a → tget 0 (u.cluster c).mem a = tget 0 (s.cluster c).mem a) ∧
    ∀ k, k ≠ c → u.cluster k = s.cluster k

/-! ### Rings and heads -/

/-- `u` is `s` with head `p` of ring `r` changed to `h`, and with `sent` having left it, the newest first. -/
def State.onlyHead (s u : State) (r p : Nat) (h : Head) (sent : List Output) : Prop :=
  u = { s with ring := { s.ring with heads := u.ring.heads }, out := sent ++ s.out } ∧ u.headAt r p = h ∧
    ∀ k, k ≠ r * 128 + p → tget {} u.ring.heads k = tget {} s.ring.heads k

/-- A frame of head `p` of ring `r` of its own (08 R287). -/
def headFrameOf (h : Head) (r : Nat) (body : FrameBody) : Output :=
  .frame { ring := r, end_ := h.toward, up := true, dst := 0, src := h.pos, fseq := (h.fseq + 1) % 65536, body := body }

/-- A completion token of two words goes into the input queue of task `n`, and fires no trigger (05 R179, 09 R324). -/
abbrev State.tokenRoom (s : State) (n : Nat) : Prop :=
  (s.task n).state ≠ .absent ∧ (s.task n).state ≠ .draining ∧ (s.task n).queue.length + 2 ≤ (s.task n).queueSize ∧
    (s.task n).kind ≠ .queue

/-- The FSEQ of the next frame on an end of a ring (08 R287). -/
def Ring.nextFseq (x : Ring) (e : RingEnd) : Nat := ((if e = .a then x.fseqA else x.fseqB) + 1) % 65536

/-- The last frame sent: on the end that feeds position `p` of the ring `x` it was sent on, to it (08 R287, R310). -/
def Ring.frameTo (x : Ring) (r p : Nat) (body : FrameBody) (echo : Bool := false) : Output :=
  .frame { ring := r, end_ := x.endOf p, echo := echo, dst := p, fseq := x.nextFseq (x.endOf p), body := body }

/-- A frame to every head from the A end of the ring `x`. -/
def Ring.frameAll (x : Ring) (r : Nat) (body : FrameBody) : Output :=
  .frame { ring := r, end_ := .a, dst := 0xFF, fseq := x.nextFseq .a, body := body }

/-- An event record of type EVENT whose fields name a head, a defined action and a time (09 R319, R333). -/
abbrev plainRecord (w : BitVec 64) : Prop :=
  w.getLsbD 10 = false ∧ w.getLsbD 11 = false ∧ w.getLsbD 13 = false ∧ actDefined (fieldOf w 16 8) = true

/-- The event that such a record of a zone makes at a ring (09 R319, 08 R312). -/
def State.plainEvent (s : State) (r zone tag : Nat) (w k : BitVec 64) (group : Option Nat) : QEvent :=
  { uid := (s.ringAt r).nextUid, serial := ((s.ringAt r).headRec (fieldOf w 4 6 + 1)).desc.serial, pos := fieldOf w 4 6 + 1
    ch := fieldOf w 0 4, act := fieldOf w 16 8, param := fieldOf w 24 16, key := .time k.toNat, rpt := w.getLsbD 12
    task := fieldOf w 40 8, tag := tag, zone := zone, group := group, when_ := k.toNat * 65536, acceptedAt := s.time.t64 }

/-! ### The Quench unit -/

/-- Cause `code`, which was not active, is active in `u` and is counted, and no channel commands ARMED; where the
device was ARMED, it is the first cause, every contact that is not stuck has opened, and the quench stop is due
(10 R361, R366, R379). -/
def State.causedBy (s u : State) (code : Nat) : Prop :=
  code ∈ u.quench.active ∧ u.quench.count = (s.quench.count + 1) % 2 ^ 32 ∧ u.armed = false ∧
    (s.armed = true → u.quench.cause = code ∧ u.quench.stopDue = true ∧ u.quench.qa = false ∧ u.quench.qb = false ∧
      ∀ k, (u.quench.contact k).conducts = (u.quench.contact k).stuck)

/-- The Quench unit has power and the cause is not active. -/
abbrev State.mayCause (s : State) (code : Nat) : Prop := s.quenchRuns = true ∧ s.quench.active.contains code = false

/-! ### Sessions -/

/-- Session `n` is gone from `u`, the leases that it held have no holder and their epochs have advanced, the other
leases stand, and no apply names it (11 R410, R418, R432, R433). -/
def State.sessionGone (s u : State) (n : SessionNo) : Prop :=
  u.session? n = none ∧ u.sess.applies.all (fun a => a.session != n || n == 0) = true ∧
    ∀ l, l ∈ leaseNumbers →
      ((s.lease l).holder = n → (u.lease l).holder = 0 ∧ (u.lease l).epoch = nextEpoch (s.lease l).epoch) ∧
      ((s.lease l).holder ≠ n → u.lease l = s.lease l)

end Sys2Proof.Machine
end

