-- ==== Sys2Proof/Certificates/Slice0/Obligations.lean ====
section
/-!
DEFINITION. The statements about the block, in the order of OBLIGATIONS.json.
-/

open Sys2Proof Sys2Proof.Machine

/-- Power on in OFF enters RESET with the source POWER_ON and LastResetCause 1. The release of the last source of RESET enters BOOT, restarts the watchdog's count and has the boot ROM run; while a source stays the state stays RESET. NRESET low for 1 us or more asserts NRESET: from a powered state RESET begins with LastResetCause 3, and below 200 ns nothing changes. The end of the holdup store leaves OFF, disarmed, with the library, the fuses and the leases kept. -/
def Obligations.ResetAndPowerTransitions : Prop :=
  -- 01 R36, 14 R528
  (∀ (s : State) (f : Fin 2),
    s.op.state = .off →
    (∃ u, exec (.powerOn f) s = .next u ∧ u.op.state = .reset ∧ u.op.lastResetCause = 1 ∧ (.powerOn, s.now) ∈ u.op.sources ∧
      (∀ p, p ∈ u.op.sources → p.1 = .powerOn ∨ (p.1 = .nreset ∧ s.op.nresetLow = true)) ∧
      u = { s with op := u.op, store := u.store } ∧ u.store.journal = s.store.journal)) ∧
  -- 14 R528, R531
  (∀ (s : State) (ready high bist : Bool) (weak : List (Fin 64)),
    s.op.state = .reset →
    (let left := s.op.sources.filter (fun p => !s.sourceReleased ready high p)
    (left ≠ [] → exec (.resetRelease ready high bist weak) s =
      .next { s with op := { s.op with sources := left, nresetLow := !high } }) ∧
    (left = [] → ∃ u, exec (.resetRelease ready high bist weak) s = .next u ∧ u.op.state = .boot ∧ u.op.sources = [] ∧
      u.op.bootAt = s.now ∧ u.op.gaffer = .bootRom ∧ u.op.watchdogCount = 0 ∧ u.array = s.array))) ∧
  -- 14 R529, R530
  (∀ (s : State) (ns : Nat),
    1000 ≤ ns →
    s.op.state ≠ .off →
    s.op.state ≠ .reset →
    (∃ u, exec (.nresetLow ns) s = .next u ∧ u.op.state = .reset ∧ u.op.lastResetCause = 3 ∧ u.op.sources = [(.nreset, s.now)] ∧
      u.array = {} ∧ u.net = {} ∧ u.angle = {} ∧ u.io = {} ∧ u.log.alarms = [] ∧ u.sess.sessions = [])) ∧
  -- 14 R529
  (∀ (s : State) (ns : Nat),
    ns < 200 →
    exec (.nresetLow ns) s = .next s) ∧
  -- 01 R36, 14 R537
  (∀ (s : State) (mv : Nat),
    s.op.state ≠ .off →
    (∃ u, exec (.holdupExhausted mv) s = .next u ∧ u.op.state = .off ∧ u.op.sources = [] ∧ u.op.offAt = some s.now ∧ u.armed = false ∧
      u.quench = {} ∧ u.power.feeds = [] ∧ u.power.vkeep = mv ∧ u.array = {} ∧ u.sess.sessions = [] ∧ u.fuse.copyA = s.fuse.copyA))

/-- The boot ROM in BOOT with good critical words selects the verifying image the marks name and starts it; a selected image that starts runs. A watchdog expiry of running firmware counts and restarts the Gaffer until the third, which is FATAL and enters HALT, where the recovery service runs. Ten seconds served clear the count, and ten seconds in SERVICE or RUN confirm a trial image and clear the other slot's CONFIRMED mark. An uncorrectable error in Gaffer code memory is FATAL. -/
def Obligations.GafferStartsAndExpiries : Prop :=
  -- 07 R268
  (∀ (s : State) (k : FwSlot),
    s.op.gaffer = .bootRom →
    s.op.state = .boot →
    s.bootFault = none →
    s.blank.trialStored = none →
    s.selectFw = some k →
    (∃ u, exec .imageSelection s = .next u ∧ u.op.gaffer = .selected k ∧ u.op.state = .boot ∧ u.op.trial = ((s.fw k).mark == .trial) ∧
      (u.fw k).mark = (if (s.fw k).mark = .trial then .none else (s.fw k).mark) ∧ u.fw k.other = s.fw k.other ∧
      u = { s with op := u.op, blank := u.blank })) ∧
  -- 01 R30, 11 R432
  (∀ (s : State) (k : FwSlot),
    s.op.gaffer = .selected k →
    s.op.state ≠ .boot →
    s.blank.slots = [] →
    s.blank.active = [] →
    s.sess.stored = [] →
    s.sess.restoreDefaults = false →
    s.sess.applies = [] →
    s.energy.backlog = [] →
    (∃ u, exec (.gafferFirmwareStart false [] []) s = .next u ∧ u.op.gaffer = .running k ∧ u.op.servedSince = s.now ∧ u.op.state = s.op.state ∧
      u.op.watchdogCount = (if s.op.gafferCause = .watchdog then s.op.watchdogCount else 0) ∧
      (∀ l, l ∈ leaseNumbers → (u.lease l).holder = 0 ∧ (u.lease l).epoch = nextEpoch (s.lease l).epoch) ∧ u.array = s.array)) ∧
  -- 01 R30
  (∀ (s : State),
    s.gafferRuns = true →
    s.op.watchdogCount < 2 →
    (∃ u, exec .gafferWatchdogExpiry s = .next u ∧ u.op.gaffer = .bootRom ∧ u.op.watchdogCount = s.op.watchdogCount + 1 ∧
      u.op.state = s.op.state ∧ u.op.gafferCause = .watchdog ∧ u.sess.handshakes = [] ∧ u.net.rounds = [])) ∧
  -- 01 R30, R46
  (∀ (s : State),
    s.gafferRuns = true →
    2 ≤ s.op.watchdogCount →
    s.op.state ≠ .halt →
    s.op.state ≠ .off →
    s.op.state ≠ .reset →
    (∃ u, exec .gafferWatchdogExpiry s = .next u ∧ u.op.gaffer = .recovery ∧ u.op.state = .halt ∧ u.time.state = .free ∧
      u.time.quality = .none)) ∧
  -- 01 R30
  (∀ (s : State) (k : FwSlot),
    s.op.gaffer = .running k →
    s.op.servedSince + 10000000000 ≤ s.now →
    (∃ u, exec .watchdogCountClear s = .next u ∧ u = { s with op := u.op } ∧ u.op = { s.op with watchdogCount := 0 })) ∧
  -- 07 R268
  (∀ (s : State) (k : FwSlot) (t : Nat),
    s.op.gaffer = .running k →
    s.op.trialSince = some t →
    t + 10000000000 ≤ s.now →
    s.op.state = .service ∨ s.op.state = .run →
    (∃ u, exec .trialConfirm s = .next u ∧ u.fw k = { s.fw k with mark := .confirmed } ∧ (u.fw k.other).mark ≠ .confirmed ∧
      (u.fw k.other).image = (s.fw k.other).image ∧ u.op = { s.op with trial := false, trialSince := none } ∧
      u = { s with op := u.op, blank := u.blank })) ∧
  -- 17 R623
  (∀ (s : State) (a : Nat),
    s.gafferRuns = true →
    s.op.state ≠ .halt →
    s.op.state ≠ .off →
    s.op.state ≠ .reset →
    (∃ u, exec (.gafferCodeUe a) s = .next u ∧ u.op.state = .halt ∧ u.op.gaffer = .recovery ∧ u.blank.upload = none))

/-- A request heard and admitted is answered OK with its transition: 1 takes SERVICE with a blank active, no refresh due, fewer than three brownouts and the load admitted, to RUN; 2 takes RUN or SLEEP to SERVICE; 3 takes SERVICE to SLEEP; 4 of a MAINTENANCE session enters RESET by COMMAND; 5 restarts the Gaffer. A magic packet with the device's address, and WAKE low for 10 ms since an edge in SLEEP, wake the device into SERVICE with their causes. -/
def Obligations.OpCommandAndWakeResults : Prop :=
  -- 01 R36, R40
  (∀ (s : State) (q : Req) (ss : Session),
    s.hears q ss →
    s.admitted q ss (okey 0x1010 2) →
    s.op.state = .service →
    s.someActive = true →
    s.store.refreshDue = false →
    s.power.brownoutCount < 3 →
    s.admits s.committed = true →
    (∃ u, exec (.opcommandRun q) s = .next u ∧ u.op = { s.op with state := .run } ∧ u.array = s.array ∧ u.ring = s.ring ∧
      u.blank = s.blank ∧ 0x01 ∉ u.quench.active ∧ u.armed = s.armed ∧ u.answers q .ok)) ∧
  -- 01 R36, R38
  (∀ (s : State) (q : Req) (ss : Session),
    s.hears q ss →
    s.admitted q ss (okey 0x1010 2) →
    s.op.state = .run ∨ s.op.state = .sleep →
    (∃ u, exec (.opcommandService q) s = .next u ∧ u.op.state = .service ∧ (s.op.state = .sleep → u.op.wakeCause = 2) ∧ u.answers q .ok)) ∧
  -- 14 R535
  (∀ (s : State) (q : Req) (ss : Session),
    s.hears q ss →
    s.admitted q ss (okey 0x1010 2) →
    s.op.state = .service →
    (∃ u, exec (.opcommandSleep q) s = .next u ∧ u.op.state = .sleep ∧ u.op.sleepAt = some s.now ∧ u.answers q .ok)) ∧
  -- 14 R528, R529
  (∀ (s : State) (q : Req) (ss : Session),
    s.hears q ss →
    s.admitted q ss (okey 0x1010 2) →
    ss.role = .maintenance →
    s.op.state ≠ .reset →
    s.op.state ≠ .off →
    (∃ u, exec (.opcommandReset q) s = .next u ∧ u.op.state = .reset ∧ u.op.lastResetCause = 4 ∧ u.op.sources = [(.command, s.now)] ∧
      u.array = {} ∧ u.sess.sessions = [])) ∧
  -- 01 R30
  (∀ (s : State) (q : Req) (ss : Session),
    s.hears q ss →
    s.admitted q ss (okey 0x1010 2) →
    ss.role = .maintenance →
    s.op.state ≠ .halt →
    (∃ u, exec (.opcommandGafferRestart q) s = .next u ∧ u.op.gaffer = .bootRom ∧ u.op.gafferCause = .command ∧
      u.op.state = s.op.state ∧ u.op.trial = false ∧ u.net.rounds = [] ∧ u.sess.handshakes = [])) ∧
  -- 14 R536
  (∀ (s : State) (p : Port) (b : List Nat),
    s.op.state = .sleep →
    holdsMagic (bytesBE 6 (Config.identity (okey 0x1100 1))) b = true →
    (∃ u, exec (.wakeFrame p b) s = .next u ∧ u.op.state = .service ∧ u.op.wakeCause = 1 ∧ u.op.sleepAt = none)) ∧
  -- 14 R536
  (∀ (s : State) (f z : Nat),
    s.op.state = .sleep →
    s.op.wakeLow = true →
    s.op.wakeFellAt = some f →
    s.op.sleepAt = some z →
    z ≤ f →
    f + 10000000 ≤ s.now →
    (∃ u, exec .wakePin s = .next u ∧ u.op.state = .service ∧ u.op.wakeCause = 3 ∧ u.op.sleepAt = none))

/-- While the servo acts, a Sync sample of a DISCIPLINED timebase that is an outlier is counted and rejected, and one that is not becomes the newest of at most 16 accepted samples; in FREE or HOLDOVER it joins the candidates. Offsets have the port's asymmetry taken off. A Sync or Announce timeout of a DISCIPLINED timebase enters HOLDOVER with a record, F returning to the learned frequency; 60 s of HOLDOVER end its quality, HoldoverMax ends it in FREE with F frozen. T64 does not jump. -/
def Obligations.PtpSampleAndTimebaseTransitions : Prop :=
  -- 02 R60: an outlier
  (∀ (s : State) (p : Port) (l o d : Int),
    s.servoRuns = true →
    -7 ≤ l ∧ l ≤ 0 →
    s.time.state = .disciplined →
    (s.time.integrate s.now).outlier s.outlierLimit (o - s.setting 0x1302 (if p = .fa then 1 else 2) 0) d = true →
    s.time.rejectRun + 1 < s.num 0x1303 2 4 →
    (∃ u, exec (.ptpSyncSample p l o d) s = .next u ∧ u = { s with time := u.time } ∧ u.time.state = .disciplined ∧
      u.time.outliers = (s.time.outliers + 1) % 2 ^ 32 ∧ u.time.rejectRun = s.time.rejectRun + 1 ∧
      u.time.accepted = s.time.accepted ∧ u.time.t64 = s.time.t64 ∧ u.time.lastSync = some s.now)) ∧
  -- 02 R56, R60, R63, R65: accepted
  (∀ (s : State) (p : Port) (l o d : Int),
    s.servoRuns = true →
    -7 ≤ l ∧ l ≤ 0 →
    s.time.state = .disciplined →
    (s.time.integrate s.now).outlier s.outlierLimit (o - s.setting 0x1302 (if p = .fa then 1 else 2) 0) d = false →
    (let t := s.time.integrate s.now
    let x : PtpSample := { offset := o - s.setting 0x1302 (if p = .fa then 1 else 2) 0, delay := d, at_ := s.now, moved := t.moved }
    ∃ u, exec (.ptpSyncSample p l o d) s = .next u ∧ u = { s with time := u.time, log := u.log } ∧ u.time.state = .disciplined ∧
      u.time.accepted = (x :: s.time.accepted).take 16 ∧ u.time.rejectRun = 0 ∧ u.time.outliers = s.time.outliers ∧
      u.time.offset = Config.offsetFilter (u.time.accepted.map (fun y => (y.offset - (t.moved - y.moved), (y.at_ : Int)))) ∧
      u.time.fTarget = u.time.slewFor u.time.offset ∧ u.time.t64 = s.time.t64 ∧ u.time.lastSync = some s.now)) ∧
  -- 02 R63: a candidate
  (∀ (s : State) (p : Port) (l o d : Int),
    s.servoRuns = true →
    -7 ≤ l ∧ l ≤ 0 →
    s.time.state ≠ .disciplined →
    s.time.candidates.length < 7 →
    (let t := s.time.integrate s.now
    let x : PtpSample := { offset := o - s.setting 0x1302 (if p = .fa then 1 else 2) 0, delay := d, at_ := s.now, moved := t.moved }
    ∃ u, exec (.ptpSyncSample p l o d) s = .next u ∧ u = { s with time := u.time } ∧ u.time.state = s.time.state ∧
      u.time.candidates = x :: s.time.candidates ∧ u.time.t64 = s.time.t64)) ∧
  -- 02 R61
  (∀ (s : State) (a : Nat),
    s.servoRuns = true →
    s.time.state = .disciplined →
    s.time.lastSync = some a →
    a + 3 * (1000000000 / 2 ^ s.time.syncLog.natAbs) ≤ s.now →
    ((∃ u, exec .syncTimeout s = .next u ∧ u.logsOver { s with time := u.time } ∧ u.time.state = .holdover ∧ u.time.holdoverAt = s.now ∧
      u.time.holdovers = (s.time.holdovers + 1) % 2 ^ 32 ∧ u.time.candidates = [] ∧ u.time.quality = s.time.quality ∧
      u.time.fTarget = clampF (s.time.learned + Config.temperatureModel s.power.junction) ∧ u.time.t64 = s.time.t64 ∧
      u.lastCode = 0x0501) ∧
    (∃ u, exec .announceTimeout s = .next u ∧ u.logsOver { s with time := u.time } ∧ u.time.state = .holdover ∧ u.time.holdoverAt = s.now ∧
      u.time.holdovers = (s.time.holdovers + 1) % 2 ^ 32 ∧ u.time.candidates = [] ∧ u.time.quality = s.time.quality ∧
      u.time.fTarget = clampF (s.time.learned + Config.temperatureModel s.power.junction) ∧ u.time.t64 = s.time.t64 ∧
      u.lastCode = 0x0501))) ∧
  -- 02 R58
  (∀ (s : State),
    s.time.state = .holdover →
    s.time.holdoverAt + 60000000000 ≤ s.now →
    (∃ u, exec .holdoverQualityExpiry s = .next u ∧ u = { s with time := { s.time with quality := .none } })) ∧
  -- 02 R58, R61
  (∀ (s : State),
    s.time.state = .holdover →
    s.time.holdoverAt + s.num 0x1303 3 300 * 1000000000 ≤ s.now →
    (∃ u, exec .holdoverMaxExpiry s = .next u ∧ u = { s with time := u.time } ∧ u.time.state = .free ∧ u.time.quality = .none ∧
      u.time.f = s.time.freqAt s.now ∧ u.time.fTarget = u.time.f ∧ u.time.t64 = s.time.t64))

/-- While the servo acts an Announce sets the UTC offset and the grandmaster's identity; another identity than the one known counts a change, forgets the candidates and takes a DISCIPLINED timebase to HOLDOVER. A PTP message leaves on the other port, a transparent clock adding the residence time, a boundary clock forwarding none. Every 10 s running firmware journals T64 with state and quality; after 10 minutes DISCIPLINED, at most once in 10 minutes, the learned frequency is saved. From BOOT on a port gains or loses its link; PTP stays on the port that carries it while that port has a link, and moves to the other while that has one. -/
def Obligations.GrandmasterForwardingAndTimeRecords : Prop :=
  -- 02 R57
  (∀ (s : State) (g : Fin 18446744073709551616) (utc : Int),
    s.servoRuns = true →
    s.time.gmIdentity = 0 ∨ s.time.gmIdentity = g.val →
    exec (.announce g utc) s = .next { s with time := { s.time with utcOffset := utc, gmIdentity := g.val } }) ∧
  -- 02 R61
  (∀ (s : State) (g : Fin 18446744073709551616) (utc : Int),
    s.servoRuns = true →
    s.time.gmIdentity ≠ 0 →
    s.time.gmIdentity ≠ g.val →
    (∃ u, exec (.announce g utc) s = .next u ∧ u.logsOver { s with time := u.time } ∧ u.time.utcOffset = utc ∧ u.time.gmIdentity = g.val ∧
      u.time.gmChanges = (s.time.gmChanges + 1) % 2 ^ 32 ∧ u.time.gmChangedAt = some s.now ∧ u.time.candidates = [] ∧
      u.time.state = (if s.time.state = .disciplined then .holdover else s.time.state) ∧ u.time.t64 = s.time.t64)) ∧
  -- 02 R53, 14 R541
  (∀ (s : State) (p : Port) (c r : Int),
    s.op.state = .service ∨ s.op.state = .run ∨ s.op.state = .sleep →
    s.num 0x1301 1 0 ≠ 1 →
    exec (.ptpForward p c r) s =
      .next { s with out := .ptp (if p = .fa then .fb else .fa) (if s.num 0x1301 1 0 = 2 then c + r else c) :: s.out }) ∧
  -- 12 R478
  (∀ (s : State),
    s.gafferRuns = true →
    s.time.journalAt + 10000000000 ≤ s.now →
    (∃ u, exec .journalTime s = .next u ∧ u = { s with time := { s.time with journalAt := s.now }, store := u.store } ∧
      u.store.journal.any (fun r => r.jseq == s.store.nextJseq && r.body == .time s.time.t64 s.time.state.code s.time.quality.code) = true)) ∧
  -- 14 R532
  (∀ (s : State) (a : Nat),
    s.gafferRuns = true →
    s.time.state = .disciplined →
    s.time.disciplinedAt = some a →
    a + 600000000000 ≤ s.now →
    (s.time.savedAt.all (fun b => decide (b + 600000000000 ≤ s.now))) = true →
    exec .frequencySave s = .next { s with time := { s.time with saved := s.time.learned, savedAt := some s.now } }) ∧
  -- 14 R531: a link
  (∀ (s : State) (p : Port) (m : Fin 3),
    s.op.state ≠ .off →
    s.op.state ≠ .reset →
    (∃ u, exec (.ethernetLink p m) s = .next u ∧ u = { s with op := { s.op with link := u.op.link, ptpPort := u.op.ptpPort, lockRef := u.op.lockRef }, out := u.out } ∧
      tget 0 u.op.link (Port.place p) = m ∧ (∀ k, k ≠ Port.place p → tget 0 u.op.link k = tget 0 s.op.link k) ∧
      u.out = (if tget 0 s.op.link (Port.place p) = 0 ∧ m.val ≠ 0 then [.linkUp p] else []) ++ s.out ∧
      u.op.ptpPort = (if s.op.ptpPort.any (fun x => tget 0 u.op.link (Port.place x) != 0) = true then s.op.ptpPort
        else if tget 0 u.op.link 0 ≠ 0 then some .fa else if tget 0 u.op.link 1 ≠ 0 then some .fb else none)))

/-- While the angle unit runs, an accepted edge of A or B in RS-422 mode, no edge of either within the filter time before it, moves the position one count the way the two levels say, around the revolution; two edges closer than the filter are an illegal transition, which undoes the last count, counts it and makes a LOCKED channel SUSPECT unless it is the ninth in a revolution. The first Z edge in forward rotation homes the channel at position 0; a homed channel whose Z lies off by more than the limit is LOST. -/
def Obligations.EncoderEdgesAndZeroMark : Prop :=
  -- 02 R73, R76
  (∀ (s : State) (c : Fin 2) (b level : Bool) (sub : Fin 32),
    s.angleRuns = true →
    (s.angleCfg c).mode = 1 →
    (s.angleCh c).state ≠ .lost →
    (s.angleCh c).edgeA.all (fun e => decide (e + (s.angleCfg c).filter ≤ s.edgeTime sub)) = true →
    (s.angleCh c).edgeB.all (fun e => decide (e + (s.angleCfg c).filter ≤ s.edgeTime sub)) = true →
    level ≠ (if b then (s.angleCh c).levelB else (s.angleCh c).levelA) →
    (let x := s.angleCh c
    let n := 4 * (s.angleCfg c).lines
    let forward : Bool := (if b then x.levelA == level else level != x.levelB) != (s.angleCfg c).reversed
    let p : Int := (x.pos : Int) + (if forward then 1 else -1)
    ∃ u, exec (.encoderEdge c b level sub) s = .next u ∧ ((u.angleCh c).pos : Int) = p.emod n ∧
      ((u.angleCh c).rev : Int) = ((x.rev : Int) + p.fdiv n).emod (2 ^ 24) ∧ (u.angleCh c).forward = forward ∧
      (u.angleCh c).levelA = (if b then x.levelA else level) ∧ (u.angleCh c).levelB = (if b then level else x.levelB) ∧
      (u.angleCh c).illegalTotal = x.illegalTotal ∧ (u.angleCh c).homed = x.homed ∧
      (∀ k, k ≠ c.val → u.angleCh k = s.angleCh k) ∧ u.time = s.time ∧ u.op = s.op)) ∧
  -- 02 R73, R78: an illegal transition
  (∀ (s : State) (c : Fin 2) (level : Bool) (sub : Fin 32) (e : Nat),
    s.angleRuns = true →
    (s.angleCfg c).mode = 1 →
    (s.angleCh c).state = .locked →
    (s.angleCh c).edgeA = none →
    (s.angleCh c).edgeB = some e →
    s.edgeTime sub < e + (s.angleCfg c).filter →
    level ≠ (s.angleCh c).levelA →
    (s.angleCh c).illegalAt.length < 8 →
    (let x := s.angleCh c
    let p : Int := (x.pos : Int) - x.lastDelta
    ∃ u, exec (.encoderEdge c false level sub) s = .next u ∧ (u.angleCh c).state = .suspect ∧ (u.angleCh c).reason = .illegal ∧
      ((u.angleCh c).pos : Int) = p.emod (s.angleCfg c).perRev ∧ (u.angleCh c).illegalTotal = (x.illegalTotal + 1) % 2 ^ 32 ∧
      (u.angleCh c).suspectEntries = (x.suspectEntries + 1) % 2 ^ 32 ∧ (u.angleCh c).wLocked = x.w ∧
      (∀ k, k ≠ c.val → u.angleCh k = s.angleCh k) ∧ u.time = s.time ∧ u.op = s.op)) ∧
  -- 02 R75: homing
  (∀ (s : State) (c : Fin 2) (sub : Fin 32),
    s.angleRuns = true →
    (s.angleCfg c).mode ≠ 0 →
    (s.angleCh c).edgeZ.all (fun e => decide (e + (s.angleCfg c).filter ≤ s.edgeTime sub)) = true →
    (s.angleCh c).forward = true →
    (s.angleCh c).state ≠ .lost →
    (s.angleCh c).homed = false →
    (∃ u, exec (.zEdge c sub) s = .next u ∧ (u.angleCh c).homed = true ∧ (u.angleCh c).legalRun = 0 ∧ (u.angleCh c).reason = .noMotion ∧
      (u.angleCh c).pos = (if (s.angleCfg c).mode = 2 then (s.angleCh c).pos % 65536 else 0) ∧
      (u.angleCh c).rev = (s.angleCh c).rev ∧ (u.angleCh c).edgeZ = some (s.edgeTime sub) ∧
      (∀ k, k ≠ c.val → u.angleCh k = s.angleCh k) ∧ u.time = s.time ∧ u.op = s.op)) ∧
  -- 02 R75: the check
  (∀ (s : State) (c : Fin 2) (sub : Fin 32),
    s.angleRuns = true →
    (s.angleCfg c).mode ≠ 0 →
    (s.angleCh c).edgeZ.all (fun e => decide (e + (s.angleCfg c).filter ≤ s.edgeTime sub)) = true →
    (s.angleCh c).forward = true →
    (s.angleCh c).state ≠ .lost →
    (s.angleCh c).homed = true →
    (let g := s.angleCfg c
    let x := s.angleCh c
    let off := min x.pos (g.perRev - x.pos)
    ∃ u, exec (.zEdge c sub) s = .next u ∧
      (u.angleCh c).state = (if off > (if g.mode = 2 then 8192 else 1) then .lost else x.state) ∧
      (u.angleCh c).pos = x.pos ∧ (u.angleCh c).homed = true ∧
      (∀ k, k ≠ c.val → u.angleCh k = s.angleCh k) ∧ u.time = s.time ∧ u.op = s.op))

/-- At a grid instant of a LOCKED RS-422 channel the predictor takes the measurement by the three gains of R82; in SUSPECT it runs on at the speed of the last LOCKED instant. A signal loss takes a LOCKED or SUSPECT channel to LOST, holding its published angle, with the alarm; StopTime without a crossing takes it to STOPPED with its homing kept; AngleFaultAck of an admitted session takes a LOST channel to STOPPED, not homed, and is answered OK. -/
def Obligations.AngleGridLossStopAndAcknowledge : Prop :=
  -- 02 R82
  (∀ (s : State) (c : Fin 2) (ph : Fin 65536) (amp : Nat),
    s.angleRuns = true →
    s.time.t64 % 200 < 4 →
    (s.angleCfg c).mode = 1 →
    (s.angleCh c).state = .locked →
    (s.angleCh c).resuming = false →
    (let g := s.angleCfg c
    let x := s.angleCh c
    let tg := s.time.t64 / 200 * 200 * 65536
    let e := signed56 (x.measureRs g tg - x.thAt tg)
    ∃ u, exec (.angleGridUpdate c ph amp) s = .next u ∧
      (u.angleCh c).th = wrapSigned 88 (x.thAt tg + divNearEven ((2 ^ 48 - ((2 : Int) ^ g.k - 1) ^ 3 * 2 ^ (48 - 3 * g.k)) * e) (2 ^ 48)) ∧
      (u.angleCh c).w = wrapSigned 64 (x.wAt tg + divNearEven (3 * ((2 : Int) ^ (g.k + 1) - 1) * 2 ^ (47 - 3 * g.k) * e * 2 ^ 8) (200 * 2 ^ 48)) ∧
      (u.angleCh c).a = wrapSigned 64 (x.a + divNearEven (2 ^ (48 - 3 * g.k) * e * 2 ^ 32) (40000 * 2 ^ 48)) ∧
      (u.angleCh c).ts = tg ∧ (u.angleCh c).gridEdge = none ∧ (u.angleCh c).state = .locked ∧ (u.angleCh c).pos = x.pos ∧
      (∀ k, k ≠ c.val → u.angleCh k = s.angleCh k) ∧ u.time = s.time ∧ u.op = s.op)) ∧
  -- 02 R80, R82
  (∀ (s : State) (c : Fin 2) (ph : Fin 65536) (amp : Nat),
    s.angleRuns = true →
    s.time.t64 % 200 < 4 →
    (s.angleCfg c).mode = 1 →
    (s.angleCh c).state = .suspect →
    (let x := s.angleCh c
    let tg := s.time.t64 / 200 * 200 * 65536
    ∃ u, exec (.angleGridUpdate c ph amp) s = .next u ∧ (u.angleCh c).th = wrapSigned 88 (x.thAt tg) ∧ (u.angleCh c).w = x.wLocked ∧
      (u.angleCh c).a = 0 ∧ (u.angleCh c).ts = tg ∧ (u.angleCh c).state = .suspect ∧
      (∀ k, k ≠ c.val → u.angleCh k = s.angleCh k) ∧ u.time = s.time ∧ u.op = s.op)) ∧
  -- 02 R78, R80
  (∀ (s : State) (c : Fin 2),
    s.angleRuns = true →
    (s.angleCfg c).mode ≠ 0 →
    (s.angleCh c).state = .locked ∨ (s.angleCh c).state = .suspect →
    (let x := s.angleCh c
    ∃ u, exec (.signalLoss c) s = .next u ∧ (u.angleCh c).state = .lost ∧ (u.angleCh c).reason = .signalLoss ∧
      (u.angleCh c).held = s.publishedAngle c ∧ (u.angleCh c).lostEntries = (x.lostEntries + 1) % 2 ^ 32 ∧
      u.publishedAngle c = s.publishedAngle c ∧ u.alarmOn 0x0504 c = true ∧
      (∀ k, k ≠ c.val → u.angleCh k = s.angleCh k) ∧ u.time = s.time ∧ u.op = s.op)) ∧
  -- 02 R78, R79
  (∀ (s : State) (c : Fin 2),
    s.angleRuns = true →
    (s.angleCh c).state = .locked ∨ (s.angleCh c).state = .suspect →
    s.stopTimePassed c = true →
    (let x := s.angleCh c
    ∃ u, exec (.stopTimeExpiry c) s = .next u ∧ (u.angleCh c).state = .stopped ∧ (u.angleCh c).reason = .noMotion ∧
      (u.angleCh c).homed = x.homed ∧ (u.angleCh c).w = 0 ∧ (u.angleCh c).a = 0 ∧ (u.angleCh c).pos = x.pos ∧
      (u.angleCh c).legalRun = 0 ∧
      (∀ k, k ≠ c.val → u.angleCh k = s.angleCh k) ∧ u.time = s.time ∧ u.op = s.op)) ∧
  -- 02 R78, R89
  (∀ (s : State) (q : Req) (ss : Session) (c : Fin 2),
    s.hears q ss →
    s.admitted q ss (okey 0x5020 1) →
    s.op.state ≠ .sleep →
    (s.angleCh c).state = .lost →
    (∃ u, exec (.angleFaultAck q [c.val]) s = .next u ∧ (u.angleCh c).state = .stopped ∧ (u.angleCh c).reason = .notHomed ∧
      (u.angleCh c).homed = false ∧ u.answers q .ok ∧
      (∀ k, k ≠ c.val → u.angleCh k = s.angleCh k) ∧ u.time = s.time ∧ u.op = s.op))

/-- With the mark channel LOCKED and forward and the next mark due within MarkLead, the mark is fixed: its edge is published with its course number, and what waits for the mark takes that edge. At its edge a fixed mark is taken and counted, whatever the channel's state. 400 ns after an angle event's frozen firing, the channel's largest residual takes the distance of the angle at its time from its target. -/
def Obligations.CourseMarksAndFiringResidual : Prop :=
  -- 02 R87, 07 R261
  (∀ (s : State) (m : FixedMark),
    s.angleRuns = true →
    s.angle.mark = none →
    s.angle.awaited = none →
    (s.angleCh s.markChannel).state = .locked →
    s.angleForward s.markChannel = true →
    s.markDue = some m →
    (∃ u, exec .courseMarkFix s = .next u ∧
      u.angle = { s.angle with mark := some m, nextMarkTime := m.edge, courseNumber := m.course % 2 ^ 32, awaited := none } ∧
      (∀ k, (tget {} u.blank.slots k).edge =
        (if (tget {} s.blank.slots k).state = .activating ∧ (tget {} s.blank.slots k).mode = .atMark ∧ (tget {} s.blank.slots k).edge = none
         then some m.edge else (tget {} s.blank.slots k).edge)) ∧
      u = { s with angle := u.angle, blank := u.blank, sess := u.sess })) ∧
  -- 02 R87
  (∀ (s : State) (m : FixedMark),
    s.angle.mark = some m →
    m.edge ≤ s.time.t64 →
    (∃ u, exec .courseMark s = .next u ∧ u.angle = { s.angle with mark := none, marksTaken := s.angle.marksTaken + 1 } ∧
      u.time = s.time ∧ u.op = s.op)) ∧
  -- 02 R85
  (∀ (s : State) (r : Fin 16) (uid : Nat) (e : QEvent) (c a : Nat),
    (s.ringAt r).event? uid = some e →
    e.key = .angle c a →
    e.stage = .frozen →
    e.when_ + 400 * 65536 ≤ s.t80 →
    (let x := s.angleCh c
    ∃ u, exec (.firingResidual r uid) s = .next u ∧ u = { s with angle := { s.angle with ch := u.angle.ch } } ∧
      (∀ k, k ≠ c → u.angleCh k = s.angleCh k) ∧
      u.angleCh c = { x with residualMax := min (2 ^ 32 - 1) (max x.residualMax
        ((signed56 (x.thAt e.when_ - (a : Int) * 2 ^ 16)).natAbs / 2 ^ 16)) }))

/-- A ready tile that issues one of these commands with its other slots empty completes: d of the current window takes the exact result, held to the range with S = 1 and wrapped with S = 0; the flags of the ALU that U names follow R100, R101 and R153; SAT or OVF is added when the result did not fit; every other register, the accumulators, the other ALU's flags and the rest of the machine stand. -/
def Obligations.AluRegisterArithmeticResults : Prop :=
  -- 04 R153, 03 R99 to R101
  (∀ (s : State) (t : Fin 1024) (u sat : Bool) (d a b : Reg),
    s.ready t →
    (let x := s.tile t
    let p := x.rd a
    let q := x.rd b
    s.aluSigned t (.add t u sat d a b {}) u sat (some d) (p.toInt + q.toInt) (decide (2 ^ 32 ≤ p.toNat + q.toNat)) ∧
    s.aluSigned t (.sub t u sat d a b {}) u sat (some d) (p.toInt - q.toInt) (decide (q.toNat ≤ p.toNat)) ∧
    s.aluSigned t (.cmp t u sat a b {}) u sat none (p.toInt - q.toInt) (decide (q.toNat ≤ p.toNat)) ∧
    s.aluDoes t (.addu t u sat d a b {}) u [(d.toNat, narrowU sat (p.toNat + q.toNat))]
      (flagsOf (narrowU sat (p.toNat + q.toNat)) (decide (2 ^ 32 ≤ p.toNat + q.toNat)) (decide (2 ^ 32 ≤ p.toNat + q.toNat)))
      (decide (2 ^ 32 ≤ p.toNat + q.toNat) && sat) (decide (2 ^ 32 ≤ p.toNat + q.toNat) && !sat) ∧
    s.aluDoes t (.subu t u sat d a b {}) u [(d.toNat, narrowU sat ((p.toNat : Int) - q.toNat))]
      (flagsOf (narrowU sat ((p.toNat : Int) - q.toNat)) (decide (q.toNat ≤ p.toNat)) (decide (p.toNat < q.toNat)))
      (decide (p.toNat < q.toNat) && sat) (decide (p.toNat < q.toNat) && !sat) ∧
    s.aluPair t (.add2 t u sat d a b {}) u sat d (lowHalf p + lowHalf q) (highHalf p + highHalf q)
      (decide (2 ^ 16 ≤ p.toNat / 2 ^ 16 + q.toNat / 2 ^ 16)) ∧
    s.aluPair t (.sub2 t u sat d a b {}) u sat d (lowHalf p - lowHalf q) (highHalf p - highHalf q)
      (decide (q.toNat / 2 ^ 16 ≤ p.toNat / 2 ^ 16)) ∧
    s.aluSigned t (.neg t u sat d a {}) u sat (some d) (-p.toInt) (decide (p = 0)) ∧
    s.aluSigned t (.abs t u sat d a {}) u sat (some d) p.toInt.natAbs (x.flags u).c ∧
    s.aluPlain t (.hadd2 t u sat d a b {}) u (some d) (BitVec.ofInt 16 ((highHalf p + highHalf q) / 2) ++
      BitVec.ofInt 16 ((lowHalf p + lowHalf q) / 2)) ∧
    s.aluPlain t (.hsub2 t u sat d a b {}) u (some d) (BitVec.ofInt 16 ((highHalf p - highHalf q) / 2) ++
      BitVec.ofInt 16 ((lowHalf p - lowHalf q) / 2))))

/-- A ready tile that issues one of these commands with its other slots empty completes with the result of R153 in d (TST writes nothing): C and V stand except V of SHL, which is set when the shift loses significant bits and then clamps with S = 1; NORM counts the bits below the sign that equal it; RDS copies T.STATUS and sets no flag. Every other register, the accumulators, the other flags and the rest of the machine stand. -/
def Obligations.AluLogicShiftAndMoveResults : Prop :=
  -- 04 R153, 03 R100, R101
  (∀ (s : State) (t : Fin 1024) (u sat : Bool) (d a b : Reg),
    s.ready t →
    (let x := s.tile t
    let p := x.rd a
    let q := x.rd b
    let n := q.toNat % 32
    s.aluPlain t (.and t u sat d a b {}) u (some d) (p &&& q) ∧
    s.aluPlain t (.or t u sat d a b {}) u (some d) (p ||| q) ∧
    s.aluPlain t (.xor t u sat d a b {}) u (some d) (p ^^^ q) ∧
    s.aluPlain t (.andn t u sat d a b {}) u (some d) (p &&& ~~~q) ∧
    s.aluPlain t (.tst t u sat a b {}) u none (p &&& q) ∧
    s.aluPlain t (.mov t u sat d a {}) u (some d) p ∧
    s.aluPlain t (.min t u sat d a b {}) u (some d) (if q.slt p then q else p) ∧
    s.aluPlain t (.max t u sat d a b {}) u (some d) (if p.slt q then q else p) ∧
    s.aluPlain t (.pack t u sat d a b {}) u (some d) (q.extractLsb' 0 16 ++ p.extractLsb' 0 16) ∧
    s.aluPlain t (.shr t u sat d a b {}) u (some d) (p >>> n) ∧
    s.aluPlain t (.sar t u sat d a b {}) u (some d) (p.sshiftRight n) ∧
    s.aluPlain t (.ror t u sat d a b {}) u (some d) (p.rotateRight n) ∧
    s.aluSigned t (.shl t u sat d a b {}) u sat (some d) (p.toInt * 2 ^ n) (x.flags u).c ∧
    s.aluDoes t (.rds t u sat d {}) u [(d.toNat, statusWord x.status)] (x.flags u) false false)) ∧
  -- 04 R153: NORM
  (∀ (s : State) (t : Fin 1024) (u sat : Bool) (d a : Reg),
    s.ready t →
    (let p := (s.tile t).rd a
    ∃ n, n ≤ 31 ∧ (∀ i, i < n → p.getLsbD (30 - i) = p.getLsbD 31) ∧
      (n < 31 → p.getLsbD (30 - n) ≠ p.getLsbD 31) ∧
      s.aluPlain t (.norm t u sat d a {}) u (some d) (BitVec.ofNat 32 n)))

/-- A ready tile that issues an immediate or constant form with its other slots empty completes with the result of R153: ADDI and CMPI sign-extend IMM8, ANDI, ORI and XORI zero-extend it, the shifts take five bits, MOVL, MOVLU and MOVH write d and no flag, and CLRS clears SAT and OVF as its operand says. Every other register, the accumulators, the other flags and the rest of the machine stand. -/
def Obligations.AluImmediateAndConstantResults : Prop :=
  -- 04 R153, 03 R101
  (∀ (s : State) (t : Fin 1024) (u sat : Bool) (d a : Reg) (i : BitVec 8) (n : BitVec 5),
    s.ready t →
    (let x := s.tile t
    let p := x.rd a
    s.aluSigned t (.addi t u sat d a i {}) u sat (some d) (p.toInt + i.toInt)
      (decide (2 ^ 32 ≤ p.toNat + (i.signExtend 32).toNat)) ∧
    s.aluSigned t (.cmpi t u sat a i {}) u sat none (p.toInt - i.toInt) (decide ((i.signExtend 32).toNat ≤ p.toNat)) ∧
    s.aluPlain t (.andi t u sat d a i {}) u (some d) (p &&& i.zeroExtend 32) ∧
    s.aluPlain t (.ori t u sat d a i {}) u (some d) (p ||| i.zeroExtend 32) ∧
    s.aluPlain t (.xori t u sat d a i {}) u (some d) (p ^^^ i.zeroExtend 32) ∧
    s.aluSigned t (.shli t u sat d a n {}) u sat (some d) (p.toInt * 2 ^ n.toNat) (x.flags u).c ∧
    s.aluPlain t (.shri t u sat d a n {}) u (some d) (p >>> n.toNat) ∧
    s.aluPlain t (.sari t u sat d a n {}) u (some d) (p.sshiftRight n.toNat) ∧
    s.aluPlain t (.rori t u sat d a n {}) u (some d) (p.rotateRight n.toNat))) ∧
  -- 04 R153: the constant form
  (∀ (s : State) (t : Fin 1024) (d : Reg) (k : BitVec 16),
    s.ready t →
    (let x := s.tile t
    let w := x.window x.cwp.toNat
    s.completes t (.movl t d k {}) [(d.toNat, k.signExtend 32)] w.accRe w.accIm x.status x.agu0 x.agu1 ∧
    s.completes t (.movlu t d k {}) [(d.toNat, k.zeroExtend 32)] w.accRe w.accIm x.status x.agu0 x.agu1 ∧
    s.completes t (.movh t d k {}) [(d.toNat, k ++ (x.rd d).extractLsb' 0 16)] w.accRe w.accIm x.status x.agu0 x.agu1)) ∧
  -- 04 R153: CLRS
  (∀ (s : State) (t : Fin 1024) (csat covf : Bool),
    s.ready t →
    (let x := s.tile t
    let w := x.window x.cwp.toNat
    s.completes t (.clrs t csat covf {}) [] w.accRe w.accIm
      { x.status with sat := x.status.sat && !csat, ovf := x.status.ovf && !covf } x.agu0 x.agu1))

/-- A ready tile that issues a multiply with its other slots empty completes with the exact products of R96, doubled with F, added to, subtracted from or put in place of the accumulators and fitted to 40 bits once: MV says whether either left the range, SAT or OVF is added, ACCIM of the WMAC forms stands, and so do every register, the ALU flags and the rest of the machine. -/
def Obligations.MacMultiplyResults : Prop :=
  -- 03 R96, 04 R151
  (∀ (s : State) (t : Fin 1024) (f sat cj : Bool) (a b : Reg),
    s.ready t →
    (let x := s.tile t
    let w := x.window x.cwp.toNat
    let ar := lowHalf (x.rd a)
    let ai := highHalf (x.rd a)
    let br := lowHalf (x.rd b)
    let bi := highHalf (x.rd b)
    let bc := if cj then -bi else bi
    let k : Int := if f then 2 else 1
    let re := w.accRe.toInt
    let im := w.accIm.toInt
    let p := ((x.rd a).toInt * br) / (if f then 2 ^ 15 else 2 ^ 16)
    s.macSums t (.cmac t f sat cj a b {}) sat (re + k * (ar * br - ai * bc)) (im + k * (ar * bc + ai * br)) ∧
    s.macSums t (.cmsb t f sat cj a b {}) sat (re - k * (ar * br - ai * bc)) (im - k * (ar * bc + ai * br)) ∧
    s.macSums t (.cmul t f sat cj a b {}) sat (k * (ar * br - ai * bc)) (k * (ar * bc + ai * br)) ∧
    s.macSums t (.dmac t f sat a b {}) sat (re + k * (ar * br)) (im + k * (ai * bi)) ∧
    s.macSums t (.dmsb t f sat a b {}) sat (re - k * (ar * br)) (im - k * (ai * bi)) ∧
    s.macSums t (.dmul t f sat a b {}) sat (k * (ar * br)) (k * (ai * bi)) ∧
    s.macDoes t (.wmac t f sat a b {}) [] (narrow 40 sat (re + p)) w.accIm (outside 40 (re + p))
      (outside 40 (re + p) && sat) (outside 40 (re + p) && !sat) ∧
    s.macDoes t (.wmsb t f sat a b {}) [] (narrow 40 sat (re - p)) w.accIm (outside 40 (re - p))
      (outside 40 (re - p) && sat) (outside 40 (re - p) && !sat) ∧
    s.macDoes t (.wmul t f sat a b {}) [] (narrow 40 sat p) w.accIm (outside 40 p)
      (outside 40 p && sat) (outside 40 p && !sat)))

/-- A ready tile that issues one of these commands with its other slots empty completes: an extraction shifts, rounds and narrows an accumulator into half of d, d, or both halves, and leaves the accumulators and MV; LDA shifts a register, or its halves, into the accumulators; ACLR clears those it selects and MV; ASUM adds ACCIM into ACCRE. Everything else of the machine stands. -/
def Obligations.MacExtractLoadAndClearResults : Prop :=
  -- 03 R97, R98, 04 R151
  (∀ (s : State) (t : Fin 1024) (sat im hi : Bool) (rnd : BitVec 2) (n : BitVec 5) (d : Reg),
    s.ready t →
    rnd ≠ 3 →
    (let x := s.tile t
    let w := x.window x.cwp.toNat
    let qr := rounded w.accRe.toInt n.toNat rnd
    let qi := rounded w.accIm.toInt n.toNat rnd
    let q := if im then qi else qr
    let old := x.rd d
    s.macDoes t (.extH t sat rnd n im hi d {})
      [(d.toNat, if hi then narrow 16 sat q ++ old.extractLsb' 0 16 else old.extractLsb' 16 16 ++ narrow 16 sat q)]
      w.accRe w.accIm x.status.mv (outside 16 q && sat) (outside 16 q && !sat) ∧
    s.macDoes t (.extW t sat rnd n im d {}) [(d.toNat, narrow 32 sat q)]
      w.accRe w.accIm x.status.mv (outside 32 q && sat) (outside 32 q && !sat) ∧
    s.macDoes t (.extC t sat rnd n d {}) [(d.toNat, narrow 16 sat qi ++ narrow 16 sat qr)]
      w.accRe w.accIm x.status.mv ((outside 16 qr || outside 16 qi) && sat) ((outside 16 qr || outside 16 qi) && !sat))) ∧
  -- 04 R151
  (∀ (s : State) (t : Fin 1024) (sat re im : Bool) (n : BitVec 5) (a : Reg),
    s.ready t →
    (re || im) = true →
    (let x := s.tile t
    let w := x.window x.cwp.toNat
    let k : Int := 2 ^ n.toNat
    let v := (x.rd a).toInt * k
    let sum := w.accRe.toInt + w.accIm.toInt
    s.macSums t (.lda t sat n false true a {}) sat (lowHalf (x.rd a) * k) (highHalf (x.rd a) * k) ∧
    s.macDoes t (.lda t sat n im false a {}) [] (if im then w.accRe else narrow 40 sat v)
      (if im then narrow 40 sat v else w.accIm) (outside 40 v) (outside 40 v && sat) (outside 40 v && !sat) ∧
    s.macDoes t (.aclr t re im {}) [] (if re then 0 else w.accRe) (if im then 0 else w.accIm) false false false ∧
    s.macDoes t (.asum t sat {}) [] (narrow 40 sat sum) w.accIm (outside 40 sum)
      (outside 40 sum && sat) (outside 40 sum && !sat)))

/-- A ready tile whose access is aligned, legal and free of an uncorrectable error completes a load with its other slots empty: from tile memory the bytes at the computed address fill d (16 bits sign-extended, 32 bits, or the pair of an even d); from cluster memory the data is in flight and no register has changed. With PM the AGU advances under R104. Nothing else of the machine changes: a load writes no memory. -/
def Obligations.TileLoadResults : Prop :=
  -- 04 R155: LD from tile memory
  (∀ (s : State) (t : Fin 1024) (ag : Bool) (sz : MemSize) (d : Reg) (pm : Bool),
    s.ready t →
    evenFor sz d = true →
    ((s.tile t).agu ag).legal = true →
    s.ownAccess t ((s.tile t).agu ag).address (memBytes sz) →
    (let x := s.tile t
    let g := x.agu ag
    let h := if pm then g.advance else g
    s.completes t (.ld t ag sz d pm {}) (loaded sz d (readBytes x.mem g.address (memBytes sz)))
      (x.window x.cwp.toNat).accRe (x.window x.cwp.toNat).accIm x.status (if ag then x.agu0 else h) (if ag then h else x.agu1))) ∧
  -- 03 R110: LD from cluster memory
  (∀ (s : State) (t : Fin 1024) (ag : Bool) (sz : MemSize) (d : Reg) (pm : Bool),
    s.ready t →
    evenFor sz d = true →
    ((s.tile t).agu ag).legal = true →
    s.sharedAccess t ((s.tile t).agu ag).address (memBytes sz) →
    (let x := s.tile t
    let g := x.agu ag
    let h := if pm then g.advance else g
    s.fetches t (.ld t ag sz d pm {})
      (loaded sz d (readBytes (s.cluster (tileCluster t)).mem (g.address - 0x40000) (memBytes sz)))
      (if ag then x.agu0 else h) (if ag then h else x.agu1))) ∧
  -- 04 R155: LDR from tile memory
  (∀ (s : State) (t : Fin 1024) (d a : Reg) (off : BitVec 8),
    s.ready t →
    s.ownAccess t (((((s.tile t).rd a).toNat + 4 * off.toInt) % 2 ^ 20).toNat) 4 →
    (let x := s.tile t
    let e := ((((s.tile t).rd a).toNat + 4 * off.toInt) % 2 ^ 20).toNat
    s.completes t (.ldr t d a off {}) [(d.toNat, BitVec.ofNat 32 (readBytes x.mem e 4))]
      (x.window x.cwp.toNat).accRe (x.window x.cwp.toNat).accIm x.status x.agu0 x.agu1)) ∧
  -- 04 R155, 03 R110: LDR from cluster memory
  (∀ (s : State) (t : Fin 1024) (d a : Reg) (off : BitVec 8),
    s.ready t →
    s.sharedAccess t (((((s.tile t).rd a).toNat + 4 * off.toInt) % 2 ^ 20).toNat) 4 →
    (let x := s.tile t
    let e := ((((s.tile t).rd a).toNat + 4 * off.toInt) % 2 ^ 20).toNat
    s.fetches t (.ldr t d a off {}) [(d.toNat, BitVec.ofNat 32 (readBytes (s.cluster (tileCluster t)).mem (e - 0x40000) 4))]
      x.agu0 x.agu1)) ∧
  -- 04 R155: LD2 from tile memory
  (∀ (s : State) (t : Fin 1024) (da db : Reg) (p0 p1 : Bool),
    s.ready t →
    da ≠ db →
    (s.tile t).agu0.legal = true →
    (s.tile t).agu1.legal = true →
    s.ownAccess t (s.tile t).agu0.address 4 →
    s.ownAccess t (s.tile t).agu1.address 4 →
    (let x := s.tile t
    s.completes t (.ld2 t da db p0 p1 {})
      [(da.toNat, BitVec.ofNat 32 (readBytes x.mem x.agu0.address 4)), (db.toNat, BitVec.ofNat 32 (readBytes x.mem x.agu1.address 4))]
      (x.window x.cwp.toNat).accRe (x.window x.cwp.toNat).accIm x.status
      (if p0 then x.agu0.advance else x.agu0) (if p1 then x.agu1.advance else x.agu1))) ∧
  -- 04 R155, 03 R110: LD2 from cluster memory
  (∀ (s : State) (t : Fin 1024) (da db : Reg) (p0 p1 : Bool),
    s.ready t →
    da ≠ db →
    (s.tile t).agu0.legal = true →
    (s.tile t).agu1.legal = true →
    s.sharedAccess t (s.tile t).agu0.address 4 →
    s.sharedAccess t (s.tile t).agu1.address 4 →
    (let x := s.tile t
    let m := (s.cluster (tileCluster t)).mem
    s.fetches t (.ld2 t da db p0 p1 {})
      [(da.toNat, BitVec.ofNat 32 (readBytes m (x.agu0.address - 0x40000) 4)),
       (db.toNat, BitVec.ofNat 32 (readBytes m (x.agu1.address - 0x40000) 4))]
      (if p0 then x.agu0.advance else x.agu0) (if p1 then x.agu1.advance else x.agu1)))

/-- A ready tile whose access is aligned, legal and free of an uncorrectable error completes a store with its other slots empty: the low bytes of the source register, or of the even pair, stand at the computed address, least significant first, in tile memory or in its cluster's memory; every other byte of every memory, every register, the accumulators and the status stand; with PM the AGU advances under R104. -/
def Obligations.TileStoreResults : Prop :=
  -- 04 R155: ST
  (∀ (s : State) (t : Fin 1024) (ag : Bool) (sz : MemSize) (r : Reg) (pm : Bool),
    s.ready t →
    evenFor sz r = true →
    ((s.tile t).agu ag).legal = true →
    s.ownAccess t ((s.tile t).agu ag).address (memBytes sz) ∨ s.sharedAccess t ((s.tile t).agu ag).address (memBytes sz) →
    (let x := s.tile t
    let g := x.agu ag
    let h := if pm then g.advance else g
    s.stores t (.st t ag sz r pm {}) g.address (memBytes sz) (toStore x sz r) (if ag then x.agu0 else h) (if ag then h else x.agu1))) ∧
  -- 04 R155: STR
  (∀ (s : State) (t : Fin 1024) (r a : Reg) (off : BitVec 8),
    s.ready t →
    s.ownAccess t (((((s.tile t).rd a).toNat + 4 * off.toInt) % 2 ^ 20).toNat) 4 ∨ s.sharedAccess t (((((s.tile t).rd a).toNat + 4 * off.toInt) % 2 ^ 20).toNat) 4 →
    (let x := s.tile t
    s.stores t (.str t r a off {}) ((((s.tile t).rd a).toNat + 4 * off.toInt) % 2 ^ 20).toNat 4 (x.rd r).toNat x.agu0 x.agu1))

/-- A ready tile that issues AMOD with its other slots empty completes with one AGU changed: STEP advances the index by the step (modulo 8,192 in LIN mode, modulo L in MODULO mode), SETI sets it, SETB sets base, ESZ and MODE from a register, SETM sets L and step. MFENCE (stores land with the instruction that made them, log 32) and an all-zero instruction change nothing but the cycle's own bookkeeping. -/
def Obligations.AguUpdateAndFenceResults : Prop :=
  -- 04 R144, R155, R156, 03 R103, R104
  (∀ (s : State) (t : Fin 1024) (ag : Bool) (a : Reg),
    s.ready t →
    (let x := s.tile t
    let g := x.agu ag
    let v := x.rd a
    let does := fun (c : Instr) (h : Agu) => s.completes t c [] (x.window x.cwp.toNat).accRe (x.window x.cwp.toNat).accIm
      x.status (if ag then x.agu0 else h) (if ag then h else x.agu1)
    (g.mode = 0 → does (.amodStep t ag {}) { g with idx := g.idx + g.step }) ∧
    (g.mode = 1 → does (.amodStep t ag {}) { g with idx := BitVec.ofInt 13 ((g.idx.toNat + g.step.toInt) % g.length) }) ∧
    (g.mode = 2 → does (.amodStep t ag {}) g.advance) ∧
    does (.amodSeti t ag a {}) { g with idx := BitVec.ofNat 13 (if g.mode = 0 then v.toNat else v.toNat % 8192 % g.length) } ∧
    does (.amodSetb t ag a {}) { g with base := v.extractLsb' 0 20, esz := v.extractLsb' 20 2, mode := v.extractLsb' 22 2 } ∧
    does (.amodSetm t ag a {}) { g with len := v.extractLsb' 0 13, step := v.extractLsb' 16 13 } ∧
    s.completes t (.mfence t {}) [] (x.window x.cwp.toNat).accRe (x.window x.cwp.toNat).accIm x.status x.agu0 x.agu1 ∧
    s.completes t (.nop t) [] (x.window x.cwp.toNat).accRe (x.window x.cwp.toNat).accIm x.status x.agu0 x.agu1))

/-- With the ALU slot empty, an ALU2 command of a register form or a shift by an amount leaves the machine exactly as the ALU slot's own command on ALU B does, for every state whose tile is ready; and ALU2 ADD completes with its sum in d and the flags of ALU B. -/
def Obligations.AluTwoRunsTheSameOperations : Prop :=
  -- 04 R154
  (∀ (s : State) (t : Fin 1024) (sat : Bool) (d a b : Reg),
    s.ready t →
    (exec (.alu2 t (.reg .add sat d a b) {}) s = exec (.add t true sat d a b {}) s ∧
    exec (.alu2 t (.reg .sub sat d a b) {}) s = exec (.sub t true sat d a b {}) s ∧
    exec (.alu2 t (.reg .addu sat d a b) {}) s = exec (.addu t true sat d a b {}) s ∧
    exec (.alu2 t (.reg .subu sat d a b) {}) s = exec (.subu t true sat d a b {}) s ∧
    exec (.alu2 t (.reg .add2 sat d a b) {}) s = exec (.add2 t true sat d a b {}) s ∧
    exec (.alu2 t (.reg .sub2 sat d a b) {}) s = exec (.sub2 t true sat d a b {}) s ∧
    exec (.alu2 t (.reg .and sat d a b) {}) s = exec (.and t true sat d a b {}) s ∧
    exec (.alu2 t (.reg .or sat d a b) {}) s = exec (.or t true sat d a b {}) s ∧
    exec (.alu2 t (.reg .xor sat d a b) {}) s = exec (.xor t true sat d a b {}) s ∧
    exec (.alu2 t (.reg .min sat d a b) {}) s = exec (.min t true sat d a b {}) s ∧
    exec (.alu2 t (.reg .max sat d a b) {}) s = exec (.max t true sat d a b {}) s ∧
    exec (.alu2 t (.reg .mov sat d a 0) {}) s = exec (.mov t true sat d a {}) s ∧
    exec (.alu2 t (.reg .cmp sat 0 a b) {}) s = exec (.cmp t true sat a b {}) s ∧
    exec (.alu2 t (.reg .rds sat d 0 0) {}) s = exec (.rds t true sat d {}) s)) ∧
  -- 04 R154: a shift by an amount
  (∀ (s : State) (t : Fin 1024) (sat : Bool) (d a : Reg) (n : BitVec 5),
    s.ready t →
    (exec (.alu2 t (.imm .shli sat d a n) {}) s = exec (.shli t true sat d a n {}) s ∧
    exec (.alu2 t (.imm .shri sat d a n) {}) s = exec (.shri t true sat d a n {}) s ∧
    exec (.alu2 t (.imm .sari sat d a n) {}) s = exec (.sari t true sat d a n {}) s ∧
    exec (.alu2 t (.imm .rori sat d a n) {}) s = exec (.rori t true sat d a n {}) s)) ∧
  -- 04 R154: ADD on ALU B
  (∀ (s : State) (t : Fin 1024) (sat : Bool) (d a b : Reg),
    s.ready t →
    s.aluSigned t (.alu2 t (.reg .add sat d a b) {}) true sat (some d) (((s.tile t).rd a).toInt + ((s.tile t).rd b).toInt)
      (decide (2 ^ 32 ≤ ((s.tile t).rd a).toNat + ((s.tile t).rd b).toNat)))

/-- A ready tile that issues one of these with its other slots empty completes: JMP goes to its target when the condition of R158 holds on the chosen ALU's flags, and on in order otherwise; a REP with a count pushes START, END, count and frame and goes on, with count 0 it skips past END; BREAK pops the top entry of its frame and goes to the address after END. No register and no memory changes. -/
def Obligations.FlowResults : Prop :=
  -- 04 R157, R158: outside any block of the frame
  (∀ (s : State) (t : Fin 1024) (u : Bool) (cond : BitVec 4) (target : BitVec 9),
    s.ready t →
    s.offEnd t →
    (FlowOp.jmp u cond target).legal = true →
    (s.tile t).topRep = none →
    (s.tile t).inCode target.toNat = true →
    (let x := s.tile t
    let f := x.flags u
    let holds := [true, f.z, !f.z, f.n != f.v, f.n == f.v, !f.z && f.n == f.v, f.z || f.n != f.v, !f.c, f.c, f.c && !f.z,
      !f.c || f.z, f.n, !f.n, f.v, !f.v, x.status.sat].getD cond.toNat false
    if holds then s.goesTo t (.jmp t u cond target {}) target x.rep
    else s.goesTo t (.jmp t u cond target {}) (repAdvance x.pc x.frames x.rep).1 (repAdvance x.pc x.frames x.rep).2)) ∧
  -- 03 R127: inside the top block
  (∀ (s : State) (t : Fin 1024) (target : BitVec 9) (e : RepEntry),
    s.ready t →
    s.offEnd t →
    (s.tile t).topRep = some e →
    e.start ≤ (s.tile t).pc ∧ (s.tile t).pc ≤ e.stop →
    e.start ≤ target ∧ target ≤ e.stop →
    (s.tile t).inCode target.toNat = true →
    s.goesTo t (.jmp t false 0 target {}) target (s.tile t).rep) ∧
  -- 03 R124, 04 R157: REPS
  (∀ (s : State) (t : Fin 1024) (len : BitVec 4) (count : BitVec 16),
    s.ready t →
    s.offEnd t →
    (s.tile t).topRep = none →
    (let x := s.tile t
    if count = 0 then s.goesTo t (.repeatImm t len count {}) (x.pc + 2 + len.zeroExtend 9) x.rep
    else x.rep.length < 4 → s.goesTo t (.repeatImm t len count {}) (x.pc + 1)
      (⟨x.pc + 1, x.pc + 1 + len.zeroExtend 9, x.frames, count⟩ :: x.rep))) ∧
  -- 03 R124, 04 R157: REPR
  (∀ (s : State) (t : Fin 1024) (a : Reg) (stop : BitVec 9),
    s.ready t →
    s.offEnd t →
    (s.tile t).topRep = none →
    (s.tile t).pc < stop →
    (let x := s.tile t
    let count := (x.rd a).extractLsb' 0 16
    if count = 0 then s.goesTo t (.repeatReg t a stop {}) (stop + 1) x.rep
    else x.rep.length < 4 → s.goesTo t (.repeatReg t a stop {}) (x.pc + 1) (⟨x.pc + 1, stop, x.frames, count⟩ :: x.rep))) ∧
  -- 03 R127, 04 R157
  (∀ (s : State) (t : Fin 1024) (e : RepEntry),
    s.ready t →
    s.offEnd t →
    (s.tile t).topRep = some e →
    s.goesTo t (.breakOp t {}) (e.stop + 1) (s.tile t).rep.tail)

/-- A ready tile that issues CALL or RET with its other slots empty rotates its window: CALL passes d12 to d15 to the new window's d0 to d3, puts the next address in its LNK and goes to its target; RET passes d0 and d1 back to d12 and d13 and goes to LNK. Where the windows are full, or the caller's is spilled, the tile holds the instruction in a trap; the trap's completion spills the oldest window to its slot of cluster memory, or reads the caller's back, and the CALL or RET is done. -/
def Obligations.CallAndReturnResults : Prop :=
  -- 03 R111
  (∀ (s : State) (t : Fin 1024) (ind : Bool) (a : Reg) (target : BitVec 9),
    s.ready t →
    s.offEnd t →
    (FlowOp.call ind a target).legal = true →
    (s.tile t).frames < 16 →
    (s.tile t).res < 4 →
    (s.tile t).inCode (if ind then ((s.tile t).rd a).extractLsb' 0 9 else target).toNat = true →
    (let x := s.tile t
    s.movesFrame t (.call t ind a target {}) (if ind then (x.rd a).extractLsb' 0 9 else target) (x.cwp + 1) (x.frames + 1) (x.res + 1)
      [(0, x.rd 12), (1, x.rd 13), (2, x.rd 14), (3, x.rd 15)] (x.pc + 1))) ∧
  -- 03 R112
  (∀ (s : State) (t : Fin 1024),
    s.ready t →
    s.offEnd t →
    (s.tile t).topRep = none →
    1 < (s.tile t).frames →
    1 < (s.tile t).res →
    (s.tile t).inCode ((s.tile t).window (s.tile t).cwp.toNat).lnk.toNat = true →
    (let x := s.tile t
    s.movesFrame t (.ret t {}) (x.window x.cwp.toNat).lnk (x.cwp - 1) (x.frames - 1) (x.res - 1) [(12, x.rd 0), (13, x.rd 1)]
      (x.window (x.cwp - 1).toNat).lnk)) ∧
  -- 03 R111, R115: the trap begins
  (∀ (s : State) (t : Fin 1024) (target : BitVec 9),
    s.ready t →
    s.offEnd t →
    (s.tile t).frames < 16 →
    (s.tile t).res = 4 →
    (s.tile t).guarded = false →
    (s.tile t).inCode target.toNat = true →
    exec (.call t false 0 target {}) s =
      .next (s.modTile t (fun x => { x with trapping := some (joinWord 0 0 0 (encodeFlow (.call false 0 target))) }))) ∧
  -- 03 R111, R113, R117
  (∀ (s : State) (t : Fin 1024) (wait : Nat) (target : BitVec 9),
    (s.tile t).trapping = some (joinWord 0 0 0 (encodeFlow (.call false 0 target))) →
    (s.tile t).waiting = none →
    (s.tile t).frames < 16 →
    (s.tile t).res = 4 →
    4 ≤ (s.tile t).frames →
    (let x := s.tile t
    let c := tileCluster t
    ∃ u, exec (.windowTrapComplete t wait) s = .next u ∧ (u.tile t).pc = target ∧ (u.tile t).cwp = x.cwp + 1 ∧
      (u.tile t).frames = x.frames + 1 ∧ (u.tile t).res = 4 ∧ (u.tile t).trapping = none ∧
      (∀ i, i < 16 → readBytes (u.cluster c).mem (spillSlot t (x.frames - 3) + 4 * i) 4 = (x.reg (x.cwp + 1).toNat i).toNat) ∧
      readBytes (u.cluster c).mem (spillBase t + 4) 4 = x.pc.toNat ∧
      (∀ i, i < 4 → (u.tile t).reg (x.cwp + 1).toNat i = x.reg x.cwp.toNat (12 + i)) ∧
      ((u.tile t).window (x.cwp + 1).toNat).lnk = x.pc + 1)) ∧
  -- 03 R112, R114, R117
  (∀ (s : State) (t : Fin 1024) (wait : Nat),
    (s.tile t).trapping = some (joinWord 0 0 0 (encodeFlow .ret)) →
    (s.tile t).waiting = none →
    (s.tile t).topRep = none →
    1 < (s.tile t).frames →
    (s.tile t).res = 1 →
    (upsetsIn (s.cluster (tileCluster t)).upsets (spillSlot t ((s.tile t).frames - 1) / 8) 10).1 = false →
    (let x := s.tile t
    let m := (s.cluster (tileCluster t)).mem
    let v := (x.cwp - 1).toNat
    ∃ u, exec (.windowTrapComplete t wait) s = .next u ∧ (u.tile t).pc = (x.window x.cwp.toNat).lnk ∧ (u.tile t).cwp = x.cwp - 1 ∧
      (u.tile t).frames = x.frames - 1 ∧ (u.tile t).res = 1 ∧ (u.tile t).trapping = none ∧
      (u.tile t).reg v 12 = x.reg x.cwp.toNat 0 ∧ (u.tile t).reg v 13 = x.reg x.cwp.toNat 1 ∧
      (∀ i, i < 16 → i ≠ 12 → i ≠ 13 → (u.tile t).reg v i = BitVec.ofNat 32 (readBytes m (spillSlot t (x.frames - 1) + 4 * i) 4))))

/-- With no other token in the lanes, SW takes the one token of an input port of the tile's own into its register, and sends a register's value into the input buffer that its lane leads to, registers otherwise standing. CTX enters a valid slot fresh, or context 15 where no task owns the tile. TRAP is the TRAP fault: T.FAULT and T.TRAPC are written, a record is logged and the tile stands in context 15. -/
def Obligations.SwitchSlotLaneAndContextResults : Prop :=
  -- 04 R159: RX
  (∀ (s : State) (t : Fin 1024) (p : BitVec 3) (d : Reg) (v : Word),
    s.ready t →
    (s.tile t).swcfg.getLsbD (32 + p.toNat) = true →
    (s.tile t).inbuf = [(p.toNat, [v])] →
    (s.modTile t (fun x => { x with inbuf := [] })).lanesEmpty = true →
    (let x := s.tile t
    ∃ u, exec (.sw t true p d false 0 0 none {}) s = .next u ∧ s.onlyTile u t ∧ (u.tile t).inbuf = [] ∧
      (∀ w r, (u.tile t).reg w r = x.regAfter [(d.toNat, v)] w r) ∧ (u.tile t).status = x.status ∧
      (u.tile t).mem = x.mem ∧ (u.tile t).pc = (repAdvance x.pc x.frames x.rep).1)) ∧
  -- 04 R159, 05 R162: TX
  (∀ (s : State) (t : Fin 1024) (p : BitVec 3) (r : Reg) (n q : Nat),
    s.ready t →
    s.lanesEmpty = true →
    osel (s.tile t).swcfg p.toNat = 1 →
    cmpOn (s.tile t).swcfg p.toNat = false →
    laneEnd t p.toNat = .tile n q →
    s.hasRoom t p.toNat = true →
    sinkOn (s.tile n).swcfg q = false →
    feeds (s.tile n).swcfg q = [] →
    (s.tile n).parityPort = none →
    n ≠ t.val →
    (let x := s.tile t
    ∃ u, exec (.sw t false 0 0 true p r none {}) s = .next u ∧ (u.tile n).inbuf = [(q, [x.rd r])] ∧
      (∀ w, (u.tile t).window w = x.window w) ∧ (u.tile t).status = x.status ∧ (u.tile t).mem = x.mem ∧
      (∀ k, k ≠ t → k ≠ n → u.tile k = s.tile k) ∧ (u.tile t).pc = (repAdvance x.pc x.frames x.rep).1)) ∧
  -- 04 R157, 03 R131
  (∀ (s : State) (t : Fin 1024) (k : BitVec 4),
    s.ready t →
    s.lanesEmpty = true →
    k ≠ 15 →
    (s.tile t).slotValid k.toNat = true →
    (∃ u, exec (.ctx t k {}) s = .next u ∧ s.onlyTile u t ∧ (u.tile t).enteredFrom (s.tile t) k.toNat .instr)) ∧
  -- 04 R157: slot 15
  (∀ (s : State) (t : Fin 1024),
    s.ready t →
    s.lanesEmpty = true →
    (s.tile t).owner = none →
    (∃ u, exec (.ctx t 15 {}) s = .next u ∧ s.onlyTile u t ∧ (u.tile t).ctx = 15 ∧ (u.tile t).prev = (s.tile t).ctx ∧
      (u.tile t).reason = .instr ∧ ∀ w, (u.tile t).window w = (s.tile t).window w)) ∧
  -- 03 R137, R138, 04 R157
  (∀ (s : State) (t : Fin 1024) (code : BitVec 8),
    s.ready t →
    s.lanesEmpty = true →
    (s.tile t).owner = none →
    (let x := s.tile t
    ∃ u, exec (.trap t code {}) s = .next u ∧ (u.tile t).ctx = 15 ∧ (u.tile t).reason = .fault ∧ (u.tile t).faultValid = true ∧
      (u.tile t).faultCause = .trap ∧ (u.tile t).faultPc = x.pc ∧ (u.tile t).trapc = code ∧
      (u.log.general.records.headD {}).code = 0x020E ∧ (∀ k, k ≠ t → u.tile k = s.tile k) ∧
      (∀ w, (u.tile t).window w = x.window w) ∧ (u.tile t).mem = x.mem))

/-- A ready tile that starts an STM or LDM under a mask, its base 8-byte aligned and its image in tile memory or in its cluster's memory, moves the elements of the image's first beat: STM writes the registers and sign-extended accumulators to their offsets and no other byte; LDM fills them from there, holding back the register that supplies the base until completion. A beat that leaves elements keeps the PC and marks the elements done in T.MPROG; the last one clears T.MPROG, post-modifies the base with PM and goes on in order. The mask slot's command and the memory slot's command issue the same word. -/
def Obligations.StoreAndLoadMultipleBeats : Prop :=
  -- 03 R119 to R123, 04 R152, R155: STM
  (∀ (s : State) (t : Fin 1024) (bk pm : Bool) (base : Reg) (m : BitVec 18),
    s.ready t →
    (MemOp.stm bk base pm).legal = true →
    (s.tile t).mprog = {} →
    (bk || ((s.tile t).agu (base.getLsbD 0)).legal) = true →
    s.imageAccess t (multBase (s.tile t) bk base) (multLength m) →
    (let x := s.tile t
    let b := multBase x bk base
    let p : MProg := { mpc := x.pc, load := false, active := true }
    let es := nextBeat m p
    let q := es.foldl (fun r e => r.mark e.2) p
    let done : Bool := nextBeat m q == []
    ∃ u, exec (.stm t bk base pm { alu := encodeAlu (.mask m) }) s = .next u ∧
      exec (.xmask t m { mem := encodeMem (.stm bk base pm) }) s = .next u ∧
      (∀ e, e ∈ es → u.dataBytes t (b + e.1) (elemValue x e.2).1 = (elemValue x e.2).2) ∧
      (∀ a, (es.all (fun e => decide (a < b + e.1 ∨ b + e.1 + (elemValue x e.2).1 ≤ a))) = true → u.dataByte t a = s.dataByte t a) ∧
      (∀ w r, (u.tile t).reg w r =
        if done && bk && pm && w == x.cwp.toNat && r == base.toNat then x.rd base + BitVec.ofNat 32 (multLength m) else x.reg w r) ∧
      (u.tile t).agu0 = (if done && !bk && pm && !base.getLsbD 0 then x.agu0.advanceBytes (multLength m) else x.agu0) ∧
      (u.tile t).agu1 = (if done && !bk && pm && base.getLsbD 0 then x.agu1.advanceBytes (multLength m) else x.agu1) ∧
      (u.tile t).mprog = (if done then {} else q) ∧
      (u.tile t).pc = (if done then (repAdvance x.pc x.frames x.rep).1 else x.pc) ∧
      (u.tile t).status = x.status ∧ (∀ k, k ≠ t.val → u.tile k = s.tile k) ∧
      (∀ k, k ≠ tileCluster t → u.cluster k = s.cluster k))) ∧
  -- 03 R119 to R123, 04 R152, R155: LDM
  (∀ (s : State) (t : Fin 1024) (bk pm : Bool) (base : Reg) (m : BitVec 18),
    s.ready t →
    (MemOp.ldm bk base pm).legal = true →
    (s.tile t).mprog = {} →
    (bk || ((s.tile t).agu (base.getLsbD 0)).legal) = true →
    s.imageAccess t (multBase (s.tile t) bk base) (multLength m) →
    (bk && pm && (maskRegs m).contains base.toNat) = false →
    (let x := s.tile t
    let b := multBase x bk base
    let p : MProg := { mpc := x.pc, load := true, active := true }
    let es := nextBeat m p
    let q := es.foldl (fun r e => r.mark e.2) p
    let done : Bool := nextBeat m q == []
    ∃ u, exec (.ldm t bk base pm { alu := encodeAlu (.mask m) }) s = .next u ∧
      exec (.xmask t m { mem := encodeMem (.ldm bk base pm) }) s = .next u ∧ s.onlyTile u t ∧
      (∀ w r, w ≠ x.cwp.toNat → (u.tile t).reg w r = x.reg w r) ∧
      (∀ r, (u.tile t).reg x.cwp.toNat r =
        if done && bk && pm && r == base.toNat then x.rd base + BitVec.ofNat 32 (multLength m)
        else match es.find? (fun e => e.2 == .reg r) with
          | some e => if bk && r == base.toNat && !done then x.reg x.cwp.toNat r else BitVec.ofNat 32 (s.dataBytes t (b + e.1) 4)
          | none => x.reg x.cwp.toNat r) ∧
      ((u.tile t).window x.cwp.toNat).accRe = (match es.find? (fun e => e.2 == .accRe) with
        | some e => BitVec.ofNat 40 (s.dataBytes t (b + e.1) 8)
        | none => (x.window x.cwp.toNat).accRe) ∧
      ((u.tile t).window x.cwp.toNat).accIm = (match es.find? (fun e => e.2 == .accIm) with
        | some e => BitVec.ofNat 40 (s.dataBytes t (b + e.1) 8)
        | none => (x.window x.cwp.toNat).accIm) ∧
      (u.tile t).agu0 = (if done && !bk && pm && !base.getLsbD 0 then x.agu0.advanceBytes (multLength m) else x.agu0) ∧
      (u.tile t).agu1 = (if done && !bk && pm && base.getLsbD 0 then x.agu1.advanceBytes (multLength m) else x.agu1) ∧
      (u.tile t).mprog = (if done then {} else q) ∧
      (u.tile t).pc = (if done then (repAdvance x.pc x.frames x.rep).1 else x.pc) ∧
      (u.tile t).mem = x.mem ∧ (u.tile t).status = x.status))

/-- A sequencer arms switches with the 40-cycle guard and takes them at the edge, each tile entering its slot fresh with reason COMMIT; it holds and releases tiles; the data of the oldest cluster load lands in its window; a scrub burst corrects the single-bit errors of 16 words of a bank; after 16 refusals it takes a tile memory bank and the tile stalls one cycle; it writes descriptor words of slots other than 15 and the current one with legal AGU settings, and instruction words outside the current code region, and its refused writes change nothing. -/
def Obligations.SequencerTileAndMemoryActs : Prop :=
  -- 03 R135
  (∀ (s : State) (c : Fin 64) (arm : List (Fin 16 × Fin 16)),
    (arm.map (·.1)).Nodup →
    (∃ u, exec (.switchGuard c arm) s = .next u ∧ u = { s with array := { s.array with tiles := u.array.tiles } } ∧
      (∀ p, p ∈ arm → u.tile ((clusterTiles c).getD p.1 0) =
        { s.tile ((clusterTiles c).getD p.1 0) with armed := some p.2.val, guarded := true }) ∧
      (∀ t, (arm.all (fun p => (clusterTiles c).getD p.1 0 != t)) = true → u.tile t = s.tile t))) ∧
  -- 03 R131, R133, R135
  (∀ (s : State) (c : Fin 64),
    s.lanesEmpty = true →
    ((clusterTiles c).all (fun t => match (s.tile t).armed with | some k => decide (k < 15) && (s.tile t).slotValid k && (s.tile t).trapping.isNone | none => true)) = true →
    (∃ u, exec (.scheduledSwitch c) s = .next u ∧ u = { s with array := { s.array with tiles := u.array.tiles } } ∧
      (∀ t, t ∈ clusterTiles c → (s.tile t).armed = none → u.tile t = s.tile t) ∧
      (∀ t k, t ∈ clusterTiles c ∧ (s.tile t).armed = some k →
        (u.tile t).enteredFrom (s.tile t) k .commit ∧ (u.tile t).armed = none ∧ (u.tile t).guarded = false) ∧
      (∀ t, (clusterTiles c).contains t = false → u.tile t = s.tile t))) ∧
  -- 03 R122, R137
  (∀ (s : State) (t : Fin 1024),
    ((∃ u, exec (.sequencerHold t) s = .next u ∧ s.onlyTile u t ∧ u.tile t = { s.tile t with held := true }) ∧
    (∃ u, exec (.holdRelease t) s = .next u ∧ s.onlyTile u t ∧ u.tile t = { s.tile t with held := false }))) ∧
  -- 03 R110
  (∀ (s : State) (t : Fin 1024) (l : PendingLoad) (rest : List PendingLoad),
    (s.tile t).loads = l :: rest →
    (∃ u, exec (.loadDataArrival t) s = .next u ∧ s.onlyTile u t ∧ (u.tile t).loads = rest ∧
      (∀ w r, (u.tile t).reg w r =
        if w = l.win then l.regs.foldl (fun v p => if p.1 = r then p.2 else v) ((s.tile t).reg w r) else (s.tile t).reg w r) ∧
      (u.tile t).pc = (s.tile t).pc ∧ (u.tile t).status = (s.tile t).status ∧ (u.tile t).mem = (s.tile t).mem)) ∧
  -- 03 R93
  (∀ (s : State) (c : Fin 64) (bank : Fin 4) (w : Fin 8192),
    (s.cluster c).gated = false →
    (let x := s.cluster c
    ∃ u, exec (.clusterMemoryScrub c bank w) s = .next u ∧
      u = { s with array := { s.array with clusters := u.array.clusters } } ∧ (∀ k, k ≠ c.val → u.cluster k = s.cluster k) ∧
      u.cluster c = { x with upsets := (u.cluster c).upsets, scrubs := (x.scrubs + 1) % 2 ^ 32 } ∧
      (u.cluster c).upsets = x.upsets.filter (fun e =>
        decide (e.1 < 8192 * bank.val + w.val ∨ 8192 * bank.val + w.val + 16 ≤ e.1 ∨ e.2 ≠ 1)))) ∧
  -- 03 R107
  (∀ (s : State) (t : Fin 1024) (b : Fin 2),
    16 ≤ tget 0 (s.tile t).refused b →
    (let x := s.tile t
    ∃ u, exec (.sequencerPortTake t b) s = .next u ∧ s.onlyTile u t ∧
      u.tile t = { x with refused := (u.tile t).refused, cyc := if x.ctx = 15 then x.cyc else x.cyc + 1 } ∧
      (∀ k, tget 0 (u.tile t).refused k = if k = b.val then 0 else tget 0 x.refused k))) ∧
  -- 03 R128 to R130
  (∀ (s : State) (t : Fin 1024) (k : Fin 16) (j : Fin 8) (v : Word),
    (let x := s.tile t
    (k.val ≠ 15 ∧ k.val ≠ x.ctx ∧ descLegal x k j v = true →
      ∃ u, exec (.descriptorWrite t k j v) s = .next u ∧ s.onlyTile u t ∧ u.tile t = { x with desc := (u.tile t).desc } ∧
        (∀ a b, a < 16 → b < 8 → (u.tile t).descWord a b = if a = k.val ∧ b = j.val then v &&& descMask j else x.descWord a b)) ∧
    (k.val = 15 ∨ k.val = x.ctx ∨ descLegal x k j v = false → exec (.descriptorWrite t k j v) s = .next s))) ∧
  -- 03 R130, 04 R143
  (∀ (s : State) (t : Fin 1024) (i : Fin 512) (j : Fin 3) (v : Word),
    (let x := s.tile t
    (x.ctx = 15 ∨ x.inCode i = false →
      ∃ u, exec (.instructionWordWrite t i j v) s = .next u ∧ s.onlyTile u t ∧
        u.tile t = { x with imem := (u.tile t).imem, imemUe := (u.tile t).imemUe } ∧
        (∀ n, n ≠ i.val → tget 0 (u.tile t).imem n = tget 0 x.imem n) ∧
        (∀ b, b < 96 → (tget 0 (u.tile t).imem i).getLsbD b =
          if 32 * j.val ≤ b ∧ b < 32 * j.val + 32 then v.getLsbD (b - 32 * j.val) else (tget 0 x.imem i).getLsbD b)) ∧
    (x.ctx ≠ 15 ∧ x.inCode i = true → exec (.instructionWordWrite t i j v) s = .next s)))

/-- A write of the tile map from SYS of a register of a tile at rest takes: data registers, SAT and OVF cleared by ones, tile memory; from a cluster node it changes nothing. The Gaffer's write of a probe's selector takes. A gateable cluster that is gated keeps its tiles' instruction memory and context store alone and loses its memory; waking a gated cluster with no held request and no waiting task clears its bit. -/
def Obligations.RegisterWriteGatingAndWakingResults : Prop :=
  -- 03 R139, R140: a data register
  (∀ (s : State) (t : Fin 1024) (src : Fin 78) (w : Fin 4) (r : Fin 16) (v : Word),
    64 ≤ src.val →
    (s.cluster (tileCluster t)).gated = false →
    (s.tile t).atRest = true →
    (∃ u, exec (.registerWrite src (.tile t (Fin.ofNat 20480 (0x40 + 16 * w.val + r.val)) v)) s = .next u ∧ s.onlyTile u t ∧
      (∀ a b, (u.tile t).reg a b = if a = w.val ∧ b = r.val then v else (s.tile t).reg a b) ∧ (u.tile t).pc = (s.tile t).pc)) ∧
  -- 03 R139: T.STATUS
  (∀ (s : State) (t : Fin 1024) (src : Fin 78) (v : Word),
    64 ≤ src.val →
    (s.cluster (tileCluster t)).gated = false →
    (let x := s.tile t
    ∃ u, exec (.registerWrite src (.tile t 3 v)) s = .next u ∧ s.onlyTile u t ∧
      u.tile t = { x with status := { x.status with sat := x.status.sat && !v.getLsbD 8, ovf := x.status.ovf && !v.getLsbD 9 } })) ∧
  -- 03 R139: tile memory
  (∀ (s : State) (t : Fin 1024) (src : Fin 78) (i : Fin 4096) (v : Word),
    64 ≤ src.val →
    (s.cluster (tileCluster t)).gated = false →
    (∃ u, exec (.registerWrite src (.tile t (Fin.ofNat 20480 (0x4000 + i.val)) v)) s = .next u ∧ s.onlyTile u t ∧
      readBytes (u.tile t).mem (4 * i.val) 4 = v.toNat ∧
      (∀ a, a < 4 * i.val ∨ 4 * i.val + 4 ≤ a → tget 0 (u.tile t).mem a = tget 0 (s.tile t).mem a))) ∧
  -- 03 R140, 06 R219, R238
  (∀ (s : State) (src : Fin 78) (t : Fin 1024) (off : Fin 20480) (k : Fin 16) (v : Word),
    src.val < 64 →
    (exec (.registerWrite src (.tile t off v)) s = .next s ∧
    ∃ u, exec (.registerWrite 64 (.probe k 1 v.toNat)) s = .next u ∧ u = { s with net := { s.net with probes := u.net.probes } } ∧
      (u.probe k).sel = v.toNat % 2048 ∧ (∀ j, j ≠ k.val → u.probe j = s.probe j))) ∧
  -- 03 R141, 14 R520
  (∀ (s : State) (c : Fin 64),
    s.gateable c = true →
    (∃ u, exec (.clusterPowerGate c) s = .next u ∧ (u.cluster c).gated = true ∧ (u.cluster c).mem = [] ∧ (u.cluster c).upsets = [] ∧
      (∀ k, k ≠ c.val → u.cluster k = s.cluster k) ∧
      (∀ t, t ∈ clusterTiles c → u.tile t = { desc := (s.tile t).desc, imem := (s.tile t).imem, imemUe := (s.tile t).imemUe }) ∧
      (∀ t, (clusterTiles c).contains t = false → u.tile t = s.tile t) ∧
      u.logsOver { s with array := u.array, net := u.net, power := u.power })) ∧
  -- 06 R232
  (∀ (s : State) (c : Fin 64),
    (s.cluster c).gated = true →
    (s.ni c).requests = [] →
    s.array.tasks = [] →
    (∃ u, exec (.clusterWake c) s = .next u ∧ (u.cluster c).gated = false ∧ (u.cluster c).idleSince = s.now ∧
      (∀ k, k ≠ c.val → u.cluster k = s.cluster k) ∧ u.array.tiles = s.array.tiles ∧
      u.logsOver { s with array := u.array, net := u.net, power := u.power } ∧ (∀ k, u.ni k = s.ni k)))

/-- A heard and admitted command is answered OK and changes its task: ARM in RUN of a LOADED or STOPPED task makes it ARMED, or has it wait for its gated clusters; CANCEL of an ARMED task stops it with CANCELLED_PRE, of a RUNNING or DRAINING one stops its tiles at home and leaves it STOPPED with CANCELLED, a flush due; DRAIN takes RUNNING to DRAINING from now; ACK_FAULT takes FAULTED to LOADED; UNLOAD frees the number; FIRE of a HOST trigger fires it. -/
def Obligations.TaskCommandResults : Prop :=
  -- 05 R178, R194: ARM
  (∀ (s : State) (q : Req) (ss : Session) (n : Fin 256),
    s.hears q ss →
    s.admitted q ss (okey (0x3100 + n.val) 8) →
    s.op.state ≠ .sleep →
    s.op.state = .run →
    (s.task n).zone ≠ 0 ∨ ss.role = .safety →
    (s.task n).state = .loaded ∨ (s.task n).state = .stopped →
    s.gatedOf n = [] →
    (s.task n).kind ≠ .immediate →
    (∃ u, exec (.taskArm q n) s = .next u ∧
      s.taskTold u q n { s.task n with state := .armed, reason := .none, waking := [], pending := false })) ∧
  -- 05 R194: ARM waits
  (∀ (s : State) (q : Req) (ss : Session) (n : Fin 256),
    s.hears q ss →
    s.admitted q ss (okey (0x3100 + n.val) 8) →
    s.op.state ≠ .sleep →
    s.op.state = .run →
    (s.task n).zone ≠ 0 ∨ ss.role = .safety →
    (s.task n).state = .loaded ∨ (s.task n).state = .stopped →
    s.gatedOf n ≠ [] →
    (∃ u, exec (.taskArm q n) s = .next u ∧ s.taskTold u q n { s.task n with waking := s.gatedOf n })) ∧
  -- 05 R188: CANCEL before a start
  (∀ (s : State) (q : Req) (ss : Session) (n : Fin 256),
    s.hears q ss →
    s.admitted q ss (okey (0x3100 + n.val) 8) →
    s.op.state ≠ .sleep →
    (s.task n).state = .armed →
    (∃ u, exec (.taskCancel q n) s = .next u ∧
      s.taskTold u q n { s.task n with state := .stopped, reason := .cancelledPre, pending := false, start := none, ended := []
                                       flushDue := true, aborts := 0, waking := []
                                       cancelledPre := ((s.task n).cancelledPre + 1) % 2 ^ 32 })) ∧
  -- 05 R188: CANCEL of a running task
  (∀ (s : State) (q : Req) (ss : Session) (n : Fin 256),
    s.hears q ss →
    s.admitted q ss (okey (0x3100 + n.val) 8) →
    s.op.state ≠ .sleep →
    (s.task n).state = .running ∨ (s.task n).state = .draining →
    (∃ u, exec (.taskCancel q n) s = .next u ∧ u.answers q .ok ∧ (u.task n).state = .stopped ∧ (u.task n).reason = .cancelled ∧
      (u.task n).flushDue = true ∧ (u.task n).pending = false ∧ s.tilesStopped u (s.ownedIn n (s.homeClusters n)) .cancel)) ∧
  -- 05 R187: DRAIN
  (∀ (s : State) (q : Req) (ss : Session) (n : Fin 256),
    s.hears q ss →
    s.admitted q ss (okey (0x3100 + n.val) 8) →
    s.op.state ≠ .sleep →
    (s.task n).state = .running →
    (∃ u, exec (.taskDrain q n) s = .next u ∧ s.taskTold u q n { s.task n with state := .draining, drainAt := s.now })) ∧
  -- 05 R178: ACK_FAULT
  (∀ (s : State) (q : Req) (ss : Session) (n : Fin 256),
    s.hears q ss →
    s.admitted q ss (okey (0x3100 + n.val) 8) →
    s.op.state ≠ .sleep →
    (s.task n).state = .faulted →
    (∃ u, exec (.taskAckFault q n) s = .next u ∧ s.taskTold u q n { s.task n with state := .loaded, reason := .none })) ∧
  -- 05 R175, R178: UNLOAD
  (∀ (s : State) (q : Req) (ss : Session) (n : Fin 256),
    s.hears q ss →
    s.admitted q ss (okey (0x3100 + n.val) 8) →
    s.op.state ≠ .sleep →
    (s.task n).state = .loaded ∨ (s.task n).state = .stopped ∨ (s.task n).state = .faulted →
    (∃ u, exec (.taskUnload q n) s = .next u ∧ s.taskTold u q n {})) ∧
  -- 05 R179, R180: FIRE
  (∀ (s : State) (q : Req) (ss : Session) (n : Fin 256),
    s.hears q ss →
    s.admitted q ss (okey (0x3100 + n.val) 8) →
    s.op.state ≠ .sleep →
    s.op.state = .run →
    (s.task n).live = true →
    (s.task n).kind = .host →
    (s.task n).multi = false ∨ (s.task n).state ≠ .armed →
    (∃ u, exec (.taskFire q n) s = .next u ∧ s.taskTold u q n ((s.task n).fired s.now)))

/-- A live task's TIME trigger fires once at or after its time, a PERIOD trigger once for each instant congruent to its phase, an ANGLE trigger once its channel's published angle has reached the value in forward rotation; a multi-cluster task that becomes READY starts a round for the tick StartLead ahead. A sequencer's dispatch starts its next READY task; at the decision edge with every ACK the round commits; at the tick, COMMIT held everywhere, every tile enters its slot and the task is RUNNING. -/
def Obligations.TriggersDispatchAndStarts : Prop :=
  -- 05 R179: TIME
  (∀ (s : State) (n : Fin 256),
    (s.task n).kind = .time →
    (s.task n).live = true →
    (s.task n).param ≤ s.time.t64 →
    (s.task n).firedAt ≠ some (s.task n).param →
    (s.task n).multi = false ∨ (s.task n).state ≠ .armed →
    (∃ u, exec (.triggerTime n) s = .next u ∧ s.onlyTask u n ({ s.task n with firedAt := some (s.task n).param }.fired s.now))) ∧
  -- 05 R179: PERIOD
  (∀ (s : State) (n : Fin 256),
    (s.task n).kind = .period →
    (s.task n).live = true →
    1000 ≤ (s.task n).param % 2 ^ 32 →
    (s.task n).param / 2 ^ 32 ≤ s.time.t64 →
    (s.task n).multi = false ∨ (s.task n).state ≠ .armed →
    (let k := s.task n
    let p := k.param % 2 ^ 32
    let i := s.time.t64 - (s.time.t64 - k.param / 2 ^ 32) % p
    ∃ u, exec (.triggerPeriod n) s = .next u ∧
      (k.firedAt ≠ some i → s.onlyTask u n ({ k with firedAt := some i }.fired s.now)) ∧ (k.firedAt = some i → u = s))) ∧
  -- 05 R179: ANGLE
  (∀ (s : State) (n : Fin 256),
    (s.task n).kind = .angle →
    (s.task n).live = true →
    s.angleReached (s.task n).param = true →
    (s.task n).firedAt ≠ some (s.task n).param →
    (s.task n).multi = false ∨ (s.task n).state ≠ .armed →
    (∃ u, exec (.triggerAngle n) s = .next u ∧ s.onlyTask u n ({ s.task n with firedAt := some (s.task n).param }.fired s.now))) ∧
  -- 05 R183: a round begins
  (∀ (s : State) (n : Fin 256),
    (s.task n).kind = .time →
    (s.task n).state = .armed →
    (s.task n).param ≤ s.time.t64 →
    (s.task n).firedAt ≠ some (s.task n).param →
    (s.task n).multi = true →
    (let k := s.task n
    ∃ u, exec (.triggerTime n) s = .next u ∧ (u.task n).state = .ready ∧ (u.task n).readyAt = s.now ∧
      (u.task n).triggers = (k.triggers + 1) % 2 ^ 32 ∧ u.array.tiles = s.array.tiles ∧
      (u.task n).start.map (fun r => (r.tick, r.acks, r.committed, r.holders)) = some (s.now + k.startLead, [], false, []))) ∧
  -- 05 R181, R182
  (∀ (s : State) (c : Fin 64) (n : Nat),
    s.nextDispatch c = some n →
    s.canStart n →
    (∃ u, exec (.taskDispatch c) s = .next u ∧ s.hasStarted u n)) ∧
  -- 05 R183: COMMIT
  (∀ (s : State) (n : Fin 256) (r : StartRound),
    (s.task n).state = .ready →
    (s.task n).start = some r →
    r.committed = false →
    r.tick ≤ s.now + 32 →
    ((s.task n).clusters.all (fun c => r.acks.contains c)) = true →
    (∃ u, exec (.startDecision n) s = .next u ∧ u.task n = { s.task n with start := some { r with committed := true } } ∧
      u.array.tiles = s.array.tiles ∧ ∀ m, m ≠ n.val → u.task m = s.task m)) ∧
  -- 05 R183: the third ABORT
  (∀ (s : State) (n : Fin 256) (r : StartRound),
    (s.task n).state = .ready →
    (s.task n).start = some r →
    r.committed = false →
    r.tick ≤ s.now + 32 →
    ((s.task n).clusters.all (fun c => r.acks.contains c)) = false →
    2 ≤ (s.task n).aborts →
    (∃ u, exec (.startDecision n) s = .next u ∧ (u.task n).state = .faulted ∧ (u.task n).faultCause = 0x80 ∧ (u.task n).start = none ∧
      u.lastCode = 0x0280)) ∧
  -- 05 R183, R185: the start tick
  (∀ (s : State) (n : Fin 256) (r : StartRound),
    (s.task n).state = .ready →
    (s.task n).start = some r →
    r.committed = true →
    r.tick ≤ s.now →
    ((s.task n).clusters.all (fun c => r.holders.contains c)) = true →
    r.drainAtStart = false →
    s.canStart n →
    (∃ u, exec (.startTick n) s = .next u ∧ s.hasStarted u n))

/-- A draining task whose tiles are done or starved is STOPPED with DRAINED, after DrainMax with DRAIN_TIMEOUT, its tiles free in context 15; a due flush empties the buffers of its tiles and its queue and counts the tokens; a CANCEL message stops a stopped task's tiles of that cluster; the due quench stop puts every Z0 tile in context 15 and stops live Z0 tasks with QUENCH. Bridges between adjacent clusters of two zones, both leases held, open and close at a session's write. -/
def Obligations.DrainsFlushesStopsAndBridges : Prop :=
  -- 05 R187: DRAINED
  (∀ (s : State) (n : Fin 256),
    (s.task n).state = .draining →
    s.drained n = true →
    (∃ u, exec (.drainComplete n) s = .next u ∧ (u.task n).state = .stopped ∧ (u.task n).reason = .drained ∧ (u.task n).flushDue = true ∧
      s.tilesStopped u (s.ownedIn n (s.task n).clusters) .cancel)) ∧
  -- 05 R187: DRAIN_TIMEOUT
  (∀ (s : State) (n : Fin 256),
    (s.task n).state = .draining →
    (s.task n).drainAt + (s.task n).drainMax * 1000 ≤ s.now →
    (∃ u, exec (.drainTimeout n) s = .next u ∧ (u.task n).state = .stopped ∧ (u.task n).reason = .drainTimeout ∧ (u.task n).flushDue = true ∧
      s.tilesStopped u (s.ownedIn n (s.task n).clusters) .cancel)) ∧
  -- 05 R192
  (∀ (s : State) (n : Fin 256),
    (s.task n).flushDue = true →
    ((s.task n).tiles.map (·.1)).Nodup →
    ((s.task n).tiles.all (fun p => (s.tile p.1).owner.all (· == n.val))) = true →
    (∃ u, exec (.inputFlush n) s = .next u ∧ (u.task n).queue = [] ∧ (u.task n).flushDue = false ∧ (u.task n).state = (s.task n).state ∧
      (u.task n).flushed = ((s.task n).flushed + ((s.task n).tiles.map (fun p => ((s.tile p.1).inbuf.map (fun e => e.2.length)).sum)).sum +
        (s.task n).queue.length) % 2 ^ 32 ∧
      (∀ p, p ∈ (s.task n).tiles → u.tile p.1 = { s.tile p.1 with inbuf := [] }) ∧
      (∀ t, ((s.task n).tiles.map (·.1)).contains t = false → u.tile t = s.tile t))) ∧
  -- 05 R188
  (∀ (s : State) (n : Fin 256) (c : Fin 64),
    (s.task n).state = .stopped →
    (∃ u, exec (.cancelMessage n c) s = .next u ∧ s.tilesStopped u (s.ownedIn n [c.val]) .cancel ∧
      (u.task n).state = .stopped ∧ (u.task n).reason = (s.task n).reason)) ∧
  -- 05 R190, 10 R369
  (∀ (s : State),
    s.quench.stopDue = true →
    (∃ u, exec .quenchStop s = .next u ∧ u.quench.stopDue = false ∧ u.armed = s.armed ∧
      (∀ c, c ∈ s.zoneClusters 0 → ∀ t, t ∈ clusterTiles c →
        (u.tile t).owner = none ∧ ((s.tile t).trapping = none → (u.tile t).ctx = 15 ∧ (u.tile t).reason = .quench)) ∧
      (∀ m, (s.task m).zone = 0 → (s.task m).live = true → (u.task m).state = .stopped ∧ (u.task m).reason = .quench) ∧
      (∀ m, (s.task m).zone ≠ 0 → (u.task m).state = (s.task m).state))) ∧
  -- 05 R173, R174
  (∀ (s : State) (q : Req) (ss : Session) (k : Fin 32) (a b : Nat),
    s.hears q ss →
    s.admitted q ss (okey (0x3010 + k.val) 4) →
    s.op.state ≠ .sleep →
    s.zoneOfCluster (s.bridge k).a = some a →
    s.zoneOfCluster (s.bridge k).b = some b →
    adjacent (s.bridge k).a (s.bridge k).b = true →
    a ≠ b →
    s.holdsZone q.session a = true →
    s.holdsZone q.session b = true →
    a ≠ 0 →
    b ≠ 0 →
    (∃ u, exec (.bridgeOpen q k) s = .next u ∧ u.answers q .ok ∧ u.bridge k = { s.bridge k with opened := true } ∧
      (∀ j, j ≠ k.val → u.bridge j = s.bridge j) ∧ u.array.tiles = s.array.tiles ∧ u.array.tasks = s.array.tasks)) ∧
  -- 05 R174
  (∀ (s : State) (q : Req) (ss : Session) (k : Fin 32),
    s.hears q ss →
    s.admitted q ss (okey (0x3010 + k.val) 4) →
    s.op.state ≠ .sleep →
    s.bridgeUsed k = false →
    (∃ u, exec (.bridgeClose q k) s = .next u ∧ u.answers q .ok ∧ u.bridge k = { s.bridge k with opened := false } ∧
      (∀ j, j ≠ k.val → u.bridge j = s.bridge j) ∧ u.array.tiles = s.array.tiles ∧ u.array.tasks = s.array.tasks))

/-- A request for a word of a powered cluster's memory, its zone admitted, the word free of errors and outside the spill regions or the zone SYS, is answered OK: RD returns the words from ADDR; WR stores its word; WRM stores the bytes its mask enables; SWAP stores its word and returns the old one; FADD adds modulo 2^64 and returns the old one; CAS stores its second word when the old one equals its first, and returns the old one. No other byte of any memory changes. -/
def Obligations.WordRequestsAtClusters : Prop :=
  -- 06 R203: RD
  (∀ (s : State) (n : Fin 78) (p : Packet),
    s.takes n p 1 →
    p.addr + p.len % 16 ≤ 0x8000 →
    p.zone % 16 = zoneSys →
    (∃ u, exec (.rd n p) s = .next u ∧ s.netOnly u ∧ (∀ k, (u.cluster k).mem = (s.cluster k).mem) ∧
      u.responds n p 1 .ok ((List.range (p.len % 16)).map (fun i => s.wordAt n (p.addr + i))))) ∧
  -- 06 R203: WR
  (∀ (s : State) (n : Fin 78) (p : Packet) (v : Fin 18446744073709551616),
    s.takes n p 2 →
    p.data = [v.val] →
    (∃ u, exec (.wr n p) s = .next u ∧ s.onlyWord u n p.addr v ∧ u.responds n p 2 .ok [])) ∧
  -- 06 R203: WRM
  (∀ (s : State) (n : Fin 78) (p : Packet) (m : Fin 256) (v : Fin 18446744073709551616),
    s.takes n p 3 →
    p.data = [m.val, v.val] →
    (let old := s.wordAt n p.addr
    ∃ u, exec (.wrm n p) s = .next u ∧ s.onlyWord u n p.addr (u.wordAt n p.addr) ∧ u.responds n p 3 .ok [] ∧
      ∀ i, i < 8 → u.wordAt n p.addr / 2 ^ (8 * i) % 256 = (if m.val.testBit i then v.val else old) / 2 ^ (8 * i) % 256)) ∧
  -- 06 R203: SWAP
  (∀ (s : State) (n : Fin 78) (p : Packet) (v : Fin 18446744073709551616),
    s.takes n p 4 →
    p.data = [v.val] →
    (∃ u, exec (.swap n p) s = .next u ∧ s.onlyWord u n p.addr v ∧ u.responds n p 4 .ok [s.wordAt n p.addr])) ∧
  -- 06 R203: FADD
  (∀ (s : State) (n : Fin 78) (p : Packet) (v : Fin 18446744073709551616),
    s.takes n p 5 →
    p.data = [v.val] →
    (∃ u, exec (.fadd n p) s = .next u ∧ s.onlyWord u n p.addr ((s.wordAt n p.addr + v.val) % 2 ^ 64) ∧
      u.responds n p 5 .ok [s.wordAt n p.addr])) ∧
  -- 06 R203: CAS
  (∀ (s : State) (n : Fin 78) (p : Packet) (a b : Fin 18446744073709551616),
    s.takes n p 6 →
    p.data = [a.val, b.val] →
    (let old := s.wordAt n p.addr
    ∃ u, exec (.cas n p) s = .next u ∧ s.onlyWord u n p.addr (if old = a.val then b.val else old) ∧ u.responds n p 6 .ok [old])) ∧
  -- 06 R219, R239: ZONE_DENIED
  (∀ (s : State) (n : Fin 78) (p : Packet),
    n.val < 64 →
    (s.cluster n).gated = false →
    p.addr < 0x8000 →
    s.niAdmits n (p.zone % 16) 2 = false →
    (∃ u, exec (.wr n p) s = .next u ∧ u.responds n p 2 .zoneDenied [] ∧ (u.ni n).denied = ((s.ni n).denied + 1) % 2 ^ 32 ∧
      ∀ k, (u.cluster k).mem = (s.cluster k).mem))

/-- QPUSH to a task's input queue with room appends its words and is answered OK; a control message is answered OK, and one whose content must use ATOMIC UNSUPPORTED; a member with a free staging entry keeps a STAGE; COMMIT not after HOLD marks it committed, or takes it out when it applies at once; ABORT takes it out; CSYNC revives an initiator's down entries to the sender; a guaranteed packet's words enter its flow queue when they fit and are discarded whole and counted when they do not. -/
def Obligations.QueuesMessagesAndAtomicMembers : Prop :=
  -- 06 R203, R205: QPUSH
  (∀ (s : State) (n : Fin 78) (p : Packet) (t : Nat),
    n.val < 64 →
    (s.cluster n).gated = false →
    s.niAdmits n (p.zone % 16) 7 = true →
    0x110000 ≤ p.addr ∧ p.addr < 0x110100 →
    s.queueTask n (p.addr - 0x110000) = some t →
    (s.task t).state ≠ .draining →
    (s.task t).queue.length + p.data.length ≤ (s.task t).queueSize →
    (s.task t).kind ≠ .queue →
    (∃ u, exec (.qpush n p) s = .next u ∧ u.responds n p 7 .ok [] ∧
      u.task t = { s.task t with queue := (s.task t).queue ++ p.data.map (· % 2 ^ 64) } ∧
      (∀ m, m ≠ t → u.task m = s.task m) ∧ u.array.tiles = s.array.tiles)) ∧
  -- 06 R203, R236: MSG
  (∀ (s : State) (n : Fin 78) (p : Packet),
    s.niGated n = false →
    64 ≤ n.val ∨ s.niAdmits n (p.zone % 16) 8 = true →
    ((∃ u, exec (.msg n p none) s = .next u ∧ s.netOnly u ∧ u.responds n p 8 .ok []) ∧
    ∀ m, ∃ u, exec (.msg n p (some m)) s = .next u ∧ s.netOnly u ∧ u.responds n p 8 .unsupported [])) ∧
  -- 06 R235: STAGE
  (∀ (s : State) (n : Fin 78) (q : StageReq),
    s.niGated n = false →
    s.memberFailure n q.msg = none →
    (s.ni n).staged.length < 4 →
    (let hold := nearestT64 s.time.t64 (q.hold % 2 ^ 32)
    ∃ u, exec (.atomicStage n q) s = .next u ∧ s.netOnly u ∧ u.out.head? = some (.packet n (response n (s.stagePacket n q) .ok [])) ∧
      (u.ni n).staged = (s.ni n).staged ++ [{ src := q.src, tag := q.tag, msg := q.msg, hold := hold, applyAt := hold + q.applyOfs, onCommit := q.onCommit, committed := false }])) ∧
  -- 06 R235: COMMIT
  (∀ (s : State) (n : Fin 78) (p : Packet) (e : StagedEntry),
    s.niGated n = false →
    (s.ni n).stagedOf (p.src % 128) (p.tag % 64) = some e →
    s.time.t64 ≤ e.hold →
    (∃ u, exec (.atomicCommit n p) s = .next u ∧ u.responds n p 10 .ok [] ∧
      (u.ni n).staged = (if e.onCommit then (s.ni n).staged.filter (fun x => x != e)
        else (s.ni n).staged.map (fun y => if y = e then { y with committed := true } else y)) ∧
      (∀ k, k ≠ n.val → u.ni k = s.ni k) ∧ u.array.tiles = s.array.tiles)) ∧
  -- 06 R235: ABORT
  (∀ (s : State) (n : Fin 78) (p : Packet) (e : StagedEntry),
    s.niGated n = false →
    (s.ni n).stagedOf (p.src % 128) (p.tag % 64) = some e →
    (∃ u, exec (.atomicAbort n p) s = .next u ∧ s.netOnly u ∧ u.responds n p 11 .ok [] ∧
      (u.ni n).staged = (s.ni n).staged.filter (fun x => x != e) ∧ ∀ k, k ≠ n.val → u.ni k = s.ni k)) ∧
  -- 06 R230: CSYNC
  (∀ (s : State) (n : Fin 78) (p : Packet),
    s.niGated n = false →
    (s.ni (p.data.headD 0 % 2 ^ 64 % 128)).held = [] →
    (let i := p.data.headD 0 % 2 ^ 64 % 128
    ∃ u, exec (.csync n p) s = .next u ∧ s.netOnly u ∧ u.responds n p 12 .ok [] ∧
      (u.ni i).entries = (s.ni i).entries.map (fun e =>
        if e.2.target = n.val ∧ e.2.down then (e.1, { e.2 with credits := e.2.allot, down := false, timeouts := 0 }) else e) ∧
      (u.ni i).unresolved = (s.ni i).unresolved.filter (fun x => x.2.2.2 ≠ n.val))) ∧
  -- 06 R224, R225: GWR
  (∀ (s : State) (f : Fin 64) (w : List (Fin 18446744073709551616)),
    (s.flow f).runs ≠ 0 →
    s.niGated (s.flow f).target = false →
    s.flowTask (s.flow f) = none →
    (let x := s.flow f
    ∃ u, exec (.gwr f w) s = .next u ∧ s.netOnly u ∧ (∀ k, k ≠ f.val → u.flow k = s.flow k) ∧
      u.flow f = (if x.queue.length + w.length ≤ x.size then { x with queue := x.queue ++ w.map Fin.val }
        else { x with overruns := (x.overruns + 1) % 2 ^ 32 })))

/-- A response of the tag's EPO from the one target awaited returns its credit, frees the tag and completes the descriptor with its status; a class timeout counts, keeps the timeout unresolved and completes it with TIMEOUT. A dropped request is answered ZONE_DENIED or ROUTE_ERR, a dropped response counted and logged; an uncorrectable flit is counted and logged. The producer word issues a new descriptor with a credit and a tag; held stages expire with MISS; slot tables swap at a frame boundary; CLR clears a probe; a stopped trace is archived. -/
def Obligations.InitiatorsDropsAndProbes : Prop :=
  -- 06 R209, R237: RSP
  (∀ (s : State) (n : Fin 78) (p : Packet) (t : NetTag) (e d : Nat),
    s.niGated n = false →
    tget none (s.ni n).tags (p.tag % 64) = some t →
    t.epo = p.epo % 16 →
    t.waiting = [(p.src % 128, e)] →
    t.use = .descriptor d →
    (s.descWordAt n d 0).testBit 5 = false →
    (s.ni n).ringBase % 8 = 0 →
    (s.ni n).held = [] →
    e < 64 →
    ((s.ni n).entry e).closing = false →
    (∃ u, exec (.rsp n p) s = .next u ∧ s.netOnly u ∧ tget none (u.ni n).tags (p.tag % 64) = none ∧
      ((u.ni n).entry e).credits = min ((s.ni n).entry e).allot (((s.ni n).entry e).credits + 1) ∧
      ((u.ni n).entry e).timeouts = 0 ∧
      u.wordAt n (((s.ni n).ringBase + 32 * d + 24) / 8) = 1 + 2 * (statusOf (p.addr % 2 ^ 24)).code)) ∧
  -- 06 R228, R230
  (∀ (s : State) (n : Fin 78) (k : Fin 64) (t : NetTag) (m e d : Nat),
    s.niGated n = false →
    tget none (s.ni n).tags k = some t →
    t.waiting = [(m, e)] →
    t.issuedAt + s.timeoutOf m (t.gated.contains m) ≤ s.now →
    t.use = .descriptor d →
    (s.descWordAt n d 0).testBit 5 = false →
    (s.ni n).ringBase % 8 = 0 →
    (s.ni n).held = [] →
    e < 64 →
    ((s.ni n).entry e).closing = false →
    ((s.ni n).entry e).timeouts < 3 →
    (∃ u, exec (.requestTimeout n k) s = .next u ∧ s.netOnly u ∧ (u.ni n).timeouts = ((s.ni n).timeouts + 1) % 2 ^ 32 ∧
      tget none (u.ni n).tags k = none ∧ (u.ni n).unresolved = (s.ni n).unresolved ++ [(k.val, t.epo, e, m)] ∧
      ((u.ni n).entry e).timeouts = ((s.ni n).entry e).timeouts + 1 ∧ ((u.ni n).entry e).credits = ((s.ni n).entry e).credits ∧
      u.wordAt n (((s.ni n).ringBase + 32 * d + 24) / 8) = 3)) ∧
  -- 06 R220
  (∀ (s : State) (r : Fin 78) (port : Fin 6) (p : Packet),
    (let q := wirePacket p
    (q.opc ≠ 0x18 → q.opc ≠ 0x10 → ∃ u, exec (.routerDrop r port p) s = .next u ∧ u = { s with out := u.out } ∧ u.out.tail = s.out ∧
      u.out.head?.map (fun o => match o with
        | .packet x b => (x, b.dst, b.tag, b.opc, b.addr)
        | _ => (0, 0, 0, 0, 0)) = some (r.val, q.src, q.tag, 0x18,
          (if (tget 0x100 s.net.allow (8 * r.val + port.val)).testBit q.zone then 11 else 2) * 2 ^ 16)) ∧
    (q.opc = 0x18 ∨ q.opc = 0x10 → ∃ u, exec (.routerDrop r port p) s = .next u ∧
      u.logsOver { s with net := { s.net with routerDrops := (s.net.routerDrops + 1) % 2 ^ 32 } } ∧ u.lastCode = 0x0302))) ∧
  -- 06 R201
  (∀ (s : State) (r : Fin 78) (p : Packet),
    (∃ u, exec (.linkUncorrectable r p) s = .next u ∧
      u.logsOver { s with net := { s.net with linkUncorrected := (s.net.linkUncorrected + 1) % 2 ^ 32 } } ∧ u.lastCode = 0x0301)) ∧
  -- 06 R209, R211, R237
  (∀ (s : State) (c : Fin 64) (v : Fin 256) (z g epo : Nat),
    (s.ni c).ringSize ≤ 256 →
    v.val < (s.ni c).ringSize →
    ((s.ni c).consumer + 1) % (s.ni c).ringSize = v.val →
    (s.ni c).consumer < (s.ni c).ringSize →
    1 < (s.ni c).ringSize →
    (s.cluster c).gated = false →
    (s.ni c).held = [] →
    s.niZone c = some z →
    s.descWordAt c (s.ni c).consumer 0 % 64 = 2 →
    ((s.ni c).entry (s.descWordAt c (s.ni c).consumer 0 / 64 % 64)).valid = true →
    ((s.ni c).entry (s.descWordAt c (s.ni c).consumer 0 / 64 % 64)).route = 0 →
    s.descWordAt c (s.ni c).consumer 0 / 2 ^ 12 % 16 ≤ 8 →
    ((s.ni c).entry (s.descWordAt c (s.ni c).consumer 0 / 64 % 64)).down = false →
    ((s.ni c).entry (s.descWordAt c (s.ni c).consumer 0 / 64 % 64)).credits ≠ 0 →
    (s.ni c).freeTag = some (g, epo) →
    (let k := (s.ni c).consumer
    let e := s.descWordAt c k 0 / 64 % 64
    let x := (s.ni c).entry e
    ∃ u, exec (.descriptorProducer c v) s = .next u ∧ s.netOnly u ∧ (u.ni c).producer = v.val ∧ (u.ni c).consumer = v.val ∧
      (u.ni c).held = [] ∧ ((u.ni c).entry e).credits = x.credits - 1 ∧ (tget none (u.ni c).tags g).isSome = true ∧
      u.out = .packet c (s.descPacket c k z g epo x.target 0 false) :: s.out)) ∧
  -- 06 R235
  (∀ (s : State) (n : Fin 78),
    (∃ u, exec (.atomicHoldExpiry n) s = .next u ∧ s.netOnly u ∧
      (u.ni n).staged = (s.ni n).staged.filter (fun e => e.committed || decide (s.time.t64 ≤ e.hold)) ∧
      u.out.length = s.out.length + ((s.ni n).staged.filter (fun e => !e.committed && decide (e.hold < s.time.t64))).length)) ∧
  -- 06 R221
  (∀ (s : State),
    s.now % 512 = 0 →
    exec .slotTableSwap s = .next { s with net := { s.net with slots := s.net.shadow, shadow := s.net.slots } }) ∧
  -- 06 R238
  (∀ (s : State) (q : Req) (ss : Session) (k : Fin 16) (b : List Nat),
    s.hears q ss →
    s.admitted q ss (okey (0x7100 + k.val) 1) →
    s.op.state ≠ .sleep →
    b = [0, 0, 0, 0, 0, 0, 0, 16] →
    (∃ u, exec (.probeClear q k b) s = .next u ∧ u.answers q .ok ∧ (u.probe k).cnt = 0 ∧ (u.probe k).flits = 0 ∧ (u.probe k).trace = [] ∧
      (u.probe k).tptr = 0 ∧ (u.probe k).ctl = 0 ∧ (u.probe k).sel = (s.probe k).sel ∧ ∀ j, j ≠ k.val → u.probe j = s.probe j)) ∧
  -- 12 R483
  (∀ (s : State) (k : Fin 16) (t : T64),
    (s.probe k).stoppedAt = some t →
    (s.probe k).saved = false →
    (s.probe k).ctl / 2 % 4 = 1 →
    (s.num 0x8050 1 0).testBit k = true →
    (s.probe k).archivedAt = none →
    (∃ u, exec (.traceArchive k) s = .next u ∧ (u.probe k).saved = true ∧ (u.probe k).archivedAt = some s.now ∧
      u.store.aseq = (s.store.aseq + 1) % 2 ^ 32 ∧ u.store.archiveNext = (s.store.archiveNext + 1) % 128 ∧
      tget [] u.store.archive s.store.archiveNext = archiveBytes k s.store.aseq t (s.probe k) ∧
      u = { s with net := { s.net with probes := u.net.probes }, store := u.store }))

/-- A good Header written to an EMPTY slot, its TOTAL free in the library, takes the lowest free entry and the slot's lease, RECEIVING, or VERIFYING where it is whole. A Body segment at the next offset is appended, the one with LAST begins the verification. Verification ends with its code in Refusal and nothing kept, or with a VERIFIED entry and its golden signatures and an EMPTY slot; where a prime was requested, priming begins, or its code is in Refusal. FromLibrary verifies an entry again. Delete empties a VERIFIED or RETIRED entry. -/
def Obligations.StagingAndVerification : Prop :=
  -- 07 R254 to R256: Header
  (∀ (s : State) (q : Req) (ss : Session) (k : Fin 2) (b : List Nat) (e : Nat),
    s.hears q ss →
    s.admitted q ss (slotKey k 4) →
    b.length = 64 →
    headerCheck b = (.ok, 0) →
    (s.slot k).state = .empty →
    imageTotal b ≤ s.libraryFree →
    s.freeEntry = some e →
    s.leaseBusy (0x40 + k) = false →
    (let st : StageState := if imageTotal b = 64 then .verifying else .receiving
    ∃ u, exec (.stagingHeader q k b) s = .next u ∧ u.answers q .ok ∧
      u.slot k = { state := st, owner := q.session, entry := e, total := imageTotal b } ∧
      u.lib e = { state := st, image := b, reserved := imageTotal b } ∧ (u.lease (0x40 + k)).holder = q.session ∧
      (∀ j, j ≠ k.val → u.slot j = s.slot j) ∧ ∀ j, j ≠ e → u.lib j = s.lib j)) ∧
  -- 07 R256: Body
  (∀ (s : State) (q : Req) (ss : Session) (k : Fin 2) (off : Fin 4294967296) (last : Bool) (data : List Nat),
    s.hears q ss →
    s.admitted q ss (slotKey k 5) →
    ss.inOrder (slotKey k 5) off = true →
    0 < data.length ∧ data.length ≤ 1020 →
    (s.slot k).state = .receiving →
    64 + off.val = (s.lib (s.slot k).entry).image.length →
    64 + off.val + data.length ≤ (s.slot k).total →
    last = decide (64 + off.val + data.length = (s.slot k).total) →
    (let x := s.slot k
    let y := s.lib x.entry
    ∃ u, exec (.stagingBody q k off last data) s = .next u ∧
      u.out.head? = some (.answer q.session { rid := q.rid, code := .ok, value := some (.num (off.val + data.length)) }) ∧
      u.lib x.entry = { y with image := y.image ++ data.map (· % 256), state := if last then .verifying else y.state } ∧
      u.slot k = { x with state := if last then .verifying else .receiving } ∧
      (∀ j, j ≠ k.val → u.slot j = s.slot j) ∧ ∀ j, j ≠ x.entry → u.lib j = s.lib j)) ∧
  -- 07 R254, R257
  (∀ (s : State) (k : Fin 2),
    (s.slot k).state = .verifying →
    (s.slot k).primeWanted = false →
    (let x := s.slot k
    let y := s.lib x.entry
    let v := (s.verifyBlank y.image).1
    ∃ u, exec (.verificationComplete k) s = .next u ∧
      u.slot k = { x.freed with refusal := if v = .ok then x.refusal else v } ∧ (u.lease (0x40 + k)).holder = 0 ∧
      u.lib x.entry = (if v = .ok then { y with state := .verified, golden := imageGolden y.image } else {}) ∧
      (∀ j, j ≠ k.val → u.slot j = s.slot j) ∧ ∀ j, j ≠ x.entry → u.lib j = s.lib j)) ∧
  -- 07 R254, R257, R258: a prime was requested
  (∀ (s : State) (k : Fin 2),
    (s.slot k).state = .verifying →
    (s.slot k).primeWanted = true →
    (let x := s.slot k
    let y := s.lib x.entry
    let v := (s.verifyBlank y.image).1
    let w := s.modLib x.entry (fun l => { l with state := .verified, golden := imageGolden y.image })
    let c := (w.primeCheck k).1
    ∃ u, exec (.verificationComplete k) s = .next u ∧
      (v ≠ .ok → u.slot k = { x.freed with refusal := v } ∧ u.lib x.entry = {}) ∧
      (v = .ok → c ≠ .ok → u.slot k = { x.freed with refusal := c } ∧ u.lib x.entry = w.lib x.entry) ∧
      (v = .ok → c = .ok → (u.slot k).state = .priming ∧ u.lib x.entry = { w.lib x.entry with state := .priming }))) ∧
  -- 07 R254: FromLibrary
  (∀ (s : State) (q : Req) (ss : Session) (k : Fin 2) (e : Fin 32),
    s.hears q ss →
    s.admitted q ss (slotKey k 6) →
    (s.lib e).state = .verified ∨ (s.lib e).state = .retired →
    (s.slot k).state = .empty →
    s.leaseBusy (0x40 + k) = false →
    (∃ u, exec (.fromLibrary q k [e.val]) s = .next u ∧ u.answers q .ok ∧
      u.slot k = { state := .verifying, owner := q.session, entry := e, total := imageTotal (s.lib e).image } ∧
      u.lib e = { s.lib e with state := .verifying } ∧ (u.lease (0x40 + k)).holder = q.session ∧
      ∀ j, j ≠ e.val → u.lib j = s.lib j)) ∧
  -- 07 R266: Delete
  (∀ (s : State) (q : Req) (ss : Session) (e : Fin 32),
    s.hears q ss →
    s.op.state ≠ .halt →
    ss.role = .maintenance →
    q.epoch = 0 →
    (s.lib e).state = .verified ∨ (s.lib e).state = .retired →
    (∃ u, exec (.libraryDelete q e [1]) s = .next u ∧ u.answers q .ok ∧ u.lib e = {} ∧
      (∀ j, j ≠ e.val → u.lib j = s.lib j) ∧ u.blank = { s.blank with library := u.blank.library }))

/-- A Prime by the holder of the blank's zones is noted; a primed slot reads PRIMED. Withdraw before ACTIVATING frees the slot, clears VALID of what was primed and leaves the entry VERIFIED, or deletes one not yet verified. A Go that passes its checks begins the activation: the edge is ActivateLead from now, the time given, or a mark's; one that the governor refuses is logged as POWER_BUDGET. The round goes as one STAGE to every cluster of the zones; at the edge of a committed round the blank is active in its zones. A mark that does not come within MarkWait ends in MARK_TIMEOUT, or in the fallback time. -/
def Obligations.PrimingActivationAndWithdrawal : Prop :=
  -- 07 R258: Prime
  (∀ (s : State) (q : Req) (ss : Session) (k : Fin 2),
    s.hears q ss →
    s.admitted q ss (slotKey k 7) →
    (s.slot k).state = .receiving ∨ (s.slot k).state = .verifying →
    s.zoneNotHeld q.session (imageZones (s.image (s.slot k).entry)) = none →
    (∃ u, exec (.prime q k [1]) s = .next u ∧ u.answers q .ok ∧ u.slot k = { s.slot k with primeWanted := true } ∧
      (∀ j, j ≠ k.val → u.slot j = s.slot j) ∧ u.blank = { s.blank with slots := u.blank.slots })) ∧
  -- 07 R258: PRIMED
  (∀ (s : State) (k : Fin 2),
    (s.slot k).state = .priming →
    (∃ u, exec (.primingComplete k) s = .next u ∧ u.slot k = { s.slot k with state := .primed } ∧
      u.lib (s.slot k).entry = { s.lib (s.slot k).entry with state := .primed } ∧ ∀ j, j ≠ k.val → u.slot j = s.slot j)) ∧
  -- 07 R254: Withdraw before it is verified
  (∀ (s : State) (q : Req) (ss : Session) (k : Fin 2),
    s.hears q ss →
    s.admitted q ss (slotKey k 13) →
    (s.slot k).state = .receiving ∨ (s.slot k).state = .verifying →
    (∃ u, exec (.withdraw q k [1]) s = .next u ∧ u.answers q .ok ∧ u.slot k = (s.slot k).freed ∧
      u.lib (s.slot k).entry = {} ∧ (u.lease (0x40 + k)).holder = 0 ∧ u.array = s.array)) ∧
  -- 07 R254, R259: Withdraw of what was primed
  (∀ (s : State) (q : Req) (ss : Session) (k : Fin 2),
    s.hears q ss →
    s.admitted q ss (slotKey k 13) →
    (s.slot k).state = .priming ∨ (s.slot k).state = .primed →
    (let e := (s.slot k).entry
    ∃ u, exec (.withdraw q k [1]) s = .next u ∧ u.answers q .ok ∧ u.slot k = (s.slot k).freed ∧
      u.lib e = { s.lib e with state := .verified } ∧ (u.lease (0x40 + k)).holder = 0 ∧
      ∀ key, key ∈ s.slotKeys e → (u.tile (key / 16)).slotValid (key % 16) = false)) ∧
  -- 07 R261, 14 R519: Go
  (∀ (s : State) (q : Req) (ss : Session) (k : Fin 2),
    s.hears q ss →
    s.admitted q ss (slotKey k 12) →
    s.goCheck k q.session = (.ok, 0) →
    (let x := s.slot k
    ∃ u, exec (.go q k [1]) s = .next u ∧
      (s.overBudget (s.image x.entry) = true → u.answers q .wrongState ∧ u.slot k = x ∧ u.lastCode = 0x0804) ∧
      (s.overBudget (s.image x.entry) = false → u.answers q .ok ∧
        u.lib x.entry = { s.lib x.entry with state := .activating } ∧
        u.slot k = { x with state := .activating, since := s.now, aborted := 0, committed := false, result := .none
                            failureMask := []
                            mode := if x.actMode = 0 then .atOnce else if x.actMode = 1 then .atTime else .atMark
                            edge := if x.actMode = 0 then some (s.time.t64 + s.activateLead)
                                    else if x.actMode = 1 then some x.actTime else none }))) ∧
  -- 06 R235, 07 R261, R262: the round
  (∀ (s : State) (k : Fin 2) (e t x : Nat),
    (s.slot k).edge = some e →
    s.roundDue k e = true →
    s.activationMembers (s.image (s.slot k).entry) ≠ [] →
    (s.ni niGaffer).freeTag = some (t, x) →
    (let ms := s.activationMembers (s.image (s.slot k).entry)
    ∃ u, exec (.activationRound k) s = .next u ∧
      u.net.rounds = s.net.rounds ++ [{ kind := .activation k, tag := t, members := ms, oks := [], deadline := e - 4000, hold := e - 1000, edge := e }] ∧
      u.out = (ms.map (fun m => Output.stage niGaffer m { src := niGaffer, tag := t, epo := x, msg := .activation k, hold := (e - 1000) % 2 ^ 32, applyOfs := 1000, onCommit := false })).reverse ++ s.out ∧
      u.blank = s.blank ∧ u.array = s.array)) ∧
  -- 07 R263: the edge
  (∀ (s : State) (k : Fin 2) (e : Nat),
    (s.slot k).state = .activating →
    (s.slot k).committed = true →
    (s.slot k).edge = some e →
    e ≤ s.time.t64 →
    (let x := s.slot k
    ∃ u, exec (.activationEdge k) s = .next u ∧ u.slot k = { x.freed with result := .active, activatedAt := e, refusal := .ok } ∧
      (u.lib x.entry).state = .active ∧ (u.lib x.entry).activeSince = e ∧
      (∀ z, z ∈ imageZones (s.image x.entry) → tget 0xFF u.blank.active z = x.entry) ∧
      ∀ z, (imageZones (s.image x.entry)).contains z = false → tget 0xFF u.blank.active z = tget 0xFF s.blank.active z)) ∧
  -- 07 R265: MarkWait of an activation
  (∀ (s : State) (k : Fin 2) (j : Nat),
    (s.slot k).state = .activating →
    (s.slot k).mode = .atMark →
    (s.slot k).edge = none →
    (s.slot k).since + s.markWait ≤ s.now →
    (let x := s.slot k
    ∃ u, exec (.markWaitExpiry (some k) j) s = .next u ∧
      (x.actFallback = 1 → u.slot k = { x with mode := .atTime, edge := some (max x.actFallbackTime (s.time.t64 + s.activateLead)) }) ∧
      (x.actFallback ≠ 1 → u.slot k = { x with state := .primed, result := .markTimeout, failureMask := [], edge := none, committed := false, aborted := 0 } ∧
        u.lib x.entry = { s.lib x.entry with state := .primed }))) ∧
  -- 11 R408: MarkWait of an apply
  (∀ (s : State) (j : Nat) (a : Apply),
    s.applyOf? j = some a →
    a.jseq = j →
    a.mode = .atMark →
    a.edge = none →
    a.since + s.markWait ≤ s.now →
    (∃ u, exec (.markWaitExpiry none j) s = .next u ∧
      u.sess.applies = (match a.fallback with
        | some t => s.sess.applies.map (fun y =>
            if y.jseq = j then { y with mode := .atTime, edge := some (max t (s.time.t64 + s.activateLead)) } else y)
        | none => s.sess.applies.filter (fun y => y.jseq != j)) ∧
      (a.fallback = none → a.session ≠ 0 → (s.session? a.session).isSome = true →
        (u.session? a.session).map (·.applyState) = some .markTimeout)))

/-- A good FwHeader begins an upload into the slot that is not running, which is INVALID until it ends; segments are appended, and the last byte leaves the slot with the whole image, marked NONE where it verifies and INVALID otherwise. FwTrial waits in the pending set; in HALT it marks the verified image TRIAL. An Assay pass counts itself and its time; a VALID slot that does not match its signature is tainted, counted and logged, and one that its tile does not run loses VALID. A repair that matches gives the slot its words again. A pass two periods late raises ASSAY_LATE. -/
def Obligations.FirmwareUploadAndAssay : Prop :=
  -- 07 R267, R269: FwHeader
  (∀ (s : State) (q : Req) (ss : Session) (b : List Nat),
    s.hears q ss →
    s.admitted q ss (okey 0x8600 6) →
    b.length = 64 →
    fwHeaderCheck (b.map (· % 256)) = (.ok, 0) →
    (let f := s.fwTarget
    let h := b.map (· % 256)
    ∃ u, exec (.fwHeader q b) s = .next u ∧
      u.out.head? = some (.answer q.session { rid := q.rid, code := .ok, value := some (.num 64) }) ∧
      u.fw f = { mark := .invalid } ∧ u.fw f.other = s.fw f.other ∧
      u.blank.upload = some { slot := f, total := imageTotal h, data := h })) ∧
  -- 07 R269: FwBody
  (∀ (s : State) (q : Req) (ss : Session) (off : Fin 4294967296) (last : Bool) (data : List Nat) (x : FwUpload),
    s.hears q ss →
    s.admitted q ss (okey 0x8600 7) →
    ss.inOrder (okey 0x8600 7) off = true →
    0 < data.length ∧ data.length ≤ 1020 →
    s.blank.upload = some x →
    64 + off.val = x.data.length →
    64 + off.val + data.length ≤ x.total →
    last = decide (64 + off.val + data.length = x.total) →
    (let l := x.data ++ data.map (· % 256)
    let ok := s.firmwareOk l
    ∃ u, exec (.fwBody q off last data) s = .next u ∧
      u.out.head? = some (.answer q.session { rid := q.rid, code := .ok, value := some (.num (off.val + data.length)) }) ∧
      u.fw x.slot.other = s.fw x.slot.other ∧
      (last = false → u.blank.upload = some { x with data := l } ∧ u.fw x.slot = s.fw x.slot) ∧
      (last = true → u.blank.upload = none ∧
        u.fw x.slot = { mark := if ok then .none else .invalid, image := l, verifies := ok, version := fwVersion l, svn := fwSvn l }))) ∧
  -- 07 R270: FwTrial in HALT
  (∀ (s : State) (q : Req) (ss : Session) (f : FwSlot),
    s.hears q ss →
    s.op.state = .halt →
    ss.role = .maintenance →
    q.epoch = 0 →
    s.recoveryTrial = some f →
    (∃ u, exec (.fwTrial q [1]) s = .next u ∧ u.answers q .ok ∧ u.fw f = { s.fw f with mark := .trial } ∧ u.fw f.other = s.fw f.other)) ∧
  -- 07 R269, 11 R406: FwTrial
  (∀ (s : State) (q : Req) (ss : Session),
    s.hears q ss →
    s.op.state ≠ .halt →
    s.admitted q ss (okey 0x8600 8) →
    s.pendCheck q.session ss (okey 0x8600 8) (.num 1) = (.ok, 0) →
    s.fwGood s.fwTarget = true →
    (∃ u, exec (.fwTrial q [1]) s = .next u ∧ u.answers q .ok ∧ s.entersPending u q ss (okey 0x8600 8) (.num 1))) ∧
  -- 07 R271, R272: a pass that finds nothing
  (∀ (s : State) (us : Fin 151),
    s.assayRuns = true →
    s.blank.assay.lastPassAt + s.scrubPeriod ≤ s.now + 150000 →
    s.assayFinds = [] →
    s.banksChanged = [] →
    (∃ u, exec (.assayPass us) s = .next u ∧ u.array = s.array ∧ u.alarmOn 0x0602 0 = false ∧
      u.blank = { s.blank with assay := { s.blank.assay with passes := (s.blank.assay.passes + 1) % 2 ^ 32, lastPassUs := us.val,
                                                             lastPassAt := s.now } })) ∧
  -- 07 R271, R273: a slot found changed
  (∀ (s : State) (us : Fin 151) (key : Nat),
    s.assayRuns = true →
    s.blank.assay.lastPassAt + s.scrubPeriod ≤ s.now + 150000 →
    s.assayFinds = [key] →
    s.banksChanged = [] →
    s.tileInZ0 (key / 16) = false →
    (s.tile (key / 16)).ctx ≠ key % 16 →
    (∃ u, exec (.assayPass us) s = .next u ∧ u.blank.assay.tainted = key :: s.blank.assay.tainted ∧
      u.blank.assay.taints = (s.blank.assay.taints + 1) % 2 ^ 32 ∧ u.lastCode = 0x0601 ∧
      (u.tile (key / 16)).slotValid (key % 16) = false ∧ (∀ t, t ≠ key / 16 → u.tile t = s.tile t) ∧
      u.array = { s.array with tiles := u.array.tiles })) ∧
  -- 07 R274: a repair
  (∀ (s : State) (t : Fin 1024) (k : Fin 15) (e : Nat) (w : List Word),
    s.assayRuns = true →
    s.repairable (16 * t.val + k.val) = true →
    s.entryOfSlot (16 * t.val + k.val) = some e →
    (imageSlots (s.image e) (tileCluster t) (localIndex t)).find? (fun x => x.1 == k.val) = some (k.val, w) →
    w.length = 8 →
    sourceIntact (s.image e) (tileCluster t) = true →
    ((s.putCode t (s.image e) w).putDescriptor t k (primedWords e false w)).slotMatches (16 * t.val + k.val) (tget 0 s.blank.assay.golden (16 * t.val + k.val)) = true →
    (tget [] s.blank.assay.history t).length < 2 →
    (∃ u, exec (.assayRepair t k) s = .next u ∧ u.blank.assay.repairs = (s.blank.assay.repairs + 1) % 2 ^ 32 ∧
      u.blank.assay.tainted.contains (16 * t.val + k.val) = false ∧
      (∀ j, j < 8 → (u.tile t).descWord k j = (primedWords e (decide ((s.lib e).state = .active)) w).getD j 0) ∧
      (∀ p, ((w.headD 0).extractLsb' 9 9).toNat ≤ p → p ≤ ((w.headD 0).extractLsb' 18 9).toNat →
        tget 0 (u.tile t).imem p = imageWord (s.image e) (tileCluster t) (localIndex t) p) ∧
      ∀ j, j ≠ t.val → u.tile j = s.tile j)) ∧
  -- 07 R272: ASSAY_LATE
  (∀ (s : State),
    s.assayRuns = true →
    s.blank.assay.lastPassAt + 2 * s.scrubPeriod < s.now →
    s.alarmOn 0x0602 0 = false →
    (∃ u, exec .assayLate s = .next u ∧ u.alarmOn 0x0602 0 = true ∧ u.blank = s.blank ∧
      (s.z0Valid = true → 0x34 ∈ u.quench.standing) ∧ (s.z0Valid = false → u.lastCode = 0x0602 ∧ u.quench = s.quench)))

/-- A ClusterMap or RestoreDefaults write that passes its checks waits in the session's pending set; PendingDiscard empties it. ApplyCommand makes the whole set an apply at the edge of its mode, its persistent values in the journal, and the session WAITING. A due apply whose values units hold goes to each of them as one STAGE; one that the Gaffer alone holds is judged 4 us before its edge. At the edge of a committed apply its values take effect; the journal's mark then leaves the session APPLIED. -/
def Obligations.PendingWritesAndApplies : Prop :=
  -- 05 R171: ClusterMap
  (∀ (s : State) (q : Req) (ss : Session) (z : Fin 7) (b : List Nat),
    s.hears q ss →
    s.admitted q ss (okey (0x3001 + z.val) 1) →
    s.op.state ≠ .sleep →
    b.length = 8 →
    s.pendCheck q.session ss (okey (0x3001 + z.val) 1) (.num (ofBytesBE b)) = (.ok, 0) →
    (∃ u, exec (.clusterMapWrite q z b) s = .next u ∧ u.answers q .ok ∧
      s.entersPending u q ss (okey (0x3001 + z.val) 1) (.num (ofBytesBE b)))) ∧
  -- 11 R404, R406: RestoreDefaults
  (∀ (s : State) (q : Req) (ss : Session),
    s.hears q ss →
    s.admitted q ss (okey 0x1010 3) →
    s.pendCheck q.session ss (okey 0x1010 3) (.num 1) = (.ok, 0) →
    (∃ u, exec (.restoreDefaults q [1]) s = .next u ∧ u.answers q .ok ∧ s.entersPending u q ss (okey 0x1010 3) (.num 1))) ∧
  -- 11 R407: PendingDiscard
  (∀ (s : State) (q : Req) (ss : Session),
    s.hears q ss →
    s.admitted q ss (okey 0x1210 3) →
    (∃ u, exec (.pendingDiscard q [1]) s = .next u ∧ u.answers q .ok ∧
      (u.session? q.session).map (·.pendingSet) = some [] ∧ u = { s with sess := u.sess, out := u.out })) ∧
  -- 11 R408, R409: ApplyCommand
  (∀ (s : State) (q : Req) (ss : Session) (m f : Fin 256) (at_ fall : Fin 18446744073709551616),
    s.hears q ss →
    s.admitted q ss (okey 0x1210 5) →
    s.applyRequestCheck ss ⟨m, f, at_, fall⟩ = (.ok, 0) →
    (let e : Option T64 := if m.val = 0 then some (s.time.t64 + s.activateLead) else if m.val = 1 then some at_.val else none
    ∃ u, exec (.applyCommand q ([m.val, f.val, 0, 0, 0, 0, 0, 0] ++ bytesBE 8 at_ ++ bytesBE 8 fall)) s = .next u ∧ u.answers q .ok ∧
      u.sess.applies = s.sess.applies ++ [{ session := q.session, mode := edgeModeOf m, set := ss.pendingSet, edge := e, since := s.now
                                            fallback := if m.val = 2 ∧ f.val = 1 then some fall.val else none
                                            aborted := 0, stage := 0, jseq := s.store.nextJseq }] ∧
      (u.session? q.session).map (fun x => (x.pendingSet, x.applyState, x.applyEdge)) = some ([], .waiting, 0) ∧
      u.array = s.array ∧ u.sess.inForce = s.sess.inForce)) ∧
  -- 11 R409: the round
  (∀ (s : State) (j : Nat) (a : Apply) (e t x : Nat),
    s.gafferRuns = true →
    s.applyOf? j = some a →
    a.jseq = j →
    a.edge = some e →
    s.applyDue a e = true →
    a.members ≠ [] →
    (s.ni niGaffer).freeTag = some (t, x) →
    (∃ u, exec (.applyRound j) s = .next u ∧
      u.net.rounds = s.net.rounds ++ [{ kind := .applySet j, tag := t, members := a.members, oks := [], deadline := e - 4000
                                        hold := e - 1000, edge := e, fails := (s.ownFailure a).toList }] ∧
      u.sess.applies = s.sess.applies.map (fun y => if y.jseq = j then { y with stage := 1 } else y) ∧
      u.out = (a.members.map (fun m => Output.stage niGaffer m { src := niGaffer, tag := t, epo := x, msg := .applySet j, hold := (e - 1000) % 2 ^ 32, applyOfs := 1000, onCommit := false })).reverse ++ s.out)) ∧
  -- 11 R409: judged by the Gaffer alone
  (∀ (s : State) (j : Nat) (a : Apply) (e : Nat),
    s.gafferRuns = true →
    s.applyOf? j = some a →
    a.jseq = j →
    a.edge = some e →
    s.applyDue a e = true →
    a.members = [] →
    e ≤ s.time.t64 + 4000 →
    s.ownFailure a = none →
    (∃ u, exec (.applyRound j) s = .next u ∧
      u = { s with sess := { s.sess with applies := s.sess.applies.map (fun y => if y.jseq = j then { y with stage := 2 } else y) } })) ∧
  -- 11 R406, R409: the edge
  (∀ (s : State) (j : Nat) (a : Apply) (e : Nat) (key : Nat) (v : Val),
    s.applyOf? j = some a →
    a.jseq = j →
    a.edge = some e →
    a.stage = 2 →
    e ≤ s.time.t64 →
    a.values = [(key, v)] →
    s.effective j key = true →
    commitOf key = .apply →
    key / 256 = 0x8500 →
    (∃ u, exec (.applyEdge j) s = .next u ∧ (objRow key).all (fun r => tget r.dflt u.sess.inForce key == v) = true ∧
      u.sess.applies = s.sess.applies.map (fun y => if y.jseq = j then { y with stage := 3 } else y) ∧ u.array = s.array)) ∧
  -- 11 R410: in force
  (∀ (s : State) (j : Nat) (a : Apply) (x : Session),
    s.gafferRuns = true →
    s.applyOf? j = some a →
    a.stage = 3 →
    a.session ≠ 0 →
    s.session? a.session = some x →
    (∃ u, exec (.applyInforce j) s = .next u ∧ (u.session? a.session).map (fun y => (y.applyState, y.applyEdge)) = some (.applied, a.edge.getD 0) ∧
      u.sess.applies = s.sess.applies.filter (fun y => y.jseq != j) ∧ u.array = s.array))

/-- At DEADLINE, a Gaffer round every member of which has answered OK, and of which nothing failed, is committed: COMMIT goes to every member and the activation or apply is committed. Otherwise ABORT goes to them, and the activation's or apply's next edge is ActivateLead later, after the third time it fails. A member whose committed message has reached its edge applies it: a task's tiles start in their clusters; what is not committed, or whose edge has not come, changes nothing. -/
def Obligations.AtomicDeadlinesAndApplyEdges : Prop :=
  -- 06 R235, 07 R262: COMMIT of an activation
  (∀ (s : State) (t : Fin 64) (r : AtomicRound) (x : NetTag) (k i p : Nat) (o : Bool),
    tget none (s.ni niGaffer).tags t = some x →
    x.decided = false →
    x.use = .round i p o →
    s.net.rounds.find? (fun y => y.tag == t.val) = some r →
    r.tag = t.val →
    r.kind = .activation k →
    r.deadline ≤ s.time.t64 →
    r.members.all r.oks.contains = true →
    r.fails = [] →
    (∃ u, exec (.atomicDeadline 64 t) s = .next u ∧ u.slot k = { s.slot k with committed := true } ∧
      u.net.rounds = s.net.rounds.filter (fun y => y.tag != t.val) ∧
      u.out = (r.members.map (fun m => Output.packet niGaffer { opc := 0x0A, zone := 8, urg := true, mc := true, dst := m, src := niGaffer, tag := t.val, epo := x.epo, addr := 0 })).reverse ++ s.out)) ∧
  -- 06 R235, 07 R264: ABORT of an activation
  (∀ (s : State) (t : Fin 64) (r : AtomicRound) (x : NetTag) (k i p : Nat) (o : Bool),
    tget none (s.ni niGaffer).tags t = some x →
    x.decided = false →
    x.use = .round i p o →
    s.net.rounds.find? (fun y => y.tag == t.val) = some r →
    r.tag = t.val →
    r.kind = .activation k →
    r.deadline ≤ s.time.t64 →
    r.members.all r.oks.contains = false →
    (let y := s.slot k
    ∃ u, exec (.atomicDeadline 64 t) s = .next u ∧
      u.out = (r.members.map (fun m => Output.packet niGaffer { opc := 0x0B, zone := 8, urg := true, mc := true, dst := m, src := niGaffer, tag := t.val, epo := x.epo, addr := 0 })).reverse ++ s.out ∧
      (y.aborted < 2 → (u.slot k).aborted = y.aborted + 1 ∧ (u.slot k).state = y.state ∧ (u.slot k).since = s.now ∧
        (u.slot k).edge = if y.mode = .atMark then none else y.edge.map (· + s.activateLead)) ∧
      (2 ≤ y.aborted → (u.slot k).state = .primed ∧ (u.slot k).result = .failed ∧
        (u.slot k).failureMask = r.members.filter (fun m => !r.oks.contains m)))) ∧
  -- 06 R235, 05 R183: a start at its edge
  (∀ (s : State) (n : Fin 78) (e : StagedEntry) (k p : Nat),
    (s.ni n).staged = [e] →
    e.msg = .taskStart k p →
    e.committed = true →
    e.applyAt ≤ s.time.t64 →
    (s.task k).state = .ready →
    (s.task k).start.map (fun r => r.committed && decide (r.tick ≤ s.now) && !r.drainAtStart && (s.task k).clusters.all r.holders.contains) = some true →
    (s.task k).multi = true →
    s.canStart k →
    (∃ u, exec (.atomicApplyEdge n) s = .next u ∧ s.hasStarted u k)) ∧
  -- 06 R235: nothing to apply
  (∀ (s : State) (n : Fin 78),
    (s.ni n).staged.all (fun e => !e.committed || decide (s.time.t64 < e.applyAt)) = true →
    (exec (.atomicApplyEdge n) s = .next s))

/-- RingEnable in SERVICE or RUN takes a ring from OFF or FAULT to TRAINING and counts the heads from the A end; without it the ring is OFF. A ring in TRAINING for 1 s is in FAULT. At each multiple of TimePeriod a fed end sends a TMARK and the TIME frame of that instant; every 250 us each fed end sends a SAFE frame with the next SSEQ and the state of the quench. A calibration due begins with marks from the ends; a CMARK's return is taken as its time, and the last one of a ring without heads closes it. -/
def Obligations.RingStatesMarksAndSafeFrames : Prop :=
  -- 08 R305, R313: TRAINING
  (∀ (s : State) (r : Fin 16),
    s.op.state = .service ∨ s.op.state = .run →
    (s.ringAt r).state = .off ∨ (s.ringAt r).state = .fault →
    s.mayDefer (r / 4) 8 = true →
    (let x := s.ringAt r
    ∃ u, exec (.ringEnable r true) s = .next u ∧ (u.ringAt r).state = .training ∧ (u.ringAt r).trainAt = s.now ∧
      (u.ringAt r).headCount = 0 ∧ (u.ringAt r).fedB = false ∧
      u.out = Output.frame { ring := r, end_ := .a, dst := 0xFF, fseq := (x.fseqA + 1) % 65536, body := .enumOut 1 0 0 } :: s.out ∧ ∀ k, k ≠ r.val → u.ringAt k = s.ringAt k)) ∧
  -- 08 R313: OFF
  (∀ (s : State) (r : Fin 16),
    (s.ringAt r).state ≠ .off →
    (∃ u, exec (.ringEnable r false) s = .next u ∧ (u.ringAt r).state = .off ∧ u.out = s.out ∧ ∀ k, k ≠ r.val → u.ringAt k = s.ringAt k)) ∧
  -- 08 R313: FAULT after 1 s
  (∀ (s : State) (r : Fin 16),
    (s.ringAt r).state = .training →
    (s.ringAt r).trainAt + 1000000000 ≤ s.now →
    (∃ u, exec (.trainingTimeout r) s = .next u ∧ (u.ringAt r).state = .fault ∧ (u.ringAt r).faultCause = 1 ∧
      (u.ringAt r).fedB = false ∧ u = { s with ring := u.ring })) ∧
  -- 08 R290, R297: TMARK and TIME
  (∀ (s : State) (r : Fin 16),
    (s.ringAt r).state ≠ .off →
    (s.ringAt r).fedB = false →
    1 ≤ s.timePeriod →
    (s.ringAt r).tmarkAt ≠ s.time.t64 / s.timePeriod * s.timePeriod →
    (let x := s.ringAt r
    let c := s.rc (r / 4)
    let t := s.time.t64 / s.timePeriod * s.timePeriod
    ∃ u, exec (.tmarkSend r) s = .next u ∧ u.ringAt r = { x with tmarkAt := t, fseqA := (x.fseqA + 1) % 65536 } ∧
      u.out = Output.frame { ring := r, end_ := .a, dst := 0xFF, fseq := (x.fseqA + 1) % 65536, body := .time (t * 65536) s.time.state.code s.time.quality.code s.ring.epoch c.phase0 (c.period * 1000) (s.noiseMap (r / 4)) } ::
        .mark r .a false :: s.out)) ∧
  -- 10 R370, R372: a SAFE frame
  (∀ (s : State) (r : Fin 16),
    (s.ringAt r).state ≠ .off →
    (s.ringAt r).fedB = false →
    (s.ringAt r).safeAtA + 250000 ≤ s.now →
    (let x := s.ringAt r
    let n := (x.sseq + 1) % 2 ^ 32
    ∃ u, exec (.safeFrameGenerate r) s = .next u ∧
      u.ringAt r = { x with sseq := n, safeAtA := s.now, fseqA := (x.fseqA + 1) % 65536
                            goodSafeA := if s.armed then min 4 (x.goodSafeA + 1) else 0 } ∧
      u.out = Output.frame { ring := r, end_ := .a, dst := 0xFF, fseq := (x.fseqA + 1) % 65536, body := .safe n s.time.t64 (!s.armed) s.offTesting (if s.quench.jog then 1 else 0) (if s.armed then 0 else s.quench.cause) (safeCrc r n s.time.t64 ((if s.armed then 0 else 1) + (if s.offTesting then 2 else 0)) (if s.quench.jog then 1 else 0) (if s.armed then 0 else s.quench.cause) 0) } :: s.out)) ∧
  -- 08 R302, R304: a calibration begins
  (∀ (s : State) (r : Fin 16),
    s.calDue r = true →
    (∃ u, exec (.calibrationCycle r) s = .next u ∧ (u.ringAt r).calBusy = true ∧ (u.ringAt r).calAt = s.now ∧
      (u.ringAt r).rttA = [] ∧ (u.ringAt r).rttB = [] ∧ (u.ringAt r).calF = none ∧ (u.ringAt r).calV = none ∧
      (u.ringAt r).state = (s.ringAt r).state ∧
      ((s.ringAt r).state ≠ .wrap → u.out.take 2 = [.mark r .b true, .mark r .a true]))) ∧
  -- 08 R302: a round trip
  (∀ (s : State) (r : Fin 16) (k : Fin 65) (ps : Nat),
    (s.ringAt r).calBusy = true →
    ({ s.ringAt r with rttA := tput k ps (s.ringAt r).rttA }).calDone = false →
    (∃ u, exec (.cmark r (.rttA k ps)) s = .next u ∧ u.ringAt r = { s.ringAt r with rttA := tput k ps (s.ringAt r).rttA } ∧
      u = { s with ring := { s.ring with rings := u.ring.rings } } ∧ ∀ j, j ≠ r.val → u.ringAt j = s.ringAt j)) ∧
  -- 08 R302, R311: closed
  (∀ (s : State) (r : Fin 16) (f v : Nat),
    (s.ringAt r).calBusy = true →
    (s.ringAt r).headCount = 0 →
    (s.ringAt r).state = .training →
    (s.ringAt r).calF = some f →
    (∃ u, exec (.cmark r (.reverse v)) s = .next u ∧ (u.ringAt r).state = .closed ∧ (u.ringAt r).calBusy = false ∧
      (u.ringAt r).fTotal = f ∧ (u.ringAt r).vTotal = v ∧ (u.ringAt r).lastCount = 0))

/-- A COUNT that comes back to the B end while heads are being enumerated gives their number and has them described; a DESC is recorded for its position; a CAL REPORT confirms a head's delays, and the last one closes the ring. A PORT_DOWN, an own receiver that is down or lost TMARKs take a CLOSED ring to WRAP, with an alarm, both ends fed and the heads counted from each. When the last break is up again, CLOSE goes out on both ends and the ring is RENUMBER. A frame with an error is counted and changes no table. -/
def Obligations.EnumerationBreaksAndHeals : Prop :=
  -- 08 R305, R306: the count
  (∀ (s : State) (r : Fin 16) (n base : Fin 256),
    (s.ringAt r).state = .training ∨ (s.ringAt r).state = .renumber →
    n.val ≠ 0 →
    s.mayDefer (r / 4) 8 = true →
    (s.rc (r / 4)).deferred.any (fun d => d.1 == r.val) = false →
    (let x := s.ringAt r
    ∃ u, exec (.enumCount r false true (.device true) n base) s = .next u ∧ (u.ringAt r).headCount = n.val ∧ (u.ringAt r).described = [] ∧
      (u.ringAt r).reported = [] ∧ (u.ringAt r).fedB = false ∧ u.out = Output.frame { ring := r, end_ := .a, dst := 0xFF, fseq := (x.fseqA + 1) % 65536, body := .enumOut 2 0 0 } :: s.out)) ∧
  -- 08 R307: a descriptor
  (∀ (s : State) (r : Fin 16) (p : Fin 65) (prov : Bool) (d : HeadDesc),
    p.val ≠ 0 →
    (s.ringAt r).state = .wrap →
    (∃ u, exec (.enumDesc r p prov true d) s = .next u ∧ ((u.ringAt r).headRec p).desc = d ∧ ((u.ringAt r).headRec p).present = true ∧
      ((u.ringAt r).headRec p).provisional = prov ∧ p.val ∈ (u.ringAt r).described ∧
      (∀ k, k ≠ p.val → (u.ringAt r).headRec k = (s.ringAt r).headRec k) ∧ u.out = s.out)) ∧
  -- 08 R302, R311: the last REPORT
  (∀ (s : State) (r : Fin 16) (p : Fin 65) (a b : Fin 4294967296),
    (s.ringAt r).state = .training ∨ (s.ringAt r).state = .renumber →
    (positions 1 (s.ringAt r).headCount).all (fun k => k == p.val || (s.ringAt r).reported.contains k) = true →
    (∃ u, exec (.calReport r p true a b) s = .next u ∧ (u.ringAt r).state = .closed ∧ ((u.ringAt r).headRec p).delayA = a.val ∧
      ((u.ringAt r).headRec p).delayB = b.val ∧ ((u.ringAt r).headRec p).confirmed = true ∧ (u.ringAt r).lastCount = (s.ringAt r).headCount ∧
      u.alarmOn 0x0401 r = false)) ∧
  -- 08 R310: PORT_DOWN
  (∀ (s : State) (r : Fin 16) (p : Fin 65) (d : Bool),
    (s.ringAt r).state = .closed →
    (s.ringAt r).breaks = [] →
    (s.ringAt r).fedB = false →
    s.mayDefer (r / 4) 8 = true →
    (s.rc (r / 4)).deferred.any (fun d => d.1 == r.val) = false →
    (let x := s.ringAt r
    ∃ u, exec (.enumPortDown r p d true) s = .next u ∧ (u.ringAt r).state = .wrap ∧ (u.ringAt r).breaks = [.head p (if d then .d else .u)] ∧ (u.ringAt r).fedB = true ∧
      (u.ringAt r).wraps = (x.wraps + 1) % 2 ^ 32 ∧ (u.ringAt r).segAEnd = x.lastCount ∧ (u.ringAt r).segBStart = 0 ∧
      u.alarmOn 0x0401 r = true ∧ u.out.take 2 = [Output.frame { ring := r, end_ := .b, dst := 0xFF, fseq := (x.fseqB + 1 + 1) % 65536, body := .enumOut 1 0 x.lastCount },
        Output.frame { ring := r, end_ := .a, dst := 0xFF, fseq := (x.fseqA + 1) % 65536, body := .enumOut 1 0 0 }])) ∧
  -- 08 R310: an own receiver is down
  (∀ (s : State) (r : Fin 16) (b : Bool),
    (s.ringAt r).state = .closed →
    (s.ringAt r).breaks = [] →
    (s.ringAt r).fedB = false →
    s.mayDefer (r / 4) 8 = true →
    (s.rc (r / 4)).deferred.any (fun d => d.1 == r.val) = false →
    (let x := s.ringAt r
    ∃ u, exec (.ringEndDown r b) s = .next u ∧ (u.ringAt r).state = .wrap ∧ (u.ringAt r).breaks = [.endDown (if b then .b else .a)] ∧ (u.ringAt r).fedB = true ∧
      (u.ringAt r).wraps = (x.wraps + 1) % 2 ^ 32 ∧ (u.ringAt r).segAEnd = x.lastCount ∧ (u.ringAt r).segBStart = 0 ∧
      u.alarmOn 0x0401 r = true ∧ u.out.take 2 = [Output.frame { ring := r, end_ := .b, dst := 0xFF, fseq := (x.fseqB + 1 + 1) % 65536, body := .enumOut 1 0 x.lastCount },
        Output.frame { ring := r, end_ := .a, dst := 0xFF, fseq := (x.fseqA + 1) % 65536, body := .enumOut 1 0 0 }])) ∧
  -- 08 R310: TMARKs are lost
  (∀ (s : State) (r : Fin 16),
    (s.ringAt r).state = .closed →
    (s.ringAt r).breaks = [] →
    (s.ringAt r).fedB = false →
    s.mayDefer (r / 4) 8 = true →
    (s.rc (r / 4)).deferred.any (fun d => d.1 == r.val) = false →
    (let x := s.ringAt r
    ∃ u, exec (.tmarkLoss r) s = .next u ∧ (u.ringAt r).state = .wrap ∧ (u.ringAt r).breaks = [.tmark] ∧ (u.ringAt r).fedB = true ∧
      (u.ringAt r).wraps = (x.wraps + 1) % 2 ^ 32 ∧ (u.ringAt r).segAEnd = x.lastCount ∧ (u.ringAt r).segBStart = 0 ∧
      u.alarmOn 0x0401 r = true ∧ u.out.take 2 = [Output.frame { ring := r, end_ := .b, dst := 0xFF, fseq := (x.fseqB + 1 + 1) % 65536, body := .enumOut 1 0 x.lastCount },
        Output.frame { ring := r, end_ := .a, dst := 0xFF, fseq := (x.fseqA + 1) % 65536, body := .enumOut 1 0 0 }])) ∧
  -- 08 R311: the heal
  (∀ (s : State) (r : Fin 16) (p : Fin 65) (d : Bool),
    p.val ≠ 0 →
    (s.ringAt r).state = .wrap →
    (s.ringAt r).breaks = [.head p (if d then .d else .u)] →
    s.mayDefer (r / 4) 8 = true →
    (s.rc (r / 4)).deferred.any (fun d => d.1 == r.val) = false →
    (let x := s.ringAt r
    ∃ u, exec (.enumPortUp r p d true) s = .next u ∧ (u.ringAt r).state = .renumber ∧ (u.ringAt r).breaks = [] ∧
      (u.ringAt r).fedB = false ∧ (u.ringAt r).segAEnd = x.lastCount ∧ (∀ k, ((u.ringAt r).headRec k).confirmed = false) ∧
      Output.frame { ring := r, end_ := .a, dst := 0xFF, fseq := (x.fseqA + 1) % 65536, body := .enumOut 4 0 0 } ∈ u.out ∧ Output.frame { ring := r, end_ := .b, dst := 0xFF, fseq := (x.fseqB + 1) % 65536, body := .enumOut 4 0 0 } ∈ u.out)) ∧
  -- 08 R288: frames with an error
  (∀ (s : State) (r : Fin 16) (p : Fin 65) (a b : Fin 4294967296) (d : HeadDesc) (port : Bool),
    (let bad := { s.ringAt r with fcsErrors := ((s.ringAt r).fcsErrors + 1) % 2 ^ 32 }
    (∃ u, exec (.calReport r p false a b) s = .next u ∧ u.ringAt r = bad) ∧ (∃ u, exec (.enumDesc r p port false d) s = .next u ∧ u.ringAt r = bad) ∧
      (∃ u, exec (.enumPortDown r p port false) s = .next u ∧ u.ringAt r = bad) ∧ ∃ u, exec (.enumPortUp r p port false) s = .next u ∧ u.ringAt r = bad))

/-- A TMARK is kept with its port; the TIME frame that follows it within 4 us sets the feed port, ends COAST, and with the delay of that end sets the local time to TTX plus the delay, a jump of more than 2 ns in one EPOCH counted. ARM_U and ARM_D arm a port, a CMARK within 20 us is turned there; SET is taken and reported. A bad frame is counted and dropped; a violation is ended with ABT and counted, once until the next frame. -/
def Obligations.HeadsMarksTimeAndCalibration : Prop :=
  -- 08 R298: TMARK
  (∀ (s : State) (r : Fin 16) (p : Fin 65) (d : Bool),
    (s.headAt r p).powered = true →
    (let h := s.headAt r p
    ∃ u, exec (.tmark r p d) s = .next u ∧ s.onlyHead u r p (if d then { h with tmarkD := some s.now } else { h with tmarkU := some s.now }) [])) ∧
  -- 08 R298, R299, R301, 09 R351: TIME
  (∀ (s : State) (r : Fin 16) (p : Fin 65) (b : Bool) (ttx ep t d : Nat),
    (s.headAt r p).powered = true →
    (if b then (s.headAt r p).tmarkD else (s.headAt r p).tmarkU) = some t →
    s.now ≤ t + 4000 →
    (if b then (s.headAt r p).dlyB else (s.headAt r p).dlyA) = some d →
    (let h := s.headAt r p
    let jump : Bool := h.timeValid && h.epoch == some ep && decide (131072 < (((ttx + d : Nat) : Int) - h.localTime t).natAbs)
    ∃ u, exec (.timeFrame r p b true ttx ep) s = .next u ∧ s.onlyHead u r p { h with
        idling := false, feed := if b then .d else .u, pairAt := s.now, coast := false, epoch := some ep, timeValid := true,
        localBase := ((ttx + d : Nat) : Int), localAt := t,
        counters := if jump then tset 0 h.counters 9 ((tget 0 h.counters 9 + 1) % 2 ^ 32) else h.counters } [])) ∧
  -- 08 R302: a CMARK is turned
  (∀ (s : State) (r : Fin 16) (p : Fin 65) (d : Bool) (t : Nat),
    (s.headAt r p).powered = true →
    (if d then (s.headAt r p).armD else (s.headAt r p).armU) = some t →
    s.now ≤ t + 20000 →
    (let h := s.headAt r p
    ∃ u, exec (.cmark r (.head p d)) s = .next u ∧ s.onlyHead u r p (if d then { h with armD := none } else { h with armU := none }) [.turned r p (if d then .d else .u)])) ∧
  -- 08 R302: ARM_U and ARM_D
  (∀ (s : State) (r : Fin 16) (p : Fin 65) (dst : Fin 256),
    (s.headAt r p).powered = true →
    dst.val = 0xFF ∨ ((s.headAt r p).pos ≠ 0 ∧ dst.val = (s.headAt r p).pos) →
    (let h := s.headAt r p
    (∃ u, exec (.calArmU r p dst true) s = .next u ∧ s.onlyHead u r p { h with idling := false, armU := some s.now } []) ∧
      ∃ u, exec (.calArmD r p dst true) s = .next u ∧ s.onlyHead u r p { h with idling := false, armD := some s.now } [])) ∧
  -- 08 R302: SET and its REPORT
  (∀ (s : State) (r : Fin 16) (p : Fin 65) (dst : Fin 256) (a b : Fin 4294967296),
    (s.headAt r p).powered = true →
    dst.val = 0xFF ∨ ((s.headAt r p).pos ≠ 0 ∧ dst.val = (s.headAt r p).pos) →
    (let h := s.headAt r p
    ∃ u, exec (.calSet r p dst true a b) s = .next u ∧ s.onlyHead u r p { h with idling := false, dlyA := some a.val, dlyB := some b.val, fseq := (h.fseq + 1) % 65536 } [headFrameOf h r (.cal 4 a b)])) ∧
  -- 08 R288: a bad frame
  (∀ (s : State) (r : Fin 16) (p : Fin 65) (dst : Fin 256) (a b : Fin 4294967296),
    (s.headAt r p).powered = true →
    (let h := s.headAt r p
    let bad := { h with idling := false, counters := tset 0 h.counters 0 ((tget 0 h.counters 0 + 1) % 2 ^ 32) }
    (∃ u, exec (.calSet r p dst false a b) s = .next u ∧ s.onlyHead u r p bad []) ∧
      (∃ u, exec (.calArmU r p dst false) s = .next u ∧ s.onlyHead u r p bad []) ∧
      (∃ u, exec (.enumDescribe r p false) s = .next u ∧ s.onlyHead u r p bad []) ∧
      ∃ u, exec (.enumClose r p false) s = .next u ∧ s.onlyHead u r p bad [])) ∧
  -- 08 R293: a violation at a head
  (∀ (s : State) (r : Fin 16) (p : Fin 65),
    p.val ≠ 0 →
    (s.headAt r p).powered = true →
    (s.headAt r p).idling = false →
    (let h := s.headAt r p
    ∃ u, exec (.codeViolation r p) s = .next u ∧ s.onlyHead u r p { h with idling := true, counters := tset 0 h.counters 1 ((tget 0 h.counters 1 + 1) % 2 ^ 32) } [.ringAbort r p])) ∧
  -- 08 R314, R316: at the device
  (∀ (s : State) (r : Fin 16),
    (∃ u v, exec (.abt r 0) s = .next u ∧ exec (.codeViolation r 0) s = .next v ∧
      u.ringAt r = { s.ringAt r with aborts := ((s.ringAt r).aborts + 1) % 2 ^ 32 } ∧
      v.ringAt r = { s.ringAt r with codeErrors := ((s.ringAt r).codeErrors + 1) % 2 ^ 32 })) ∧
  -- 08 R285: a head forwards ABT
  (∀ (s : State) (r : Fin 16) (p : Fin 65),
    p.val ≠ 0 →
    (exec (.abt r p) s = .next s)) ∧
  -- 00 R24: unknown frames
  (∀ (s : State) (r : Fin 16) (p : Fin 65),
    (let h := s.headAt r p
    ∃ u, exec (.unknownFrame r p) s = .next u ∧ s.onlyHead u r p { h with idling := false } []))

/-- A COUNT raises HOPS and gives the head its position, from the B end a provisional one; DESCRIBE is answered with the descriptor; CLOSE ends a loopback whose ports are up. A port that goes down is reported, puts the head in loopback on the other port, and in COAST where it was the feed port; one that comes up is reported. A SAFE frame that a head cannot accept is counted and changes nothing; an accepted one with QUENCH = 1 quenches it; the fourth in a row with QUENCH = 0 after that releases it. -/
def Obligations.HeadsPositionsPortsAndSafeFrames : Prop :=
  -- 08 R305: COUNT
  (∀ (s : State) (r : Fin 16) (p : Fin 65) (b : Bool) (hops base : Fin 256),
    (s.headAt r p).powered = true →
    hops.val < 64 →
    (let h := s.headAt r p
    ∃ u, exec (.enumCount r b true (.head p) hops base) s = .next u ∧ s.onlyHead u r p { h with idling := false, overfull := false, provisional := b, pos := if b then base.val - hops.val else hops.val + 1 } [.counted r p (hops.val + 1)])) ∧
  -- 08 R306: DESCRIBE
  (∀ (s : State) (r : Fin 16) (p : Fin 65),
    (s.headAt r p).powered = true →
    (s.headAt r p).pos ≠ 0 →
    (let h := s.headAt r p
    ∃ u, exec (.enumDescribe r p true) s = .next u ∧ s.onlyHead u r p { h with idling := false, fseq := (h.fseq + 1) % 65536 } [headFrameOf h r (.enumHead 3 h.pos h.provisional false h.desc)])) ∧
  -- 08 R311: CLOSE
  (∀ (s : State) (r : Fin 16) (p : Fin 65),
    (s.headAt r p).powered = true →
    (let h := s.headAt r p
    ∃ u, exec (.enumClose r p true) s = .next u ∧ s.onlyHead u r p { h with idling := false, loopback := h.loopback && (h.downU || h.downD) } [])) ∧
  -- 08 R308, R309, 09 R351: the feed port goes down
  (∀ (s : State) (r : Fin 16) (p : Fin 65),
    (s.headAt r p).powered = true →
    (s.headAt r p).feed = .u →
    (s.headAt r p).downU = false →
    (s.headAt r p).coast = false →
    (let h := s.headAt r p
    ∃ u, exec (.portDownDetect r p false) s = .next u ∧ s.onlyHead u r p { h with
        downU := true, loopback := true, feed := .d, coast := true, coastAt := s.now, fseq := (h.fseq + 1) % 65536,
        counters := tset 0 h.counters 10 ((tget 0 h.counters 10 + 1) % 2 ^ 32) } [headFrameOf { h with feed := .d } r (.enumHead 6 h.pos h.provisional false h.desc), .lfault r p .u])) ∧
  -- 08 R308, R309: the other port goes down
  (∀ (s : State) (r : Fin 16) (p : Fin 65),
    (s.headAt r p).powered = true →
    (s.headAt r p).feed = .u →
    (s.headAt r p).downD = false →
    (let h := s.headAt r p
    ∃ u, exec (.portDownDetect r p true) s = .next u ∧ s.onlyHead u r p { h with downD := true, loopback := true, fseq := (h.fseq + 1) % 65536 } [headFrameOf h r (.enumHead 6 h.pos h.provisional true h.desc), .lfault r p .d])) ∧
  -- 08 R308: a port is up again
  (∀ (s : State) (r : Fin 16) (p : Fin 65) (d : Bool),
    (s.headAt r p).powered = true →
    (if d then (s.headAt r p).downD else (s.headAt r p).downU) = true →
    (let h := s.headAt r p
    ∃ u, exec (.portUpDetect r p d) s = .next u ∧ s.onlyHead u r p { h with
        localBase := h.localTime s.now, localAt := s.now, downU := h.downU && d, downD := h.downD && !d, fseq := (h.fseq + 1) % 65536 } [headFrameOf h r (.enumHead 5 h.pos h.provisional d h.desc)])) ∧
  -- 08 R291, 09 R352: not accepted
  (∀ (s : State) (r : Fin 16) (p : Fin 65) (f : SafeFields),
    (s.headAt r p).powered = true →
    (s.headAt r p).acceptsSafe r f s.now = false →
    (let h := s.headAt r p
    ∃ u, exec (.safeFrame r p true f) s = .next u ∧ s.onlyHead u r p { h with idling := false, counters := tset 0 h.counters 8 ((tget 0 h.counters 8 + 1) % 2 ^ 32) } [])) ∧
  -- 09 R353: QUENCH = 1
  (∀ (s : State) (r : Fin 16) (p : Fin 65) (f : SafeFields),
    (s.headAt r p).powered = true →
    (s.headAt r p).acceptsSafe r f s.now = true →
    f.qstate % 2 = 1 →
    (s.headAt r p).quenched = false →
    (let h := s.headAt r p
    ∃ u, exec (.safeFrame r p true f) s = .next u ∧ s.onlyHead u r p { h with
        idling := false, safeAt := some s.now, lastSseq := some f.sseq, jog := f.sfmode == 1, channels := [], held := [], staged := [],
        committed := [], captures := [], quenched := true, cause := 1, quenchSeen := true, goodFrames := 0 } [])) ∧
  -- 09 R354: QUENCH = 0
  (∀ (s : State) (r : Fin 16) (p : Fin 65) (f : SafeFields),
    (s.headAt r p).powered = true →
    (s.headAt r p).acceptsSafe r f s.now = true →
    f.qstate % 2 = 0 →
    f.sfmode = 0 →
    (s.headAt r p).jog = false →
    (s.headAt r p).quenched = true →
    (s.headAt r p).quenchSeen = true →
    (s.headAt r p).lastSseq.map inc32 = some f.sseq →
    (let h := s.headAt r p
    let n := h.goodFrames + 1
    ∃ u, exec (.safeFrame r p true f) s = .next u ∧ s.onlyHead u r p { h with
        idling := false, safeAt := some s.now, lastSseq := some f.sseq, goodFrames := n, quenched := decide (n < 4), quenchSeen := decide (n < 4) } []))

/-- An EVENT record of a zone that the ring admits is appended to its queue with its fields, or answered UNREACHABLE where its position can take none, the token in its task's queue. A due event of a position is sent with a new EID in an EVENT frame, and its echo ECHO_GAP later; a trim carries the new WHEN, twice where it is the final one. At WHEN - 20 us the event is frozen; at WHEN + 1 us it leaves the queue, with a DONE token where RPT is set. -/
def Obligations.EventRecordsSendsAndCompletions : Prop :=
  -- 09 R318 to R321: accepted
  (∀ (s : State) (r : Fin 16) (z : Fin 16) (w k : BitVec 64),
    s.eventZone r z = true →
    fieldOf w 14 2 = 0 →
    plainRecord w →
    (s.ringAt r).unplaced (fieldOf w 4 6 + 1) = false →
    (s.ringAt r).events.length < 4096 →
    (let x := s.ringAt r
    ∃ u, exec (.eventRecord r z w k) s = .next u ∧ u = { s with ring := { s.ring with rings := u.ring.rings } } ∧
      u.ringAt r = { x with events := x.events ++ [s.plainEvent r z (fieldOf w 48 16) w k none], nextUid := x.nextUid + 1
                            pendingHigh := max x.pendingHigh (x.events.length + 1) } ∧ ∀ j, j ≠ r.val → u.ringAt j = s.ringAt j)) ∧
  -- 09 R320, R324: UNREACHABLE
  (∀ (s : State) (r : Fin 16) (z : Fin 16) (w k : BitVec 64),
    s.eventZone r z = true →
    fieldOf w 14 2 = 0 →
    plainRecord w →
    (s.ringAt r).unplaced (fieldOf w 4 6 + 1) = true →
    s.tokenRoom (fieldOf w 40 8) →
    (let x := s.ringAt r
    let t := fieldOf w 40 8
    ∃ u, exec (.eventRecord r z w k) s = .next u ∧ u.ringAt r = { x with unreachable := (x.unreachable + 1) % 2 ^ 32 } ∧
      u.task t = { s.task t with queue := (s.task t).queue ++ [tokenWord r .unreachable { pos := fieldOf w 4 6 + 1, ch := fieldOf w 0 4, tag := fieldOf w 48 16 }, s.time.t64] })) ∧
  -- 09 R325, R326: the first send
  (∀ (s : State) (r : Fin 16) (p : Fin 65) (e : QEvent) (w : Nat),
    (s.ringAt r).events.filter (fun f => f.uid == e.uid) = [e] →
    (s.ringAt r).events.filter (fun f => f.pos == p.val && f.stage == .queued && s.dueMember r f != .waits) = [e] →
    s.dueMember r e = .now w →
    s.ringQuenched r = false →
    (s.ringAt r).reaches p = true →
    (s.ringAt r).arrives p s.t80 w = true →
    ((s.ringAt r).headRec p).confirmed = true →
    s.headLoad r p < ((s.ringAt r).headRec p).desc.evCap →
    (let x := s.ringAt r
    let id := s.newEid r
    ∃ u, exec (.eventSend r p) s = .next u ∧
      (u.ringAt r).events = x.events.map (fun f => if f.uid = e.uid then
        { f with stage := .sent, eid := id, when_ := w, sentAt := s.now, trimAt := s.now, echoed := false } else f) ∧
      u.out = x.frameTo r p (.event [{ ch := e.ch, suspect := s.keySuspect e.key, act := e.act, eid := id, when_ := w, param := e.param }]) :: s.out)) ∧
  -- 09 R328: the echo
  (∀ (s : State) (r : Fin 16) (p : Fin 65) (e : QEvent),
    (s.ringAt r).events.filter (fun f => f.uid == e.uid) = [e] →
    (s.ringAt r).events.filter (fun f => f.pos == p.val && s.echoDue r f) = [e] →
    s.ringQuenched r = false →
    (s.ringAt r).reaches p = true →
    (s.ringAt r).arrives p s.t80 e.when_ = true →
    e.group = none →
    (let x := s.ringAt r
    ∃ u, exec (.eventEcho r p) s = .next u ∧
      (u.ringAt r).events = x.events.map (fun f => if f.uid = e.uid then { f with echoed := true, noEcho := false } else f) ∧
      u.out = x.frameTo r p (.event [s.entryOf e]) true :: s.out)) ∧
  -- 09 R335: a trim
  (∀ (s : State) (r : Fin 16) (i : Nat) (e : QEvent) (w : Nat),
    (s.ringAt r).event? i = some e →
    e.uid = i →
    s.trimTo r e = some w →
    e.trimAt + s.num 0x5200 4 10 * 1000 ≤ s.now →
    s.t80 + lockLead + s.num 0x5200 5 8 * 1000 * 65536 < e.when_ →
    (let x := s.ringAt r
    ∃ u, exec (.trimSend r i) s = .next u ∧
      u.ringAt r = { x with events := x.events.map (fun f => if f.uid = i then { f with when_ := w, trimAt := s.now } else f)
                            trimsSent := (x.trimsSent + 1) % 2 ^ 32, fseqA := (u.ringAt r).fseqA, fseqB := (u.ringAt r).fseqB } ∧
      u.out = x.frameTo r e.pos (.event [{ s.entryOf e with trim := true, when_ := w }]) :: s.out)) ∧
  -- 09 R336: the final trim
  (∀ (s : State) (r : Fin 16) (i : Nat) (e : QEvent) (w : Nat),
    (s.ringAt r).event? i = some e →
    e.uid = i →
    s.trimTo r e = some w →
    e.when_ ≤ s.t80 + lockLead + s.num 0x5200 5 8 * 1000 * 65536 →
    (let x := s.ringAt r
    ∃ u, exec (.finalTrim r i) s = .next u ∧
      (u.ringAt r).events = x.events.map (fun f => if f.uid = i then { f with when_ := w, trimAt := s.now } else f) ∧
      (u.ringAt r).trimsSent = (x.trimsSent + 1) % 2 ^ 32 ∧ u.out.length = s.out.length + 2 ∧
      u.out.drop 1 = x.frameTo r e.pos (.event [{ s.entryOf e with trim := true, when_ := w }]) :: s.out)) ∧
  -- 09 R336: frozen
  (∀ (s : State) (r : Fin 16) (i : Nat) (e : QEvent),
    (s.ringAt r).event? i = some e →
    e.stage = .sent →
    e.when_ ≤ s.t80 + lockLead →
    (∃ u, exec (.eventFreeze r i) s = .next u ∧
      u.ringAt r = { s.ringAt r with events := (s.ringAt r).events.map (fun f => if f.uid = i then { f with stage := .frozen, suspect := s.keySuspect e.key } else f) } ∧
      u = { s with ring := { s.ring with rings := u.ring.rings } })) ∧
  -- 09 R324, R344: DONE
  (∀ (s : State) (r : Fin 16) (i : Nat) (e : QEvent),
    (s.ringAt r).event? i = some e →
    e.uid = i →
    e.stage = .frozen →
    e.when_ + 1000 * 65536 ≤ s.t80 →
    e.group = none →
    s.tokenRoom e.task →
    (let x := s.ringAt r
    ∃ u, exec (.eventDone r i) s = .next u ∧ (u.ringAt r).events = x.events.filter (fun f => f.uid ≠ i) ∧
      (e.rpt = false → u.array = s.array) ∧
      (e.rpt = true → (u.task e.task).queue = (s.task e.task).queue ++
        [tokenWord r .done { pos := e.pos, ch := e.ch, eid := e.eid, tag := e.tag, suspect := e.suspect || s.keySuspect e.key, noEcho := e.noEcho }, e.when_ / 65536])))

/-- GROUP_OPEN with 1 to 28 members takes a free slot; each member joins it, and with the last it waits for its send instant; one still assembling 100 us after its opening ends with GROUP_DONE. An ATOMIC group is staged with HOLD 20 us before its first WHEN and a DEADLINE; after StageRetry STAGE is repeated to those without an OK; at DEADLINE every OK makes COMMIT, otherwise ABORT and GROUP_DONE; COMMIT is repeated while it can arrive; at HOLD the slot is free. Each OK counts once. A SENSE frame becomes chunks of its task. -/
def Obligations.FiringGroupsAcksAndSense : Prop :=
  -- 09 R338: GROUP_OPEN
  (∀ (s : State) (r : Fin 16) (z : Fin 16) (n : Nat) (w k : BitVec 64),
    s.eventZone r z = true →
    (s.ringAt r).group? (fieldOf w 0 4) = none →
    1 ≤ fieldOf w 5 5 ∧ fieldOf w 5 5 ≤ 28 →
    (let x := s.ringAt r
    ∃ u, exec (.groupOpen r z n w k) s = .next u ∧ u = { s with ring := { s.ring with rings := u.ring.rings } } ∧
      (u.ringAt r).groups = x.groups ++ [(fieldOf w 0 4, { atomic := w.getLsbD 4, n := fieldOf w 5 5, ackWindow := fieldOf k 0 32, task := fieldOf w 40 8, tag := fieldOf w 48 16, zone := z, entry := n, openedAt := s.now })] ∧
      (u.ringAt r).events = x.events)) ∧
  -- 09 R338: GROUP_MEMBER
  (∀ (s : State) (r : Fin 16) (z : Fin 16) (n : Nat) (w k : BitVec 64) (y : Group),
    s.eventZone r z = true →
    s.memberRefused r (fieldOf w 60 4) n = false →
    (s.ringAt r).group? (fieldOf w 60 4) = some y →
    y.stage = .assembling →
    y.entry = n →
    y.mask.contains (fieldOf w 4 6 + 1) = false →
    plainRecord w →
    (s.ringAt r).unplaced (fieldOf w 4 6 + 1) = false →
    (s.ringAt r).events.length < 4096 →
    (let x := s.ringAt r
    let g := fieldOf w 60 4
    ∃ u, exec (.groupMember r z n w k) s = .next u ∧
      (u.ringAt r).events = x.events ++ [s.plainEvent r z (fieldOf w 48 12) w k (some g)] ∧
      (u.ringAt r).group? g = some { y with members := y.members ++ [x.nextUid], mask := y.mask ++ [fieldOf w 4 6 + 1]
                                            stage := if y.members.length + 1 = y.n then .waiting else .assembling })) ∧
  -- 09 R338: the assembly ends
  (∀ (s : State) (r : Fin 16) (g : Fin 16) (y : Group),
    (s.ringAt r).group? g = some y →
    y.stage = .assembling →
    y.openedAt + 100000 ≤ s.now →
    s.tokenRoom y.task →
    (∃ u, exec (.groupAssemblyTimeout r g) s = .next u ∧ (u.ringAt r).group? g = none ∧
      (u.ringAt r).events = (s.ringAt r).events.filter (fun e => e.group ≠ some g.val) ∧
      (u.task y.task).queue = (s.task y.task).queue ++ [tokenWord r .groupDone { eid := g, tag := y.tag }, positionMask (if y.atomic then y.mask else y.delivered)])) ∧
  -- 09 R340: STAGE
  (∀ (s : State) (r : Fin 16) (g : Fin 16) (y : Group) (ms : List (QEvent × Nat)) (w0 : Nat),
    (s.ringAt r).group? g = some y →
    y.stage = .waiting →
    y.atomic = true →
    s.groupPassed r g = false →
    s.groupTimes r g = some ms →
    ms.foldl (fun m p => min m p.2) ((ms.head?.map (·.2)).getD 0) = w0 →
    w0 ≤ s.t80 + s.sendAhead →
    s.ringQuenched r = false →
    s.time.t64 + 30000 ≤ (w0 - lockLead) / 65536 →
    (s.ringAt r).openGroups < 8 →
    ms.all (fun p => ((s.ringAt r).headRec p.1.pos).confirmed && decide (s.headLoad r p.1.pos < ((s.ringAt r).headRec p.1.pos).desc.evCap)) = true →
    (s.ringAt r).fedEnds = [.a] →
    (let hold := (w0 - lockLead) / 65536
    let gid := ((s.ringAt r).nextGid + 1) % 65536
    ∃ u, exec (.groupSend r g) s = .next u ∧
      (u.ringAt r).group? g = some { y with stage := .staged, gid := gid, hold := hold, deadline := min (s.time.t64 + s.ackWindow y) (hold - 10000)
                                            stagedAt := s.now, retried := false, oks := [], commits := [] } ∧
      u.out = (s.ringAt r).frameAll r (.stage gid y.mask hold ((((u.ringAt r).members g).filter (fun e => y.mask.contains e.pos)).map (fun e => (e.pos, s.entryOf e)))) :: s.out)) ∧
  -- 09 R340: StageRetry
  (∀ (s : State) (r : Fin 16) (g : Fin 16) (y : Group),
    (s.ringAt r).group? g = some y →
    y.stage = .staged →
    y.retried = false →
    y.stagedAt + 50000 ≤ s.now →
    s.time.t64 < y.deadline →
    y.mask.filter (fun p => !y.oks.contains p) ≠ [] →
    (s.ringAt r).fedEnds = [.a] →
    (∃ u, exec (.stageRetry r g) s = .next u ∧ (u.ringAt r).group? g = some { y with retried := true } ∧
      u.out = (s.ringAt r).frameAll r (s.stageBody r g y (y.mask.filter (fun p => !y.oks.contains p))) :: s.out)) ∧
  -- 09 R340: COMMIT
  (∀ (s : State) (r : Fin 16) (g : Fin 16) (y : Group),
    (s.ringAt r).group? g = some y →
    y.stage = .staged →
    y.deadline ≤ s.time.t64 →
    (s.ringAt r).fedEnds = [.a] →
    y.mask.all y.oks.contains = true →
    (let x := s.ringAt r
    ∃ u, exec (.groupDeadline r g) s = .next u ∧ (u.ringAt r).group? g = some { y with stage := .committed, commitAt := s.now } ∧
      (u.ringAt r).atomicCommitted = (x.atomicCommitted + 1) % 2 ^ 32 ∧ u.out = x.frameAll r (.commit y.gid y.mask) :: s.out ∧
      (u.ringAt r).events = x.events.map (fun e => if e.group = some g.val then
        { e with stage := .sent, sentAt := s.now, trimAt := s.now, echoed := true } else e))) ∧
  -- 09 R340: ABORT
  (∀ (s : State) (r : Fin 16) (g : Fin 16) (y : Group),
    (s.ringAt r).group? g = some y →
    y.stage = .staged →
    y.deadline ≤ s.time.t64 →
    (s.ringAt r).fedEnds = [.a] →
    y.mask.all y.oks.contains = false →
    s.tokenRoom y.task →
    (let x := s.ringAt r
    ∃ u, exec (.groupDeadline r g) s = .next u ∧ (u.ringAt r).group? g = none ∧
      (u.ringAt r).atomicAborted = (x.atomicAborted + 1) % 2 ^ 32 ∧ u.out = x.frameAll r (.abort y.gid y.mask) :: s.out ∧
      (u.ringAt r).events = x.events.filter (fun e => e.group ≠ some g.val) ∧
      (u.task y.task).queue = (s.task y.task).queue ++ [tokenWord r .groupDone { eid := g, tag := y.tag }, positionMask (y.mask.filter (fun p => !y.oks.contains p))])) ∧
  -- 09 R340: COMMIT again
  (∀ (s : State) (r : Fin 16) (g : Fin 16) (y : Group) (l : List Nat),
    (s.ringAt r).group? g = some y →
    y.stage = .committed →
    y.commitAt + 10000 ≤ s.now →
    y.unanswered.filter (fun p => (s.ringAt r).reaches p && decide (s.t80 + 2700 * 65536 + (s.ringAt r).delayTo p ≤ y.hold * 65536)) = l →
    l ≠ [] →
    (s.ringAt r).fedEnds = [.a] →
    (∃ u, exec (.commitRepeat r g) s = .next u ∧ (u.ringAt r).group? g = some { y with commitAt := s.now } ∧
      u.out = (s.ringAt r).frameAll r (.commit y.gid l) :: s.out)) ∧
  -- 09 R340, R341: HOLD
  (∀ (s : State) (r : Fin 16) (g : Fin 16) (y : Group),
    (s.ringAt r).group? g = some y →
    y.stage = .committed →
    y.hold ≤ s.time.t64 →
    y.unanswered = [] →
    s.tokenRoom y.task →
    (∃ u, exec (.groupHold r g) s = .next u ∧ (u.ringAt r).group? g = none ∧
      (u.task y.task).queue = (s.task y.task).queue ++ [tokenWord r .groupDone { eid := g, tag := y.tag }, 0])) ∧
  -- 08 R290, 09 R340: ACK
  (∀ (s : State) (r : Fin 16) (p : Fin 65) (gid : Nat),
    (let x := s.ringAt r
    (∃ u, exec (.ackFrame r p gid 1 0 true) s = .next u ∧ u.ringAt r = { x with groups := x.groups.map (fun q =>
        if q.2.gid = gid ∧ q.2.stage = .staged ∧ q.2.mask.contains p.val ∧ s.time.t64 ≤ q.2.deadline ∧ ¬ q.2.oks.contains p.val then
          (q.1, { q.2 with oks := q.2.oks ++ [p.val] }) else q) }) ∧
      ∃ u, exec (.ackFrame r p gid 2 0 true) s = .next u ∧ u.ringAt r = { x with groups := x.groups.map (fun q =>
        if q.2.gid = gid ∧ q.2.stage = .committed ∧ q.2.mask.contains p.val ∧ ¬ q.2.commits.contains p.val then
          (q.1, { q.2 with commits := q.2.commits ++ [p.val] }) else q) })) ∧
  -- 09 R345: SENSE
  (∀ (s : State) (r : Fin 16) (p : Fin 65) (n st fmt t0 sp : Nat) (l : List Nat),
    s.senseTask r p st = some n →
    fmt ≤ 2 →
    l ≠ [] →
    l.length ≤ 40 / (if fmt = 0 then 2 else 4) →
    (s.task n).state ≠ .absent →
    (s.task n).state ≠ .draining →
    (s.task n).queue.length + (senseChunk r p st fmt sp t0 0 l).length ≤ (s.task n).queueSize →
    (s.task n).kind ≠ .queue →
    (∃ u, exec (.senseFrame r p st fmt t0 sp l true) s = .next u ∧
      u.task n = { s.task n with queue := (s.task n).queue ++ senseChunk r p st fmt sp t0 0 l } ∧ u.ring = s.ring))

/-- An entry that a head can take is held; a late one and one it refuses are counted and not held; the echo of a held one is a duplicate and changes nothing else; a TRIM before lock-in moves its WHEN. A STAGE with room is kept and acknowledged OK; COMMIT makes its entries held; ABORT discards it; each is acknowledged. HOLD discards an uncommitted group. At WHEN - 20 us an event is locked. At WHEN the one event of a channel fires: its level changes and it is counted. A PULSE's end takes the level to 0. -/
def Obligations.HeadsEventsGroupsAndFiring : Prop :=
  -- 09 R348: held
  (∀ (s : State) (r : Fin 16) (p : Fin 65) (dst : Fin 256) (e : EventEntry),
    (s.headAt r p).powered = true →
    dst.val = 0xFF ∨ ((s.headAt r p).pos ≠ 0 ∧ dst.val = (s.headAt r p).pos) →
    e.withdraw = false →
    e.trim = false →
    e.suspect = false →
    (s.headAt r p).held.all (fun x => x.entry.eid != e.eid) = true →
    (s.headAt r p).refusesEntry e = false →
    (s.headAt r p).isLate e.when_ s.now = false →
    (s.headAt r p).load < (s.headAt r p).desc.evCap →
    (let h := s.headAt r p
    ∃ u, exec (.eventFrame r p dst true [e]) s = .next u ∧ s.onlyHead u r p { h with idling := false, held := h.held ++ [{ entry := e, arrival := h.arrivals }], arrivals := h.arrivals + 1 } [])) ∧
  -- 09 R348: BAD and LATE
  (∀ (s : State) (r : Fin 16) (p : Fin 65) (dst : Fin 256) (e : EventEntry),
    (s.headAt r p).powered = true →
    dst.val = 0xFF ∨ ((s.headAt r p).pos ≠ 0 ∧ dst.val = (s.headAt r p).pos) →
    e.withdraw = false →
    e.trim = false →
    e.suspect = false →
    (s.headAt r p).held.all (fun x => x.entry.eid != e.eid) = true →
    (s.headAt r p).refusesEntry e = true ∨ (s.headAt r p).isLate e.when_ s.now = true →
    (let h := s.headAt r p
    ∃ u, exec (.eventFrame r p dst true [e]) s = .next u ∧ s.onlyHead u r p (if h.refusesEntry e then { h with idling := false, counters := tset 0 h.counters 5 ((tget 0 h.counters 5 + 1) % 2 ^ 32) } else { h with idling := false, counters := tset 0 h.counters 3 ((tget 0 h.counters 3 + 1) % 2 ^ 32) }) [])) ∧
  -- 09 R348: a duplicate
  (∀ (s : State) (r : Fin 16) (p : Fin 65) (dst : Fin 256) (e : EventEntry) (x : HeldEvent),
    (s.headAt r p).powered = true →
    dst.val = 0xFF ∨ ((s.headAt r p).pos ≠ 0 ∧ dst.val = (s.headAt r p).pos) →
    e.withdraw = false →
    e.trim = false →
    e.suspect = false →
    (s.headAt r p).held.find? (fun y => y.entry.eid == e.eid) = some x →
    e.when_ = x.entry.when_ →
    (let h := s.headAt r p
    ∃ u, exec (.eventFrame r p dst true [e]) s = .next u ∧ s.onlyHead u r p { h with idling := false, counters := tset 0 h.counters 2 ((tget 0 h.counters 2 + 1) % 2 ^ 32) } [])) ∧
  -- 09 R337, R348: TRIM
  (∀ (s : State) (r : Fin 16) (p : Fin 65) (dst : Fin 256) (e : EventEntry) (x : HeldEvent),
    (s.headAt r p).powered = true →
    dst.val = 0xFF ∨ ((s.headAt r p).pos ≠ 0 ∧ dst.val = (s.headAt r p).pos) →
    e.withdraw = false →
    e.trim = true →
    e.suspect = false →
    (s.headAt r p).held.find? (fun y => y.entry.eid == e.eid) = some x →
    x.locked = false →
    (s.headAt r p).atLock x.entry.when_ s.now = false →
    (let h := s.headAt r p
    ∃ u, exec (.eventFrame r p dst true [e]) s = .next u ∧ s.onlyHead u r p { h with idling := false, held := h.held.map (fun y => if y.entry.eid = e.eid then { y with entry := { y.entry with when_ := e.when_ } } else y) } [])) ∧
  -- 09 R349: STAGE
  (∀ (s : State) (r : Fin 16) (p : Fin 65) (gid fq : Fin 65536) (hold : Nat) (m : List (Fin 65)) (es : List (Fin 65 × EventEntry)),
    (s.headAt r p).powered = true →
    (s.headAt r p).pos ≠ 0 →
    m.any (fun x => x.val == (s.headAt r p).pos) = true →
    (s.headAt r p).staged.all (fun g => g.gid != gid.val) = true →
    (s.headAt r p).committed.all (fun g => g.1 != gid.val) = true →
    (s.headAt r p).quenched = false →
    (entriesFor (s.headAt r p).pos es).all (fun e => !e.suspect && !(s.headAt r p).refusesEntry e && !(s.headAt r p).isLate e.when_ s.now) = true →
    (s.headAt r p).staged.length < 4 →
    (s.headAt r p).load + (entriesFor (s.headAt r p).pos es).length ≤ (s.headAt r p).desc.evCap →
    (let h := s.headAt r p
    ∃ u, exec (.stageFrame r p true gid fq hold m es) s = .next u ∧ s.onlyHead u r p { h with idling := false, fseq := (h.fseq + 1) % 65536, staged := h.staged ++ [{ gid := gid, hold := hold, entries := entriesFor h.pos es }] } [headFrameOf h r (.ack gid 1 0 fq)])) ∧
  -- 09 R349: COMMIT
  (∀ (s : State) (r : Fin 16) (p : Fin 65) (gid fq : Fin 65536) (m : List (Fin 65)) (g : StagedGroup),
    (s.headAt r p).powered = true →
    (s.headAt r p).pos ≠ 0 →
    m.any (fun x => x.val == (s.headAt r p).pos) = true →
    (s.headAt r p).staged.find? (fun x => x.gid == gid.val) = some g →
    (s.headAt r p).committed = [] →
    (s.headAt r p).pastHold g.hold s.now = false →
    (let h := s.headAt r p
    ∃ u, exec (.commitFrame r p true gid fq m) s = .next u ∧ s.onlyHead u r p { h with
        idling := false, fseq := (h.fseq + 1) % 65536, staged := h.staged.filter (fun x => x.gid ≠ gid.val), committed := [(gid.val, g.hold)],
        held := h.held ++ g.entries.zipIdx.map (fun e => { entry := e.1, arrival := h.arrivals + e.2 }), arrivals := h.arrivals + g.entries.length } [headFrameOf h r (.ack gid 2 0 fq)])) ∧
  -- 09 R349: ABORT
  (∀ (s : State) (r : Fin 16) (p : Fin 65) (gid fq : Fin 65536) (m : List (Fin 65)),
    (s.headAt r p).powered = true →
    (s.headAt r p).pos ≠ 0 →
    m.any (fun x => x.val == (s.headAt r p).pos) = true →
    (let h := s.headAt r p
    ∃ u, exec (.abortFrame r p true gid fq m) s = .next u ∧ s.onlyHead u r p { h with
        idling := false, fseq := (h.fseq + 1) % 65536, staged := h.staged.filter (fun x => x.gid ≠ gid.val),
        committed := h.committed.filter (fun c => c.1 ≠ gid.val) } [headFrameOf h r (.ack gid 3 0 fq)])) ∧
  -- 09 R349: HOLD
  (∀ (s : State) (r : Fin 16) (p : Fin 65) (gid : Fin 65536),
    (let h := s.headAt r p
    ∃ u, exec (.headHoldDiscard r p gid) s = .next u ∧ s.onlyHead u r p { h with staged := h.staged.filter (fun g => g.gid ≠ gid.val ∨ h.localTime s.now < (g.hold : Int) * 65536) } [])) ∧
  -- 09 R337: lock-in
  (∀ (s : State) (r : Fin 16) (p : Fin 65) (i : Fin 65536),
    (let h := s.headAt r p
    ∃ u, exec (.headLockIn r p i) s = .next u ∧ s.onlyHead u r p { h with held := h.held.map (fun x => if x.entry.eid = i.val ∧ (x.entry.when_ : Int) - 20000 * 65536 ≤ h.localTime s.now then { x with locked := true } else x) } [])) ∧
  -- 09 R333, R334, R347: firing
  (∀ (s : State) (r : Fin 16) (p : Fin 65) (c : Fin 16) (x : HeldEvent),
    (s.headAt r p).held.filter (fun y => y.entry.ch == c.val) = [x] →
    (x.entry.when_ : Int) ≤ (s.headAt r p).localTime s.now →
    (s.headAt r p).quenched = false →
    (s.headAt r p).timeValid = true →
    (s.headAt r p).jog = false →
    x.entry.act = 1 ∨ x.entry.act = 2 ∨ x.entry.act = 3 ∨ x.entry.act = 4 →
    (let h := s.headAt r p
    let e := x.entry
    ∃ u, exec (.headFire r p c) s = .next u ∧ s.onlyHead u r p { h with
        held := h.held.filter (fun y => y.entry.ch ≠ c.val), counters := tset 0 h.counters 6 ((tget 0 h.counters 6 + 1) % 2 ^ 32),
        channels := tmod {} h.channels c (fun k => { k with
          level := (if e.act = 1 ∨ e.act = 3 then 65535 else if e.act = 2 then 0 else e.param),
          pulseEnd := (if e.act = 3 then some (e.when_ + e.param * 100 * 65536) else if e.act = 2 then k.pulseEnd else none),
          lastFire := (if e.act = 2 then k.lastFire else some e.when_) }) } [])) ∧
  -- 09 R333: a PULSE ends
  (∀ (s : State) (r : Fin 16) (p : Fin 65) (c : Fin 16) (t : Nat),
    (tget {} (s.headAt r p).channels c).pulseEnd = some t →
    (t : Int) ≤ (s.headAt r p).localTime s.now →
    (let h := s.headAt r p
    ∃ u, exec (.pulseEnd r p c) s = .next u ∧ s.onlyHead u r p { h with channels := tmod {} h.channels c (fun k => { k with level := 0, pulseEnd := none }) } []))

/-- A MGMT read answers the registers, an admitted write is carried out and confirmed, and any other is answered with its status; at the device an answer closes its request, and a STATUS that shows a self-quench raises HEAD_SELF_QUENCHED. Without a TIME pair a head enters COAST; after COAST_MAX, or without SAFE frames, it quenches itself with the cause. It reports its energy each ENERGY_PERIOD, sends an enabled stream's samples, and powers up quenched without a position. An ENERGY frame adds its mWh to the ring's source. -/
def Obligations.HeadsRegistersCoastAndReports : Prop :=
  -- 09 R355: a read
  (∀ (s : State) (r : Fin 16) (p : Fin 65) (dst : Fin 256) (tag addr : Fin 65536) (n : Fin 256) (l : List Nat),
    (s.headAt r p).powered = true →
    dst.val = 0xFF ∨ ((s.headAt r p).pos ≠ 0 ∧ dst.val = (s.headAt r p).pos) →
    (s.headAt r p).readRegs addr n = some l →
    (let h := s.headAt r p
    ∃ u, exec (.mgmtRd r p dst true tag addr n) s = .next u ∧ s.onlyHead u r p { h with idling := false, fseq := (h.fseq + 1) % 65536 } [headFrameOf h r (.mgmt 3 tag addr 0 l)])) ∧
  -- 09 R355: a write
  (∀ (s : State) (r : Fin 16) (p : Fin 65) (dst : Fin 256) (tag addr : Fin 65536) (v : Fin 4294967296),
    (s.headAt r p).powered = true →
    dst.val = 0xFF ∨ ((s.headAt r p).pos ≠ 0 ∧ dst.val = (s.headAt r p).pos) →
    (let h := s.headAt r p
    let c := h.writeStatus addr v
    ∃ u, exec (.mgmtWr r p dst true tag addr [v]) s = .next u ∧
      s.onlyHead u r p { (if c = 0 then h.writeReg addr v else h) with idling := false, fseq := (h.fseq + 1) % 65536 }
        [headFrameOf h r (.mgmt (if c = 0 then 4 else 5) tag addr c [])])) ∧
  -- 08 R289, 09 R354: STATUS is read
  (∀ (s : State) (r : Fin 16) (p : Fin 65) (tag addr : Fin 65536) (v : Fin 4294967296),
    addr.val = 2 →
    (∃ u, exec (.mgmtRdRsp r p true tag addr [v]) s = .next u ∧ u.alarmOn 0x0403 (64 * r + p) = (v.val.testBit 0 && decide (2 ≤ v.val / 2 % 8)) ∧
      (u.ringAt r).mgmtOpen = (s.ringAt r).mgmtOpen.filter (fun m => !(m.1 == tag.val && m.2.1 == p.val)))) ∧
  -- 08 R289: WR_RSP and ERR
  (∀ (s : State) (r : Fin 16) (p : Fin 65) (tag : Fin 65536),
    (let x := { s.ringAt r with mgmtOpen := (s.ringAt r).mgmtOpen.filter (fun m => !(m.1 == tag.val && m.2.1 == p.val)) }
    (∃ u, exec (.mgmtWrRsp r p true tag) s = .next u ∧ u.ringAt r = x ∧ u.out = s.out) ∧
      ∃ u, exec (.mgmtErr r p true tag) s = .next u ∧ u.ringAt r = x ∧ u.out = s.out)) ∧
  -- 09 R351: COAST
  (∀ (s : State) (r : Fin 16) (p : Fin 65),
    (s.headAt r p).powered = true →
    (s.headAt r p).coast = false →
    (s.headAt r p).pairAt + 3000 * (s.headAt r p).timePeriod ≤ s.now →
    (let h := s.headAt r p
    ∃ u, exec (.coastEntry r p) s = .next u ∧ s.onlyHead u r p { h with coast := true, coastAt := s.now, counters := tset 0 h.counters 10 ((tget 0 h.counters 10 + 1) % 2 ^ 32) } [])) ∧
  -- 09 R351, R353: COAST_MAX
  (∀ (s : State) (r : Fin 16) (p : Fin 65),
    (s.headAt r p).powered = true →
    (s.headAt r p).coast = true →
    (s.headAt r p).quenched = false →
    (s.headAt r p).coastAt + 1000 * (s.headAt r p).coastMax ≤ s.now →
    (let h := s.headAt r p
    ∃ u, exec (.coastMaxExpiry r p) s = .next u ∧ s.onlyHead u r p { h with
        channels := [], held := [], staged := [], committed := [], captures := [], quenched := true, cause := 3, quenchSeen := false,
        goodFrames := 0, lastSseq := none, safeAt := none } [])) ∧
  -- 09 R353: SAFE_TIMEOUT
  (∀ (s : State) (r : Fin 16) (p : Fin 65) (t : Nat),
    (s.headAt r p).powered = true →
    (s.headAt r p).safeAt = some t →
    t + 1000 * (s.headAt r p).safeTimeout ≤ s.now →
    (let h := s.headAt r p
    ∃ u, exec (.safeTimeoutExpiry r p) s = .next u ∧ s.onlyHead u r p { h with
        channels := [], held := [], staged := [], committed := [], captures := [], quenched := true, cause := 2, quenchSeen := false,
        goodFrames := 0, lastSseq := none, safeAt := none } [])) ∧
  -- 09 R356: ENERGY
  (∀ (s : State) (r : Fin 16) (p : Fin 65) (e : Nat),
    (s.headAt r p).powered = true →
    (s.headAt r p).desc.energy = true →
    (s.headAt r p).energyAt + 1000000 * (s.headAt r p).energyPeriod ≤ s.now →
    (let h := s.headAt r p
    ∃ u, exec (.energyReport r p e) s = .next u ∧ s.onlyHead u r p { h with ecum := h.ecum + e, rcount := (h.rcount + 1) % 65536, energyAt := s.now, fseq := (h.fseq + 1) % 65536 } [headFrameOf h r (.energy (h.localTime s.now / 65536).toNat (h.ecum + e) (e * 3600 / max 1 ((s.now - h.energyAt) / 1000000)) ((h.rcount + 1) % 65536))])) ∧
  -- 08 R290, 09 R356: SENSE
  (∀ (s : State) (r : Fin 16) (p : Fin 65) (st : Fin 8) (t : Nat) (l : List Nat),
    (s.headAt r p).powered = true →
    (s.headAt r p).desc.sense = true →
    (tget 0 (s.headAt r p).streams st).testBit 0 = true →
    st.val < (s.headAt r p).desc.streams →
    l ≠ [] →
    (let h := s.headAt r p
    ∃ u, exec (.senseSend r p st t l) s = .next u ∧ s.onlyHead u r p { h with captures := h.captures.filter (fun c => c.1 ≠ st.val), fseq := (h.fseq + 1) % 65536 } [headFrameOf h r (.sense st (tget 0 h.streams st / 2 % 4) t (tget 0 h.streams st / 256 * 125) l)])) ∧
  -- 09 R350: power-up
  (∀ (s : State) (r : Fin 16) (p : Fin 65) (d : HeadDesc) (j : Bool) (l : List (Fin 4294967296)),
    p.val ≠ 0 →
    (∃ u, exec (.headPowerUp r p d j l) s = .next u ∧
      s.onlyHead u r p { powered := true, desc := d, jogCapable := j, pairAt := s.now, energyAt := s.now, localAt := s.now, channelRegs := (u.headAt r p).channelRegs } [] ∧ (∀ i, tget 0 (u.headAt r p).channelRegs i = (l.map Fin.val).getD i 0) ∧
      (u.headAt r p).quenched = true ∧ (u.headAt r p).pos = 0 ∧ (u.headAt r p).timeValid = false)) ∧
  -- 09 R346, 13 R488: an ENERGY frame
  (∀ (s : State) (r : Fin 16) (p : Fin 65) (e n : Nat) (k : HeadMeter),
    s.counting 2 = true →
    tget none s.energy.heads (((s.ringAt r).headRec p).desc.serial) = some k →
    k.ecum ≤ e →
    (let y := tget {} s.energy.rings r
    ∃ u, exec (.energyFrame r p true e n) s = .next u ∧
      (tget {} u.energy.rings r).energy * 1000 + (tget {} u.energy.rings r).carry = y.energy * 1000 + (y.carry + (e - k.ecum)) ∧
      (tget {} u.energy.rings r).carry < 1000 ∧ (tget {} u.energy.rings r).restarts = y.restarts ∧
      (tget {} u.energy.rings r).dropped = (y.dropped + (n % 65536 + 65535 - k.rcount) % 65536) % 2 ^ 32))

/-- Every HistDecay seconds every bin of a controller's histogram is halved. After 64 mains periods in which the bursts all stood at one offset from PHASE0, PHASE0 moves by that offset, the nearer way round, and P by a 64th of it within 0.5 Hz of nominal; with no burst both stand. The oldest frame held for a gap leaves when the whole frame fits before the next noisy bin. -/
def Obligations.NoiseHistogramPhaseAndHeldFrames : Prop :=
  -- 08 R314: HistDecay
  (∀ (s : State) (m : Fin 4),
    (s.rc m).decayAt + s.num (0x4700 + m) 6 60 * 1000000000 ≤ s.now →
    (∃ u, exec (.histDecay m) s = .next u ∧ u.logsOver { s with ring := u.ring } ∧
      u.ring = { s.ring with rcs := u.ring.rcs } ∧ (∀ k, k ≠ m.val → u.rc k = s.rc k) ∧
      u.rc m = { s.rc m with decayAt := s.now, hist := (u.rc m).hist, other := (u.rc m).other } ∧
      (∀ i, tget 0 (u.rc m).hist i = tget 0 (s.rc m).hist i / 2) ∧ ∀ i, tget 0 (u.rc m).other i = tget 0 (s.rc m).other i / 2)) ∧
  -- 08 R314: the phase tracks
  (∀ (s : State) (m : Fin 4) (a : Nat),
    s.num (0x4700 + m) 2 0 ≠ 1 →
    (s.rc m).phaseAt + 64 * (s.rc m).period ≤ s.now →
    (s.rc m).window ≠ [] →
    (s.rc m).window.all (fun t => (s.rc m).offset t == a) = true →
    (let c := s.rc m
    let d : Int := if 2 * a ≤ c.period then a else (a : Int) - c.period
    ∃ u, exec (.mainsPhaseUpdate m) s = .next u ∧ u.logsOver { s with ring := u.ring } ∧
      u.ring = { s.ring with rcs := u.ring.rcs } ∧ (∀ k, k ≠ m.val → u.rc k = s.rc k) ∧
      u.rc m = { c with phaseAt := s.now, window := [], phase0 := ((s.time.t64 : Int) - c.offset s.time.t64 + d).toNat, period := (u.rc m).period } ∧
      ((u.rc m).period : Int) = max ((periodRange (s.nominalPeriod m)).1 : Int) (min ((periodRange (s.nominalPeriod m)).2 : Int) ((c.period : Int) + divNearEven d 64)))) ∧
  -- 08 R314: no burst
  (∀ (s : State) (m : Fin 4),
    s.num (0x4700 + m) 2 0 ≠ 1 →
    (s.rc m).phaseAt + 64 * (s.rc m).period ≤ s.now →
    (s.rc m).window = [] →
    (∃ u, exec (.mainsPhaseUpdate m) s = .next u ∧ u.logsOver { s with ring := u.ring } ∧ u.rc m = { s.rc m with phaseAt := s.now })) ∧
  -- 08 R315: a gap
  (∀ (s : State) (m : Fin 4) (r dst : Nat) (b : Bool) (body : FrameBody) (rest : List (Nat × Bool × Nat × FrameBody)),
    (s.rc m).deferred = (r, b, dst, body) :: rest →
    s.mayDefer m body.len = true →
    (∃ u, exec (.deferredFrameSend m) s = .next u ∧ u = { s with ring := u.ring, out := u.out } ∧
      u.rc m = { s.rc m with deferred := rest } ∧
      u.out = .frame { ring := r, end_ := ringEnd b, dst := dst, fseq := (s.ringAt r).nextFseq (ringEnd b), body := body } :: s.out ∧
      (∀ k, k ≠ r → u.ringAt k = s.ringAt k) ∧ u.ring.heads = s.ring.heads)) ∧
  -- 08 R315: nothing fits
  (∀ (s : State) (m : Fin 4),
    (s.rc m).deferred = [] ∨ (s.rc m).deferred.all (fun d => !s.mayDefer m d.2.2.2.len) = true →
    (exec (.deferredFrameSend m) s = .next s))

/-- A channel of a GUARD pair that opens makes its demand active, and an ARMED device QUENCHED; the pair closed again ends it. A discrepancy and a test-pulse fault latch. A test pulse passes each closed channel of its source. A RESET press of 100 ms to 2 s without PDU_EN releases a device that meets R373: both channels, the enabled contacts, the mode; otherwise it is counted. A command PDU that is right and next in count is accepted, one that is wrong counted; without one for PduWatchdog the device quenches. -/
def Obligations.SafetyInputsAcknowledgementsAndPdu : Prop :=
  -- 10 R376, R378: a GUARD opens
  (∀ (s : State) (n : Fin 4) (b : Bool),
    (s.quench.pair n).opened b = false →
    s.quench.siType n = .guard →
    s.mayCause (0x10 + n) →
    (∃ u, exec (.siOpen n b) s = .next u ∧ s.causedBy u (0x10 + n) ∧ (u.quench.pair n).opened b = true ∧ (u.quench.pair n).opened (!b) = (s.quench.pair n).opened (!b))) ∧
  -- 10 R364, R378: a GUARD closes
  (∀ (s : State) (n : Fin 4) (b : Bool),
    s.quenchRuns = true →
    (s.quench.pair n).opened b = true →
    (s.quench.pair n).opened (!b) = false →
    s.quench.siType n = .guard →
    (∃ u, exec (.siClosed n b) s = .next u ∧ u.quench.active = s.quench.active.filter (· ≠ 0x10 + n.val) ∧
      (u.quench.pair n).openA = false ∧ (u.quench.pair n).openB = false ∧ u.quench.qa = s.quench.qa ∧ u.quench.qb = s.quench.qb)) ∧
  -- 10 R378: a discrepancy
  (∀ (s : State) (n : Fin 4) (t : Nat),
    (s.quench.pair n).differSince = some t →
    s.quench.siType n ≠ .unused →
    t + s.quench.siDisc < s.now →
    s.mayCause (0x14 + n) →
    (∃ u, exec (.siDiscrepancy n) s = .next u ∧ s.causedBy u (0x14 + n) ∧ (u.quench.pair n).discrepancy = true ∧ (0x14 + n.val) ∈ u.quench.standing)) ∧
  -- 10 R377, R378: a test-pulse fault
  (∀ (s : State) (n : Fin 4) (b : Bool),
    s.quench.siType n ≠ .unused →
    (s.quench.pair n).opened b = false →
    s.mayCause (0x18 + n) →
    (∃ u, exec (.siTestpulse n b) s = .next u ∧ s.causedBy u (0x18 + n) ∧ (u.quench.pair n).tpFault = true ∧ (0x18 + n.val) ∈ u.quench.standing)) ∧
  -- 10 R377: a test pulse
  (∀ (s : State) (c : Fin 4),
    s.quenchRuns = true →
    s.quench.pulseDue c s.now = true →
    (∃ u, exec (.testPulse c) s = .next u ∧ tget none u.quench.pulseAt c = some s.now ∧
      (u.quench.pair c).passedA = ((s.quench.pair c).passedA || !(s.quench.pair c).openA) ∧
      (u.quench.pair ((c + 3) % 4)).passedB = ((s.quench.pair ((c + 3) % 4)).passedB || !(s.quench.pair ((c + 3) % 4)).openB) ∧
      u.quench.active = s.quench.active ∧ u.quench.qa = s.quench.qa ∧ u.quench.qb = s.quench.qb)) ∧
  -- 10 R373 to R375: a reset acknowledgement
  (∀ (s : State) (n : Fin 4) (t : Nat),
    s.quenchRuns = true →
    (s.quench.pair n).closedSince = some t →
    s.quench.siType n = .reset →
    t + 100000000 ≤ s.now ∧ s.now ≤ t + 2000000000 →
    s.quench.pduEn = false →
    s.armed = false →
    s.quench.active = [] →
    (∃ u, exec (.siResetPress n) s = .next u ∧
      (s.releasable = true → u.armed = true ∧ u.quench.armedSince = s.time.t64 ∧ u.quench.jog = s.quench.nextJog ∧
        ∀ k : Fin 4, s.quench.qoEn k = true → (if k.val % 2 = 0 then s.quench.stoppedA else s.quench.stoppedB) = false → (u.quench.contact k).conducts = true) ∧
      (s.releasable = false → u.armed = false ∧ u.quench.refused = (s.quench.refused + 1) % 2 ^ 32))) ∧
  -- 10 R390, R391, R393: accepted
  (∀ (s : State) (q : Req) (ss : Session) (b : List Nat),
    s.hears q ss →
    s.admitted q ss (okey 0x2100 1) →
    b.length = 16 →
    s.quenchRuns = true →
    s.quench.pduEn = true →
    s.quench.pduRight b = true →
    s.quench.lastCnt.all (fun c => (c + 1) % 65536 == pduField b 2 2) = true →
    (∃ u, exec (.safetyPduIn q b) s = .next u ∧ u.answers q .ok ∧ u.quench.accepted = (s.quench.accepted + 1) % 2 ^ 32 ∧
      u.quench.lastCnt = some (pduField b 2 2) ∧ u.quench.runPermit = (pduField b 4 1).testBit 0 ∧
      u.quench.jogReq = (pduField b 4 1).testBit 1 ∧ u.quench.z0id = pduField b 8 4 ∧ u.quench.pduAt = s.now ∧ u.quench.rejected = s.quench.rejected ∧
      ((pduField b 4 1).testBit 0 = false → 0x21 ∈ u.quench.active) ∧ 0x20 ∉ u.quench.active)) ∧
  -- 10 R393: rejected
  (∀ (s : State) (q : Req) (ss : Session) (b : List Nat),
    s.hears q ss →
    s.admitted q ss (okey 0x2100 1) →
    b.length = 16 →
    s.quench.pduEn = true →
    s.quench.pduRight b = false →
    (∃ u, exec (.safetyPduIn q b) s = .next u ∧ u.answers q .ok ∧ u.quench = { s.quench with rejected := (s.quench.rejected + 1) % 2 ^ 32 })) ∧
  -- 10 R393: no PDU
  (∀ (s : State),
    s.quench.pduEn = true →
    s.quench.pduAt + s.quench.pduWatchdog < s.now →
    s.mayCause 0x20 →
    (∃ u, exec .pduTimeout s = .next u ∧ s.causedBy u 0x20 ∧ u.quench.lastCnt = none)) ∧
  -- 10 R365, R398: QuenchRequest
  (∀ (s : State) (q : Req) (ss : Session),
    s.hears q ss →
    s.admitted q ss (okey 0x2000 5) →
    s.mayCause 0x40 →
    ((∃ u, exec (.quenchRequest q [1]) s = .next u ∧ u.answers q .ok ∧ u.quench.request = true ∧ s.causedBy u 0x40) ∧
      ∃ u, exec (.quenchRequest q [0]) s = .next u ∧ u.answers q .ok ∧ u.quench.request = false ∧ 0x40 ∉ u.quench.active)) ∧
  -- 10 R371: no SAFE frame
  (∀ (s : State) (r : Fin 16) (b w : Bool),
    (s.ringAt r).feeds (if b then .b else .a) = true →
    w = true ∨ (if b then (s.ringAt r).safeAtB else (s.ringAt r).safeAtA) + 300000 < s.now →
    s.mayCause 0x51 →
    (∃ u, exec (.safeReadbackTimeout r b w) s = .next u ∧ s.causedBy u 0x51))

/-- Agreed tokens of a channel leave both queues; tokens that differ, one that waits 8 cycles for its partner, a DEMAND stream without KEEP, and a cell that misreports make their causes active. Each self-test counts the channels that pass. An off-test opens its contact for 200 us; one that still conducts is stuck and quenches the device. A clock count outside 9,000 to 11,000, channels that differ, a rail outside its window, more than 110 degrees and a stopped QOSC make their causes active; the demands end with their conditions. -/
def Obligations.ComparatorContactsAndMonitors : Prop :=
  -- 10 R384: a mismatch
  (∀ (s : State) (k : Fin 64) (c : CmpChannel) (a b : Word × Nat) (ta tb : List (Word × Nat)) (p : Bool),
    alook s.quench.cmp k = some c →
    c.queueA = a :: ta →
    c.queueB = b :: tb →
    a.1 ≠ b.1 ∨ p = true →
    s.mayCause 0x30 →
    (∃ u, exec (.mirrorCompare k p false) s = .next u ∧ s.causedBy u 0x30 ∧ u.quench.mismatches = (s.quench.mismatches + 1) % 2 ^ 32 ∧
      u.quench.lastMismatch = k.val + 0x3000 ∧ (alook u.quench.cmp k).map (fun x => (x.queueA, x.queueB)) = some ([], []))) ∧
  -- 10 R384: tokens agree
  (∀ (s : State) (k : Fin 64) (c : CmpChannel) (a b : Word × Nat) (ta tb : List (Word × Nat)),
    alook s.quench.cmp k = some c →
    c.queueA = a :: ta →
    c.queueB = b :: tb →
    a.1 = b.1 →
    c.demand = false →
    (∃ u, exec (.mirrorCompare k false false) s = .next u ∧ alook u.quench.cmp k = some { c with queueA := ta, queueB := tb } ∧
      u = { s with quench := { s.quench with cmp := u.quench.cmp } })) ∧
  -- 10 R384: skew
  (∀ (s : State) (k : Fin 64) (x : Word × Nat),
    (alook s.quench.cmp k).bind CmpChannel.unmatched = some x →
    x.2 + 8 ≤ s.now →
    s.mayCause 0x31 →
    (∃ u, exec (.mirrorSkew k) s = .next u ∧ s.causedBy u 0x31 ∧ u.quench.lastMismatch = k.val + 0x3100)) ∧
  -- 10 R385: DemandWatch
  (∀ (s : State) (k : Fin 64) (c : CmpChannel),
    alook s.quench.cmp k = some c →
    c.demand = true →
    c.watchAt + s.demandWatch < s.now →
    s.mayCause 0x33 →
    (∃ u, exec (.mirrorWatch k) s = .next u ∧ s.causedBy u 0x33)) ∧
  -- 10 R395
  (∀ (s : State) (f : List (Fin 64)),
    s.quench.selfTestAt + 1000000000 ≤ s.now →
    s.mayCause 0x52 →
    (let good := s.quench.cmp.filter (fun p => f.all (fun k => k.val != p.1))
    ∃ u, exec (.comparatorSelftest f) s = .next u ∧ u.quench.testsPassed = (s.quench.testsPassed + good.length) % 2 ^ 32 ∧
      u.quench.selfTestAt = s.now ∧ (good.length = s.quench.cmp.length → u.quench.active = s.quench.active) ∧
      (good.length < s.quench.cmp.length → s.causedBy u 0x52))) ∧
  -- 10 R380: an off-test
  (∀ (s : State) (n : Fin 4),
    s.offTestDue n = true →
    (∃ u, exec (.qoOffTest n) s = .next u ∧ u.quench.contact n = { s.quench.contact n with conducts := false, testAt := some s.now, lastTest := some s.now } ∧
      (∀ k, k ≠ n.val → u.quench.contact k = s.quench.contact k) ∧ u.armed = true)) ∧
  -- 10 R380: its end
  (∀ (s : State) (n : Fin 4) (t : Nat),
    (s.quench.contact n).testAt = some t →
    t + 200000 ≤ s.now →
    s.mayCause 0x50 →
    ((∃ u, exec (.qoOffTestEnd n .opened) s = .next u ∧ u.quench.contact n = { s.quench.contact n with conducts := true, testAt := none, inconclusive := 0 } ∧ u.quench.active = s.quench.active) ∧
    (∃ u, exec (.qoOffTestEnd n .noVoltage) s = .next u ∧ u.quench.contact n = { s.quench.contact n with conducts := true, testAt := none, inconclusive := (s.quench.contact n).inconclusive + 1 } ∧
      u.quench.inconclusive = (s.quench.inconclusive + 1) % 2 ^ 32) ∧
    ∃ u, exec (.qoOffTestEnd n .conducting) s = .next u ∧ (u.quench.contact n).stuck = true ∧ s.causedBy u 0x50)) ∧
  -- 10 R363: TCLK
  (∀ (s : State) (c : Nat),
    s.quench.clockAt + 40000 ≤ s.now →
    s.mayCause 0x54 →
    (∃ u, exec (.clockCheck c) s = .next u ∧ u.quench.clockAt = s.now ∧ (9000 ≤ c → c ≤ 11000 → u = { s with quench := { s.quench with clockAt := s.now } }) ∧
      (c < 9000 ∨ 11000 < c → s.causedBy u 0x54))) ∧
  -- 10 R361, R363: channels and rails
  (∀ (s : State),
    s.mayCause 0x53 →
    s.mayCause 0x55 →
    ((∃ u, exec .channelDisagree s = .next u ∧ s.causedBy u 0x53) ∧ (∃ u, exec (.supply true) s = .next u ∧ s.causedBy u 0x55) ∧
      exec (.supply false) s = .next { s with quench := { s.quench with active := s.quench.active.filter (· ≠ 0x55) } })) ∧
  -- 10 R363: temperature
  (∀ (s : State) (t : Int),
    s.mayCause 0x56 →
    (∃ u, exec (.overtemp t) s = .next u ∧ u.quench.temp = t ∧ (1100 < t → s.causedBy u 0x56) ∧ (t ≤ 1100 → u.quench.active = s.quench.active))) ∧
  -- 10 R363: the demand ends below 105 degrees
  (∀ (s : State) (t : Int),
    s.quenchRuns = true →
    t < 1050 →
    (∃ u, exec (.overtemp t) s = .next u ∧ u.quench = { s.quench with temp := t, active := s.quench.active.filter (· ≠ 0x56) })) ∧
  -- 10 R362, R397: QOSC stops
  (∀ (s : State) (a b : Bool),
    s.mayCause 0x54 →
    (∃ u, exec (.qoscStop a b) s = .next u ∧ u.quench.stoppedA = (s.quench.stoppedA || a) ∧ u.quench.stoppedB = (s.quench.stoppedB || b) ∧
      (∀ k : Fin 4, (if k.val % 2 = 0 then a else b) = true → (u.quench.contact k).conducts = (s.quench.contact k).stuck) ∧
      (a = true → b = true → s.causedBy u 0x54) ∧ ((a && b) = false → u.quench.active = s.quench.active)))

/-- A host's word that may be programmed is programmed when FUSE_EN is high and the rail and the junction lie in the window: FUSE_INTENT is journalled and the controller is BUSY. At the end each copy has every bit of the target that pulses set; the RESULT is OK with both copies whole, OK_SINGLE where only their union is, FAILED otherwise, or WINDOW or NO_FUSE_EN where that ended it; FUSE_DONE is journalled, FuseResult shows it and the host is answered. READ and MARGIN_READ give both copies and the combined word with its state; SCAN counts the GOOD, BAD, SINGLE and WEAK words. Nothing of the bank changes but the word that is programmed. Once every ScrubInterval the store is read whole: single-bit errors are put right and counted, and each uncorrectable one is counted, its offset kept and an alarm raised. A refresh runs 90 days after the last one, or 30 after operation above 90 degrees. A value that waits for its home record is written at most once per 100 ms. -/
def Obligations.FusesAndStore : Prop :=
  -- 12 R459, R465, R484: FUSE_PROGRAM
  (∀ (s : State) (q : Req) (ss : Session) (a : Fin 65536) (d : Fin 4294967296) (e : FuseEnv),
    s.hears q ss →
    s.admitted q ss (okey 0x8001 1) →
    fuseAddressable ss.role a d = true →
    (s.senseFuse e).fuseStop a (fuseTarget a d) = none →
    (decide (0x14 ≤ a.val ∧ a.val < 0x16) && s.keepsFwKey (a - 0x14)) = false →
    (decide (0x20 ≤ a.val) && s.fuse.keyRevoked ((a.val - 0x20) / 8)) = false →
    s.fuse.prog = none →
    s.fuse.already a d = false →
    (∃ u, exec (.fuseProgram q (bytesBE 2 a ++ [0, 0] ++ bytesBE 4 d) e) s = .next u ∧
      u.fuse = { (s.senseFuse e).fuse with prog := some { addr := a, data := d, rest := [], session := q.session, rid := q.rid }, phase := 1, failA := 0, failB := 0 } ∧
      u.store.journal.any (fun r => r.jseq == s.store.nextJseq && r.body == .fuseIntent a d) = true ∧ u.out = s.out ∧
      u = { s with op := { s.op with fuseEn := true }, fuse := u.fuse, store := u.store, sess := u.sess })) ∧
  -- 12 R460 to R462, R465: the RESULT
  (∀ (s : State) (p : FuseProgram) (fails : BitVec 80) (n : Fin 9) (e : FuseEnv),
    s.fuse.prog = some p →
    p.rest = [] →
    p.session ≠ 0 →
    (let t := fuseTarget p.addr p.data
    let a := tget 0 s.fuse.copyA p.addr
    let b := tget 0 s.fuse.copyB p.addr
    let a' := a ||| (t &&& ~~~a &&& ~~~(fails.extractLsb' 0 40))
    let b' := b ||| (t &&& ~~~b &&& ~~~(fails.extractLsb' 40 40))
    let r : FuseOutcome := if a' = t ∧ b' = t then .ok else if a' ||| b' = t then .okSingle else .failed
    ∃ u, exec (.fuseProgramComplete fails n none e) s = .next u ∧
      u.fuse.copyA = tset 0 s.fuse.copyA p.addr a' ∧ u.fuse.copyB = tset 0 s.fuse.copyB p.addr b' ∧
      u.fuse.prog = none ∧ u.fuse.result = r ∧ u.fuse.phase = 0 ∧
      u.fuse.failA = t &&& ~~~a &&& fails.extractLsb' 0 40 ∧ u.fuse.failB = t &&& ~~~b &&& fails.extractLsb' 40 40 ∧
      u.fuse.last = (p.addr, r.code, n.val, u.fuse.failA.toNat, u.fuse.failB.toNat) ∧
      u.store.journal.any (fun x => x.jseq == s.store.nextJseq && x.body == .fuseDone p.addr r.code) = true ∧
      u.out.head? = some (.answer p.session { rid := p.rid, code := r.abort, detail := if r = .failed then p.addr else 0 }))) ∧
  -- 12 R459, R460: ended early
  (∀ (s : State) (p : FuseProgram) (fails : BitVec 80) (n : Fin 9) (l : Fin 80) (e : FuseEnv),
    s.fuse.prog = some p →
    p.session ≠ 0 →
    e.en = false ∨ (s.senseFuse e).fuse.inWindow = false →
    (let r : FuseOutcome := if e.en = true then .window else .noFuseEn
    ∃ u, exec (.fuseProgramComplete fails n (some l) e) s = .next u ∧ u.fuse.prog = none ∧ u.fuse.result = r ∧
      (∀ a, a ≠ p.addr → tget 0 u.fuse.copyA a = tget 0 s.fuse.copyA a ∧ tget 0 u.fuse.copyB a = tget 0 s.fuse.copyB a) ∧
      (l.val ≤ 40 → tget 0 u.fuse.copyB p.addr = tget 0 s.fuse.copyB p.addr) ∧
      u.out.head? = some (.answer p.session { rid := p.rid, code := if e.en = true then .fuseWindow else .needPhysical }))) ∧
  -- 12 R458: READ
  (∀ (s : State) (a : Fin 1024),
    s.gafferRuns = true →
    s.fuse.prog = none →
    (let x := tget 0 s.fuse.copyA a
    let y := tget 0 s.fuse.copyB a
    exec (.fcRead a) s = .next { s with fuse := { s.fuse with rcopyA := x, rcopyB := y, rdata := fuseRdata a x y } })) ∧
  -- 12 R458: MARGIN_READ
  (∀ (s : State) (a : Fin 1024) (x y : BitVec 40),
    s.gafferRuns = true →
    s.fuse.prog = none →
    (let c := tget 0 s.fuse.copyA a &&& ~~~x
    let d := tget 0 s.fuse.copyB a &&& ~~~y
    exec (.fcMarginRead a x y) s = .next { s with fuse := { s.fuse with rcopyA := c, rcopyB := d, rdata := fuseRdata a c d } })) ∧
  -- 12 R458, R463: SCAN
  (∀ (s : State) (l : List (Fin 64)),
    s.gafferRuns = true →
    s.fuse.prog = none →
    l.eraseDups = l →
    (∃ u, exec (.fcScan l) s = .next u ∧ u = { s with fuse := { s.fuse with scan := u.fuse.scan, weak := l.map Fin.val } } ∧
      u.fuse.scan = (((List.range 1024).filter (fun a => s.fuse.wstate a == .good)).length, ((List.range 1024).filter (fun a => s.fuse.wstate a == .bad)).length,
        ((List.range 1024).filter s.fuse.single).length, l.length))) ∧
  -- 12 R468: FwSvnFloor
  (∀ (s : State) (q : Req) (ss : Session) (n : Fin 65536) (e : FuseEnv) (f : FwImage),
    s.hears q ss →
    s.admitted q ss (okey 0x8020 1) →
    s.runningFw = some f →
    s.fuse.svn < n.val →
    n.val ≤ f.svn →
    s.fuse.remaining svnFloor ≠ 0 →
    s.fuse.prog = none →
    (s.senseFuse e).fuseStop (0x40 + s.genFor svnFloor [n.val]) (fuseTarget (0x40 + s.genFor svnFloor [n.val]) n) = none →
    s.fuse.already (0x40 + s.genFor svnFloor [n.val]) n = false →
    (∃ u, exec (.fwSvnFloor q (bytesBE 2 n) e) s = .next u ∧ u.out = s.out ∧
      u.fuse.prog = some { addr := 0x40 + s.genFor svnFloor [n.val], data := n, rest := [], session := q.session, rid := q.rid } ∧
      u.fuse.copyA = s.fuse.copyA ∧ u.fuse.copyB = s.fuse.copyB)) ∧
  -- 12 R468: below the value in force
  (∀ (s : State) (q : Req) (ss : Session) (n : Fin 65536) (e : FuseEnv),
    s.hears q ss →
    s.admitted q ss (okey 0x8020 1) →
    n.val < s.fuse.svn →
    (∃ u, exec (.fwSvnFloor q (bytesBE 2 n) e) s = .next u ∧ u.answers q .range ∧ u.fuse.prog = s.fuse.prog ∧ u.fuse.copyA = s.fuse.copyA)) ∧
  -- 12 R468: MachineIdent
  (∀ (s : State) (q : Req) (ss : Session) (b : List Nat) (e : FuseEnv) (w0 w1 w2 w3 : Nat),
    s.hears q ss →
    s.admitted q ss (okey 0x8021 1) →
    b = bytesLE 4 w0 ++ bytesLE 4 w1 ++ bytesLE 4 w2 ++ bytesLE 4 w3 →
    w0 < 2 ^ 32 ∧ w1 < 2 ^ 32 ∧ w2 < 2 ^ 32 ∧ w3 < 2 ^ 32 →
    legalString b = true →
    b ≠ s.fuse.machineIdent →
    s.fuse.remaining machineIdentGen ≠ 0 →
    s.fuse.prog = none →
    (s.senseFuse e).fuseStop (0x80 + s.genFor machineIdentGen [w0, w1, w2, w3] * 4) (fuseTarget (0x80 + s.genFor machineIdentGen [w0, w1, w2, w3] * 4) w0) = none →
    s.fuse.already (0x80 + s.genFor machineIdentGen [w0, w1, w2, w3] * 4) w0 = false →
    (let a := 0x80 + s.genFor machineIdentGen [w0, w1, w2, w3] * 4
    ∃ u, exec (.machineIdent q b e) s = .next u ∧ u.out = s.out ∧
      u.fuse.prog = some { addr := a, data := w0, rest := [(a + 1, w1), (a + 2, w2), (a + 3, w3)], session := q.session, rid := q.rid } ∧
      u.fuse.copyA = s.fuse.copyA ∧ u.fuse.copyB = s.fuse.copyB)) ∧
  -- 12 R472, R475: a pass
  (∀ (s : State) (l : List (Fin 1048576)),
    s.gafferRuns = true →
    s.store.scrubAt + s.num 0x8031 1 24 * 3600000000000 ≤ s.now →
    s.store.upsets = [] →
    (exec (.storeScrub l []) s = .next { s with store := { s.store with
      scrubs := (s.store.scrubs + 1) % 2 ^ 32, scrubAt := s.now, corrected := (s.store.corrected + l.length) % 2 ^ 32, uncorrected := s.store.uncorrected % 2 ^ 32 } })) ∧
  -- 12 R472: an uncorrectable word
  (∀ (s : State) (a : Fin 1048576),
    s.gafferRuns = true →
    s.store.scrubAt + s.num 0x8031 1 24 * 3600000000000 ≤ s.now →
    s.store.upsets = [] →
    (∃ u, exec (.storeScrub [] [a]) s = .next u ∧ u.logsOver { s with store := u.store } ∧ u.lastCode = 0x0706 ∧
      u.store = { s.store with scrubs := (s.store.scrubs + 1) % 2 ^ 32, scrubAt := s.now, upsets := [(a.val, 2)], corrected := s.store.corrected % 2 ^ 32, uncorrected := (s.store.uncorrected + 1) % 2 ^ 32, lastUe := 8 * a })) ∧
  -- 12 R475: a refresh
  (∀ (s : State),
    s.gafferRuns = true →
    s.store.refreshDue = true ∨ s.store.refreshAt + (if s.store.hot then 30 else 90) * 86400000000000 ≤ s.now →
    (exec .storeRefresh s = .next { s with store := { s.store with
      refreshes := (s.store.refreshes + 1) % 2 ^ 32, lastRefresh := s.time.t64, refreshAt := s.now, hot := false, refreshDue := false } })) ∧
  -- 12 R475: not yet
  (∀ (s : State),
    s.store.refreshDue = false →
    s.now < s.store.refreshAt + (if s.store.hot then 30 else 90) * 86400000000000 →
    (exec .storeRefresh s = .next s)) ∧
  -- 12 R474: a home record
  (∀ (s : State) (key : Fin 16777216),
    s.gafferRuns = true →
    s.store.dirty.contains key.val = true →
    (alook s.store.homeAt key).all (fun t => decide (t + 100000000 ≤ s.now)) = true →
    (∃ u, exec (.homeRecordWrite key) s = .next u ∧ u = { s with store := { s.store with homes := u.store.homes, dirty := s.store.dirty.erase key.val, homeAt := u.store.homeAt } } ∧
      alook u.store.homes key = some (s.val key) ∧ alook u.store.homeAt key = some s.now ∧
      ∀ k, k ≠ key.val → alook u.store.homes k = alook s.store.homes k ∧ alook u.store.homeAt k = alook s.store.homeAt k)) ∧
  -- 12 R474: 100 ms have not passed
  (∀ (s : State) (key : Fin 16777216),
    s.store.dirty.contains key.val = false ∨ (alook s.store.homeAt key).any (fun t => decide (s.now < t + 100000000)) = true →
    (exec (.homeRecordWrite key) s = .next s))

/-- A valid pulse adds floor(N*10^6/C) - floor((N-1)*10^6/C) mWh to the register of the current tariff; one of too short a level is a glitch; silence raises its alarm once. Each millisecond the device's own draw is accepted, less than 1 mWh carried forward. At a boundary the interval closes with its energies and demands and the next one opens; a switch sets the tariff and a billing close shifts the history; ENERGY_COUNTERS, ENERGY_INTERVAL and, on a switch, TARIFF_STATE are journalled. A push replaces the one pending. Counters are journalled every CounterJournal, and the forecast is computed every second. A provisional span that outlasts ProvisionalMax raises its alarm once. A loop held at 27 mA for 1 s is SHORT. -/
def Obligations.EnergySourcesBoundariesAndTariffs : Prop :=
  -- 13 R486, R487: a valid pulse
  (∀ (s : State) (m : Fin 2) (active inactive : Nat),
    s.counting m = true →
    (tget {} s.io.loops m).state ≠ .short →
    s.num (0x6010 + m) 3 30 * 1000000 ≤ active →
    s.num (0x6010 + m) 3 30 * 1000000 ≤ inactive →
    (let c := s.num (0x6010 + m) 2 1000
    let n := (s.source m).n + 1
    let e := n * 1000000 / c - (n - 1) * 1000000 / c
    ∃ u, exec (.s0Pulse m active inactive) s = .next u ∧ u.logsOver { s with energy := u.energy } ∧
      u.source m = { s.source m with n := n, counts := ((s.source m).counts + 1) % 2 ^ 32, lastPulse := s.now, silent := false } ∧
      (∀ k, k ≠ m.val → u.source k = s.source k) ∧
      (∀ k, tget 0 u.energy.regs k = tget 0 s.energy.regs k + if s.energy.provisional = false ∧ k = 4 * s.energy.tariff + m then e else 0) ∧
      (∀ k, tget 0 u.energy.energy k = tget 0 s.energy.energy k + if s.energy.provisional = false ∧ k = m.val then e else 0) ∧
      (∀ k, tget 0 u.energy.provEnergy k = tget 0 s.energy.provEnergy k + if s.energy.provisional = true ∧ k = m.val then e else 0) ∧
      u.energy.history = s.energy.history ∧ u.energy.tariff = s.energy.tariff)) ∧
  -- 13 R486: too short a level
  (∀ (s : State) (m : Fin 2) (active inactive : Nat),
    s.counting m = true →
    (tget {} s.io.loops m).state ≠ .short →
    active < s.num (0x6010 + m) 3 30 * 1000000 ∨ inactive < s.num (0x6010 + m) 3 30 * 1000000 →
    (exec (.s0Pulse m active inactive) s = .next (s.modSource m (fun x => { x with glitches := (x.glitches + 1) % 2 ^ 32 })))) ∧
  -- 13 R487: S0_SILENT
  (∀ (s : State) (m : Fin 2),
    s.counting m = true →
    (s.source m).silent = false →
    (s.source m).lastPulse + s.num (0x6010 + m) 4 15 * 60000000000 ≤ s.now →
    (∃ u, exec (.s0Silence m) s = .next u ∧ u.logsOver { s with energy := u.energy } ∧ u.lastCode = 0x0901 ∧
      u.energy = { s.energy with sources := u.energy.sources } ∧ u.source m = { s.source m with silent := true })) ∧
  -- 15 R579: the loop current
  (∀ (s : State) (m : Fin 2) (i : Fin 65536),
    (tget {} s.io.loops m).state ≠ .unsupplied →
    (tget {} s.io.loops m).state ≠ .short →
    (let x := tget {} s.io.loops m
    ∃ u, exec (.s0LoopShort m i) s = .next u ∧ u.logsOver { s with io := u.io } ∧ u.io = { s.io with loops := u.io.loops } ∧
      (tget {} u.io.loops m).current = i ∧
      (tget {} u.io.loops m).state = (if 270 ≤ i.val then .short else if 100 ≤ i.val then .on else if i.val ≤ 20 then .off else x.state) ∧
      (tget {} u.io.loops m).faults = (if 270 ≤ i.val then (x.faults + 1) % 2 ^ 32 else x.faults) ∧ (270 ≤ i.val → u.lastCode = 0x0902))) ∧
  -- 13 R489, 14 R544: the draw
  (∀ (s : State) (va ia vb ib : Fin 65536),
    s.counting 3 = true →
    s.energy.provisional = false →
    (let p := va.val * ia.val + vb.val * ib.val
    ∃ u, exec (.deviceEnergySample va ia vb ib) s = .next u ∧ u = { s with power := u.power, energy := u.energy } ∧
      u.power = { s.power with feeds := u.power.feeds, drawNow := p / 10000, drawPeak := max s.power.drawPeak (p / 10000) } ∧
      u.feed 0 = { s.feed 0 with voltage := va, current := ia } ∧ u.feed 1 = { s.feed 1 with voltage := vb, current := ib } ∧
      tget 0 u.energy.regs (4 * s.energy.tariff + 3) * 3600000000 + (u.source 3).carry =
        tget 0 s.energy.regs (4 * s.energy.tariff + 3) * 3600000000 + (s.source 3).carry + p * 10 ∧
      (u.source 3).carry < 3600000000 ∧ u.energy.sampleAt = s.now)) ∧
  -- 13 R492, R494, R500: a boundary
  (∀ (s : State) (r : IntervalRec),
    s.boundaryDue = true →
    s.gafferRuns = true →
    s.closeAt s.energy.stop = false →
    s.tariffAt s.energy.stop = none →
    r = { start := s.energy.start, stop := s.energy.stop, tariff := s.energy.tariff, flags := s.energy.flags, minutes := s.energy.minutes, energy := s.energy.energy, demand := tmap 0 (fun _ e => e * 3 / (50 * s.energy.minutes)) s.energy.energy } →
    (∃ u, exec .demandBoundary s = .next u ∧ u.logsOver { s with energy := u.energy, store := u.store } ∧
      u.energy.history = (r :: s.energy.history).take 1024 ∧ u.energy.intervals = (s.energy.intervals + 1) % 2 ^ 32 ∧
      u.energy.start = s.energy.stop ∧ u.energy.energy = [] ∧ u.energy.flags = 0 ∧ u.energy.lastBoundary = s.energy.stop ∧
      u.energy.tariff = s.energy.tariff ∧ u.energy.regs = s.energy.regs ∧
      u.store.journal.any (fun x => s.store.nextJseq ≤ x.jseq && x.body == .interval r) = true)) ∧
  -- 13 R496 to R498: switch and close
  (∀ (s : State) (t c : Nat),
    s.boundaryDue = true →
    s.closeAt s.energy.stop = true →
    s.tariffAt s.energy.stop = some (t, c) →
    (∃ u, exec .demandBoundary s = .next u ∧ u.energy.tariff = t ∧ u.energy.regs = s.energy.regs ∧
      tget {} u.energy.periods 0 = { start := s.energy.stop } ∧ (tget {} u.energy.periods 1).stop = s.energy.stop ∧
      (tget {} u.energy.periods 1).regs = s.energy.regs ∧ (tget {} u.energy.periods 1).start = (tget {} s.energy.periods 0).start ∧
      (∀ k, tget {} u.energy.periods (k % 11 + 2) = tget {} s.energy.periods (k % 11 + 1)) ∧ u.energy.closeDue = false)) ∧
  -- 13 R492: once
  (∀ (s : State),
    s.boundaryDue = false →
    (exec .demandBoundary s = .next s)) ∧
  -- 13 R497: TariffPush
  (∀ (s : State) (q : Req) (ss : Session) (t : Fin 18446744073709551616) (a k : Fin 256),
    s.hears q ss →
    s.admitted q ss (okey 0x6031 1) →
    s.op.state ≠ .sleep →
    t.val = 0 ∨ s.time.t64 ≤ t.val →
    k.val < s.num 0x6000 3 1 →
    (∃ u, exec (.tariffPush q (bytesBE 8 t ++ [a.val, k.val, 0, 0, 0, 0, 0, 0])) s = .next u ∧ u.answers q .ok ∧
      u = { s with energy := { s.energy with push := some ⟨t, k⟩ }, sess := u.sess, out := u.out })) ∧
  -- 13 R496, R497: refused
  (∀ (s : State) (q : Req) (ss : Session) (t : Fin 18446744073709551616) (a k : Fin 256),
    s.hears q ss →
    s.admitted q ss (okey 0x6031 1) →
    (t.val ≠ 0 ∧ t.val < s.time.t64) ∨ s.num 0x6000 3 1 ≤ k.val →
    (∃ u, exec (.tariffPush q (bytesBE 8 t ++ [a.val, k.val, 0, 0, 0, 0, 0, 0])) s = .next u ∧ u.answers q .range ∧ u.energy = s.energy)) ∧
  -- 13 R497: BillingClose
  (∀ (s : State) (q : Req) (ss : Session),
    s.hears q ss →
    s.admitted q ss (okey 0x6031 3) →
    s.op.state ≠ .sleep →
    (∃ u, exec (.billingClose q [1]) s = .next u ∧ u.answers q .ok ∧
      u = { s with energy := { s.energy with closeDue := true }, sess := u.sess, out := u.out })) ∧
  -- 13 R501: CounterJournal
  (∀ (s : State),
    s.energy.accepting = true →
    s.gafferRuns = true →
    s.energy.countersAt + s.num 0x6000 8 60 * 1000000000 ≤ s.now →
    (∃ u, exec .counterJournal s = .next u ∧ u = { s with energy := { s.energy with countersAt := s.now }, store := u.store } ∧
      u.store.journal.any (fun x => x.jseq == s.store.nextJseq && x.body == .counters ⟨s.time.t64, s.energy.tariff, if s.energy.provisional then 8 else 0, s.energy.regs, s.energy.provEnergy⟩) = true)) ∧
  -- 13 R501: while the Gaffer restarts
  (∀ (s : State),
    s.energy.accepting = true →
    s.gafferRuns = false →
    s.energy.countersAt + s.num 0x6000 8 60 * 1000000000 ≤ s.now →
    s.energy.backlog = [] →
    (∃ u, exec .counterJournal s = .next u ∧ u = { s with energy := { s.energy with countersAt := s.now, backlog := u.energy.backlog } } ∧
      u.energy.backlog = [.counters ⟨s.time.t64, s.energy.tariff, if s.energy.provisional then 8 else 0, s.energy.regs, s.energy.provEnergy⟩])) ∧
  -- 13 R502, R503: forecast and advisory
  (∀ (s : State),
    s.energy.accepting = true →
    s.energy.forecastAt + 1000000000 ≤ s.now →
    (let e := s.billing s.energy.energy
    let m := s.energy.minutes
    let w := s.num 0x6000 7 60 * 1000000000
    let p := ((s.energy.recent.filter (fun x => decide (s.now < x.1 + w))).map (·.2)).sum
    let c := s.num 0x6000 5 0
    ∃ u, exec .forecast s = .next u ∧ u.logsOver { s with energy := u.energy } ∧
      u.energy = { s.energy with forecastAt := s.now, running := u.energy.running, forecast := u.energy.forecast, advisory := u.energy.advisory } ∧
      u.energy.running = e * 3 / (50 * m) ∧
      u.energy.forecast = (e * s.num 0x6000 7 60 * 1000000000 + p * (s.energy.stop - s.time.t64)) * 3 / (50 * m * s.num 0x6000 7 60 * 1000000000) ∧
      u.energy.advisory = (if c = 0 ∨ s.energy.provisional = true then 0 else if c < u.energy.running then 3 else if c < u.energy.forecast then 2
        else if c * s.num 0x6000 6 90 < u.energy.forecast * 100 then 1 else 0) ∧
      (s.energy.advisory < u.energy.advisory → u.lastCode = 0x0903))) ∧
  -- 13 R507: ProvisionalMax
  (∀ (s : State),
    s.energy.provisional = true →
    s.energy.longRaised = false →
    s.energy.restoreAt + s.num 0x6000 9 24 * 3600000000000 ≤ s.now →
    (∃ u, exec .provisionalMax s = .next u ∧ u.logsOver { s with energy := { s.energy with longRaised := true } } ∧ u.lastCode = 0x0905))

/-- A feed stable at 40 V is POWERED: one that was ABSENT has the grant of its class events, a LOST one keeps it, and FEED_LOSS ends. A POWERED feed that falls is LOST, or ABSENT without its class events, and its losses are counted. While P_est exceeds B_sup the fewest clusters outside Z0 are held, highest first, that bring it to B_sup. A dip is counted and nothing else. With neither feed POWERED the shed decision takes Tcut for the keeper and the energy unit, makes FEED_LOSS a cause, and asserts RESET. BrownoutCount returns to 0 after BrownoutHold of a POWERED feed, or after 60 s in SERVICE or RUN. -/
def Obligations.FeedsHoldsAndShedding : Prop :=
  -- 14 R512, R514: FEED_STABLE
  (∀ (s : State) (f : Fin 2) (n : Fin 6),
    (s.feed f).state ≠ .powered →
    (∃ u, exec (.feedStable f n) s = .next u ∧
      u.feed f = { s.feed f with state := .powered, poweredSince := some s.now, classEvents := if (s.feed f).state = .absent then n.val else (s.feed f).classEvents } ∧
      u.feed (1 - f.val) = s.feed (1 - f.val) ∧ u.power.holdup = true ∧ u.quench.active = s.quench.active.filter (· ≠ 0x58) ∧
      u = { s with power := u.power, quench := u.quench, log := u.log, sess := u.sess, out := u.out })) ∧
  -- 14 R514
  (∀ (s : State) (f : Fin 2) (n : Fin 6),
    (s.feed f).state = .powered →
    (exec (.feedStable f n) s = .next s)) ∧
  -- 14 R514: FEED_LOST
  (∀ (s : State) (f : Fin 2),
    (s.feed f).state = .powered →
    (∃ u, exec (.feedLost f) s = .next u ∧ u.logsOver { s with power := u.power } ∧ u.power = { s.power with feeds := u.power.feeds } ∧
      u.feed f = { s.feed f with state := .lost, poweredSince := none, losses := ((s.feed f).losses + 1) % 2 ^ 32 } ∧ u.feed (1 - f.val) = s.feed (1 - f.val))) ∧
  -- 14 R514: below 30 V
  (∀ (s : State) (f : Fin 2),
    (s.feed f).state ≠ .absent →
    (∃ u, exec (.feedAbsent f) s = .next u ∧ u.logsOver { s with power := u.power } ∧ u.power = { s.power with feeds := u.power.feeds } ∧
      u.feed f = { s.feed f with state := .absent, classEvents := 0, poweredSince := none, losses := if (s.feed f).state = .powered then ((s.feed f).losses + 1) % 2 ^ 32 else (s.feed f).losses } ∧
      u.feed (1 - f.val) = s.feed (1 - f.val))) ∧
  -- 14 R522: a dip
  (∀ (s : State),
    s.op.state ≠ .off →
    (∃ u, exec .dip s = .next u ∧ u.logsOver { s with power := { s.power with dips := (s.power.dips + 1) % 2 ^ 32 } } ∧ u.lastCode = 0x0802)) ∧
  -- 14 R516, R517, R521: POWER_HOLD
  (∀ (s : State),
    s.governs = true →
    s.supplyBudget * 10 < s.estimate →
    (∃ u, exec .powerHold s = .next u ∧ u.logsOver { s with power := u.power } ∧
      u.power = { s.power with powerHeld := u.power.powerHeld, thermalHeld := u.power.thermalHeld, held := u.power.held, holdEvents := u.power.holdEvents, thermalEvents := u.power.thermalEvents } ∧
      u.power.held = s.holdOrder.take u.power.held.length ∧
      (u.estimate ≤ s.supplyBudget * 10 ∨ u.power.held = s.holdOrder) ∧
      ∀ k, k < u.power.powerHeld → s.supplyBudget * 10 < s.estimateWith (max k s.power.thermalHeld))) ∧
  -- 14 R521
  (∀ (s : State),
    s.estimate ≤ s.supplyBudget * 10 →
    (exec .powerHold s = .next s)) ∧
  -- 14 R523, R524, R545: the shed
  (∀ (s : State),
    s.op.state ≠ .off →
    s.op.state ≠ .reset →
    s.power.shed = false →
    (s.feed 0).state ≠ .powered ∧ (s.feed 1).state ≠ .powered →
    s.mayCause 0x58 →
    (∃ u, exec .shedDecision s = .next u ∧ u.op.state = .reset ∧ u.op.lastResetCause = 2 ∧ u.power.shed = true ∧
      u.power.sheds = (s.power.sheds + 1) % 2 ^ 32 ∧ u.power.lastShed = s.time.t64 ∧ u.energy.accepting = false ∧
      u.energy.lastCut = s.time.t64 ∧ u.quench.active.contains 0x58 = true ∧ u.armed = false ∧
      (s.timeRuns = true → u.time.keeper.t64 = s.time.t64 ∧ u.time.keeper.valid = true) ∧
      u.power.brownoutCount = (if s.op.brownoutOpen then s.power.brownoutCount + 1 else s.power.brownoutCount) ∧
      u.fuse.copyA = s.fuse.copyA ∧ u.fuse.copyB = s.fuse.copyB)) ∧
  -- 14 R523
  (∀ (s : State),
    s.op.state = .off ∨ s.power.shed = true ∨ (s.feed 0).state = .powered ∨ (s.feed 1).state = .powered →
    (exec .shedDecision s = .next s)) ∧
  -- 14 R545: BrownoutHold
  (∀ (s : State),
    3 ≤ s.power.brownoutCount →
    ([0, 1] : List Nat).any (fun f => (s.feed f).poweredSince.any (fun t => decide (max t s.op.bootAt + s.num 0x1023 5 30 * 1000000000 ≤ s.now))) = true →
    (∃ u, exec .brownoutHoldExpiry s = .next u ∧ u = { s with power := { s.power with brownoutCount := 0 }, log := u.log } ∧ u.alarmOn 0x0807 0 = false)) ∧
  -- 14 R545: 60 s
  (∀ (s : State) (t : Nat),
    s.op.brownoutOpen = true →
    s.op.serviceAt = some t →
    t + 60000000000 ≤ s.now →
    s.op.state = .service ∨ s.op.state = .run →
    (∃ u, exec .brownoutWindow s = .next u ∧ u = { s with power := { s.power with brownoutCount := 0 }, op := { s.op with brownoutOpen := false }, log := u.log } ∧
      u.alarmOn 0x0807 0 = false))

/-- Above 100 degrees the governor holds one more cluster outside Z0 each millisecond, highest first, and at 97 or less it releases one each 10 ms, with THERMAL_HOLD standing while any is held; at 115 the device goes to HALT. Each second of powered operation consumes a second of life at 95 degrees or less, and twice as much for each 10 K above; past 263,000 hours LIFE_REACHED is raised once. Below 1.8 V VKEEP clears KEEPER_VALID while it feeds the domain, and below 1.2 V the tamper log goes. -/
def Obligations.TemperatureLifeAndKeeper : Prop :=
  -- 16 R602: above 100 degrees
  (∀ (s : State) (l : List Int) (m : Int),
    l.max? = some m →
    1000 < m →
    s.governs = true →
    s.thermalRested 1000000 = true →
    (∃ u, exec (.thermalHold l) s = .next u ∧ u.logsOver { s with power := u.power, store := u.store } ∧ u.power.junction = m ∧ u.power.thermalAt = some s.now ∧
      u.power.thermalHeld = min (s.power.thermalHeld + 1) s.holdOrder.length ∧
      u.power.held = s.holdOrder.take (max u.power.powerHeld u.power.thermalHeld) ∧
      (0 < u.power.thermalHeld → s.power.thermalHeld = 0 → u.alarmOn 0x0808 0 = true) ∧ u.store.hot = true)) ∧
  -- 16 R602: 97 degrees or less
  (∀ (s : State) (l : List Int) (m : Int),
    l.max? = some m →
    m ≤ 970 →
    s.governs = true →
    0 < s.power.thermalHeld →
    s.thermalRested 10000000 = true →
    (∃ u, exec (.thermalRelease l) s = .next u ∧ u.logsOver { s with power := u.power, store := u.store } ∧ u.power.junction = m ∧
      u.power.thermalHeld = min (s.power.thermalHeld - 1) s.holdOrder.length ∧
      u.power.held = s.holdOrder.take (max u.power.powerHeld u.power.thermalHeld) ∧ (u.power.thermalHeld = 0 → u.alarmOn 0x0808 0 = false))) ∧
  -- 16 R604: OVERTEMP
  (∀ (s : State) (l : List Int) (m : Int),
    l.max? = some m →
    1150 ≤ m →
    s.op.state ≠ .off →
    s.op.state ≠ .reset →
    s.op.state ≠ .halt →
    (∃ u, exec (.overtempHalt l) s = .next u ∧ u.op.state = .halt ∧ u.op.gaffer = .recovery ∧ u.power.junction = m ∧
      u.sess.sessions = [] ∧ u.time.state = .free ∧ u.time.t64 = s.time.t64 ∧ u.fuse.copyA = s.fuse.copyA ∧ u.fuse.copyB = s.fuse.copyB)) ∧
  -- 16 R604: below 115 degrees
  (∀ (s : State) (l : List Int) (m : Int),
    l.max? = some m →
    m < 1150 →
    (∃ u, exec (.overtempHalt l) s = .next u ∧ u = { s with power := u.power, store := u.store } ∧ u.power.junction = m)) ∧
  -- 16 R606: LifeConsumed
  (∀ (s : State) (l : List Int) (m : Int),
    l.max? = some m →
    s.op.state ≠ .off →
    s.power.life + lifeFactor m ≤ 263000 * 3600 * 2 ^ 20 →
    (∃ u, exec (.lifeSample l) s = .next u ∧ u = { s with power := u.power, store := u.store } ∧ u.power.junction = m ∧
      u.power.junctionPeak = max s.power.junctionPeak m ∧ u.power.lifeRaised = s.power.lifeRaised ∧
      (m ≤ 950 → u.power.life = s.power.life + 2 ^ 20 ∧ u.power.above95 = s.power.above95) ∧
      (950 < m → u.power.above95 = s.power.above95 + 1) ∧
      (m = 1050 → u.power.life = s.power.life + 2 ^ 21) ∧ (m = 1150 → u.power.life = s.power.life + 2 ^ 22))) ∧
  -- 16 R606: LIFE_REACHED
  (∀ (s : State) (l : List Int) (m : Int),
    l.max? = some m →
    s.op.state ≠ .off →
    263000 * 3600 * 2 ^ 20 < s.power.life + lifeFactor m →
    s.power.lifeRaised = false →
    (∃ u, exec (.lifeSample l) s = .next u ∧ u.logsOver { s with power := u.power, store := u.store } ∧ u.lastCode = 0x0809 ∧ u.power.lifeRaised = true)) ∧
  -- 14 R537, R538: VKEEP feeds the domain
  (∀ (s : State) (v : Fin 1800),
    s.op.state = .off →
    (exec (.vkeepLow v) s = .next { s with
      power := { s.power with vkeep := v }
      time := { s.time with keeper := { s.time.keeper with valid := false, tamper := if v.val < 1200 then [] else s.time.keeper.tamper } } })) ∧
  -- 14 R537
  (∀ (s : State) (v : Fin 1800),
    s.op.state ≠ .off →
    (exec (.vkeepLow v) s = .next { s with power := { s.power with vkeep := v } }))

/-- A legal HostTransfer joins its bus's queue of 16; to a full one it is refused with BUSY_RETRY, and a bad one completes with BAD. The oldest command is carried out from START to STOP and leaves with its result: OK with the bytes acknowledged or read, NACK_ADDR, NACK_DATA, or BUS_FAULT where the controller read back what it did not send, after which the bus is recovered; a host's result joins the last 8, a task's goes to its queue. A request of 1 to 50 us or the period's expiry makes a poll round due, which reads each entry and gives a requester's token. A stretch timeout and a stuck SDA end the command; SCL low 1 ms later makes FAULT. A recovery that frees SDA ends with a STOP, and FAULT ends after it. -/
def Obligations.TwoWireCommandsPollsAndRecovery : Prop :=
  -- 15 R550, R551: HostTransfer
  (∀ (s : State) (q : Req) (ss : Session) (k : Fin 2) (b : List Nat),
    s.hears q ss →
    s.admitted q ss (okey (0x9000 + k.val) 6) →
    s.op.state ≠ .sleep →
    b.length = 40 →
    (s.bus k).queue.length < 16 →
    (s.bus k).state ≠ .fault →
    ({ issuer := .host, words := hostTransferWords b } : TwCommand).legal = true →
    (∃ u, exec (.hostTransfer q k b) s = .next u ∧ u.answers q .ok ∧ u = { s with io := { s.io with buses := u.io.buses }, sess := u.sess, out := u.out } ∧
      u.bus k = { s.bus k with queue := (s.bus k).queue ++ [{ issuer := .host, words := hostTransferWords b }] } ∧ u.bus (1 - k.val) = s.bus (1 - k.val))) ∧
  -- 15 R551: a full queue
  (∀ (s : State) (q : Req) (ss : Session) (k : Fin 2) (b : List Nat),
    s.hears q ss →
    s.admitted q ss (okey (0x9000 + k.val) 6) →
    b.length = 40 →
    16 ≤ (s.bus k).queue.length →
    (∃ u, exec (.hostTransfer q k b) s = .next u ∧ u.answers q .busyRetry ∧ u.io = s.io)) ∧
  -- 15 R552, R553: a WRITE
  (∀ (s : State) (k : Fin 2) (c : TwCommand) (rest : List TwCommand) (ack : Bool) (n : Fin 34) (bad : Bool),
    s.ioRuns = true →
    (s.bus k).state ≠ .fault →
    (s.bus k).roundDue = false ∧ (s.bus k).recoverDue = false ∧ (s.bus k).stretchAt = none →
    (s.bus k).queue = c :: rest →
    twField c.head 0 2 = 1 →
    c.issuer = .host →
    (let p : Nat := if c.head.testBit 2 then 0 else 1
    let len := twField c.head 18 6
    let st : TwStatus := if bad then .busFault else if !ack then .nackAddr else if n.val < p + len then .nackData else .ok
    let m : Nat := if bad ∨ !ack then 0 else if n.val < p + len then n.val - p else len
    ∃ u, exec (.twWrite k ack n bad) s = .next u ∧ u = { s with io := { s.io with buses := u.io.buses }, out := u.out } ∧
      u.bus k = { s.bus k with
        queue := rest, commands := ((s.bus k).commands + 1) % 2 ^ 32, nacks := if st = .nackAddr ∨ st = .nackData then ((s.bus k).nacks + 1) % 2 ^ 32 else (s.bus k).nacks
        results := ((s.bus k).results ++ [((s.twResult k c st m []).flatMap (bytesBE 8) ++ List.replicate 48 0).take 48]).drop ((s.bus k).results.length + 1 - 8), recoverDue := bad } ∧
      u.bus (1 - k.val) = s.bus (1 - k.val) ∧ u.out = .twStop k :: .twStart k (twField c.head 0 2) (twField c.head 3 7) (twField c.head 10 8) c.data :: s.out)) ∧
  -- 15 R552, R553: a READ
  (∀ (s : State) (k : Fin 2) (c : TwCommand) (rest : List TwCommand) (ack : Bool) (d : List (Fin 256)) (bad : Bool),
    s.ioRuns = true →
    (s.bus k).state ≠ .fault →
    (s.bus k).roundDue = false ∧ (s.bus k).recoverDue = false ∧ (s.bus k).stretchAt = none →
    (s.bus k).queue = c :: rest →
    twField c.head 0 2 = 2 →
    c.issuer = .host →
    (let len := twField c.head 18 6
    let st : TwStatus := if bad then .busFault else if !ack then .nackAddr else .ok
    let l : List Nat := if bad ∨ !ack then [] else readData len d
    ∃ u, exec (.twRead k ack d bad) s = .next u ∧ u = { s with io := { s.io with buses := u.io.buses }, out := u.out } ∧
      u.bus k = { s.bus k with
        queue := rest, commands := ((s.bus k).commands + 1) % 2 ^ 32, nacks := if st = .nackAddr then ((s.bus k).nacks + 1) % 2 ^ 32 else (s.bus k).nacks
        results := ((s.bus k).results ++ [((s.twResult k c st l.length l).flatMap (bytesBE 8) ++ List.replicate 48 0).take 48]).drop ((s.bus k).results.length + 1 - 8), recoverDue := bad } ∧
      u.bus (1 - k.val) = s.bus (1 - k.val) ∧ u.out = .twStop k :: .twStart k (twField c.head 0 2) (twField c.head 3 7) (twField c.head 10 8) c.data :: s.out)) ∧
  -- 15 R552, R553: a WRITE_READ
  (∀ (s : State) (k : Fin 2) (c : TwCommand) (rest : List TwCommand) (nack : Fin 4) (d : List (Fin 256)) (bad : Bool),
    s.ioRuns = true →
    (s.bus k).state ≠ .fault →
    (s.bus k).roundDue = false ∧ (s.bus k).recoverDue = false ∧ (s.bus k).stretchAt = none →
    (s.bus k).queue = c :: rest →
    twField c.head 0 2 = 3 →
    c.issuer = .host →
    (let len := twField c.head 18 6
    let st : TwStatus := if bad then .busFault else if nack.val = 0 then .ok else if nack.val = 2 then .nackData else .nackAddr
    let l : List Nat := if bad ∨ nack.val ≠ 0 then [] else readData len d
    ∃ u, exec (.twWriteRead k nack d bad) s = .next u ∧ u = { s with io := { s.io with buses := u.io.buses }, out := u.out } ∧
      u.bus k = { s.bus k with
        queue := rest, commands := ((s.bus k).commands + 1) % 2 ^ 32, nacks := if st = .nackAddr ∨ st = .nackData then ((s.bus k).nacks + 1) % 2 ^ 32 else (s.bus k).nacks
        results := ((s.bus k).results ++ [((s.twResult k c st l.length l).flatMap (bytesBE 8) ++ List.replicate 48 0).take 48]).drop ((s.bus k).results.length + 1 - 8), recoverDue := bad } ∧
      u.bus (1 - k.val) = s.bus (1 - k.val) ∧ u.out = .twStop k :: .twStart k (twField c.head 0 2) (twField c.head 3 7) (twField c.head 10 8) c.data :: s.out)) ∧
  -- 15 R553: the result of a task
  (∀ (s : State) (k : Fin 2) (c : TwCommand) (rest : List TwCommand) (d : List (Fin 256)) (n : Nat),
    s.ioRuns = true →
    (s.bus k).state ≠ .fault →
    (s.bus k).roundDue = false ∧ (s.bus k).recoverDue = false ∧ (s.bus k).stretchAt = none →
    (s.bus k).queue = c :: rest →
    twField c.head 0 2 = 2 →
    c.issuer = .task →
    n = twField c.head 24 8 →
    (s.task n).state ≠ .absent ∧ (s.task n).state ≠ .draining ∧ (s.task n).kind ≠ .queue →
    (s.task n).queue.length + 6 ≤ (s.task n).queueSize →
    (let l := readData (twField c.head 18 6) d
    ∃ u, exec (.twRead k true d false) s = .next u ∧ u = { s with io := { s.io with buses := u.io.buses }, array := { s.array with tasks := u.array.tasks }, out := u.out } ∧
      (twField c.head 18 6 ≤ 32 → u.task n = { s.task n with queue := (s.task n).queue ++ s.twResult k c .ok l.length l }) ∧
      (u.bus k).queue = rest ∧ (u.bus k).results = (s.bus k).results)) ∧
  -- 15 R556: a request
  (∀ (s : State) (k : Fin 2) (low : Nat),
    s.ioRuns = true →
    (s.bus k).state ≠ .fault →
    (∃ u, exec (.twRequest k low) s = .next u ∧
      (1000 ≤ low ∧ low ≤ 50000 → u = { s with io := { s.io with buses := u.io.buses } } ∧
        u.bus k = { s.bus k with roundDue := true, request := some ((s.bus k).request.getD s.time.t64), requests := ((s.bus k).requests + 1) % 2 ^ 32 }) ∧
      (low < 1000 ∨ 50000 < low → u = s))) ∧
  -- 15 R557: PollPeriod
  (∀ (s : State) (k : Fin 2),
    s.ioRuns = true →
    (s.bus k).state ≠ .fault →
    s.num (0x9000 + k.val) 4 0 ≠ 0 →
    (s.bus k).pollAt + s.num (0x9000 + k.val) 4 0 * 1000000 ≤ s.now →
    (∃ u, exec (.pollPeriod k) s = .next u ∧ u = { s with io := { s.io with buses := u.io.buses } } ∧
      u.bus k = { s.bus k with roundDue := true, request := some ((s.bus k).request.getD s.time.t64), pollAt := s.now })) ∧
  -- 15 R557: a poll round
  (∀ (s : State) (k : Fin 2) (e : Nat) (v : Fin 4294967296) (n : Nat) (again : Bool),
    s.ioRuns = true →
    (s.bus k).state ≠ .fault →
    (s.bus k).roundDue = true ∧ (s.bus k).recoverDue = false ∧ (s.bus k).stretchAt = none →
    s.reqEntries k = [e] →
    v.val % 2 ^ (8 * s.num (0x9010 + 8 * k.val + e) 4 1) &&& s.num (0x9010 + 8 * k.val + e) 5 0xFFFFFFFF ≠ 0 →
    n = s.num (0x9010 + 8 * k.val + e) 6 0xFF →
    n ≠ 0xFF →
    s.tokenRoom n →
    (let d := v.val % 2 ^ (8 * s.num (0x9010 + 8 * k.val + e) 4 1)
    let a := s.num (0x9010 + 8 * k.val + e) 1 0xFF
    ∃ u, exec (.pollRound k [some v] again) s = .next u ∧ u = { s with io := { s.io with buses := u.io.buses }, array := { s.array with tasks := u.array.tasks }, out := u.out } ∧
      tget {} (u.bus k).entries e = { lastPoll := d, requests := ((tget {} (s.bus k).entries e).requests + 1) % 2 ^ 32 } ∧
      u.task n = { s.task n with queue := (s.task n).queue ++ [0x51 + k * 2 ^ 8 + e * 2 ^ 9 + a % 128 * 2 ^ 16 + d * 2 ^ 32, (s.bus k).request.getD s.time.t64] } ∧
      (u.bus k).roundDue = again ∧ (u.bus k).request = (if again = true then some s.time.t64 else none) ∧
      u.out = .twStop k :: .twStart k 3 a (s.num (0x9010 + 8 * k.val + e) 3 0) [] :: s.out)) ∧
  -- 15 R559: no command
  (∀ (s : State) (k : Fin 2),
    s.ioRuns = true →
    (s.bus k).state ≠ .fault →
    (s.bus k).queue = [] →
    (∃ u, exec (.stretchTimeout k) s = .next u ∧ u = { s with io := { s.io with buses := u.io.buses } } ∧ u.bus k = { s.bus k with stretchAt := some s.now })) ∧
  -- 15 R559: STRETCH_TIMEOUT
  (∀ (s : State) (k : Fin 2) (c : TwCommand) (rest : List TwCommand),
    s.ioRuns = true →
    (s.bus k).state ≠ .fault →
    (s.bus k).queue = c :: rest →
    c.issuer = .host →
    (∃ u, exec (.stretchTimeout k) s = .next u ∧ u = { s with io := { s.io with buses := u.io.buses } } ∧
      u.bus k = { s.bus k with
        queue := rest, commands := ((s.bus k).commands + 1) % 2 ^ 32, stretches := ((s.bus k).stretches + 1) % 2 ^ 32, stretchAt := some s.now
        results := ((s.bus k).results ++ [((s.twResult k c .stretchTimeout 0 []).flatMap (bytesBE 8) ++ List.replicate 48 0).take 48]).drop ((s.bus k).results.length + 1 - 8) })) ∧
  -- 15 R560: TW_BUS_FAULT
  (∀ (s : State) (k : Fin 2) (t : Nat),
    (s.bus k).stretchAt = some t →
    t + 1000000 ≤ s.now →
    (s.bus k).state ≠ .fault →
    (∃ u, exec (.twBusFault k) s = .next u ∧ (u.bus k).state = .fault ∧ (u.bus k).queue = [] ∧ (u.bus k).roundDue = false ∧
      (u.bus k).recoverDue = true ∧ (u.bus k).commands % 2 ^ 32 = ((s.bus k).commands + (s.bus k).queue.length) % 2 ^ 32 ∧
      u.alarmOn 0x0907 k = true ∧ u.lastCode = 0x0907 ∧ u.bus (1 - k.val) = s.bus (1 - k.val))) ∧
  -- 15 R560: FAULT ends
  (∀ (s : State) (k : Fin 2),
    (s.bus k).state = .fault →
    (s.bus k).recoverDue = false →
    (∃ u, exec (.twFaultExit k) s = .next u ∧ u = { s with io := { s.io with buses := u.io.buses }, log := u.log } ∧
      u.bus k = { s.bus k with state := .idle } ∧ u.alarmOn 0x0907 k = false)) ∧
  -- 15 R556, R561: STUCK_SDA
  (∀ (s : State) (k : Fin 2) (c : TwCommand) (rest : List TwCommand),
    s.ioRuns = true →
    (s.bus k).state ≠ .fault →
    (s.bus k).queue = c :: rest →
    c.issuer = .host →
    ((∃ u, exec (.stuckSda k false) s = .next u ∧ u = { s with io := { s.io with buses := u.io.buses } } ∧ u.bus k = { s.bus k with recoverDue := true }) ∧
      ∃ u, exec (.stuckSda k true) s = .next u ∧ u = { s with io := { s.io with buses := u.io.buses } } ∧
        u.bus k = { s.bus k with
          queue := rest, commands := ((s.bus k).commands + 1) % 2 ^ 32, recoverDue := true
          results := ((s.bus k).results ++ [((s.twResult k c .stuckSda 0 []).flatMap (bytesBE 8) ++ List.replicate 48 0).take 48]).drop ((s.bus k).results.length + 1 - 8) })) ∧
  -- 15 R561: a recovery
  (∀ (s : State) (k : Fin 2),
    (s.bus k).recoverDue = true →
    (s.bus k).state ≠ .fault ∨ (s.bus k).recoverAt + 100000000 ≤ s.now →
    ((∃ u, exec (.busRecovery k true) s = .next u ∧ u = { s with io := { s.io with buses := u.io.buses }, out := .twStop k :: s.out } ∧
        u.bus k = { s.bus k with recoveries := ((s.bus k).recoveries + 1) % 2 ^ 32, recoverAt := s.now, recoverDue := false }) ∧
      ∃ u, exec (.busRecovery k false) s = .next u ∧ (u.bus k).state = .fault ∧ (u.bus k).recoverDue = true ∧
        (u.bus k).recoveries = ((s.bus k).recoveries + 1) % 2 ^ 32 ∧ (u.bus k).recoverAt = s.now ∧ u.out.head? ≠ some (.twStop k)))

/-- While TWT is on, a write sets its pointer and then the IN area byte by byte, discarding what falls into the OUT area, and a read gives the bytes from the pointer on and releases a request; an unreleased request pulses again every 10 ms. A transition of an input without a filter is accepted with its time; with a filter it is accepted with its first time once it has held, and counts a glitch where it does not. An output is driven by OutLevel and by tokens; a ScheduleEdge joins the pin's queue in time order, and is driven when its slot is reached; a late one is counted. A token with bits of [29:0] set and bit 30 clear is bad. -/
def Obligations.TwtWindowAndDirectIo : Prop :=
  -- 15 R549, R563, R564: a write
  (∀ (s : State) (p : Fin 256) (v : Fin 256),
    s.twtOn = true →
    s.num 0x9040 5 0xFF = 0xFF →
    (∃ u, exec (.twtWrite [p, v]) s = .next u ∧ u = { s with io := { s.io with twt := u.io.twt } } ∧
      u.io.twt = { s.io.twt with
        writes := (s.io.twt.writes + 1) % 2 ^ 32, pointer := (p.val + 1) % 256
        roWrites := if p.val < 128 then (s.io.twt.roWrites + 1) % 2 ^ 32 else s.io.twt.roWrites
        inArea := if p.val < 128 then s.io.twt.inArea else tset 0 s.io.twt.inArea (p.val - 128) v })) ∧
  -- 15 R565: the notify token
  (∀ (s : State) (p : Fin 256) (v : Fin 256) (n : Nat),
    s.twtOn = true →
    n = s.num 0x9040 5 0xFF →
    n ≠ 0xFF →
    128 ≤ p.val →
    s.tokenRoom n →
    (∃ u, exec (.twtWrite [p, v]) s = .next u ∧
      u.task n = { s.task n with queue := (s.task n).queue ++ [0x52 + p.val * 2 ^ 8 + p.val * 2 ^ 16, s.time.t64] } ∧ u.io.twt.lost = s.io.twt.lost)) ∧
  -- 15 R549, R563, R564: a read
  (∀ (s : State) (n : Fin 4096),
    s.twtOn = true →
    (∃ u, exec (.twtRead n) s = .next u ∧ u = { s with io := { s.io with twt := u.io.twt }, out := u.out } ∧
      u.io.twt = { s.io.twt with reads := (s.io.twt.reads + 1) % 2 ^ 32, pointer := (s.io.twt.pointer + n) % 256, request := s.io.twt.request && n.val == 0 } ∧
      u.out = .twtBytes ((List.range n).map (fun i => s.io.twt.byte ((s.io.twt.pointer + i) % 256))) :: s.out)) ∧
  -- 15 R562: TWT is off
  (∀ (s : State) (d : List (Fin 256)) (n : Fin 4096),
    s.twtOn = false →
    (exec (.twtWrite d) s = .next s ∧ exec (.twtRead n) s = .next s)) ∧
  -- 15 R566: TwtRequest
  (∀ (s : State) (q : Req) (ss : Session),
    s.hears q ss →
    s.admitted q ss (okey 0x9040 6) →
    s.twtOn = true →
    (∃ u, exec (.twtRequest q [1]) s = .next u ∧ u.answers q .ok ∧ u = { s with io := { s.io with twt := u.io.twt }, sess := u.sess, out := u.out } ∧
      u.io.twt = { s.io.twt with request := true, pulseAt := some s.now } ∧ .twPulse ∈ u.out)) ∧
  -- 15 R566: 10 ms
  (∀ (s : State),
    s.io.twt.request = true →
    s.twtOn = true →
    s.io.twt.pulseAt.all (fun t => decide (t + 10000000 ≤ s.now)) = true →
    (exec .twtRequestRepeat s = .next { s with io := { s.io with twt := { s.io.twt with pulseAt := some s.now } }, out := .twPulse :: s.out })) ∧
  -- 15 R566: released
  (∀ (s : State),
    s.io.twt.request = false ∨ s.io.twt.pulseAt.any (fun t => decide (s.now < t + 10000000)) = true →
    (exec .twtRequestRepeat s = .next s)) ∧
  -- 15 R568, R569: accepted at once
  (∀ (s : State) (y : Fin 24) (l : Bool) (b : Fin 32),
    s.dioIn y = true →
    s.filterNs y = 0 →
    (s.pin y).raw ≠ l →
    (s.pin y).waiting = none →
    s.dioMode y = 1 →
    (let t := s.t80 + b * 8192
    ∃ u, exec (.dioTransition y l b) s = .next u ∧ u = { s with io := { s.io with dio := u.io.dio }, ring := { s.ring with rcs := u.ring.rcs } } ∧
      u.pin y = { s.pin y with raw := l, level := l, edgeCount := ((s.pin y).edgeCount + 1) % 2 ^ 32, edges := (⟨((s.pin y).edgeCount + 1) % 2 ^ 32, t, l⟩ :: (s.pin y).edges).take 64 } ∧
      ∀ k, k ≠ y.val → u.pin k = s.pin k)) ∧
  -- 15 R568: the filter
  (∀ (s : State) (y : Fin 24) (l : Bool) (b : Fin 32),
    s.dioIn y = true →
    s.filterNs y ≠ 0 →
    (s.pin y).raw ≠ l →
    (s.pin y).waiting = none →
    (s.pin y).level ≠ l →
    (∃ u, exec (.dioTransition y l b) s = .next u ∧ u = { s with io := { s.io with dio := u.io.dio } } ∧
      u.pin y = { s.pin y with raw := l, waiting := some (s.t80 + b * 8192) } ∧ ∀ k, k ≠ y.val → u.pin k = s.pin k)) ∧
  -- 15 R568: a glitch
  (∀ (s : State) (y : Fin 24) (l : Bool) (b : Fin 32) (a : T80),
    s.dioIn y = true →
    s.filterNs y ≠ 0 →
    (s.pin y).raw ≠ l →
    (s.pin y).waiting = some a →
    s.t80 + b.val * 8192 < a + s.filterNs y * 65536 →
    (∃ u, exec (.dioTransition y l b) s = .next u ∧ u = { s with io := { s.io with dio := u.io.dio } } ∧
      u.pin y = { s.pin y with raw := l, waiting := none, glitches := ((s.pin y).glitches + 1) % 2 ^ 32 } ∧ ∀ k, k ≠ y.val → u.pin k = s.pin k)) ∧
  -- 15 R568: its first time
  (∀ (s : State) (y : Fin 24) (a : T80),
    s.dioIn y = true →
    (s.pin y).waiting = some a →
    a + s.filterNs y * 65536 ≤ s.t80 →
    (∃ u, exec (.dioFilterAccept y) s = .next u ∧ (u.pin y).level = (s.pin y).raw ∧ (u.pin y).waiting = none ∧
      (u.pin y).edgeCount = ((s.pin y).edgeCount + 1) % 2 ^ 32 ∧ (u.pin y).edges = (⟨((s.pin y).edgeCount + 1) % 2 ^ 32, a, (s.pin y).raw⟩ :: (s.pin y).edges).take 64)) ∧
  -- 15 R571: OutLevel
  (∀ (s : State) (q : Req) (ss : Session) (y : Fin 24) (v : Fin 2),
    s.hears q ss →
    s.admitted q ss (okey (0x9100 + y.val) 7) →
    s.dioOut y = true →
    (s.pin y).placedAt ≠ some s.slotNow →
    (∃ u, exec (.outLevel q y [v.val]) s = .next u ∧ u.answers q .ok ∧ u = { s with io := { s.io with dio := u.io.dio }, sess := u.sess, out := u.out } ∧
      u.pin y = { s.pin y with drive := some (v.val != 0) } ∧ ∀ k, k ≠ y.val → u.pin k = s.pin k)) ∧
  -- 15 R573: ScheduleEdge
  (∀ (s : State) (q : Req) (ss : Session) (y : Fin 24) (t : Fin 1208925819614629174706176) (v : Fin 2),
    s.hears q ss →
    s.admitted q ss (okey (0x9100 + y.val) 8) →
    s.dioOut y = true →
    s.t80 < t.val →
    s.slotNow + 800 ≤ gridSlot t →
    (s.pin y).queue.length < 16 →
    (∃ u, exec (.scheduleEdge q y (bytesBE 10 t ++ [v.val, 0])) s = .next u ∧ u.answers q .ok ∧ u = { s with io := { s.io with dio := u.io.dio }, sess := u.sess, out := u.out } ∧
      u.pin y = { s.pin y with queue := putSlot (gridSlot t) (v.val != 0) (s.pin y).queue } ∧ ∀ k, k ≠ y.val → u.pin k = s.pin k)) ∧
  -- 15 R574: a late edge
  (∀ (s : State) (q : Req) (ss : Session) (y : Fin 24) (t : Fin 1208925819614629174706176) (v : Fin 2),
    s.hears q ss →
    s.admitted q ss (okey (0x9100 + y.val) 8) →
    s.dioOut y = true →
    s.t80 < t.val →
    gridSlot t < s.slotNow + 800 →
    (∃ u, exec (.scheduleEdge q y (bytesBE 10 t ++ [v.val, 0])) s = .next u ∧ (u.pin y).late = ((s.pin y).late + 1) % 2 ^ 32 ∧
      (u.pin y).queue = (s.pin y).queue ∧ ∀ k, k ≠ y.val → u.pin k = s.pin k)) ∧
  -- 15 R571, R572: an output token
  (∀ (s : State) (y : Fin 24) (v : Word) (rest : List Word),
    (s.pin y).outTokens = v :: rest →
    s.dioOut y = true →
    s.dioMode y = 4 →
    v.getLsbD 30 = false →
    s.lanesEmpty = true →
    (∃ u, exec (.streamOutToken y) s = .next u ∧
      (v.toNat % 2 ^ 30 = 0 → (s.pin y).placedAt ≠ some s.slotNow → u.pin y = { s.pin y with outTokens := rest, drive := some (v.getLsbD 31) }) ∧
      (v.toNat % 2 ^ 30 ≠ 0 → u.pin y = { s.pin y with outTokens := rest, badTokens := ((s.pin y).badTokens + 1) % 2 ^ 32 }))) ∧
  -- 15 R572, R573: a timed token
  (∀ (s : State) (y : Fin 24) (v : Word) (rest : List Word),
    (s.pin y).outTokens = v :: rest →
    s.dioOut y = true →
    s.dioMode y = 4 →
    v.getLsbD 30 = true →
    s.lanesEmpty = true →
    s.slotNow + 800 ≤ nearestSlot s.slotNow (v.toNat % 2 ^ 30) →
    (s.pin y).queue.length < 16 →
    (∃ u, exec (.streamOutToken y) s = .next u ∧
      u.pin y = { s.pin y with outTokens := rest, queue := putSlot (nearestSlot s.slotNow (v.toNat % 2 ^ 30)) (v.getLsbD 31) (s.pin y).queue })) ∧
  -- 15 R575: an edge is placed
  (∀ (s : State) (y : Fin 24) (n : Nat) (l : Bool) (rest : List (Nat × Bool)),
    (s.pin y).queue = (n, l) :: rest →
    s.dioOut y = true →
    n < s.slotNow + 32 →
    (exec (.scheduledEdgePlace y) s = .next (s.modPin y (fun p => { p with queue := rest, drive := some l, placedAt := some n })))) ∧
  -- 15 R575: not yet
  (∀ (s : State) (y : Fin 24) (n : Nat) (l : Bool) (rest : List (Nat × Bool)),
    (s.pin y).queue = (n, l) :: rest →
    s.slotNow + 32 ≤ n →
    (exec (.scheduledEdgePlace y) s = .next s))

/-- Without a valid cookie a ClientHello is answered with a retry; with one a handshake begins, unless four are in progress. A client with the key of an enabled credential is established; a handshake 10 s old is forgotten. OPEN with a role that the credential admits makes a session under the lowest free number, answered with its keep-alive; a refused one is answered with its code and closed. A session ends on CLOSE, on a fatal alert and when it is not heard for its keep-alive: its leases lapse, and its number is free. -/
def Obligations.HandshakesSessionsAndLapses : Prop :=
  -- 11 R413: ClientHello
  (∀ (s : State) (conn : Nat) (p : List Nat) (en : Bool),
    s.servesHosts = true →
    s.shake? conn = none →
    s.sessionOn conn = none →
    (s.sess.handshakes.filter (fun h => h.credential.isNone)).length < 4 →
    ((∃ u, exec (.clientHello conn false p en) s = .next u ∧ u.out = .cookieRetry conn :: s.out ∧ u.sess.handshakes = s.sess.handshakes) ∧
      ∃ u, exec (.clientHello conn true p en) s = .next u ∧ u.out = s.out ∧ u.op.fuseEn = en ∧
        u.sess.handshakes = s.sess.handshakes ++ [{ conn := conn, since := s.now, fuseEn := en, peer := padTo 18 p, credential := none }])) ∧
  -- 11 R413: no more than four
  (∀ (s : State) (conn : Nat) (p : List Nat) (c en : Bool),
    s.servesHosts = true →
    s.shake? conn = none →
    s.sessionOn conn = none →
    4 ≤ (s.sess.handshakes.filter (fun h => h.credential.isNone)).length →
    (∃ u, exec (.clientHello conn c p en) s = .next u ∧ u.sess.handshakesDropped = (s.sess.handshakesDropped + 1) % 2 ^ 32 ∧
      u.sess.handshakes = s.sess.handshakes ∧ u.out = s.out)) ∧
  -- 11 R414: the client proves its key
  (∀ (s : State) (conn : Nat) (key : List Nat) (h : Handshake) (c : Nat),
    s.shake? conn = some h →
    h.credential = none →
    s.credOf key = some c →
    (∃ u, exec (.handshakeComplete conn key) s = .next u ∧ u.out = .established conn :: s.out ∧ (u.shake? conn).bind (·.credential) = some c ∧
      tget 0 u.sess.lastUsed c = s.time.t64 ∧ u.sess.sessions = s.sess.sessions)) ∧
  -- 11 R413: 10 s
  (∀ (s : State) (conn : Nat) (h : Handshake),
    s.shake? conn = some h →
    h.credential = none →
    h.since + 10000000000 ≤ s.now →
    (exec (.handshakeLimit conn) s = .next { s with sess := { s.sess with handshakes := s.sess.handshakes.filter (fun x => x.conn != conn) } })) ∧
  -- 11 R416, R417: OPEN
  (∀ (s : State) (conn : Nat) (role : Fin 256) (r : Role) (k : Fin 65536) (name : List Nat) (h : Handshake) (c n : Nat),
    s.sessionOn conn = none →
    s.shake? conn = some h →
    h.credential = some c →
    roleOf role = some r →
    s.openCheck c (some r) = .ok →
    s.freeSession = some n →
    (let ka := if k.val = 0 then s.num 0x1102 8 10 else min k.val 600
    ∃ u, exec (.openSession conn role k name) s = .next u ∧ u.out = .opened conn n ka s.time.t64 :: s.out ∧ u.shake? conn = none ∧
      u.sess.sessions = s.sess.sessions ++ [(n, { role := r, credential := c, conn := conn, keepAlive := ka, openedAt := s.time.t64, lastHeard := s.now, clientName := padTo 16 name, peer := h.peer })])) ∧
  -- 11 R416: OPEN refused
  (∀ (s : State) (conn : Nat) (role : Fin 256) (k : Fin 65536) (name : List Nat) (h : Handshake) (c : Nat),
    s.sessionOn conn = none →
    s.shake? conn = some h →
    h.credential = some c →
    s.openCheck c (roleOf role) ≠ .ok →
    (∃ u, exec (.openSession conn role k name) s = .next u ∧
      u.out = .closeNotify conn :: .refusedOpen conn (s.openCheck c (roleOf role)) :: s.out ∧ u.shake? conn = none ∧ u.sess.sessions = s.sess.sessions)) ∧
  -- 11 R418: CLOSE
  (∀ (s : State) (q : Req) (ss : Session),
    s.hears q ss →
    q.session ≠ 0 →
    (∃ u, exec (.closeSession q) s = .next u ∧ s.sessionGone u q.session ∧ .closeNotify ss.conn ∈ u.out ∧
      .answer q.session { rid := q.rid, code := .ok } ∈ u.out)) ∧
  -- 11 R420: PING
  (∀ (s : State) (q : Req) (ss : Session),
    s.hears q ss →
    (∃ u, exec (.ping q) s = .next u ∧ u = { s with sess := u.sess, out := u.out } ∧
      u.out = .answer q.session { rid := q.rid, code := .ok, value := some (.num s.time.t64) } :: s.out)) ∧
  -- 11 R418: a fatal alert
  (∀ (s : State) (conn : Nat) (n : Nat),
    s.sessionOn conn = some n →
    n ≠ 0 →
    (∃ u, exec (.dtlsFatalAlert conn) s = .next u ∧ s.sessionGone u n ∧ u.shake? conn = none)) ∧
  -- 11 R417: the keep-alive
  (∀ (s : State) (n : Fin 9) (x : Session),
    n.val ≠ 0 →
    s.session? n = some x →
    x.lastHeard + x.keepAlive * 1000000000 ≤ s.now →
    (∃ u, exec (.keepaliveLapse n) s = .next u ∧ s.sessionGone u n))

/-- A READ that passes its checks is answered with the value of the object. A WRITE of an object with a command of its own is that command; one of an object of an apply class that passes its checks waits in the pending set; a NOW object without a command takes effect at once. SEG_READ answers the bytes from OFFSET of a snapshot taken at OFFSET 0, which is kept until 10 s pass without a SEG_READ. A SEG_WRITE without LAST keeps its data for the segment that follows. -/
def Obligations.ReadsWritesAndSegments : Prop :=
  -- 11 R421: READ
  (∀ (s : State) (q : Req) (ss : Session) (key : Fin 16777216),
    s.hears q ss →
    s.readCheck key = .ok →
    (typeAt key).segmented = false →
    (let t := s.modSession q.session (fun x => { x with lastHeard := s.now })
    ∃ u, exec (.read q key false) s = .next u ∧ u = { s with sess := u.sess, out := u.out } ∧
      u.out = .answer q.session { rid := q.rid, code := .ok, value := some (t.objectValue q.session key) } :: s.out)) ∧
  -- 11 R421: a READ refused
  (∀ (s : State) (q : Req) (ss : Session) (key : Fin 16777216),
    s.hears q ss →
    s.readCheck key ≠ .ok →
    (∃ u, exec (.read q key false) s = .next u ∧ u = { s with sess := u.sess, out := u.out } ∧ u.answers q (s.readCheck key))) ∧
  -- 11 R406, R407, R421: WRITE
  (∀ (s : State) (q : Req) (ss : Session) (key : Fin 16777216) (b : List Nat) (r : ObjRow),
    s.hears q ss →
    objRow key = some r →
    r.acc ≠ .ro →
    r.commit ≠ .now →
    key.val ≠ okey 0x1010 3 ∧ key.val ≠ okey 0x8600 8 →
    s.admitted q ss key →
    b.all (· < 256) = true →
    bytesCheck key r b = (.ok, 0) →
    s.pendCheck q.session ss key (r.ty.decode b) = (.ok, 0) →
    s.op.state ≠ .sleep →
    (∃ u, exec (.write q key b) s = .next u ∧ u.answers q .ok ∧ s.entersPending u q ss key (r.ty.decode b))) ∧
  -- 11 R406, R451: WRITE of a command object
  (∀ (s : State) (q : Req) (n : Fin 256) (c : Fin 7),
    (exec (.write q (0x310008 + 256 * Fin.ofNat 16777216 n) [1]) s = exec (.taskArm q n) s ∧ exec (.write q 0x101002 [1]) s = exec (.opcommandRun q) s ∧
      exec (.write q 0x101002 [3]) s = exec (.opcommandSleep q) s ∧ exec (.write q 0x121005 [c.val]) s = exec (.applyCommand q [c.val]) s ∧
      exec (.write q 0x841007 [1]) s = exec (.prime q 0 [1]) s ∧ exec (.write q 0x140005 [1]) s = exec (.leaseTake q 0) s)) ∧
  -- 11 R424: SEG_READ at OFFSET 0
  (∀ (s : State) (q : Req) (ss : Session) (key : Fin 16777216) (len : Fin 65536),
    s.hears q ss →
    1 ≤ len.val ∧ len.val ≤ 1016 →
    s.readCheck key = .ok →
    (let d := (typeAt key).encode ((s.modSession q.session (fun x => { x with lastHeard := s.now })).objectValue q.session key)
    ∃ u, exec (.segRead q key 0 len) s = .next u ∧
      u.out = .answer q.session { rid := q.rid, code := .ok, value := some (.oct (bytesBE 4 0 ++ bytesBE 4 d.length ++ d.take len)) } :: s.out ∧
      (u.session? q.session).map (fun x => x.snapshots.find? (fun p => p.key == key.val)) = some (some { key := key, data := d, usedAt := s.now }))) ∧
  -- 11 R424: SEG_WRITE
  (∀ (s : State) (q : Req) (ss : Session) (key : Fin 16777216) (data : List Nat),
    s.hears q ss →
    s.admitted q ss key →
    key.val ≠ slotKey 0 5 ∧ key.val ≠ slotKey 1 5 ∧ key.val ≠ okey 0x8600 7 →
    1 ≤ data.length ∧ data.length ≤ 1020 →
    data.all (· < 256) = true →
    (∃ u, exec (.segWrite q key 0 false data) s = .next u ∧
      u.out = .answer q.session { rid := q.rid, code := .ok, value := some (.num data.length) } :: s.out ∧
      (u.session? q.session).map (·.segWrite) = some (some { key := key, next := data.length, data := data }))) ∧
  -- 11 R424: a snapshot expires
  (∀ (s : State) (n : Fin 9) (key : Fin 16777216) (x : Session),
    s.session? n = some x →
    (∃ u, exec (.snapshotExpiry n key) s = .next u ∧
      u.session? n = some { x with snapshots := x.snapshots.filter (fun p => p.key ≠ key.val ∨ s.now < p.usedAt + 10000000000) }))

/-- TAKE of a free lease and RELEASE of one's own change its holder and advance its epoch, which the answer carries. FENCE of a lease that no other session holds is done at once, of another's waits; an edge of FUSE_EN or WAKE begins the acknowledgement, and after 50 ms what it serves is fenced; without one in its window it has expired. A claim takes a free image record; enabling starts it. A good image waits for its boundary; one without is counted, and Watchdog of them trip it; a host-bound one is sent once a boundary. -/
def Obligations.LeasesAcknowledgementsAndImages : Prop :=
  -- 11 R431, R432: TAKE
  (∀ (s : State) (q : Req) (ss : Session) (l : Fin 256),
    s.hears q ss →
    s.admitted q ss (okey (0x1400 + l) 5) →
    mayTake ss.role l = true →
    l.val ≠ 0x40 ∧ l.val ≠ 0x41 →
    (s.lease l).holder = 0 →
    s.leaseBusy l = false →
    (∃ u, exec (.leaseTake q l) s = .next u ∧ u.out.head? = some (.answer q.session { rid := q.rid, code := .ok, value := some (.num (u.lease l).epoch) }) ∧ (u.lease l).holder = q.session ∧ (u.lease l).epoch = nextEpoch (s.lease l).epoch ∧
      ∀ k, k ≠ l.val → u.lease k = s.lease k)) ∧
  -- 11 R431, R432: RELEASE
  (∀ (s : State) (q : Req) (ss : Session) (l : Fin 256),
    s.hears q ss →
    s.admitted q ss (okey (0x1400 + l) 5) →
    (s.lease l).holder = q.session →
    s.leaseBusy l = false →
    q.session ≠ 0 →
    (∃ u, exec (.leaseRelease q l) s = .next u ∧ u.out.head? = some (.answer q.session { rid := q.rid, code := .ok, value := some (.num (u.lease l).epoch) }) ∧ (u.lease l).holder = 0 ∧ (u.lease l).epoch = nextEpoch (s.lease l).epoch ∧
      ∀ k, k ≠ l.val → u.lease k = s.lease k)) ∧
  -- 11 R435: FENCE
  (∀ (s : State) (q : Req) (ss : Session) (l : Fin 256),
    s.hears q ss →
    s.admitted q ss (okey (0x1400 + l) 5) →
    ss.role = .maintenance →
    s.leaseBusy l = false →
    (∃ u, exec (.leaseFence q l) s = .next u ∧ u.out.head? = some (.answer q.session { rid := q.rid, code := .ok, value := some (.num (u.lease l).epoch) }) ∧
      ((s.lease l).holder = 0 ∨ (s.lease l).holder = q.session → (u.lease l).fence = .done ∧ (u.lease l).holder = 0) ∧
      ((s.lease l).holder ≠ 0 → (s.lease l).holder ≠ q.session → u.lease l = { s.lease l with fence := .waitAck, fenceAt := s.now }))) ∧
  -- 11 R435: an acknowledgement begins
  (∀ (s : State),
    s.op.fuseEn = false →
    s.op.wakeLow = false →
    s.gafferRuns = true →
    ((∃ u, exec (.physicalAckBegin true) s = .next u ∧ u.op.fuseEn = true ∧ u.sess.ackFuse = some s.now ∧ u.sess.ackSeen = s.time.t64) ∧
      ∃ u, exec (.physicalAckBegin false) s = .next u ∧ u.op.wakeLow = true ∧ u.op.wakeFellAt = some s.now ∧ u.sess.ackWake = some s.now ∧
        u.sess.ackSeen = s.time.t64)) ∧
  -- 11 R435: it has lasted 50 ms
  (∀ (s : State) (b : Bool) (t l : Nat),
    (if b then s.sess.ackFuse else s.sess.ackWake) = some t →
    t + 50000000 ≤ s.now →
    leaseNumbers.filter (fun k => s.ackServes k t) = [l] →
    (∃ u, exec (.physicalAckDone b true) s = .next u ∧ (u.lease l).fence = .done ∧ (u.lease l).holder = 0 ∧
      (if b then u.sess.ackFuse else u.sess.ackWake) = none ∧ ∀ k, k ≠ l → u.lease k = s.lease k)) ∧
  -- 11 R435: the window ends
  (∀ (s : State) (l : Fin 256),
    (s.lease l).fence = .waitAck →
    (s.lease l).fenceAt + s.physWindow < s.now →
    s.sess.ackFuse = none →
    s.sess.ackWake = none →
    (∃ u, exec (.physAckWindowExpiry l) s = .next u ∧ u.lease l = { s.lease l with fence := .expired } ∧ ∀ k, k ≠ l.val → u.lease k = s.lease k)) ∧
  -- 11 R439: a claim
  (∀ (s : State) (q : Req) (ss : Session) (i : Fin 16),
    s.hears q ss →
    s.admitted q ss (okey (0xA000 + i) 2) →
    (s.imageRec i).owner = 0 →
    s.imagesOf q.session < 4 →
    q.session ≠ 0 →
    (∃ u, exec (.imageClaim q i [1]) s = .next u ∧ u.answers q .ok ∧ u.imageRec i = { owner := q.session } ∧ ∀ k, k ≠ i.val → u.imageRec k = s.imageRec k)) ∧
  -- 11 R440 to R442: Enable
  (∀ (s : State) (q : Req) (ss : Session) (i : Fin 16),
    s.hears q ss →
    s.admitted q ss (okey (0xA000 + i) 7) →
    (s.imageRec i).owner = q.session →
    (let x := s.imageRec i
    (x.enable = false → s.enableCheck q.session ss.role i = (.ok, 0) → ∃ u, exec (.imageEnable q i [1]) s = .next u ∧ u.answers q .ok ∧
        u.imageRec i = { x with enable := true, waiting := [], lastCycle := none, last := [], missed := 0, tripped := false, boundary := some (x.boundaryAt s.time.t64) }) ∧
      ∃ u, exec (.imageEnable q i [0]) s = .next u ∧ u.answers q .ok ∧ u.imageRec i = { x with enable := false, waiting := [] })) ∧
  -- 11 R444, R445, R447: an image comes
  (∀ (s : State) (i : Fin 16) (gen seq c : Nat) (b : List Nat),
    (s.imageRec i).enable = true →
    (s.imageRec i).toHost = false →
    gen = (s.imageRec i).gen ∨ gen = (s.imageRec i).gen + 1 →
    b.length = (s.imageRec i).payloadLen →
    (s.imageRec i).fresh seq = true →
    (s.imageRec i).lastCycle.all (fun x => decide (x < c)) = true →
    s.time.t64 + 10000 ≤ c →
    (s.imageRec i).boundaryAt c = c →
    (let x := s.imageRec i
    ∃ u, exec (.deviceBoundImage i x.owner gen seq c b true) s = .next u ∧
      u.imageRec i = { x with gen := gen, window := (u.imageRec i).window, waiting := x.waiting ++ [(c, c, b.map (· % 256))] } ∧
      u = { s with sess := { s.sess with images := u.sess.images } })) ∧
  -- 11 R445: its tag does not verify
  (∀ (s : State) (i : Fin 16) (n gen seq c : Nat) (b : List Nat),
    (s.imageRec i).enable = true →
    (s.imageRec i).toHost = false →
    (∃ u, exec (.deviceBoundImage i n gen seq c b false) s = .next u ∧
      u.imageRec i = { s.imageRec i with authFail := ((s.imageRec i).authFail + 1) % 2 ^ 32 })) ∧
  -- 11 R447, R448: a boundary without an image
  (∀ (s : State) (i : Fin 16),
    (s.imageRec i).enable = true →
    (s.imageRec i).toHost = false →
    (s.imageRec i).boundary ≠ some ((s.imageRec i).boundaryAt s.time.t64) →
    (s.imageRec i).waiting.all (fun w => decide ((s.imageRec i).boundaryAt s.time.t64 < w.1)) = true →
    (let x := s.imageRec i
    exec (.imageBoundary i) s = .next (s.modImage i (fun y => { y with boundary := some (x.boundaryAt s.time.t64), missed := y.missed + 1 })))) ∧
  -- 11 R447: an image takes effect
  (∀ (s : State) (i : Fin 16) (c : Nat) (b : List Nat),
    (s.imageRec i).enable = true →
    (s.imageRec i).toHost = false →
    (s.imageRec i).boundary ≠ some ((s.imageRec i).boundaryAt s.time.t64) →
    (s.imageRec i).waiting = [((s.imageRec i).boundaryAt s.time.t64, c, b)] →
    (s.imageRec i).lastCycle.all (fun x => decide (x < c)) = true →
    (s.imageRec i).entries = [] →
    (s.imageRec i).images < 2 ^ 32 - 1 →
    (let x := s.imageRec i
    ∃ u, exec (.imageBoundary i) s = .next u ∧ u.imageRec i = { x with boundary := some (x.boundaryAt s.time.t64), waiting := [], lastCycle := some c, last := b, missed := 0, tripped := false, images := x.images + 1 })) ∧
  -- 11 R445, R446: an image is sent
  (∀ (s : State) (i : Fin 16),
    (s.imageRec i).enable = true →
    (s.imageRec i).toHost = true →
    (s.imageRec i).boundary ≠ some ((s.imageRec i).boundaryAt s.time.t64) →
    s.time.t64 ≤ (s.imageRec i).boundaryAt s.time.t64 + 20000 →
    (let x := s.imageRec i
    let b := x.boundaryAt s.time.t64
    ∃ u, exec (.hostBoundSend i) s = .next u ∧ u.out = .image i (x.seq / 2 ^ 24 % 65536) (x.seq + 1) b (s.imagePayload x) :: s.out ∧
      u.imageRec i = { x with boundary := some b, gen := x.seq / 2 ^ 24 % 65536, seq := x.seq + 1, images := (x.images + 1) % 2 ^ 32 })) ∧
  -- 11 R448: the watchdog trips
  (∀ (s : State) (i : Fin 16),
    (s.imageRec i).enable = true →
    (s.imageRec i).toHost = false →
    (s.imageRec i).tripped = false →
    (s.imageRec i).watchdog ≤ (s.imageRec i).missed →
    (s.imageRec i).failZero = false →
    (∃ u, exec (.piWatchdog i) s = .next u ∧ u.imageRec i = { s.imageRec i with trips := ((s.imageRec i).trips + 1) % 2 ^ 32, tripped := true } ∧
      u.alarmOn 0x0906 i = true ∧ u.array = s.array))

/-- A ready tile whose LD, ST, LD2, LDR, STR, STM or LDM makes an access of 2, 4 or 8 bytes at an address that is no multiple of that size faults with ALIGN: the tile stands in context 15 with the fault in T.FAULT, and no byte of any tile's memory changes, nor of any cluster's memory outside the spill regions, in which R137 writes the header of the fault. -/
def Obligations.MisalignedAccessFaultsWithAlign : Prop :=
  -- 03 R109: LD
  (∀ (s : State) (t : Fin 1024) (ag : Bool) (sz : MemSize) (d : Reg) (pm : Bool),
    s.ready t →
    evenFor sz d = true →
    ((s.tile t).agu ag).legal = true →
    ((s.tile t).agu ag).address % memBytes sz ≠ 0 →
    (∃ u, exec (.ld t ag sz d pm {}) s = .next u ∧ (u.tile t).ctx = 15 ∧ (u.tile t).reason = .fault ∧ (u.tile t).faultValid = true ∧
      (u.tile t).faultCause = .align ∧ s.memoryStands u)) ∧
  -- 03 R109: ST
  (∀ (s : State) (t : Fin 1024) (ag : Bool) (sz : MemSize) (r : Reg) (pm : Bool),
    s.ready t →
    evenFor sz r = true →
    ((s.tile t).agu ag).legal = true →
    ((s.tile t).agu ag).address % memBytes sz ≠ 0 →
    (∃ u, exec (.st t ag sz r pm {}) s = .next u ∧ (u.tile t).ctx = 15 ∧ (u.tile t).reason = .fault ∧ (u.tile t).faultValid = true ∧
      (u.tile t).faultCause = .align ∧ s.memoryStands u)) ∧
  -- 03 R109: LDR and STR
  (∀ (s : State) (t : Fin 1024) (d a : Reg) (off : BitVec 8),
    s.ready t →
    ((((s.tile t).rd a).toNat + 4 * off.toInt) % 2 ^ 20).toNat % 4 ≠ 0 →
    ((∃ u, exec (.ldr t d a off {}) s = .next u ∧ (u.tile t).ctx = 15 ∧ (u.tile t).reason = .fault ∧ (u.tile t).faultValid = true ∧
      (u.tile t).faultCause = .align ∧ s.memoryStands u) ∧
    (∃ u, exec (.str t d a off {}) s = .next u ∧ (u.tile t).ctx = 15 ∧ (u.tile t).reason = .fault ∧ (u.tile t).faultValid = true ∧
      (u.tile t).faultCause = .align ∧ s.memoryStands u))) ∧
  -- 03 R109: LD2
  (∀ (s : State) (t : Fin 1024) (da db : Reg) (p0 p1 : Bool),
    s.ready t →
    da ≠ db →
    (s.tile t).agu0.legal = true →
    (s.tile t).agu1.legal = true →
    (s.tile t).agu0.address % 4 ≠ 0 ∨ (s.ownAccess t (s.tile t).agu0.address 4 ∧ (s.tile t).agu1.address % 4 ≠ 0) →
    (∃ u, exec (.ld2 t da db p0 p1 {}) s = .next u ∧ (u.tile t).ctx = 15 ∧ (u.tile t).reason = .fault ∧ (u.tile t).faultValid = true ∧
      (u.tile t).faultCause = .align ∧ s.memoryStands u)) ∧
  -- 03 R109: STM
  (∀ (s : State) (t : Fin 1024) (bk : Bool) (base : Reg) (pm : Bool) (m : BitVec 18),
    s.ready t →
    (MemOp.stm bk base pm).legal = true →
    (bk || ((s.tile t).agu (base.getLsbD 0)).legal) = true →
    m ≠ 0 →
    multBase (s.tile t) bk base % 8 ≠ 0 →
    (∃ u, exec (.stm t bk base pm { alu := encodeAlu (.mask m) }) s = .next u ∧ (u.tile t).ctx = 15 ∧ (u.tile t).reason = .fault ∧ (u.tile t).faultValid = true ∧
      (u.tile t).faultCause = .align ∧ s.memoryStands u)) ∧
  -- 03 R109: LDM
  (∀ (s : State) (t : Fin 1024) (bk : Bool) (base : Reg) (pm : Bool) (m : BitVec 18),
    s.ready t →
    (MemOp.ldm bk base pm).legal = true →
    (bk || ((s.tile t).agu (base.getLsbD 0)).legal) = true →
    m ≠ 0 →
    multBase (s.tile t) bk base % 8 ≠ 0 →
    (bk && (maskRegs m).contains base.toNat) = false →
    (∃ u, exec (.ldm t bk base pm { alu := encodeAlu (.mask m) }) s = .next u ∧ (u.tile t).ctx = 15 ∧ (u.tile t).reason = .fault ∧ (u.tile t).faultValid = true ∧
      (u.tile t).faultCause = .align ∧ s.memoryStands u))

/-- The MAC, ALU, memory and flow slots of zeros decode to the NOP of each, and so does the word of zeros. A ready tile that issues it does nothing for one cycle: no register, flag, accumulator, AGU or memory changes, the cycle count rises by one and the PC goes on. -/
def Obligations.ZeroSlotsAreNops : Prop :=
  -- 04 R144
  ((decodeMac 0 = some .nop ∧ decodeAlu 0 = some .nop ∧ decodeMem 0 = some .nop ∧ decodeFlow 0 = some .nop ∧
    decodeWord 0 = some ⟨.nop, .nop, .nop, .nop⟩ ∧ encodeWord ⟨.nop, .nop, .nop, .nop⟩ = 0)) ∧
  -- 04 R144
  (∀ (s : State) (t : Fin 1024),
    s.ready t →
    (let x := s.tile t
    exec (.nop t) s = .next (s.issue t 0) ∧
    s.onlyTile (s.issue t 0) t ∧ (∀ w, ((s.issue t 0).tile t).window w = x.window w) ∧
    (s.issue t 0).tile t = { x with
      win := ((s.issue t 0).tile t).win, pc := (repAdvance x.pc x.frames x.rep).1, rep := (repAdvance x.pc x.frames x.rep).2, cyc := x.cyc + 1
      busyBank := none, refused := ((s.issue t 0).tile t).refused, eccn := ((s.issue t 0).tile t).eccn
      eccSat := ((s.issue t 0).tile t).eccSat, rxHeld := none, trapping := none }))

/-- For every command and state, a step of the state with the command at the front of its queue is the command's effect on the state with the rest of the queue. With no command waiting 4 ns pass: on the device's clock and, while the timebase runs, on T64; where no offset is kept for R90 nothing else changes. That the tick stands in place of idling is the model's choice, notes/assumptions/6. -/
def Obligations.StepTakesTheFrontCommandOrTicks : Prop :=
  -- the queue
  (∀ (s : State) (c : Instr) (l : List Instr),
    (step { s with pending := c :: l } = exec c { s with pending := l })) ∧
  -- 02 R49: a tick
  (∀ (s : State),
    s.pending = [] →
    s.alarmOn 0x0503 0 = false →
    (step s = .next { s with now := s.now + 4, time := if s.timeRuns then { s.time with t64 := s.time.t64 + 4 } else s.time })) ∧
  -- no row of the table gives bits
  (∀ (s : State) (n w : Nat),
    (decodeTableWord n w = none ∧ s.withFetchWord n w = s))

/-- State.reset is the machine in RESET held by POWER_ON, the Gaffer not running, the safety state QUENCHED with every contact open, every tile in context 15 with slots 0 to 14 invalid, no task, every ring OFF, no angle channel homed, the timebase FREE, no session, every object at its default, the journal empty and no command waiting; and every memory lists nothing, which is its canonical form. The values that the specification does not give are the model's choices, notes/assumptions/1 and 3. -/
def Obligations.ResetLeavesTheBlock : Prop :=
  -- 01 R36, 03 R128, 10 R361, 14 R530
  ((let s := State.reset
    s.op.state = .reset ∧ s.gafferRuns = false ∧ s.armed = false ∧ (∀ k, (s.quench.contact k).conducts = false) ∧
    (∀ t, (s.tile t).ctx = 15 ∧ ∀ k, k < 15 → (s.tile t).slotValid k = false) ∧ (∀ n, (s.task n).state = .absent) ∧
    (∀ r, (s.ringAt r).state = .off) ∧ (∀ c, (s.angleCh c).homed = false) ∧ s.time.state = .free ∧
    s.sess.sessions = [] ∧ (∀ key r, objRow key = some r → s.val key = r.dflt) ∧ s.store.journal = [] ∧ s.pending = [] ∧ s.memoryCanonical))

/-- For every combination of MAC, ALU, memory and flow operations that each obey the field rules of their own form, with every operand at every value, decoding the 96 bits that they encode to gives those operations back: no bit of an encoding is dropped. Conversely what 96 bits decode to encodes to those bits and is legal: a bit that the encoding does not name is checked. -/
def Obligations.SlotsDecodeAsTheyEncode : Prop :=
  -- 04 R142, R145
  (∀ (w : TileWord),
    w.legal = true →
    (decodeWord (encodeWord w) = some w)) ∧
  -- 04 R145
  (∀ (x : BitVec 96) (w : TileWord),
    decodeWord x = some w →
    (encodeWord w = x ∧ w.legal = true))

/-- Whatever command a step takes, and in every state, a bit that stands in copy A or in copy B of a fuse word stands there after the step: an anti-fuse bit changes only from 0 to 1, and never back. -/
def Obligations.FuseBitsNeverClear : Prop :=
  -- 12 R452
  (∀ (s u : State) (a : Nat),
    step s = .next u →
    (tget 0 s.fuse.copyA a &&& ~~~(tget 0 u.fuse.copyA a) = 0 ∧ tget 0 s.fuse.copyB a &&& ~~~(tget 0 u.fuse.copyB a) = 0))
end

