-- ==== Sys2Proof/Laws/Decode.lean ====
section
/-!
SUPPORT. Reading a field or a flag out of joined fields, and the slots of a joined word.
-/

namespace Sys2Proof

/-- A field that lies above the low part. -/
theorem field_above {n m : Nat} (x : BitVec n) (y : BitVec m) (lo w : Nat) (h : m ≤ lo) :
    field (x ++ y) lo w = field x (lo - m) w := by
  unfold field
  apply BitVec.eq_of_getLsbD_eq
  intro i hi
  simp only [BitVec.getLsbD_extractLsb', BitVec.getLsbD_append, hi]
  rw [if_neg (by omega)]
  congr 2; omega

/-- A field that lies in the low part. -/
theorem field_within {n m : Nat} (x : BitVec n) (y : BitVec m) (lo w : Nat) (h : lo + w ≤ m) :
    field (x ++ y) lo w = field y lo w := by
  unfold field
  apply BitVec.eq_of_getLsbD_eq
  intro i hi
  simp only [BitVec.getLsbD_extractLsb', BitVec.getLsbD_append, hi]
  rw [if_pos (by omega)]

/-- A field that is the whole. -/
@[simp] theorem field_whole {n : Nat} (x : BitVec n) : field x 0 n = x := by
  unfold field
  apply BitVec.eq_of_getLsbD_eq
  intro i hi
  simp [hi]

/-- A flag that lies above the low part. -/
theorem flag_above {n m : Nat} (x : BitVec n) (y : BitVec m) (i : Nat) (h : m ≤ i) :
    flag (x ++ y) i = flag x (i - m) := by
  unfold flag
  rw [BitVec.getLsbD_append, if_neg (by omega)]

/-- A flag that lies in the low part. -/
theorem flag_within {n m : Nat} (x : BitVec n) (y : BitVec m) (i : Nat) (h : i < m) :
    flag (x ++ y) i = flag y i := by
  unfold flag
  rw [BitVec.getLsbD_append, if_pos h]

@[simp] theorem flag_bit (b : Bool) : flag (bit b) 0 = b := by cases b <;> rfl

/-- The slots of a joined word are the slots joined (04 R142). -/
theorem decodeWord_join (m : BitVec 28) (a : BitVec 24) (d : BitVec 20) (f : BitVec 24) :
    decodeWord (joinWord m a d f) =
      match decodeMac m, decodeAlu a, decodeMem d, decodeFlow f with
      | some m, some a, some d, some f => some ⟨m, a, d, f⟩
      | _, _, _, _ => none := by
  have h1 : field (joinWord m a d f) 68 28 = m := by
    unfold joinWord
    rw [field_above _ _ _ _ (by omega), field_above _ _ _ _ (by omega), field_above _ _ _ _ (by omega)]
    exact field_whole m
  have h2 : field (joinWord m a d f) 44 24 = a := by
    unfold joinWord
    rw [field_above _ _ _ _ (by omega), field_above _ _ _ _ (by omega), field_within _ _ _ _ (by omega)]
    exact field_whole a
  have h3 : field (joinWord m a d f) 24 20 = d := by
    unfold joinWord
    rw [field_above _ _ _ _ (by omega), field_within _ _ _ _ (by omega)]
    exact field_whole d
  have h4 : field (joinWord m a d f) 0 24 = f := by
    unfold joinWord
    rw [field_within _ _ _ _ (by omega)]
    exact field_whole f
  unfold decodeWord
  rw [h1, h2, h3, h4] <;> rfl

end Sys2Proof
end

