-- ==== Sys2Proof/Laws/Tables.lean ====
section
/-!
SUPPORT. The laws of the sparse tables: a read after a write, and that every write keeps the canonical
form.
-/

namespace Sys2Proof.Machine

variable {α : Type}

@[simp] theorem tget_nil (d : α) (k : Nat) : tget d [] k = d := rfl

/-- A read of the key just listed gives its value. -/
@[simp] theorem tget_tput_self (d : α) (k : Nat) (v : α) (t : Tab α) : tget d (tput k v t) k = v := by
  induction t with
  | nil => simp [tput, tget]
  | cons e t ih =>
    obtain ⟨j, u⟩ := e
    unfold tput
    split
    · simp [tget]
    · split
      · simp [tget]
      · simp only [tget]; rw [if_neg (fun h => by omega)]; exact ih

/-- Listing one key leaves the read of every other key alone. -/
theorem tget_tput_ne (d : α) {k j : Nat} (h : k ≠ j) (v : α) (t : Tab α) :
    tget d (tput k v t) j = tget d t j := by
  induction t with
  | nil => simp [tput, tget, h]
  | cons e t ih =>
    obtain ⟨i, u⟩ := e
    unfold tput
    split
    · simp [tget, h]
    · split
      · next hk => subst hk; simp [tget, h]
      · simp only [tget, ih]

/-- A read of the key just removed gives the default. -/
@[simp] theorem tget_tdel_self (d : α) (k : Nat) (t : Tab α) : tget d (tdel k t) k = d := by
  induction t with
  | nil => rfl
  | cons e t ih =>
    obtain ⟨i, u⟩ := e
    simp only [tdel, ne_eq, decide_not] at ih ⊢
    by_cases h : i = k <;> simp [h, tget, ih]

/-- Removing one key leaves the read of every other key alone. -/
theorem tget_tdel_ne (d : α) {k j : Nat} (h : k ≠ j) (t : Tab α) : tget d (tdel k t) j = tget d t j := by
  induction t with
  | nil => rfl
  | cons e t ih =>
    obtain ⟨i, u⟩ := e
    simp only [tdel, ne_eq, decide_not] at ih ⊢
    by_cases hi : i = k
    · subst hi; simp [tget, h, ih]
    · simp [hi, tget, ih]

theorem mem_tput {k : Nat} {v : α} {t : Tab α} {p : Nat × α} (h : p ∈ tput k v t) : p = (k, v) ∨ p ∈ t := by
  induction t with
  | nil => simpa [tput] using h
  | cons e t ih =>
    obtain ⟨j, u⟩ := e
    unfold tput at h
    split at h
    · simpa using h
    · split at h
      · rcases List.mem_cons.1 h with h | h
        · exact .inl h
        · exact .inr (List.mem_cons_of_mem _ h)
      · rcases List.mem_cons.1 h with h | h
        · exact .inr (h ▸ List.mem_cons_self)
        · exact (ih h).imp id (List.mem_cons_of_mem _)

theorem tput_rising {k : Nat} {v : α} {t : Tab α} (h : t.Pairwise (fun p q => p.1 < q.1)) :
    (tput k v t).Pairwise (fun p q => p.1 < q.1) := by
  induction t with
  | nil => simp [tput]
  | cons e t ih =>
    obtain ⟨j, u⟩ := e
    obtain ⟨h1, h2⟩ := List.pairwise_cons.1 h
    unfold tput
    split
    · next hk =>
      refine List.pairwise_cons.2 ⟨?_, h⟩
      intro p hp
      rcases List.mem_cons.1 hp with rfl | hp
      · exact hk
      · exact Nat.lt_trans hk (h1 p hp)
    · split
      · next hk => subst hk; exact List.pairwise_cons.2 ⟨h1, h2⟩
      · refine List.pairwise_cons.2 ⟨?_, ih h2⟩
        intro p hp
        rcases mem_tput hp with rfl | hp
        · show j < k; omega
        · exact h1 p hp

variable [DecidableEq α]

/-- A read of the key just set gives its value. -/
@[simp] theorem tget_tset_self (d : α) (t : Tab α) (k : Nat) (v : α) : tget d (tset d t k v) k = v := by
  unfold tset; split
  · next h => simp [h]
  · simp

/-- Setting one key leaves the read of every other key alone. -/
theorem tget_tset_ne (d : α) (t : Tab α) {k j : Nat} (h : k ≠ j) (v : α) :
    tget d (tset d t k v) j = tget d t j := by
  unfold tset; split
  · exact tget_tdel_ne d h t
  · exact tget_tput_ne d h v t

/-- A read after a set, at any key. -/
theorem tget_tset (d : α) (t : Tab α) (k j : Nat) (v : α) :
    tget d (tset d t k v) j = if k = j then v else tget d t j := by
  split
  · next h => subst h; simp
  · next h => exact tget_tset_ne d t h v

/-- A read of the key just changed gives the changed value. -/
@[simp] theorem tget_tmod_self (d : α) (t : Tab α) (k : Nat) (f : α → α) :
    tget d (tmod d t k f) k = f (tget d t k) := by simp [tmod]

/-- Changing one key leaves the read of every other key alone. -/
theorem tget_tmod_ne (d : α) (t : Tab α) {k j : Nat} (h : k ≠ j) (f : α → α) :
    tget d (tmod d t k f) j = tget d t j := tget_tset_ne d t h _

/-- A read after a change, at any key. -/
theorem tget_tmod (d : α) (t : Tab α) (k j : Nat) (f : α → α) :
    tget d (tmod d t k f) j = if k = j then f (tget d t k) else tget d t j := tget_tset d t k j _

/-- The canonical form, said of the whole list at once. -/
theorem twf_iff (d : α) (t : Tab α) :
    twf d t = true ↔ t.Pairwise (fun p q => p.1 < q.1) ∧ ∀ p ∈ t, p.2 ≠ d := by
  induction t with
  | nil => simp [twf]
  | cons e t ih =>
    obtain ⟨j, v⟩ := e
    cases t with
    | nil => simp [twf]
    | cons g t =>
      obtain ⟨k, u⟩ := g
      simp only [twf, Bool.and_eq_true, decide_eq_true_eq, ih, List.pairwise_cons, List.mem_cons,
        forall_eq_or_imp]
      constructor
      · rintro ⟨⟨h1, h2⟩, ⟨h3, h4⟩, h5, h6⟩
        exact ⟨⟨⟨h2, fun p hp => Nat.lt_trans h2 (h3 p hp)⟩, h3, h4⟩, h1, h5, h6⟩
      · rintro ⟨⟨⟨h2, _⟩, h3, h4⟩, h1, h5, h6⟩
        exact ⟨⟨h1, h2⟩, ⟨h3, h4⟩, h5, h6⟩

/-- Setting a key keeps the canonical form. -/
theorem twf_tset (d : α) (t : Tab α) (k : Nat) (v : α) (h : twf d t = true) : twf d (tset d t k v) = true := by
  rw [twf_iff] at h ⊢
  unfold tset
  split
  · exact ⟨h.1.filter _, fun p hp => h.2 p (List.mem_filter.1 hp).1⟩
  · next hv =>
    refine ⟨tput_rising h.1, fun p hp => ?_⟩
    rcases mem_tput hp with rfl | hp
    · exact hv
    · exact h.2 p hp

/-- Changing a key keeps the canonical form. -/
theorem twf_tmod (d : α) (t : Tab α) (k : Nat) (f : α → α) (h : twf d t = true) : twf d (tmod d t k f) = true :=
  twf_tset d t k _ h

/-- Applying a function to every listed value keeps the canonical form. -/
theorem twf_tmap (d : α) (f : Nat → α → α) (t : Tab α) (h : twf d t = true) : twf d (tmap d f t) = true := by
  rw [twf_iff] at h ⊢
  have keys : ∀ (t : Tab α) (p), p ∈ tmap d f t → p.2 ≠ d ∧ ∃ q ∈ t, q.1 = p.1 := by
    intro t
    induction t with
    | nil => simp [tmap]
    | cons e t ih =>
      obtain ⟨j, u⟩ := e
      intro p hp
      simp only [tmap] at hp
      split at hp
      · obtain ⟨h1, q, hq, h2⟩ := ih p hp
        exact ⟨h1, q, List.mem_cons_of_mem _ hq, h2⟩
      · next hv =>
        rcases List.mem_cons.1 hp with rfl | hp
        · exact ⟨hv, (j, u), List.mem_cons_self, rfl⟩
        · obtain ⟨h1, q, hq, h2⟩ := ih p hp
          exact ⟨h1, q, List.mem_cons_of_mem _ hq, h2⟩
  refine ⟨?_, fun p hp => (keys t p hp).1⟩
  have rise := h.1
  clear h
  induction t with
  | nil => simp [tmap]
  | cons e t ih =>
    obtain ⟨j, u⟩ := e
    obtain ⟨h1, h2⟩ := List.pairwise_cons.1 rise
    simp only [tmap]
    split
    · exact ih h2
    · refine List.pairwise_cons.2 ⟨?_, ih h2⟩
      intro p hp
      obtain ⟨_, q, hq, e⟩ := keys t p hp
      show j < p.1
      rw [← e]; exact h1 q hq

end Sys2Proof.Machine
end

