-- ==== Sys2Proof/Laws/Memory.lean ====
section
/-!
SUPPORT. The laws of the addressed memories: what a write of bytes leaves at every address, and that it keeps
the canonical form.
-/

namespace Sys2Proof.Machine

/-- Memory that lists nothing has the canonical form. -/
theorem Memory.wf_nil : Memory.wf [] = true := rfl

/-- Writing bytes keeps the canonical form. -/
theorem Memory.wf_writeBytes (m : List Host.Cell) (a n v : Nat) (h : Memory.wf m = true) :
    Memory.wf (writeBytes m a n v) = true := by
  induction n generalizing m a v with
  | zero => exact h
  | succ n ih => exact ih _ _ _ (twf_tset 0 m a _ h)

/-- The byte at every address after a write of bytes. -/
theorem tget_writeBytes (m : List (Nat × Byte)) (a n v j : Nat) :
    tget 0 (writeBytes m a n v) j =
      if a ≤ j ∧ j < a + n then BitVec.ofNat 8 (v / 256 ^ (j - a)) else tget 0 m j := by
  induction n generalizing m a v with
  | zero => rw [if_neg (by omega)]; rfl
  | succ n ih =>
    simp only [writeBytes, ih, tget_tset]
    by_cases h1 : a + 1 ≤ j ∧ j < a + 1 + n
    · rw [if_pos h1, if_pos (by omega)]
      obtain ⟨k, rfl⟩ : ∃ k, j = a + 1 + k := ⟨j - (a + 1), by omega⟩
      rw [show a + 1 + k - (a + 1) = k by omega, show a + 1 + k - a = k + 1 by omega, Nat.pow_succ, Nat.mul_comm,
        Nat.div_div_eq_div_mul]
    · rw [if_neg h1]
      by_cases h2 : a = j
      · subst h2; simp
      · rw [if_neg h2, if_neg (by omega)]

/-- What a read of bytes gives, by the bytes it reads. -/
theorem readBytes_congr {m m' : List (Nat × Byte)} {a n : Nat} (h : ∀ i, i < n → tget 0 m (a + i) = tget 0 m' (a + i)) :
    readBytes m a n = readBytes m' a n := by
  unfold readBytes
  congr 1
  apply List.map_congr_left
  intro i hi
  rw [h i (List.mem_range.1 hi)]

/-- A write leaves a read of other bytes alone. -/
theorem readBytes_writeBytes_apart (m : List (Nat × Byte)) (a n v b k : Nat) (h : b + k ≤ a ∨ a + n ≤ b) :
    readBytes (writeBytes m a n v) b k = readBytes m b k := by
  apply readBytes_congr
  intro i hi
  rw [tget_writeBytes, if_neg (by omega)]

theorem ofBytesLE_digits (n v : Nat) : ofBytesLE ((List.range n).map (fun i => v / 256 ^ i % 256)) = v % 256 ^ n := by
  induction n generalizing v with
  | zero => simp [ofBytesLE, Nat.mod_one]
  | succ n ih =>
    rw [List.range_succ_eq_map]
    simp only [List.map_cons, List.map_map, ofBytesLE, Nat.pow_zero, Nat.div_one]
    have : (List.range n).map ((fun i => v / 256 ^ i % 256) ∘ Nat.succ) =
        (List.range n).map (fun i => (v / 256) / 256 ^ i % 256) := by
      apply List.map_congr_left
      intro i _
      simp only [Function.comp, Nat.pow_succ, Nat.div_div_eq_div_mul]
      rw [Nat.mul_comm]
    rw [this, ih, Nat.pow_succ, Nat.mul_comm (256 ^ n), Nat.mod_mul]

/-- A read of the bytes just written gives the value's low bytes. -/
theorem readBytes_writeBytes (m : List (Nat × Byte)) (a n v : Nat) :
    readBytes (writeBytes m a n v) a n = v % 256 ^ n := by
  rw [← ofBytesLE_digits]
  unfold readBytes
  congr 1
  apply List.map_congr_left
  intro i hi
  have := List.mem_range.1 hi
  rw [tget_writeBytes, if_pos (by omega), BitVec.toNat_ofNat, show a + i - a = i by omega]

end Sys2Proof.Machine
end

