-- ==== Sys2Proof/Laws/State.lean ====
section
/-!
SUPPORT. What each named update of State leaves alone and what it changes, field by field.
-/

namespace Sys2Proof.Machine

variable (s : State)

/-! ### modTile -/

@[simp] theorem modTile_now (t : Nat) (f : Tile → Tile) : (s.modTile t f).now = s.now := rfl
@[simp] theorem modTile_op (t : Nat) (f : Tile → Tile) : (s.modTile t f).op = s.op := rfl
@[simp] theorem modTile_time (t : Nat) (f : Tile → Tile) : (s.modTile t f).time = s.time := rfl
@[simp] theorem modTile_angle (t : Nat) (f : Tile → Tile) : (s.modTile t f).angle = s.angle := rfl
@[simp] theorem modTile_power (t : Nat) (f : Tile → Tile) : (s.modTile t f).power = s.power := rfl
@[simp] theorem modTile_log (t : Nat) (f : Tile → Tile) : (s.modTile t f).log = s.log := rfl
@[simp] theorem modTile_sess (t : Nat) (f : Tile → Tile) : (s.modTile t f).sess = s.sess := rfl
@[simp] theorem modTile_net (t : Nat) (f : Tile → Tile) : (s.modTile t f).net = s.net := rfl
@[simp] theorem modTile_blank (t : Nat) (f : Tile → Tile) : (s.modTile t f).blank = s.blank := rfl
@[simp] theorem modTile_ring (t : Nat) (f : Tile → Tile) : (s.modTile t f).ring = s.ring := rfl
@[simp] theorem modTile_quench (t : Nat) (f : Tile → Tile) : (s.modTile t f).quench = s.quench := rfl
@[simp] theorem modTile_fuse (t : Nat) (f : Tile → Tile) : (s.modTile t f).fuse = s.fuse := rfl
@[simp] theorem modTile_store (t : Nat) (f : Tile → Tile) : (s.modTile t f).store = s.store := rfl
@[simp] theorem modTile_energy (t : Nat) (f : Tile → Tile) : (s.modTile t f).energy = s.energy := rfl
@[simp] theorem modTile_io (t : Nat) (f : Tile → Tile) : (s.modTile t f).io = s.io := rfl
@[simp] theorem modTile_out (t : Nat) (f : Tile → Tile) : (s.modTile t f).out = s.out := rfl
@[simp] theorem modTile_free (t : Nat) (f : Tile → Tile) : (s.modTile t f).free = s.free := rfl
@[simp] theorem modTile_pending (t : Nat) (f : Tile → Tile) : (s.modTile t f).pending = s.pending := rfl

/-! ### modCluster -/

@[simp] theorem modCluster_now (c : Nat) (f : Cluster → Cluster) : (s.modCluster c f).now = s.now := rfl
@[simp] theorem modCluster_op (c : Nat) (f : Cluster → Cluster) : (s.modCluster c f).op = s.op := rfl
@[simp] theorem modCluster_time (c : Nat) (f : Cluster → Cluster) : (s.modCluster c f).time = s.time := rfl
@[simp] theorem modCluster_angle (c : Nat) (f : Cluster → Cluster) : (s.modCluster c f).angle = s.angle := rfl
@[simp] theorem modCluster_power (c : Nat) (f : Cluster → Cluster) : (s.modCluster c f).power = s.power := rfl
@[simp] theorem modCluster_log (c : Nat) (f : Cluster → Cluster) : (s.modCluster c f).log = s.log := rfl
@[simp] theorem modCluster_sess (c : Nat) (f : Cluster → Cluster) : (s.modCluster c f).sess = s.sess := rfl
@[simp] theorem modCluster_net (c : Nat) (f : Cluster → Cluster) : (s.modCluster c f).net = s.net := rfl
@[simp] theorem modCluster_blank (c : Nat) (f : Cluster → Cluster) : (s.modCluster c f).blank = s.blank := rfl
@[simp] theorem modCluster_ring (c : Nat) (f : Cluster → Cluster) : (s.modCluster c f).ring = s.ring := rfl
@[simp] theorem modCluster_quench (c : Nat) (f : Cluster → Cluster) : (s.modCluster c f).quench = s.quench := rfl
@[simp] theorem modCluster_fuse (c : Nat) (f : Cluster → Cluster) : (s.modCluster c f).fuse = s.fuse := rfl
@[simp] theorem modCluster_store (c : Nat) (f : Cluster → Cluster) : (s.modCluster c f).store = s.store := rfl
@[simp] theorem modCluster_energy (c : Nat) (f : Cluster → Cluster) : (s.modCluster c f).energy = s.energy := rfl
@[simp] theorem modCluster_io (c : Nat) (f : Cluster → Cluster) : (s.modCluster c f).io = s.io := rfl
@[simp] theorem modCluster_out (c : Nat) (f : Cluster → Cluster) : (s.modCluster c f).out = s.out := rfl
@[simp] theorem modCluster_free (c : Nat) (f : Cluster → Cluster) : (s.modCluster c f).free = s.free := rfl
@[simp] theorem modCluster_pending (c : Nat) (f : Cluster → Cluster) : (s.modCluster c f).pending = s.pending := rfl

/-! ### modTask -/

@[simp] theorem modTask_now (n : Nat) (f : Task → Task) : (s.modTask n f).now = s.now := rfl
@[simp] theorem modTask_op (n : Nat) (f : Task → Task) : (s.modTask n f).op = s.op := rfl
@[simp] theorem modTask_time (n : Nat) (f : Task → Task) : (s.modTask n f).time = s.time := rfl
@[simp] theorem modTask_angle (n : Nat) (f : Task → Task) : (s.modTask n f).angle = s.angle := rfl
@[simp] theorem modTask_power (n : Nat) (f : Task → Task) : (s.modTask n f).power = s.power := rfl
@[simp] theorem modTask_log (n : Nat) (f : Task → Task) : (s.modTask n f).log = s.log := rfl
@[simp] theorem modTask_sess (n : Nat) (f : Task → Task) : (s.modTask n f).sess = s.sess := rfl
@[simp] theorem modTask_net (n : Nat) (f : Task → Task) : (s.modTask n f).net = s.net := rfl
@[simp] theorem modTask_blank (n : Nat) (f : Task → Task) : (s.modTask n f).blank = s.blank := rfl
@[simp] theorem modTask_ring (n : Nat) (f : Task → Task) : (s.modTask n f).ring = s.ring := rfl
@[simp] theorem modTask_quench (n : Nat) (f : Task → Task) : (s.modTask n f).quench = s.quench := rfl
@[simp] theorem modTask_fuse (n : Nat) (f : Task → Task) : (s.modTask n f).fuse = s.fuse := rfl
@[simp] theorem modTask_store (n : Nat) (f : Task → Task) : (s.modTask n f).store = s.store := rfl
@[simp] theorem modTask_energy (n : Nat) (f : Task → Task) : (s.modTask n f).energy = s.energy := rfl
@[simp] theorem modTask_io (n : Nat) (f : Task → Task) : (s.modTask n f).io = s.io := rfl
@[simp] theorem modTask_out (n : Nat) (f : Task → Task) : (s.modTask n f).out = s.out := rfl
@[simp] theorem modTask_free (n : Nat) (f : Task → Task) : (s.modTask n f).free = s.free := rfl
@[simp] theorem modTask_pending (n : Nat) (f : Task → Task) : (s.modTask n f).pending = s.pending := rfl

/-! ### modBridge -/

@[simp] theorem modBridge_now (k : Nat) (f : Bridge → Bridge) : (s.modBridge k f).now = s.now := rfl
@[simp] theorem modBridge_op (k : Nat) (f : Bridge → Bridge) : (s.modBridge k f).op = s.op := rfl
@[simp] theorem modBridge_time (k : Nat) (f : Bridge → Bridge) : (s.modBridge k f).time = s.time := rfl
@[simp] theorem modBridge_angle (k : Nat) (f : Bridge → Bridge) : (s.modBridge k f).angle = s.angle := rfl
@[simp] theorem modBridge_power (k : Nat) (f : Bridge → Bridge) : (s.modBridge k f).power = s.power := rfl
@[simp] theorem modBridge_log (k : Nat) (f : Bridge → Bridge) : (s.modBridge k f).log = s.log := rfl
@[simp] theorem modBridge_sess (k : Nat) (f : Bridge → Bridge) : (s.modBridge k f).sess = s.sess := rfl
@[simp] theorem modBridge_net (k : Nat) (f : Bridge → Bridge) : (s.modBridge k f).net = s.net := rfl
@[simp] theorem modBridge_blank (k : Nat) (f : Bridge → Bridge) : (s.modBridge k f).blank = s.blank := rfl
@[simp] theorem modBridge_ring (k : Nat) (f : Bridge → Bridge) : (s.modBridge k f).ring = s.ring := rfl
@[simp] theorem modBridge_quench (k : Nat) (f : Bridge → Bridge) : (s.modBridge k f).quench = s.quench := rfl
@[simp] theorem modBridge_fuse (k : Nat) (f : Bridge → Bridge) : (s.modBridge k f).fuse = s.fuse := rfl
@[simp] theorem modBridge_store (k : Nat) (f : Bridge → Bridge) : (s.modBridge k f).store = s.store := rfl
@[simp] theorem modBridge_energy (k : Nat) (f : Bridge → Bridge) : (s.modBridge k f).energy = s.energy := rfl
@[simp] theorem modBridge_io (k : Nat) (f : Bridge → Bridge) : (s.modBridge k f).io = s.io := rfl
@[simp] theorem modBridge_out (k : Nat) (f : Bridge → Bridge) : (s.modBridge k f).out = s.out := rfl
@[simp] theorem modBridge_free (k : Nat) (f : Bridge → Bridge) : (s.modBridge k f).free = s.free := rfl
@[simp] theorem modBridge_pending (k : Nat) (f : Bridge → Bridge) : (s.modBridge k f).pending = s.pending := rfl

/-! ### modAngle -/

@[simp] theorem modAngle_now (c : Nat) (f : AngleChannel → AngleChannel) : (s.modAngle c f).now = s.now := rfl
@[simp] theorem modAngle_op (c : Nat) (f : AngleChannel → AngleChannel) : (s.modAngle c f).op = s.op := rfl
@[simp] theorem modAngle_time (c : Nat) (f : AngleChannel → AngleChannel) : (s.modAngle c f).time = s.time := rfl
@[simp] theorem modAngle_power (c : Nat) (f : AngleChannel → AngleChannel) : (s.modAngle c f).power = s.power := rfl
@[simp] theorem modAngle_log (c : Nat) (f : AngleChannel → AngleChannel) : (s.modAngle c f).log = s.log := rfl
@[simp] theorem modAngle_sess (c : Nat) (f : AngleChannel → AngleChannel) : (s.modAngle c f).sess = s.sess := rfl
@[simp] theorem modAngle_array (c : Nat) (f : AngleChannel → AngleChannel) : (s.modAngle c f).array = s.array := rfl
@[simp] theorem modAngle_net (c : Nat) (f : AngleChannel → AngleChannel) : (s.modAngle c f).net = s.net := rfl
@[simp] theorem modAngle_blank (c : Nat) (f : AngleChannel → AngleChannel) : (s.modAngle c f).blank = s.blank := rfl
@[simp] theorem modAngle_ring (c : Nat) (f : AngleChannel → AngleChannel) : (s.modAngle c f).ring = s.ring := rfl
@[simp] theorem modAngle_quench (c : Nat) (f : AngleChannel → AngleChannel) : (s.modAngle c f).quench = s.quench := rfl
@[simp] theorem modAngle_fuse (c : Nat) (f : AngleChannel → AngleChannel) : (s.modAngle c f).fuse = s.fuse := rfl
@[simp] theorem modAngle_store (c : Nat) (f : AngleChannel → AngleChannel) : (s.modAngle c f).store = s.store := rfl
@[simp] theorem modAngle_energy (c : Nat) (f : AngleChannel → AngleChannel) : (s.modAngle c f).energy = s.energy := rfl
@[simp] theorem modAngle_io (c : Nat) (f : AngleChannel → AngleChannel) : (s.modAngle c f).io = s.io := rfl
@[simp] theorem modAngle_out (c : Nat) (f : AngleChannel → AngleChannel) : (s.modAngle c f).out = s.out := rfl
@[simp] theorem modAngle_free (c : Nat) (f : AngleChannel → AngleChannel) : (s.modAngle c f).free = s.free := rfl
@[simp] theorem modAngle_pending (c : Nat) (f : AngleChannel → AngleChannel) : (s.modAngle c f).pending = s.pending := rfl

/-! ### modApply -/

@[simp] theorem modApply_now (j : Nat) (f : Apply → Apply) : (s.modApply j f).now = s.now := rfl
@[simp] theorem modApply_op (j : Nat) (f : Apply → Apply) : (s.modApply j f).op = s.op := rfl
@[simp] theorem modApply_time (j : Nat) (f : Apply → Apply) : (s.modApply j f).time = s.time := rfl
@[simp] theorem modApply_angle (j : Nat) (f : Apply → Apply) : (s.modApply j f).angle = s.angle := rfl
@[simp] theorem modApply_power (j : Nat) (f : Apply → Apply) : (s.modApply j f).power = s.power := rfl
@[simp] theorem modApply_log (j : Nat) (f : Apply → Apply) : (s.modApply j f).log = s.log := rfl
@[simp] theorem modApply_array (j : Nat) (f : Apply → Apply) : (s.modApply j f).array = s.array := rfl
@[simp] theorem modApply_net (j : Nat) (f : Apply → Apply) : (s.modApply j f).net = s.net := rfl
@[simp] theorem modApply_blank (j : Nat) (f : Apply → Apply) : (s.modApply j f).blank = s.blank := rfl
@[simp] theorem modApply_ring (j : Nat) (f : Apply → Apply) : (s.modApply j f).ring = s.ring := rfl
@[simp] theorem modApply_quench (j : Nat) (f : Apply → Apply) : (s.modApply j f).quench = s.quench := rfl
@[simp] theorem modApply_fuse (j : Nat) (f : Apply → Apply) : (s.modApply j f).fuse = s.fuse := rfl
@[simp] theorem modApply_store (j : Nat) (f : Apply → Apply) : (s.modApply j f).store = s.store := rfl
@[simp] theorem modApply_energy (j : Nat) (f : Apply → Apply) : (s.modApply j f).energy = s.energy := rfl
@[simp] theorem modApply_io (j : Nat) (f : Apply → Apply) : (s.modApply j f).io = s.io := rfl
@[simp] theorem modApply_out (j : Nat) (f : Apply → Apply) : (s.modApply j f).out = s.out := rfl
@[simp] theorem modApply_free (j : Nat) (f : Apply → Apply) : (s.modApply j f).free = s.free := rfl
@[simp] theorem modApply_pending (j : Nat) (f : Apply → Apply) : (s.modApply j f).pending = s.pending := rfl

/-! ### modSlot -/

@[simp] theorem modSlot_now (k : Nat) (f : StageSlot → StageSlot) : (s.modSlot k f).now = s.now := rfl
@[simp] theorem modSlot_op (k : Nat) (f : StageSlot → StageSlot) : (s.modSlot k f).op = s.op := rfl
@[simp] theorem modSlot_time (k : Nat) (f : StageSlot → StageSlot) : (s.modSlot k f).time = s.time := rfl
@[simp] theorem modSlot_angle (k : Nat) (f : StageSlot → StageSlot) : (s.modSlot k f).angle = s.angle := rfl
@[simp] theorem modSlot_power (k : Nat) (f : StageSlot → StageSlot) : (s.modSlot k f).power = s.power := rfl
@[simp] theorem modSlot_log (k : Nat) (f : StageSlot → StageSlot) : (s.modSlot k f).log = s.log := rfl
@[simp] theorem modSlot_sess (k : Nat) (f : StageSlot → StageSlot) : (s.modSlot k f).sess = s.sess := rfl
@[simp] theorem modSlot_array (k : Nat) (f : StageSlot → StageSlot) : (s.modSlot k f).array = s.array := rfl
@[simp] theorem modSlot_net (k : Nat) (f : StageSlot → StageSlot) : (s.modSlot k f).net = s.net := rfl
@[simp] theorem modSlot_ring (k : Nat) (f : StageSlot → StageSlot) : (s.modSlot k f).ring = s.ring := rfl
@[simp] theorem modSlot_quench (k : Nat) (f : StageSlot → StageSlot) : (s.modSlot k f).quench = s.quench := rfl
@[simp] theorem modSlot_fuse (k : Nat) (f : StageSlot → StageSlot) : (s.modSlot k f).fuse = s.fuse := rfl
@[simp] theorem modSlot_store (k : Nat) (f : StageSlot → StageSlot) : (s.modSlot k f).store = s.store := rfl
@[simp] theorem modSlot_energy (k : Nat) (f : StageSlot → StageSlot) : (s.modSlot k f).energy = s.energy := rfl
@[simp] theorem modSlot_io (k : Nat) (f : StageSlot → StageSlot) : (s.modSlot k f).io = s.io := rfl
@[simp] theorem modSlot_out (k : Nat) (f : StageSlot → StageSlot) : (s.modSlot k f).out = s.out := rfl
@[simp] theorem modSlot_free (k : Nat) (f : StageSlot → StageSlot) : (s.modSlot k f).free = s.free := rfl
@[simp] theorem modSlot_pending (k : Nat) (f : StageSlot → StageSlot) : (s.modSlot k f).pending = s.pending := rfl

/-! ### modLib -/

@[simp] theorem modLib_now (e : Nat) (f : LibEntry → LibEntry) : (s.modLib e f).now = s.now := rfl
@[simp] theorem modLib_op (e : Nat) (f : LibEntry → LibEntry) : (s.modLib e f).op = s.op := rfl
@[simp] theorem modLib_time (e : Nat) (f : LibEntry → LibEntry) : (s.modLib e f).time = s.time := rfl
@[simp] theorem modLib_angle (e : Nat) (f : LibEntry → LibEntry) : (s.modLib e f).angle = s.angle := rfl
@[simp] theorem modLib_power (e : Nat) (f : LibEntry → LibEntry) : (s.modLib e f).power = s.power := rfl
@[simp] theorem modLib_log (e : Nat) (f : LibEntry → LibEntry) : (s.modLib e f).log = s.log := rfl
@[simp] theorem modLib_sess (e : Nat) (f : LibEntry → LibEntry) : (s.modLib e f).sess = s.sess := rfl
@[simp] theorem modLib_array (e : Nat) (f : LibEntry → LibEntry) : (s.modLib e f).array = s.array := rfl
@[simp] theorem modLib_net (e : Nat) (f : LibEntry → LibEntry) : (s.modLib e f).net = s.net := rfl
@[simp] theorem modLib_ring (e : Nat) (f : LibEntry → LibEntry) : (s.modLib e f).ring = s.ring := rfl
@[simp] theorem modLib_quench (e : Nat) (f : LibEntry → LibEntry) : (s.modLib e f).quench = s.quench := rfl
@[simp] theorem modLib_fuse (e : Nat) (f : LibEntry → LibEntry) : (s.modLib e f).fuse = s.fuse := rfl
@[simp] theorem modLib_store (e : Nat) (f : LibEntry → LibEntry) : (s.modLib e f).store = s.store := rfl
@[simp] theorem modLib_energy (e : Nat) (f : LibEntry → LibEntry) : (s.modLib e f).energy = s.energy := rfl
@[simp] theorem modLib_io (e : Nat) (f : LibEntry → LibEntry) : (s.modLib e f).io = s.io := rfl
@[simp] theorem modLib_out (e : Nat) (f : LibEntry → LibEntry) : (s.modLib e f).out = s.out := rfl
@[simp] theorem modLib_free (e : Nat) (f : LibEntry → LibEntry) : (s.modLib e f).free = s.free := rfl
@[simp] theorem modLib_pending (e : Nat) (f : LibEntry → LibEntry) : (s.modLib e f).pending = s.pending := rfl

/-! ### modAssay -/

@[simp] theorem modAssay_now (f : AssayUnit → AssayUnit) : (s.modAssay f).now = s.now := rfl
@[simp] theorem modAssay_op (f : AssayUnit → AssayUnit) : (s.modAssay f).op = s.op := rfl
@[simp] theorem modAssay_time (f : AssayUnit → AssayUnit) : (s.modAssay f).time = s.time := rfl
@[simp] theorem modAssay_angle (f : AssayUnit → AssayUnit) : (s.modAssay f).angle = s.angle := rfl
@[simp] theorem modAssay_power (f : AssayUnit → AssayUnit) : (s.modAssay f).power = s.power := rfl
@[simp] theorem modAssay_log (f : AssayUnit → AssayUnit) : (s.modAssay f).log = s.log := rfl
@[simp] theorem modAssay_sess (f : AssayUnit → AssayUnit) : (s.modAssay f).sess = s.sess := rfl
@[simp] theorem modAssay_array (f : AssayUnit → AssayUnit) : (s.modAssay f).array = s.array := rfl
@[simp] theorem modAssay_net (f : AssayUnit → AssayUnit) : (s.modAssay f).net = s.net := rfl
@[simp] theorem modAssay_ring (f : AssayUnit → AssayUnit) : (s.modAssay f).ring = s.ring := rfl
@[simp] theorem modAssay_quench (f : AssayUnit → AssayUnit) : (s.modAssay f).quench = s.quench := rfl
@[simp] theorem modAssay_fuse (f : AssayUnit → AssayUnit) : (s.modAssay f).fuse = s.fuse := rfl
@[simp] theorem modAssay_store (f : AssayUnit → AssayUnit) : (s.modAssay f).store = s.store := rfl
@[simp] theorem modAssay_energy (f : AssayUnit → AssayUnit) : (s.modAssay f).energy = s.energy := rfl
@[simp] theorem modAssay_io (f : AssayUnit → AssayUnit) : (s.modAssay f).io = s.io := rfl
@[simp] theorem modAssay_out (f : AssayUnit → AssayUnit) : (s.modAssay f).out = s.out := rfl
@[simp] theorem modAssay_free (f : AssayUnit → AssayUnit) : (s.modAssay f).free = s.free := rfl
@[simp] theorem modAssay_pending (f : AssayUnit → AssayUnit) : (s.modAssay f).pending = s.pending := rfl

/-! ### modFw -/

@[simp] theorem modFw_now (k : FwSlot) (f : FwImage → FwImage) : (s.modFw k f).now = s.now := rfl
@[simp] theorem modFw_op (k : FwSlot) (f : FwImage → FwImage) : (s.modFw k f).op = s.op := rfl
@[simp] theorem modFw_time (k : FwSlot) (f : FwImage → FwImage) : (s.modFw k f).time = s.time := rfl
@[simp] theorem modFw_angle (k : FwSlot) (f : FwImage → FwImage) : (s.modFw k f).angle = s.angle := rfl
@[simp] theorem modFw_power (k : FwSlot) (f : FwImage → FwImage) : (s.modFw k f).power = s.power := rfl
@[simp] theorem modFw_log (k : FwSlot) (f : FwImage → FwImage) : (s.modFw k f).log = s.log := rfl
@[simp] theorem modFw_sess (k : FwSlot) (f : FwImage → FwImage) : (s.modFw k f).sess = s.sess := rfl
@[simp] theorem modFw_array (k : FwSlot) (f : FwImage → FwImage) : (s.modFw k f).array = s.array := rfl
@[simp] theorem modFw_net (k : FwSlot) (f : FwImage → FwImage) : (s.modFw k f).net = s.net := rfl
@[simp] theorem modFw_ring (k : FwSlot) (f : FwImage → FwImage) : (s.modFw k f).ring = s.ring := rfl
@[simp] theorem modFw_quench (k : FwSlot) (f : FwImage → FwImage) : (s.modFw k f).quench = s.quench := rfl
@[simp] theorem modFw_fuse (k : FwSlot) (f : FwImage → FwImage) : (s.modFw k f).fuse = s.fuse := rfl
@[simp] theorem modFw_store (k : FwSlot) (f : FwImage → FwImage) : (s.modFw k f).store = s.store := rfl
@[simp] theorem modFw_energy (k : FwSlot) (f : FwImage → FwImage) : (s.modFw k f).energy = s.energy := rfl
@[simp] theorem modFw_io (k : FwSlot) (f : FwImage → FwImage) : (s.modFw k f).io = s.io := rfl
@[simp] theorem modFw_out (k : FwSlot) (f : FwImage → FwImage) : (s.modFw k f).out = s.out := rfl
@[simp] theorem modFw_free (k : FwSlot) (f : FwImage → FwImage) : (s.modFw k f).free = s.free := rfl
@[simp] theorem modFw_pending (k : FwSlot) (f : FwImage → FwImage) : (s.modFw k f).pending = s.pending := rfl

/-! ### modSource -/

@[simp] theorem modSource_now (k : Nat) (f : EnergySource → EnergySource) : (s.modSource k f).now = s.now := rfl
@[simp] theorem modSource_op (k : Nat) (f : EnergySource → EnergySource) : (s.modSource k f).op = s.op := rfl
@[simp] theorem modSource_time (k : Nat) (f : EnergySource → EnergySource) : (s.modSource k f).time = s.time := rfl
@[simp] theorem modSource_angle (k : Nat) (f : EnergySource → EnergySource) : (s.modSource k f).angle = s.angle := rfl
@[simp] theorem modSource_power (k : Nat) (f : EnergySource → EnergySource) : (s.modSource k f).power = s.power := rfl
@[simp] theorem modSource_log (k : Nat) (f : EnergySource → EnergySource) : (s.modSource k f).log = s.log := rfl
@[simp] theorem modSource_sess (k : Nat) (f : EnergySource → EnergySource) : (s.modSource k f).sess = s.sess := rfl
@[simp] theorem modSource_array (k : Nat) (f : EnergySource → EnergySource) : (s.modSource k f).array = s.array := rfl
@[simp] theorem modSource_net (k : Nat) (f : EnergySource → EnergySource) : (s.modSource k f).net = s.net := rfl
@[simp] theorem modSource_blank (k : Nat) (f : EnergySource → EnergySource) : (s.modSource k f).blank = s.blank := rfl
@[simp] theorem modSource_ring (k : Nat) (f : EnergySource → EnergySource) : (s.modSource k f).ring = s.ring := rfl
@[simp] theorem modSource_quench (k : Nat) (f : EnergySource → EnergySource) : (s.modSource k f).quench = s.quench := rfl
@[simp] theorem modSource_fuse (k : Nat) (f : EnergySource → EnergySource) : (s.modSource k f).fuse = s.fuse := rfl
@[simp] theorem modSource_store (k : Nat) (f : EnergySource → EnergySource) : (s.modSource k f).store = s.store := rfl
@[simp] theorem modSource_io (k : Nat) (f : EnergySource → EnergySource) : (s.modSource k f).io = s.io := rfl
@[simp] theorem modSource_out (k : Nat) (f : EnergySource → EnergySource) : (s.modSource k f).out = s.out := rfl
@[simp] theorem modSource_free (k : Nat) (f : EnergySource → EnergySource) : (s.modSource k f).free = s.free := rfl
@[simp] theorem modSource_pending (k : Nat) (f : EnergySource → EnergySource) : (s.modSource k f).pending = s.pending := rfl

/-! ### modBus -/

@[simp] theorem modBus_now (b : Nat) (f : TwBus → TwBus) : (s.modBus b f).now = s.now := rfl
@[simp] theorem modBus_op (b : Nat) (f : TwBus → TwBus) : (s.modBus b f).op = s.op := rfl
@[simp] theorem modBus_time (b : Nat) (f : TwBus → TwBus) : (s.modBus b f).time = s.time := rfl
@[simp] theorem modBus_angle (b : Nat) (f : TwBus → TwBus) : (s.modBus b f).angle = s.angle := rfl
@[simp] theorem modBus_power (b : Nat) (f : TwBus → TwBus) : (s.modBus b f).power = s.power := rfl
@[simp] theorem modBus_log (b : Nat) (f : TwBus → TwBus) : (s.modBus b f).log = s.log := rfl
@[simp] theorem modBus_sess (b : Nat) (f : TwBus → TwBus) : (s.modBus b f).sess = s.sess := rfl
@[simp] theorem modBus_array (b : Nat) (f : TwBus → TwBus) : (s.modBus b f).array = s.array := rfl
@[simp] theorem modBus_net (b : Nat) (f : TwBus → TwBus) : (s.modBus b f).net = s.net := rfl
@[simp] theorem modBus_blank (b : Nat) (f : TwBus → TwBus) : (s.modBus b f).blank = s.blank := rfl
@[simp] theorem modBus_ring (b : Nat) (f : TwBus → TwBus) : (s.modBus b f).ring = s.ring := rfl
@[simp] theorem modBus_quench (b : Nat) (f : TwBus → TwBus) : (s.modBus b f).quench = s.quench := rfl
@[simp] theorem modBus_fuse (b : Nat) (f : TwBus → TwBus) : (s.modBus b f).fuse = s.fuse := rfl
@[simp] theorem modBus_store (b : Nat) (f : TwBus → TwBus) : (s.modBus b f).store = s.store := rfl
@[simp] theorem modBus_energy (b : Nat) (f : TwBus → TwBus) : (s.modBus b f).energy = s.energy := rfl
@[simp] theorem modBus_out (b : Nat) (f : TwBus → TwBus) : (s.modBus b f).out = s.out := rfl
@[simp] theorem modBus_free (b : Nat) (f : TwBus → TwBus) : (s.modBus b f).free = s.free := rfl
@[simp] theorem modBus_pending (b : Nat) (f : TwBus → TwBus) : (s.modBus b f).pending = s.pending := rfl

/-! ### modPin -/

@[simp] theorem modPin_now (y : Nat) (f : DioPin → DioPin) : (s.modPin y f).now = s.now := rfl
@[simp] theorem modPin_op (y : Nat) (f : DioPin → DioPin) : (s.modPin y f).op = s.op := rfl
@[simp] theorem modPin_time (y : Nat) (f : DioPin → DioPin) : (s.modPin y f).time = s.time := rfl
@[simp] theorem modPin_angle (y : Nat) (f : DioPin → DioPin) : (s.modPin y f).angle = s.angle := rfl
@[simp] theorem modPin_power (y : Nat) (f : DioPin → DioPin) : (s.modPin y f).power = s.power := rfl
@[simp] theorem modPin_log (y : Nat) (f : DioPin → DioPin) : (s.modPin y f).log = s.log := rfl
@[simp] theorem modPin_sess (y : Nat) (f : DioPin → DioPin) : (s.modPin y f).sess = s.sess := rfl
@[simp] theorem modPin_array (y : Nat) (f : DioPin → DioPin) : (s.modPin y f).array = s.array := rfl
@[simp] theorem modPin_net (y : Nat) (f : DioPin → DioPin) : (s.modPin y f).net = s.net := rfl
@[simp] theorem modPin_blank (y : Nat) (f : DioPin → DioPin) : (s.modPin y f).blank = s.blank := rfl
@[simp] theorem modPin_ring (y : Nat) (f : DioPin → DioPin) : (s.modPin y f).ring = s.ring := rfl
@[simp] theorem modPin_quench (y : Nat) (f : DioPin → DioPin) : (s.modPin y f).quench = s.quench := rfl
@[simp] theorem modPin_fuse (y : Nat) (f : DioPin → DioPin) : (s.modPin y f).fuse = s.fuse := rfl
@[simp] theorem modPin_store (y : Nat) (f : DioPin → DioPin) : (s.modPin y f).store = s.store := rfl
@[simp] theorem modPin_energy (y : Nat) (f : DioPin → DioPin) : (s.modPin y f).energy = s.energy := rfl
@[simp] theorem modPin_out (y : Nat) (f : DioPin → DioPin) : (s.modPin y f).out = s.out := rfl
@[simp] theorem modPin_free (y : Nat) (f : DioPin → DioPin) : (s.modPin y f).free = s.free := rfl
@[simp] theorem modPin_pending (y : Nat) (f : DioPin → DioPin) : (s.modPin y f).pending = s.pending := rfl

/-! ### modTwt -/

@[simp] theorem modTwt_now (f : Twt → Twt) : (s.modTwt f).now = s.now := rfl
@[simp] theorem modTwt_op (f : Twt → Twt) : (s.modTwt f).op = s.op := rfl
@[simp] theorem modTwt_time (f : Twt → Twt) : (s.modTwt f).time = s.time := rfl
@[simp] theorem modTwt_angle (f : Twt → Twt) : (s.modTwt f).angle = s.angle := rfl
@[simp] theorem modTwt_power (f : Twt → Twt) : (s.modTwt f).power = s.power := rfl
@[simp] theorem modTwt_log (f : Twt → Twt) : (s.modTwt f).log = s.log := rfl
@[simp] theorem modTwt_sess (f : Twt → Twt) : (s.modTwt f).sess = s.sess := rfl
@[simp] theorem modTwt_array (f : Twt → Twt) : (s.modTwt f).array = s.array := rfl
@[simp] theorem modTwt_net (f : Twt → Twt) : (s.modTwt f).net = s.net := rfl
@[simp] theorem modTwt_blank (f : Twt → Twt) : (s.modTwt f).blank = s.blank := rfl
@[simp] theorem modTwt_ring (f : Twt → Twt) : (s.modTwt f).ring = s.ring := rfl
@[simp] theorem modTwt_quench (f : Twt → Twt) : (s.modTwt f).quench = s.quench := rfl
@[simp] theorem modTwt_fuse (f : Twt → Twt) : (s.modTwt f).fuse = s.fuse := rfl
@[simp] theorem modTwt_store (f : Twt → Twt) : (s.modTwt f).store = s.store := rfl
@[simp] theorem modTwt_energy (f : Twt → Twt) : (s.modTwt f).energy = s.energy := rfl
@[simp] theorem modTwt_out (f : Twt → Twt) : (s.modTwt f).out = s.out := rfl
@[simp] theorem modTwt_free (f : Twt → Twt) : (s.modTwt f).free = s.free := rfl
@[simp] theorem modTwt_pending (f : Twt → Twt) : (s.modTwt f).pending = s.pending := rfl

/-! ### modLease -/

@[simp] theorem modLease_now (l : Nat) (f : Lease → Lease) : (s.modLease l f).now = s.now := rfl
@[simp] theorem modLease_op (l : Nat) (f : Lease → Lease) : (s.modLease l f).op = s.op := rfl
@[simp] theorem modLease_time (l : Nat) (f : Lease → Lease) : (s.modLease l f).time = s.time := rfl
@[simp] theorem modLease_angle (l : Nat) (f : Lease → Lease) : (s.modLease l f).angle = s.angle := rfl
@[simp] theorem modLease_power (l : Nat) (f : Lease → Lease) : (s.modLease l f).power = s.power := rfl
@[simp] theorem modLease_log (l : Nat) (f : Lease → Lease) : (s.modLease l f).log = s.log := rfl
@[simp] theorem modLease_array (l : Nat) (f : Lease → Lease) : (s.modLease l f).array = s.array := rfl
@[simp] theorem modLease_net (l : Nat) (f : Lease → Lease) : (s.modLease l f).net = s.net := rfl
@[simp] theorem modLease_blank (l : Nat) (f : Lease → Lease) : (s.modLease l f).blank = s.blank := rfl
@[simp] theorem modLease_ring (l : Nat) (f : Lease → Lease) : (s.modLease l f).ring = s.ring := rfl
@[simp] theorem modLease_quench (l : Nat) (f : Lease → Lease) : (s.modLease l f).quench = s.quench := rfl
@[simp] theorem modLease_fuse (l : Nat) (f : Lease → Lease) : (s.modLease l f).fuse = s.fuse := rfl
@[simp] theorem modLease_store (l : Nat) (f : Lease → Lease) : (s.modLease l f).store = s.store := rfl
@[simp] theorem modLease_energy (l : Nat) (f : Lease → Lease) : (s.modLease l f).energy = s.energy := rfl
@[simp] theorem modLease_io (l : Nat) (f : Lease → Lease) : (s.modLease l f).io = s.io := rfl
@[simp] theorem modLease_out (l : Nat) (f : Lease → Lease) : (s.modLease l f).out = s.out := rfl
@[simp] theorem modLease_free (l : Nat) (f : Lease → Lease) : (s.modLease l f).free = s.free := rfl
@[simp] theorem modLease_pending (l : Nat) (f : Lease → Lease) : (s.modLease l f).pending = s.pending := rfl

/-! ### modSession -/

@[simp] theorem modSession_now (n : SessionNo) (f : Session → Session) : (s.modSession n f).now = s.now := rfl
@[simp] theorem modSession_op (n : SessionNo) (f : Session → Session) : (s.modSession n f).op = s.op := rfl
@[simp] theorem modSession_time (n : SessionNo) (f : Session → Session) : (s.modSession n f).time = s.time := rfl
@[simp] theorem modSession_angle (n : SessionNo) (f : Session → Session) : (s.modSession n f).angle = s.angle := rfl
@[simp] theorem modSession_power (n : SessionNo) (f : Session → Session) : (s.modSession n f).power = s.power := rfl
@[simp] theorem modSession_log (n : SessionNo) (f : Session → Session) : (s.modSession n f).log = s.log := rfl
@[simp] theorem modSession_array (n : SessionNo) (f : Session → Session) : (s.modSession n f).array = s.array := rfl
@[simp] theorem modSession_net (n : SessionNo) (f : Session → Session) : (s.modSession n f).net = s.net := rfl
@[simp] theorem modSession_blank (n : SessionNo) (f : Session → Session) : (s.modSession n f).blank = s.blank := rfl
@[simp] theorem modSession_ring (n : SessionNo) (f : Session → Session) : (s.modSession n f).ring = s.ring := rfl
@[simp] theorem modSession_quench (n : SessionNo) (f : Session → Session) : (s.modSession n f).quench = s.quench := rfl
@[simp] theorem modSession_fuse (n : SessionNo) (f : Session → Session) : (s.modSession n f).fuse = s.fuse := rfl
@[simp] theorem modSession_store (n : SessionNo) (f : Session → Session) : (s.modSession n f).store = s.store := rfl
@[simp] theorem modSession_energy (n : SessionNo) (f : Session → Session) : (s.modSession n f).energy = s.energy := rfl
@[simp] theorem modSession_io (n : SessionNo) (f : Session → Session) : (s.modSession n f).io = s.io := rfl
@[simp] theorem modSession_out (n : SessionNo) (f : Session → Session) : (s.modSession n f).out = s.out := rfl
@[simp] theorem modSession_free (n : SessionNo) (f : Session → Session) : (s.modSession n f).free = s.free := rfl
@[simp] theorem modSession_pending (n : SessionNo) (f : Session → Session) : (s.modSession n f).pending = s.pending := rfl

/-! ### modImage -/

@[simp] theorem modImage_now (i : Nat) (f : ImageRec → ImageRec) : (s.modImage i f).now = s.now := rfl
@[simp] theorem modImage_op (i : Nat) (f : ImageRec → ImageRec) : (s.modImage i f).op = s.op := rfl
@[simp] theorem modImage_time (i : Nat) (f : ImageRec → ImageRec) : (s.modImage i f).time = s.time := rfl
@[simp] theorem modImage_angle (i : Nat) (f : ImageRec → ImageRec) : (s.modImage i f).angle = s.angle := rfl
@[simp] theorem modImage_power (i : Nat) (f : ImageRec → ImageRec) : (s.modImage i f).power = s.power := rfl
@[simp] theorem modImage_log (i : Nat) (f : ImageRec → ImageRec) : (s.modImage i f).log = s.log := rfl
@[simp] theorem modImage_array (i : Nat) (f : ImageRec → ImageRec) : (s.modImage i f).array = s.array := rfl
@[simp] theorem modImage_net (i : Nat) (f : ImageRec → ImageRec) : (s.modImage i f).net = s.net := rfl
@[simp] theorem modImage_blank (i : Nat) (f : ImageRec → ImageRec) : (s.modImage i f).blank = s.blank := rfl
@[simp] theorem modImage_ring (i : Nat) (f : ImageRec → ImageRec) : (s.modImage i f).ring = s.ring := rfl
@[simp] theorem modImage_quench (i : Nat) (f : ImageRec → ImageRec) : (s.modImage i f).quench = s.quench := rfl
@[simp] theorem modImage_fuse (i : Nat) (f : ImageRec → ImageRec) : (s.modImage i f).fuse = s.fuse := rfl
@[simp] theorem modImage_store (i : Nat) (f : ImageRec → ImageRec) : (s.modImage i f).store = s.store := rfl
@[simp] theorem modImage_energy (i : Nat) (f : ImageRec → ImageRec) : (s.modImage i f).energy = s.energy := rfl
@[simp] theorem modImage_io (i : Nat) (f : ImageRec → ImageRec) : (s.modImage i f).io = s.io := rfl
@[simp] theorem modImage_out (i : Nat) (f : ImageRec → ImageRec) : (s.modImage i f).out = s.out := rfl
@[simp] theorem modImage_free (i : Nat) (f : ImageRec → ImageRec) : (s.modImage i f).free = s.free := rfl
@[simp] theorem modImage_pending (i : Nat) (f : ImageRec → ImageRec) : (s.modImage i f).pending = s.pending := rfl

/-! ### modFlow -/

@[simp] theorem modFlow_now (n : Nat) (f : Flow → Flow) : (s.modFlow n f).now = s.now := rfl
@[simp] theorem modFlow_op (n : Nat) (f : Flow → Flow) : (s.modFlow n f).op = s.op := rfl
@[simp] theorem modFlow_time (n : Nat) (f : Flow → Flow) : (s.modFlow n f).time = s.time := rfl
@[simp] theorem modFlow_angle (n : Nat) (f : Flow → Flow) : (s.modFlow n f).angle = s.angle := rfl
@[simp] theorem modFlow_power (n : Nat) (f : Flow → Flow) : (s.modFlow n f).power = s.power := rfl
@[simp] theorem modFlow_log (n : Nat) (f : Flow → Flow) : (s.modFlow n f).log = s.log := rfl
@[simp] theorem modFlow_sess (n : Nat) (f : Flow → Flow) : (s.modFlow n f).sess = s.sess := rfl
@[simp] theorem modFlow_array (n : Nat) (f : Flow → Flow) : (s.modFlow n f).array = s.array := rfl
@[simp] theorem modFlow_blank (n : Nat) (f : Flow → Flow) : (s.modFlow n f).blank = s.blank := rfl
@[simp] theorem modFlow_ring (n : Nat) (f : Flow → Flow) : (s.modFlow n f).ring = s.ring := rfl
@[simp] theorem modFlow_quench (n : Nat) (f : Flow → Flow) : (s.modFlow n f).quench = s.quench := rfl
@[simp] theorem modFlow_fuse (n : Nat) (f : Flow → Flow) : (s.modFlow n f).fuse = s.fuse := rfl
@[simp] theorem modFlow_store (n : Nat) (f : Flow → Flow) : (s.modFlow n f).store = s.store := rfl
@[simp] theorem modFlow_energy (n : Nat) (f : Flow → Flow) : (s.modFlow n f).energy = s.energy := rfl
@[simp] theorem modFlow_io (n : Nat) (f : Flow → Flow) : (s.modFlow n f).io = s.io := rfl
@[simp] theorem modFlow_out (n : Nat) (f : Flow → Flow) : (s.modFlow n f).out = s.out := rfl
@[simp] theorem modFlow_free (n : Nat) (f : Flow → Flow) : (s.modFlow n f).free = s.free := rfl
@[simp] theorem modFlow_pending (n : Nat) (f : Flow → Flow) : (s.modFlow n f).pending = s.pending := rfl

/-! ### modProbe -/

@[simp] theorem modProbe_now (k : Nat) (f : Probe → Probe) : (s.modProbe k f).now = s.now := rfl
@[simp] theorem modProbe_op (k : Nat) (f : Probe → Probe) : (s.modProbe k f).op = s.op := rfl
@[simp] theorem modProbe_time (k : Nat) (f : Probe → Probe) : (s.modProbe k f).time = s.time := rfl
@[simp] theorem modProbe_angle (k : Nat) (f : Probe → Probe) : (s.modProbe k f).angle = s.angle := rfl
@[simp] theorem modProbe_power (k : Nat) (f : Probe → Probe) : (s.modProbe k f).power = s.power := rfl
@[simp] theorem modProbe_log (k : Nat) (f : Probe → Probe) : (s.modProbe k f).log = s.log := rfl
@[simp] theorem modProbe_sess (k : Nat) (f : Probe → Probe) : (s.modProbe k f).sess = s.sess := rfl
@[simp] theorem modProbe_array (k : Nat) (f : Probe → Probe) : (s.modProbe k f).array = s.array := rfl
@[simp] theorem modProbe_blank (k : Nat) (f : Probe → Probe) : (s.modProbe k f).blank = s.blank := rfl
@[simp] theorem modProbe_ring (k : Nat) (f : Probe → Probe) : (s.modProbe k f).ring = s.ring := rfl
@[simp] theorem modProbe_quench (k : Nat) (f : Probe → Probe) : (s.modProbe k f).quench = s.quench := rfl
@[simp] theorem modProbe_fuse (k : Nat) (f : Probe → Probe) : (s.modProbe k f).fuse = s.fuse := rfl
@[simp] theorem modProbe_store (k : Nat) (f : Probe → Probe) : (s.modProbe k f).store = s.store := rfl
@[simp] theorem modProbe_energy (k : Nat) (f : Probe → Probe) : (s.modProbe k f).energy = s.energy := rfl
@[simp] theorem modProbe_io (k : Nat) (f : Probe → Probe) : (s.modProbe k f).io = s.io := rfl
@[simp] theorem modProbe_out (k : Nat) (f : Probe → Probe) : (s.modProbe k f).out = s.out := rfl
@[simp] theorem modProbe_free (k : Nat) (f : Probe → Probe) : (s.modProbe k f).free = s.free := rfl
@[simp] theorem modProbe_pending (k : Nat) (f : Probe → Probe) : (s.modProbe k f).pending = s.pending := rfl

/-! ### modNi -/

@[simp] theorem modNi_now (n : Nat) (f : Ni → Ni) : (s.modNi n f).now = s.now := rfl
@[simp] theorem modNi_op (n : Nat) (f : Ni → Ni) : (s.modNi n f).op = s.op := rfl
@[simp] theorem modNi_time (n : Nat) (f : Ni → Ni) : (s.modNi n f).time = s.time := rfl
@[simp] theorem modNi_angle (n : Nat) (f : Ni → Ni) : (s.modNi n f).angle = s.angle := rfl
@[simp] theorem modNi_power (n : Nat) (f : Ni → Ni) : (s.modNi n f).power = s.power := rfl
@[simp] theorem modNi_log (n : Nat) (f : Ni → Ni) : (s.modNi n f).log = s.log := rfl
@[simp] theorem modNi_sess (n : Nat) (f : Ni → Ni) : (s.modNi n f).sess = s.sess := rfl
@[simp] theorem modNi_array (n : Nat) (f : Ni → Ni) : (s.modNi n f).array = s.array := rfl
@[simp] theorem modNi_blank (n : Nat) (f : Ni → Ni) : (s.modNi n f).blank = s.blank := rfl
@[simp] theorem modNi_ring (n : Nat) (f : Ni → Ni) : (s.modNi n f).ring = s.ring := rfl
@[simp] theorem modNi_quench (n : Nat) (f : Ni → Ni) : (s.modNi n f).quench = s.quench := rfl
@[simp] theorem modNi_fuse (n : Nat) (f : Ni → Ni) : (s.modNi n f).fuse = s.fuse := rfl
@[simp] theorem modNi_store (n : Nat) (f : Ni → Ni) : (s.modNi n f).store = s.store := rfl
@[simp] theorem modNi_energy (n : Nat) (f : Ni → Ni) : (s.modNi n f).energy = s.energy := rfl
@[simp] theorem modNi_io (n : Nat) (f : Ni → Ni) : (s.modNi n f).io = s.io := rfl
@[simp] theorem modNi_out (n : Nat) (f : Ni → Ni) : (s.modNi n f).out = s.out := rfl
@[simp] theorem modNi_free (n : Nat) (f : Ni → Ni) : (s.modNi n f).free = s.free := rfl
@[simp] theorem modNi_pending (n : Nat) (f : Ni → Ni) : (s.modNi n f).pending = s.pending := rfl

/-! ### modFeed -/

@[simp] theorem modFeed_now (n : Nat) (f : Feed → Feed) : (s.modFeed n f).now = s.now := rfl
@[simp] theorem modFeed_op (n : Nat) (f : Feed → Feed) : (s.modFeed n f).op = s.op := rfl
@[simp] theorem modFeed_time (n : Nat) (f : Feed → Feed) : (s.modFeed n f).time = s.time := rfl
@[simp] theorem modFeed_angle (n : Nat) (f : Feed → Feed) : (s.modFeed n f).angle = s.angle := rfl
@[simp] theorem modFeed_log (n : Nat) (f : Feed → Feed) : (s.modFeed n f).log = s.log := rfl
@[simp] theorem modFeed_sess (n : Nat) (f : Feed → Feed) : (s.modFeed n f).sess = s.sess := rfl
@[simp] theorem modFeed_array (n : Nat) (f : Feed → Feed) : (s.modFeed n f).array = s.array := rfl
@[simp] theorem modFeed_net (n : Nat) (f : Feed → Feed) : (s.modFeed n f).net = s.net := rfl
@[simp] theorem modFeed_blank (n : Nat) (f : Feed → Feed) : (s.modFeed n f).blank = s.blank := rfl
@[simp] theorem modFeed_ring (n : Nat) (f : Feed → Feed) : (s.modFeed n f).ring = s.ring := rfl
@[simp] theorem modFeed_quench (n : Nat) (f : Feed → Feed) : (s.modFeed n f).quench = s.quench := rfl
@[simp] theorem modFeed_fuse (n : Nat) (f : Feed → Feed) : (s.modFeed n f).fuse = s.fuse := rfl
@[simp] theorem modFeed_store (n : Nat) (f : Feed → Feed) : (s.modFeed n f).store = s.store := rfl
@[simp] theorem modFeed_energy (n : Nat) (f : Feed → Feed) : (s.modFeed n f).energy = s.energy := rfl
@[simp] theorem modFeed_io (n : Nat) (f : Feed → Feed) : (s.modFeed n f).io = s.io := rfl
@[simp] theorem modFeed_out (n : Nat) (f : Feed → Feed) : (s.modFeed n f).out = s.out := rfl
@[simp] theorem modFeed_free (n : Nat) (f : Feed → Feed) : (s.modFeed n f).free = s.free := rfl
@[simp] theorem modFeed_pending (n : Nat) (f : Feed → Feed) : (s.modFeed n f).pending = s.pending := rfl

/-! ### modQuench -/

@[simp] theorem modQuench_now (f : QuenchUnit → QuenchUnit) : (s.modQuench f).now = s.now := rfl
@[simp] theorem modQuench_op (f : QuenchUnit → QuenchUnit) : (s.modQuench f).op = s.op := rfl
@[simp] theorem modQuench_time (f : QuenchUnit → QuenchUnit) : (s.modQuench f).time = s.time := rfl
@[simp] theorem modQuench_angle (f : QuenchUnit → QuenchUnit) : (s.modQuench f).angle = s.angle := rfl
@[simp] theorem modQuench_power (f : QuenchUnit → QuenchUnit) : (s.modQuench f).power = s.power := rfl
@[simp] theorem modQuench_log (f : QuenchUnit → QuenchUnit) : (s.modQuench f).log = s.log := rfl
@[simp] theorem modQuench_sess (f : QuenchUnit → QuenchUnit) : (s.modQuench f).sess = s.sess := rfl
@[simp] theorem modQuench_array (f : QuenchUnit → QuenchUnit) : (s.modQuench f).array = s.array := rfl
@[simp] theorem modQuench_net (f : QuenchUnit → QuenchUnit) : (s.modQuench f).net = s.net := rfl
@[simp] theorem modQuench_blank (f : QuenchUnit → QuenchUnit) : (s.modQuench f).blank = s.blank := rfl
@[simp] theorem modQuench_ring (f : QuenchUnit → QuenchUnit) : (s.modQuench f).ring = s.ring := rfl
@[simp] theorem modQuench_fuse (f : QuenchUnit → QuenchUnit) : (s.modQuench f).fuse = s.fuse := rfl
@[simp] theorem modQuench_store (f : QuenchUnit → QuenchUnit) : (s.modQuench f).store = s.store := rfl
@[simp] theorem modQuench_energy (f : QuenchUnit → QuenchUnit) : (s.modQuench f).energy = s.energy := rfl
@[simp] theorem modQuench_io (f : QuenchUnit → QuenchUnit) : (s.modQuench f).io = s.io := rfl
@[simp] theorem modQuench_out (f : QuenchUnit → QuenchUnit) : (s.modQuench f).out = s.out := rfl
@[simp] theorem modQuench_free (f : QuenchUnit → QuenchUnit) : (s.modQuench f).free = s.free := rfl
@[simp] theorem modQuench_pending (f : QuenchUnit → QuenchUnit) : (s.modQuench f).pending = s.pending := rfl

/-! ### modPair -/

@[simp] theorem modPair_now (n : Nat) (f : SiPair → SiPair) : (s.modPair n f).now = s.now := rfl
@[simp] theorem modPair_op (n : Nat) (f : SiPair → SiPair) : (s.modPair n f).op = s.op := rfl
@[simp] theorem modPair_time (n : Nat) (f : SiPair → SiPair) : (s.modPair n f).time = s.time := rfl
@[simp] theorem modPair_angle (n : Nat) (f : SiPair → SiPair) : (s.modPair n f).angle = s.angle := rfl
@[simp] theorem modPair_power (n : Nat) (f : SiPair → SiPair) : (s.modPair n f).power = s.power := rfl
@[simp] theorem modPair_log (n : Nat) (f : SiPair → SiPair) : (s.modPair n f).log = s.log := rfl
@[simp] theorem modPair_sess (n : Nat) (f : SiPair → SiPair) : (s.modPair n f).sess = s.sess := rfl
@[simp] theorem modPair_array (n : Nat) (f : SiPair → SiPair) : (s.modPair n f).array = s.array := rfl
@[simp] theorem modPair_net (n : Nat) (f : SiPair → SiPair) : (s.modPair n f).net = s.net := rfl
@[simp] theorem modPair_blank (n : Nat) (f : SiPair → SiPair) : (s.modPair n f).blank = s.blank := rfl
@[simp] theorem modPair_ring (n : Nat) (f : SiPair → SiPair) : (s.modPair n f).ring = s.ring := rfl
@[simp] theorem modPair_fuse (n : Nat) (f : SiPair → SiPair) : (s.modPair n f).fuse = s.fuse := rfl
@[simp] theorem modPair_store (n : Nat) (f : SiPair → SiPair) : (s.modPair n f).store = s.store := rfl
@[simp] theorem modPair_energy (n : Nat) (f : SiPair → SiPair) : (s.modPair n f).energy = s.energy := rfl
@[simp] theorem modPair_io (n : Nat) (f : SiPair → SiPair) : (s.modPair n f).io = s.io := rfl
@[simp] theorem modPair_out (n : Nat) (f : SiPair → SiPair) : (s.modPair n f).out = s.out := rfl
@[simp] theorem modPair_free (n : Nat) (f : SiPair → SiPair) : (s.modPair n f).free = s.free := rfl
@[simp] theorem modPair_pending (n : Nat) (f : SiPair → SiPair) : (s.modPair n f).pending = s.pending := rfl

/-! ### modContact -/

@[simp] theorem modContact_now (k : Nat) (f : QoContact → QoContact) : (s.modContact k f).now = s.now := rfl
@[simp] theorem modContact_op (k : Nat) (f : QoContact → QoContact) : (s.modContact k f).op = s.op := rfl
@[simp] theorem modContact_time (k : Nat) (f : QoContact → QoContact) : (s.modContact k f).time = s.time := rfl
@[simp] theorem modContact_angle (k : Nat) (f : QoContact → QoContact) : (s.modContact k f).angle = s.angle := rfl
@[simp] theorem modContact_power (k : Nat) (f : QoContact → QoContact) : (s.modContact k f).power = s.power := rfl
@[simp] theorem modContact_log (k : Nat) (f : QoContact → QoContact) : (s.modContact k f).log = s.log := rfl
@[simp] theorem modContact_sess (k : Nat) (f : QoContact → QoContact) : (s.modContact k f).sess = s.sess := rfl
@[simp] theorem modContact_array (k : Nat) (f : QoContact → QoContact) : (s.modContact k f).array = s.array := rfl
@[simp] theorem modContact_net (k : Nat) (f : QoContact → QoContact) : (s.modContact k f).net = s.net := rfl
@[simp] theorem modContact_blank (k : Nat) (f : QoContact → QoContact) : (s.modContact k f).blank = s.blank := rfl
@[simp] theorem modContact_ring (k : Nat) (f : QoContact → QoContact) : (s.modContact k f).ring = s.ring := rfl
@[simp] theorem modContact_fuse (k : Nat) (f : QoContact → QoContact) : (s.modContact k f).fuse = s.fuse := rfl
@[simp] theorem modContact_store (k : Nat) (f : QoContact → QoContact) : (s.modContact k f).store = s.store := rfl
@[simp] theorem modContact_energy (k : Nat) (f : QoContact → QoContact) : (s.modContact k f).energy = s.energy := rfl
@[simp] theorem modContact_io (k : Nat) (f : QoContact → QoContact) : (s.modContact k f).io = s.io := rfl
@[simp] theorem modContact_out (k : Nat) (f : QoContact → QoContact) : (s.modContact k f).out = s.out := rfl
@[simp] theorem modContact_free (k : Nat) (f : QoContact → QoContact) : (s.modContact k f).free = s.free := rfl
@[simp] theorem modContact_pending (k : Nat) (f : QoContact → QoContact) : (s.modContact k f).pending = s.pending := rfl

/-! ### modCmp -/

@[simp] theorem modCmp_now (k : Nat) (f : CmpChannel → CmpChannel) : (s.modCmp k f).now = s.now := rfl
@[simp] theorem modCmp_op (k : Nat) (f : CmpChannel → CmpChannel) : (s.modCmp k f).op = s.op := rfl
@[simp] theorem modCmp_time (k : Nat) (f : CmpChannel → CmpChannel) : (s.modCmp k f).time = s.time := rfl
@[simp] theorem modCmp_angle (k : Nat) (f : CmpChannel → CmpChannel) : (s.modCmp k f).angle = s.angle := rfl
@[simp] theorem modCmp_power (k : Nat) (f : CmpChannel → CmpChannel) : (s.modCmp k f).power = s.power := rfl
@[simp] theorem modCmp_log (k : Nat) (f : CmpChannel → CmpChannel) : (s.modCmp k f).log = s.log := rfl
@[simp] theorem modCmp_sess (k : Nat) (f : CmpChannel → CmpChannel) : (s.modCmp k f).sess = s.sess := rfl
@[simp] theorem modCmp_array (k : Nat) (f : CmpChannel → CmpChannel) : (s.modCmp k f).array = s.array := rfl
@[simp] theorem modCmp_net (k : Nat) (f : CmpChannel → CmpChannel) : (s.modCmp k f).net = s.net := rfl
@[simp] theorem modCmp_blank (k : Nat) (f : CmpChannel → CmpChannel) : (s.modCmp k f).blank = s.blank := rfl
@[simp] theorem modCmp_ring (k : Nat) (f : CmpChannel → CmpChannel) : (s.modCmp k f).ring = s.ring := rfl
@[simp] theorem modCmp_fuse (k : Nat) (f : CmpChannel → CmpChannel) : (s.modCmp k f).fuse = s.fuse := rfl
@[simp] theorem modCmp_store (k : Nat) (f : CmpChannel → CmpChannel) : (s.modCmp k f).store = s.store := rfl
@[simp] theorem modCmp_energy (k : Nat) (f : CmpChannel → CmpChannel) : (s.modCmp k f).energy = s.energy := rfl
@[simp] theorem modCmp_io (k : Nat) (f : CmpChannel → CmpChannel) : (s.modCmp k f).io = s.io := rfl
@[simp] theorem modCmp_out (k : Nat) (f : CmpChannel → CmpChannel) : (s.modCmp k f).out = s.out := rfl
@[simp] theorem modCmp_free (k : Nat) (f : CmpChannel → CmpChannel) : (s.modCmp k f).free = s.free := rfl
@[simp] theorem modCmp_pending (k : Nat) (f : CmpChannel → CmpChannel) : (s.modCmp k f).pending = s.pending := rfl

/-! ### modRing -/

@[simp] theorem modRing_now (r : Nat) (f : Ring → Ring) : (s.modRing r f).now = s.now := rfl
@[simp] theorem modRing_op (r : Nat) (f : Ring → Ring) : (s.modRing r f).op = s.op := rfl
@[simp] theorem modRing_time (r : Nat) (f : Ring → Ring) : (s.modRing r f).time = s.time := rfl
@[simp] theorem modRing_angle (r : Nat) (f : Ring → Ring) : (s.modRing r f).angle = s.angle := rfl
@[simp] theorem modRing_power (r : Nat) (f : Ring → Ring) : (s.modRing r f).power = s.power := rfl
@[simp] theorem modRing_log (r : Nat) (f : Ring → Ring) : (s.modRing r f).log = s.log := rfl
@[simp] theorem modRing_sess (r : Nat) (f : Ring → Ring) : (s.modRing r f).sess = s.sess := rfl
@[simp] theorem modRing_array (r : Nat) (f : Ring → Ring) : (s.modRing r f).array = s.array := rfl
@[simp] theorem modRing_net (r : Nat) (f : Ring → Ring) : (s.modRing r f).net = s.net := rfl
@[simp] theorem modRing_blank (r : Nat) (f : Ring → Ring) : (s.modRing r f).blank = s.blank := rfl
@[simp] theorem modRing_quench (r : Nat) (f : Ring → Ring) : (s.modRing r f).quench = s.quench := rfl
@[simp] theorem modRing_fuse (r : Nat) (f : Ring → Ring) : (s.modRing r f).fuse = s.fuse := rfl
@[simp] theorem modRing_store (r : Nat) (f : Ring → Ring) : (s.modRing r f).store = s.store := rfl
@[simp] theorem modRing_energy (r : Nat) (f : Ring → Ring) : (s.modRing r f).energy = s.energy := rfl
@[simp] theorem modRing_io (r : Nat) (f : Ring → Ring) : (s.modRing r f).io = s.io := rfl
@[simp] theorem modRing_out (r : Nat) (f : Ring → Ring) : (s.modRing r f).out = s.out := rfl
@[simp] theorem modRing_free (r : Nat) (f : Ring → Ring) : (s.modRing r f).free = s.free := rfl
@[simp] theorem modRing_pending (r : Nat) (f : Ring → Ring) : (s.modRing r f).pending = s.pending := rfl

/-! ### modRc -/

@[simp] theorem modRc_now (m : Nat) (f : RingController → RingController) : (s.modRc m f).now = s.now := rfl
@[simp] theorem modRc_op (m : Nat) (f : RingController → RingController) : (s.modRc m f).op = s.op := rfl
@[simp] theorem modRc_time (m : Nat) (f : RingController → RingController) : (s.modRc m f).time = s.time := rfl
@[simp] theorem modRc_angle (m : Nat) (f : RingController → RingController) : (s.modRc m f).angle = s.angle := rfl
@[simp] theorem modRc_power (m : Nat) (f : RingController → RingController) : (s.modRc m f).power = s.power := rfl
@[simp] theorem modRc_log (m : Nat) (f : RingController → RingController) : (s.modRc m f).log = s.log := rfl
@[simp] theorem modRc_sess (m : Nat) (f : RingController → RingController) : (s.modRc m f).sess = s.sess := rfl
@[simp] theorem modRc_array (m : Nat) (f : RingController → RingController) : (s.modRc m f).array = s.array := rfl
@[simp] theorem modRc_net (m : Nat) (f : RingController → RingController) : (s.modRc m f).net = s.net := rfl
@[simp] theorem modRc_blank (m : Nat) (f : RingController → RingController) : (s.modRc m f).blank = s.blank := rfl
@[simp] theorem modRc_quench (m : Nat) (f : RingController → RingController) : (s.modRc m f).quench = s.quench := rfl
@[simp] theorem modRc_fuse (m : Nat) (f : RingController → RingController) : (s.modRc m f).fuse = s.fuse := rfl
@[simp] theorem modRc_store (m : Nat) (f : RingController → RingController) : (s.modRc m f).store = s.store := rfl
@[simp] theorem modRc_energy (m : Nat) (f : RingController → RingController) : (s.modRc m f).energy = s.energy := rfl
@[simp] theorem modRc_io (m : Nat) (f : RingController → RingController) : (s.modRc m f).io = s.io := rfl
@[simp] theorem modRc_out (m : Nat) (f : RingController → RingController) : (s.modRc m f).out = s.out := rfl
@[simp] theorem modRc_free (m : Nat) (f : RingController → RingController) : (s.modRc m f).free = s.free := rfl
@[simp] theorem modRc_pending (m : Nat) (f : RingController → RingController) : (s.modRc m f).pending = s.pending := rfl

/-! ### modHead -/

@[simp] theorem modHead_now (r p : Nat) (f : Head → Head) : (s.modHead r p f).now = s.now := rfl
@[simp] theorem modHead_op (r p : Nat) (f : Head → Head) : (s.modHead r p f).op = s.op := rfl
@[simp] theorem modHead_time (r p : Nat) (f : Head → Head) : (s.modHead r p f).time = s.time := rfl
@[simp] theorem modHead_angle (r p : Nat) (f : Head → Head) : (s.modHead r p f).angle = s.angle := rfl
@[simp] theorem modHead_power (r p : Nat) (f : Head → Head) : (s.modHead r p f).power = s.power := rfl
@[simp] theorem modHead_log (r p : Nat) (f : Head → Head) : (s.modHead r p f).log = s.log := rfl
@[simp] theorem modHead_sess (r p : Nat) (f : Head → Head) : (s.modHead r p f).sess = s.sess := rfl
@[simp] theorem modHead_array (r p : Nat) (f : Head → Head) : (s.modHead r p f).array = s.array := rfl
@[simp] theorem modHead_net (r p : Nat) (f : Head → Head) : (s.modHead r p f).net = s.net := rfl
@[simp] theorem modHead_blank (r p : Nat) (f : Head → Head) : (s.modHead r p f).blank = s.blank := rfl
@[simp] theorem modHead_quench (r p : Nat) (f : Head → Head) : (s.modHead r p f).quench = s.quench := rfl
@[simp] theorem modHead_fuse (r p : Nat) (f : Head → Head) : (s.modHead r p f).fuse = s.fuse := rfl
@[simp] theorem modHead_store (r p : Nat) (f : Head → Head) : (s.modHead r p f).store = s.store := rfl
@[simp] theorem modHead_energy (r p : Nat) (f : Head → Head) : (s.modHead r p f).energy = s.energy := rfl
@[simp] theorem modHead_io (r p : Nat) (f : Head → Head) : (s.modHead r p f).io = s.io := rfl
@[simp] theorem modHead_out (r p : Nat) (f : Head → Head) : (s.modHead r p f).out = s.out := rfl
@[simp] theorem modHead_free (r p : Nat) (f : Head → Head) : (s.modHead r p f).free = s.free := rfl
@[simp] theorem modHead_pending (r p : Nat) (f : Head → Head) : (s.modHead r p f).pending = s.pending := rfl

/-! ### emit -/

@[simp] theorem emit_now (o : Output) : (s.emit o).now = s.now := rfl
@[simp] theorem emit_op (o : Output) : (s.emit o).op = s.op := rfl
@[simp] theorem emit_time (o : Output) : (s.emit o).time = s.time := rfl
@[simp] theorem emit_angle (o : Output) : (s.emit o).angle = s.angle := rfl
@[simp] theorem emit_power (o : Output) : (s.emit o).power = s.power := rfl
@[simp] theorem emit_log (o : Output) : (s.emit o).log = s.log := rfl
@[simp] theorem emit_sess (o : Output) : (s.emit o).sess = s.sess := rfl
@[simp] theorem emit_array (o : Output) : (s.emit o).array = s.array := rfl
@[simp] theorem emit_net (o : Output) : (s.emit o).net = s.net := rfl
@[simp] theorem emit_blank (o : Output) : (s.emit o).blank = s.blank := rfl
@[simp] theorem emit_ring (o : Output) : (s.emit o).ring = s.ring := rfl
@[simp] theorem emit_quench (o : Output) : (s.emit o).quench = s.quench := rfl
@[simp] theorem emit_fuse (o : Output) : (s.emit o).fuse = s.fuse := rfl
@[simp] theorem emit_store (o : Output) : (s.emit o).store = s.store := rfl
@[simp] theorem emit_energy (o : Output) : (s.emit o).energy = s.energy := rfl
@[simp] theorem emit_io (o : Output) : (s.emit o).io = s.io := rfl
@[simp] theorem emit_free (o : Output) : (s.emit o).free = s.free := rfl
@[simp] theorem emit_pending (o : Output) : (s.emit o).pending = s.pending := rfl

/-! ### clearAlarm -/

@[simp] theorem clearAlarm_now (c i : Nat) : (s.clearAlarm c i).now = s.now := rfl
@[simp] theorem clearAlarm_op (c i : Nat) : (s.clearAlarm c i).op = s.op := rfl
@[simp] theorem clearAlarm_time (c i : Nat) : (s.clearAlarm c i).time = s.time := rfl
@[simp] theorem clearAlarm_angle (c i : Nat) : (s.clearAlarm c i).angle = s.angle := rfl
@[simp] theorem clearAlarm_power (c i : Nat) : (s.clearAlarm c i).power = s.power := rfl
@[simp] theorem clearAlarm_sess (c i : Nat) : (s.clearAlarm c i).sess = s.sess := rfl
@[simp] theorem clearAlarm_array (c i : Nat) : (s.clearAlarm c i).array = s.array := rfl
@[simp] theorem clearAlarm_net (c i : Nat) : (s.clearAlarm c i).net = s.net := rfl
@[simp] theorem clearAlarm_blank (c i : Nat) : (s.clearAlarm c i).blank = s.blank := rfl
@[simp] theorem clearAlarm_ring (c i : Nat) : (s.clearAlarm c i).ring = s.ring := rfl
@[simp] theorem clearAlarm_quench (c i : Nat) : (s.clearAlarm c i).quench = s.quench := rfl
@[simp] theorem clearAlarm_fuse (c i : Nat) : (s.clearAlarm c i).fuse = s.fuse := rfl
@[simp] theorem clearAlarm_store (c i : Nat) : (s.clearAlarm c i).store = s.store := rfl
@[simp] theorem clearAlarm_energy (c i : Nat) : (s.clearAlarm c i).energy = s.energy := rfl
@[simp] theorem clearAlarm_io (c i : Nat) : (s.clearAlarm c i).io = s.io := rfl
@[simp] theorem clearAlarm_out (c i : Nat) : (s.clearAlarm c i).out = s.out := rfl
@[simp] theorem clearAlarm_free (c i : Nat) : (s.clearAlarm c i).free = s.free := rfl
@[simp] theorem clearAlarm_pending (c i : Nat) : (s.clearAlarm c i).pending = s.pending := rfl

/-- Reading a tile after changing one. -/
theorem tile_modTile (t : Nat) (f : Tile → Tile) (k : Nat) :
    (s.modTile t f).tile k = if t = k then f (s.tile t) else s.tile k := tget_tmod ({} : Tile) s.array.tiles t k f

@[simp] theorem tile_modTile_self (t : Nat) (f : Tile → Tile) : (s.modTile t f).tile t = f (s.tile t) := by
  simp [tile_modTile]

@[simp] theorem tile_modCluster (t : Nat) (f : Cluster → Cluster) (k : Nat) : (s.modCluster t f).tile k = s.tile k := rfl
@[simp] theorem tile_modTask (t : Nat) (f : Task → Task) (k : Nat) : (s.modTask t f).tile k = s.tile k := rfl
@[simp] theorem tile_modBridge (t : Nat) (f : Bridge → Bridge) (k : Nat) : (s.modBridge t f).tile k = s.tile k := rfl

/-- Reading a cluster after changing one. -/
theorem cluster_modCluster (t : Nat) (f : Cluster → Cluster) (k : Nat) :
    (s.modCluster t f).cluster k = if t = k then f (s.cluster t) else s.cluster k := tget_tmod ({} : Cluster) s.array.clusters t k f

@[simp] theorem cluster_modCluster_self (t : Nat) (f : Cluster → Cluster) : (s.modCluster t f).cluster t = f (s.cluster t) := by
  simp [cluster_modCluster]

@[simp] theorem cluster_modTile (t : Nat) (f : Tile → Tile) (k : Nat) : (s.modTile t f).cluster k = s.cluster k := rfl
@[simp] theorem cluster_modTask (t : Nat) (f : Task → Task) (k : Nat) : (s.modTask t f).cluster k = s.cluster k := rfl
@[simp] theorem cluster_modBridge (t : Nat) (f : Bridge → Bridge) (k : Nat) : (s.modBridge t f).cluster k = s.cluster k := rfl

/-- Reading a task after changing one. -/
theorem task_modTask (t : Nat) (f : Task → Task) (k : Nat) :
    (s.modTask t f).task k = if t = k then f (s.task t) else s.task k := tget_tmod ({} : Task) s.array.tasks t k f

@[simp] theorem task_modTask_self (t : Nat) (f : Task → Task) : (s.modTask t f).task t = f (s.task t) := by
  simp [task_modTask]

@[simp] theorem task_modTile (t : Nat) (f : Tile → Tile) (k : Nat) : (s.modTile t f).task k = s.task k := rfl
@[simp] theorem task_modCluster (t : Nat) (f : Cluster → Cluster) (k : Nat) : (s.modCluster t f).task k = s.task k := rfl
@[simp] theorem task_modBridge (t : Nat) (f : Bridge → Bridge) (k : Nat) : (s.modBridge t f).task k = s.task k := rfl

/-- Reading a bridge after changing one. -/
theorem bridge_modBridge (t : Nat) (f : Bridge → Bridge) (k : Nat) :
    (s.modBridge t f).bridge k = if t = k then f (s.bridge t) else s.bridge k := tget_tmod ({} : Bridge) s.array.bridges t k f

@[simp] theorem bridge_modBridge_self (t : Nat) (f : Bridge → Bridge) : (s.modBridge t f).bridge t = f (s.bridge t) := by
  simp [bridge_modBridge]

@[simp] theorem bridge_modTile (t : Nat) (f : Tile → Tile) (k : Nat) : (s.modTile t f).bridge k = s.bridge k := rfl
@[simp] theorem bridge_modCluster (t : Nat) (f : Cluster → Cluster) (k : Nat) : (s.modCluster t f).bridge k = s.bridge k := rfl
@[simp] theorem bridge_modTask (t : Nat) (f : Task → Task) (k : Nat) : (s.modTask t f).bridge k = s.bridge k := rfl

/-! ### Readers of the other numbered collections -/

/-- Reading one AngleChannel after changing one. -/
theorem angleCh_modAngle (i : Nat) (f : AngleChannel → AngleChannel) (k : Nat) :
    (s.modAngle i f).angleCh k = if i = k then f (s.angleCh i) else s.angleCh k := tget_tmod ({} : AngleChannel) s.angle.ch i k f

@[simp] theorem angleCh_modAngle_self (i : Nat) (f : AngleChannel → AngleChannel) : (s.modAngle i f).angleCh i = f (s.angleCh i) := by
  simp [angleCh_modAngle]

/-- Reading one StageSlot after changing one. -/
theorem slot_modSlot (i : Nat) (f : StageSlot → StageSlot) (k : Nat) :
    (s.modSlot i f).slot k = if i = k then f (s.slot i) else s.slot k := tget_tmod ({} : StageSlot) s.blank.slots i k f

@[simp] theorem slot_modSlot_self (i : Nat) (f : StageSlot → StageSlot) : (s.modSlot i f).slot i = f (s.slot i) := by
  simp [slot_modSlot]

/-- Reading one LibEntry after changing one. -/
theorem lib_modLib (i : Nat) (f : LibEntry → LibEntry) (k : Nat) :
    (s.modLib i f).lib k = if i = k then f (s.lib i) else s.lib k := tget_tmod ({} : LibEntry) s.blank.library i k f

@[simp] theorem lib_modLib_self (i : Nat) (f : LibEntry → LibEntry) : (s.modLib i f).lib i = f (s.lib i) := by
  simp [lib_modLib]

/-- Reading one EnergySource after changing one. -/
theorem source_modSource (i : Nat) (f : EnergySource → EnergySource) (k : Nat) :
    (s.modSource i f).source k = if i = k then f (s.source i) else s.source k := tget_tmod ({} : EnergySource) s.energy.sources i k f

@[simp] theorem source_modSource_self (i : Nat) (f : EnergySource → EnergySource) : (s.modSource i f).source i = f (s.source i) := by
  simp [source_modSource]

/-- Reading one TwBus after changing one. -/
theorem bus_modBus (i : Nat) (f : TwBus → TwBus) (k : Nat) :
    (s.modBus i f).bus k = if i = k then f (s.bus i) else s.bus k := tget_tmod ({} : TwBus) s.io.buses i k f

@[simp] theorem bus_modBus_self (i : Nat) (f : TwBus → TwBus) : (s.modBus i f).bus i = f (s.bus i) := by
  simp [bus_modBus]

/-- Reading one DioPin after changing one. -/
theorem pin_modPin (i : Nat) (f : DioPin → DioPin) (k : Nat) :
    (s.modPin i f).pin k = if i = k then f (s.pin i) else s.pin k := tget_tmod ({} : DioPin) s.io.dio i k f

@[simp] theorem pin_modPin_self (i : Nat) (f : DioPin → DioPin) : (s.modPin i f).pin i = f (s.pin i) := by
  simp [pin_modPin]

/-- Reading one Flow after changing one. -/
theorem flow_modFlow (i : Nat) (f : Flow → Flow) (k : Nat) :
    (s.modFlow i f).flow k = if i = k then f (s.flow i) else s.flow k := tget_tmod ({} : Flow) s.net.flows i k f

@[simp] theorem flow_modFlow_self (i : Nat) (f : Flow → Flow) : (s.modFlow i f).flow i = f (s.flow i) := by
  simp [flow_modFlow]

/-- Reading one Probe after changing one. -/
theorem probe_modProbe (i : Nat) (f : Probe → Probe) (k : Nat) :
    (s.modProbe i f).probe k = if i = k then f (s.probe i) else s.probe k := tget_tmod ({} : Probe) s.net.probes i k f

@[simp] theorem probe_modProbe_self (i : Nat) (f : Probe → Probe) : (s.modProbe i f).probe i = f (s.probe i) := by
  simp [probe_modProbe]

/-- Reading one Ni after changing one. -/
theorem ni_modNi (i : Nat) (f : Ni → Ni) (k : Nat) :
    (s.modNi i f).ni k = if i = k then f (s.ni i) else s.ni k := tget_tmod ({} : Ni) s.net.nis i k f

@[simp] theorem ni_modNi_self (i : Nat) (f : Ni → Ni) : (s.modNi i f).ni i = f (s.ni i) := by
  simp [ni_modNi]

/-- Reading one ImageRec after changing one. -/
theorem imageRec_modImage (i : Nat) (f : ImageRec → ImageRec) (k : Nat) :
    (s.modImage i f).imageRec k = if i = k then f (s.imageRec i) else s.imageRec k := tget_tmod ({} : ImageRec) s.sess.images i k f

@[simp] theorem imageRec_modImage_self (i : Nat) (f : ImageRec → ImageRec) : (s.modImage i f).imageRec i = f (s.imageRec i) := by
  simp [imageRec_modImage]

/-- Reading one Lease after changing one. -/
theorem lease_modLease (i : Nat) (f : Lease → Lease) (k : Nat) :
    (s.modLease i f).lease k = if i = k then f (s.lease i) else s.lease k := tget_tmod ({} : Lease) s.sess.leases i k f

@[simp] theorem lease_modLease_self (i : Nat) (f : Lease → Lease) : (s.modLease i f).lease i = f (s.lease i) := by
  simp [lease_modLease]

/-- Reading one Feed after changing one. -/
theorem feed_modFeed (i : Nat) (f : Feed → Feed) (k : Nat) :
    (s.modFeed i f).feed k = if i = k then f (s.feed i) else s.feed k := tget_tmod ({} : Feed) s.power.feeds i k f

@[simp] theorem feed_modFeed_self (i : Nat) (f : Feed → Feed) : (s.modFeed i f).feed i = f (s.feed i) := by
  simp [feed_modFeed]

/-- Reading one Ring after changing one. -/
theorem ringAt_modRing (i : Nat) (f : Ring → Ring) (k : Nat) :
    (s.modRing i f).ringAt k = if i = k then f (s.ringAt i) else s.ringAt k := tget_tmod ({} : Ring) s.ring.rings i k f

@[simp] theorem ringAt_modRing_self (i : Nat) (f : Ring → Ring) : (s.modRing i f).ringAt i = f (s.ringAt i) := by
  simp [ringAt_modRing]

/-- Reading one RingController after changing one. -/
theorem rc_modRc (i : Nat) (f : RingController → RingController) (k : Nat) :
    (s.modRc i f).rc k = if i = k then f (s.rc i) else s.rc k := tget_tmod ({} : RingController) s.ring.rcs i k f

@[simp] theorem rc_modRc_self (i : Nat) (f : RingController → RingController) : (s.modRc i f).rc i = f (s.rc i) := by
  simp [rc_modRc]

/-- Reading a head after changing one. -/
theorem headAt_modHead (r p : Nat) (f : Head → Head) (a b : Nat) :
    (s.modHead r p f).headAt a b = if r * 128 + p = a * 128 + b then f (s.headAt r p) else s.headAt a b :=
  tget_tmod ({} : Head) s.ring.heads (r * 128 + p) (a * 128 + b) f

@[simp] theorem headAt_modHead_self (r p : Nat) (f : Head → Head) : (s.modHead r p f).headAt r p = f (s.headAt r p) := by
  simp [headAt_modHead]

end Sys2Proof.Machine
end

