-- ==== Sys2Proof/Laws/Tile.lean ====
section
/-!
SUPPORT. What the issue of one tile instruction does, said once for the slots that neither branch, nor
store, nor touch a lane.
-/

namespace Sys2Proof.Machine

/-- Changing a tile changes that tile alone. -/
theorem onlyTile_modTile (s : State) (t : Nat) (f : Tile → Tile) : s.onlyTile (s.modTile t f) t :=
  ⟨rfl, fun k hk => by rw [tile_modTile, if_neg (Ne.symm hk)]⟩

theorem Tile.window_modWindow (x : Tile) (w : Nat) (f : Window → Window) (v : Nat) :
    (x.modWindow w f).window v = if w = v then f (x.window w) else x.window v :=
  tget_tmod ({} : Window) x.win w v f

@[simp] theorem Tile.window_modWindow_self (x : Tile) (w : Nat) (f : Window → Window) :
    (x.modWindow w f).window w = f (x.window w) := by simp [Tile.window_modWindow]

@[simp] theorem Tile.cwp_modWindow (x : Tile) (w : Nat) (f : Window → Window) : (x.modWindow w f).cwp = x.cwp := rfl
@[simp] theorem Tile.cwp_setReg (x : Tile) (w r : Nat) (v : Word) : (x.setReg w r v).cwp = x.cwp := rfl

/-- Reading a register after writing one. -/
theorem Tile.reg_setReg (x : Tile) (w r : Nat) (v : Word) (w' r' : Nat) :
    (x.setReg w r v).reg w' r' = if w = w' ∧ r = r' then v else x.reg w' r' := by
  unfold Tile.setReg Tile.reg
  rw [Tile.window_modWindow]
  by_cases h : w = w'
  · subst h; simp [tget_tset]
  · simp [h]

/-- Writing a register changes neither accumulator nor LNK. -/
theorem Tile.window_setReg (x : Tile) (w r : Nat) (v : Word) (w' : Nat) :
    (x.setReg w r v).window w' = { x.window w' with d := ((x.setReg w r v).window w').d } := by
  unfold Tile.setReg
  rw [Tile.window_modWindow]
  split
  · next h => subst h; rfl
  · rfl

theorem Tile.setRegs_cons (x : Tile) (p : Nat × Word) (l : List (Nat × Word)) :
    x.setRegs (p :: l) = (x.setReg x.cwp.toNat p.1 p.2).setRegs l := rfl

/-- Registers after a list of writes. -/
theorem Tile.reg_setRegs (x : Tile) (l : List (Nat × Word)) (w r : Nat) :
    (x.setRegs l).reg w r = x.regAfter l w r := by
  induction l generalizing x with
  | nil => simp [Tile.setRegs, Tile.regAfter]
  | cons p l ih =>
    rw [Tile.setRegs_cons, ih]
    simp only [Tile.regAfter, Tile.cwp_setReg, Tile.reg_setReg, List.foldl_cons]
    by_cases h : w = x.cwp.toNat
    · subst h; simp
    · simp [h, Ne.symm h]

/-- A list of register writes changes the registers and nothing else. -/
theorem Tile.setRegs_rest (x : Tile) (l : List (Nat × Word)) :
    x.setRegs l = { x with win := (x.setRegs l).win } ∧
      ∀ w, (x.setRegs l).window w = { x.window w with d := ((x.setRegs l).window w).d } := by
  induction l generalizing x with
  | nil => exact ⟨rfl, fun _ => rfl⟩
  | cons p l ih =>
    rw [Tile.setRegs_cons]
    obtain ⟨h1, h2⟩ := ih (x.setReg x.cwp.toNat p.1 p.2)
    refine ⟨by rw [h1]; rfl, fun w => ?_⟩
    rw [h2 w, Tile.window_setReg]

/-- The windows that `landWrites` leaves. -/
theorem landWrites_win (x : Tile) (m : MacOut) (a b : AluSlotOut) (o : MemOut) (rx : List (Nat × Word)) (w : Nat) :
    (landWrites x m a b o rx).window w =
      ((x.setRegs (regList m.reg ++ regList a.reg ++ regList b.reg ++ o.regs ++ rx)).modWindow x.cwp.toNat
        (fun w => { w with accRe := m.re.getD w.accRe, accIm := m.im.getD w.accIm })).window w := rfl

/-- What `landWrites` gives: the registers, the accumulators, and the rest of the tile. -/
theorem landWrites_regs (x : Tile) (m : MacOut) (a b : AluSlotOut) (o : MemOut) (rx : List (Nat × Word)) (w r : Nat) :
    (landWrites x m a b o rx).reg w r =
      x.regAfter (regList m.reg ++ regList a.reg ++ regList b.reg ++ o.regs ++ rx) w r := by
  rw [← Tile.reg_setRegs]
  unfold Tile.reg
  rw [landWrites_win, Tile.window_modWindow]
  split
  · next h => subst h; rfl
  · rfl

theorem landWrites_window (x : Tile) (m : MacOut) (a b : AluSlotOut) (o : MemOut) (rx : List (Nat × Word)) (w : Nat) :
    (landWrites x m a b o rx).window w =
      { x.window w with
        d := ((landWrites x m a b o rx).window w).d
        accRe := if w = x.cwp.toNat then m.re.getD (x.window x.cwp.toNat).accRe else (x.window w).accRe
        accIm := if w = x.cwp.toNat then m.im.getD (x.window x.cwp.toNat).accIm else (x.window w).accIm } := by
  rw [landWrites_win, Tile.window_modWindow]
  have h2 := (x.setRegs_rest (regList m.reg ++ regList a.reg ++ regList b.reg ++ o.regs ++ rx)).2
  split
  · next h => subst h; rw [h2]; simp
  · next h => rw [h2]; simp [Ne.symm h]

theorem landWrites_rest (x : Tile) (m : MacOut) (a b : AluSlotOut) (o : MemOut) (rx : List (Nat × Word))
    (hl : o.loads = []) :
    let y := landWrites x m a b o rx
    y = { x with win := y.win, status := statusAfter x.status m a b
                 agu0 := o.agu0.getD x.agu0, agu1 := o.agu1.getD x.agu1
                 eccn := y.eccn, eccSat := y.eccSat, busyBank := y.busyBank, refused := y.refused
                 rxHeld := none, trapping := none } := by
  have h1 := (x.setRegs_rest (regList m.reg ++ regList a.reg ++ regList b.reg ++ o.regs ++ rx)).1
  simp only [landWrites, hl, if_pos]
  rw [h1]
  rfl

/-- A ready tile with a legal word that touches no lane, moves no frame and is no STM or LDM executes it. -/
theorem issue_ready {s : State} {t : Nat} {word : BitVec 96} {w : TileWord} (h : s.ready t)
    (hw : decodeWord word = some w) (hf : forbidden (s.tile t) w = false)
    (hl : laneUnrouted (s.tile t) w.flow = false) (hr : rxEmpty (s.tile t) w.flow = none)
    (hx : s.txFull t w.flow = false) (hm : isMult w.mem = false) (hc : frameCheck (s.tile t) w.flow = none)
    (hn : needsTrap (s.tile t) w.flow = false) : s.issue t word = s.execute t w false 0 := by
  obtain ⟨h1, h2, h3, h4, h5, h6⟩ := h
  have hd : waitsForData (s.tile t) w = false := by
    unfold waitsForData Tile.awaits
    rw [h6]
    cases w.flow <;> simp
  unfold State.issue
  simp only [h1, h2, h3, h4, h5, hw, hf, hd, hl, hr, hx, hc, hn]
  cases hmm : w.mem <;> simp [hmm, isMult] at hm ⊢

/-- Execution of a word whose memory slot stores nothing and whose flow slot is empty or an ALU2. -/
theorem execute_plain {s : State} {t : Nat} {w : TileWord} {o : MemOut} (ho : s.memSlot t w.mem = .ok o)
    (hs : o.store = none)
    (hfl : w.flow = .nop ∨ (∃ op s d a b, w.flow = .alu2Reg op s d a b) ∨ ∃ op s d a n, w.flow = .alu2Imm op s d a n) :
    ∃ cyc, s.execute t w false 0 = s.modTile t (fun _ =>
      { (landWrites (s.tile t) (macSlot w.mac (s.tile t).rd ((s.tile t).window (s.tile t).cwp.toNat).accRe
          ((s.tile t).window (s.tile t).cwp.toNat).accIm) (aluSlot w.alu (s.tile t).rd (s.tile t).status)
          (alu2Out w (s.tile t)) o []).advance with cyc := cyc }) := by
  refine ⟨(s.tile t).cyc + BitVec.ofNat 32 (1 + bankStall (s.tile t) o.banks + (if o.half.isSome then 1 else 0) + 0), ?_⟩
  unfold State.execute
  rcases hfl with h | ⟨op, _, d, a, b, h⟩ | ⟨op, _, d, a, n, h⟩ <;>
    simp only [ho, hs, h, flowSlot, rxWrite, State.moveTokens, State.follow]

/-- A tile moved past its instruction stands as its landed writes left it. -/
theorem advance_rest (x y : Tile) (cyc : BitVec 32) (st : TileStatus) (g0 g1 : Agu)
    (hy : y = { x with win := y.win, status := st, agu0 := g0, agu1 := g1, eccn := y.eccn, eccSat := y.eccSat
                       busyBank := y.busyBank, refused := y.refused, rxHeld := none, trapping := none }) :
    { y.advance with cyc := cyc } =
      { x with win := y.win, pc := y.advance.pc, rep := y.advance.rep, status := st, agu0 := g0, agu1 := g1
               cyc := cyc, busyBank := y.busyBank, refused := y.refused, eccn := y.eccn, eccSat := y.eccSat
               rxHeld := none, trapping := none } := by
  rw [Tile.mk.injEq] at hy
  unfold Tile.advance
  simp only [Tile.mk.injEq]
  simp [hy]

/-- The completion of a word whose memory slot stores nothing and fetches nothing from cluster memory, and whose
flow slot is empty or an ALU2. -/
theorem completes_word {s : State} {t : Fin 1024} {c : Instr} {word : BitVec 96} {w : TileWord} {o : MemOut}
    (hc : exec c s = .next (s.issue t word)) (h : s.ready t) (hw : decodeWord word = some w)
    (hf : forbidden (s.tile t) w = false) (hm : isMult w.mem = false) (ho : s.memSlot t w.mem = .ok o)
    (hs : o.store = none) (hl : o.loads = [])
    (hfl : w.flow = .nop ∨ (∃ op s d a b, w.flow = .alu2Reg op s d a b) ∨ ∃ op s d a n, w.flow = .alu2Imm op s d a n) :
    let x := s.tile t
    let m := macSlot w.mac x.rd (x.window x.cwp.toNat).accRe (x.window x.cwp.toNat).accIm
    let a := aluSlot w.alu x.rd x.status
    s.completes t c (regList m.reg ++ regList a.reg ++ regList (alu2Out w x).reg ++ o.regs)
      (m.re.getD (x.window x.cwp.toNat).accRe) (m.im.getD (x.window x.cwp.toNat).accIm)
      (statusAfter x.status m a (alu2Out w x)) (o.agu0.getD x.agu0) (o.agu1.getD x.agu1) := by
  intro x m a
  have hi : s.issue t word = s.execute t w false 0 := by
    refine issue_ready h hw hf ?_ ?_ ?_ hm ?_ ?_ <;>
      rcases hfl with e | ⟨op, _, d, a, b, e⟩ | ⟨op, _, d, a, n, e⟩ <;> simp only [e] <;> rfl
  obtain ⟨cyc, he⟩ := execute_plain (s := s) (t := t) ho hs hfl
  have rest := landWrites_rest x m a (alu2Out w x) o [] hl
  refine ⟨_, hc, ?_⟩
  rw [hi, he]
  refine ⟨onlyTile_modTile _ _ _, ?_, ?_, ?_, ?_, ?_⟩
  · intro w' r
    rw [tile_modTile_self]
    refine Eq.trans (show _ = (landWrites x m a (alu2Out w x) o []).reg w' r from rfl) ?_
    rw [landWrites_regs]
    simp [x]
  · intro w'
    rw [tile_modTile_self]
    exact landWrites_window x m a (alu2Out w x) o [] w'
  · rw [tile_modTile_self]
    show (repAdvance (landWrites x m a (alu2Out w x) o []).pc (landWrites x m a (alu2Out w x) o []).frames
      (landWrites x m a (alu2Out w x) o []).rep).1 = _
    rw [rest]
  · rw [tile_modTile_self]
    show (repAdvance (landWrites x m a (alu2Out w x) o []).pc (landWrites x m a (alu2Out w x) o []).frames
      (landWrites x m a (alu2Out w x) o []).rep).2 = _
    rw [rest]
  · rw [tile_modTile_self]
    exact advance_rest x _ cyc _ _ _ rest

/-- The completion of a word that runs on the MAC unit, an ALU and ALU2 alone. -/
theorem completes_plain {s : State} {t : Fin 1024} {c : Instr} {word : BitVec 96} {w : TileWord}
    (hc : exec c s = .next (s.issue t word)) (h : s.ready t) (hw : decodeWord word = some w)
    (hf : forbidden (s.tile t) w = false) (hm : w.mem = .nop)
    (hfl : w.flow = .nop ∨ (∃ op s d a b, w.flow = .alu2Reg op s d a b) ∨ ∃ op s d a n, w.flow = .alu2Imm op s d a n) :
    let x := s.tile t
    let m := macSlot w.mac x.rd (x.window x.cwp.toNat).accRe (x.window x.cwp.toNat).accIm
    let a := aluSlot w.alu x.rd x.status
    s.completes t c (regList m.reg ++ regList a.reg ++ regList (alu2Out w x).reg)
      (m.re.getD (x.window x.cwp.toNat).accRe) (m.im.getD (x.window x.cwp.toNat).accIm)
      (statusAfter x.status m a (alu2Out w x)) x.agu0 x.agu1 := by
  have := completes_word (o := {}) hc h hw hf (by rw [hm]; rfl) (by rw [hm]; rfl) rfl rfl hfl
  simpa using this

end Sys2Proof.Machine
end

