-- ==== Sys2Proof/Tests/Slice0.lean ====
section
/-!
SUPPORT. Small states that meet the hypotheses of the statements, clause by clause; terms that the checks of
well-formedness refuse; and words and worked examples of the specification.
-/

set_option maxRecDepth 100000
set_option linter.unusedVariables false

namespace Sys2Proof.Tests

open Sys2Proof Sys2Proof.Machine

/-! ### States the witnesses are made of -/

/-- Tile 0 runs slot 0, whose code region is words 0 to 100; slot 1 is valid too. -/
def tile0 : Tile :=
  { ctx := 0, pc := 4, desc := [(0, 0x21900000), (8, 0x21900000)]
    agu0 := { base := 0x100 }, agu1 := { base := 0x200 }
    win := [(0, { d := [(1, 0x100), (2, 0x80000005), (3, 0x7FFF0007)], accRe := 0x1234567, accIm := 5 })] }

/-- A block whose only tile that differs from reset is tile 0. -/
def ofTile (x : Tile) : State := { State.reset with array := { tiles := [(0, x)] } }

/-- Tile 0 is ready, its AGUs and d1 in tile memory. -/
def tileState : State := ofTile tile0

/-- Tile 0 is ready, its AGUs and d1 in cluster memory. -/
def sharedState : State :=
  ofTile { tile0 with agu0 := { base := 0x40100 }, agu1 := { base := 0x40200 }
                      win := [(0, { d := [(1, 0x40100), (3, 7)] })] }

/-- Tile 0 is ready inside a repeat block of its frame. -/
def repeatState : State := ofTile { tile0 with pc := 5, rep := [⟨4, 8, 1, 3⟩] }

/-- Tile 0 is ready in a called frame, its LNK inside its code. -/
def calledState : State :=
  ofTile { tile0 with frames := 2, res := 2, cwp := 1, win := [(0, { d := [(12, 3)] }), (1, { d := [(0, 77)], lnk := 9 })] }

/-- Tile 0 is ready with every window resident. -/
def fullState : State := ofTile { tile0 with frames := 4, res := 4, cwp := 3 }

/-- Tile 0 waits for the trap of a CALL to 6. -/
def trapState : State :=
  ofTile { tile0 with frames := 4, res := 4, cwp := 3, win := [(0, { d := [(1, 9)] }), (3, { d := [(13, 4)] })]
                      trapping := some (joinWord 0 0 0 (encodeFlow (.call false 0 6))) }

/-- Tile 0 waits for the trap of a RET. -/
def underState : State :=
  ofTile { tile0 with frames := 3, res := 1, cwp := 2, win := [(2, { d := [(0, 9), (1, 8)], lnk := 7 })]
                      trapping := some (joinWord 0 0 0 (encodeFlow .ret)) }

/-- A token waits at port 1 of tile 0, which its switch gives to the tile. -/
def receiveState : State :=
  ofTile { tile0 with desc := [(0, 0x21900000), (7, 2)], inbuf := [(1, [77])] }

/-- Port 1 of tile 0 sends what the tile gives it, to port 3 of tile 1, which runs. -/
def sendState : State :=
  { State.reset with array := { tiles :=
      [(0, { tile0 with desc := [(0, 0x21900000), (6, 0x10)] }), (1, { ctx := 0, desc := [(0, 0x20000000)] })] } }

/-- Tile 0's sequencer has armed its switch to slot 1. -/
def armedState : State := ofTile { tile0 with armed := some 1, guarded := true }

/-- A cluster load of tile 0 is in flight for window 2. -/
def loadingState : State := ofTile { tile0 with loads := [⟨2, [(3, 9), (4, 8)]⟩] }

/-- Cluster 1 has a correctable error in word 8,200 and an uncorrectable one beside it. -/
def upsetState : State :=
  { State.reset with array := { clusters := [(1, { upsets := [(8200, 1), (8201, 2), (9000, 1)] })] } }

/-- Tile 0 has kept the sequencer out of bank 1 for 16 cycles. -/
def refusedState : State := ofTile { tile0 with refused := [(1, 16)] }

/-- Tile 0 is at rest, with sticky bits set. -/
def restState : State := ofTile { tile0 with ctx := 15, status := { sat := true, ovf := true } }

/-- The block runs in SERVICE after a millisecond; cluster 5 holds data. -/
def idleState : State :=
  { State.reset with now := 1000000, op := { state := .service }, array := { clusters := [(5, { mem := [(3, 7)] })] } }

/-- Cluster 5 is power-gated. -/
def gatedState : State :=
  { State.reset with now := 50, op := { state := .service }, array := { clusters := [(5, { gated := true })] } }

/-- A session of a role. -/
def sessionOf (r : Role) : Session :=
  { role := r, credential := 0, conn := 1, keepAlive := 10, openedAt := 0, lastHeard := 0, clientName := [], peer := [] }

/-- Session 1 of a role is open, and holds every lease in epoch 5. -/
def opened (r : Role) : SessionUnit :=
  { sessions := [(1, sessionOf r)], leases := (List.range 0x60).map (fun l => (l, { holder := 1, epoch := 5 })) }

/-- The block in an operational state, its firmware in slot A, with one session of a role. -/
def opState (o : OpState) (r : Role) : State :=
  { State.reset with now := 1000, op := { state := o, gaffer := .running .a, sources := [] }, sess := opened r }

/-- A request of session 1. -/
def ask : Req := ⟨1, 7, 5⟩

/-- A request of session 1 for what no lease governs. -/
def ask0 : Req := ⟨1, 7, 0⟩

/-- In SERVICE with a blank active in zone 1, both feeds of class 4: RUN is admitted. -/
def serviceState : State :=
  { opState .service .maintenance with
    blank := { active := [(1, 3)] }
    power := { feeds := [(0, { state := .powered, classEvents := 4 }), (1, { state := .powered, classEvents := 4 })] } }

/-- In RESET with no source left but POWER_ON. -/
def resetState : State := { State.reset with now := 100 }

/-- OFF. -/
def offState : State := { State.reset with now := 100, op := { state := .off, sources := [] } }

/-- The boot ROM runs in BOOT with the critical words good, and slot A verifies. -/
def bootRomState : State :=
  { State.reset with op := { state := .boot, gaffer := .bootRom, sources := [] }
                     fuse := { latchedState := [(0, 1), (7, 1)] }
                     blank := { fwA := { mark := .confirmed, verifies := true } } }

/-- Firmware of slot A is selected, and the Gaffer restarts in SERVICE. -/
def selectedState : State :=
  { State.reset with op := { state := .service, gaffer := .selected .a, sources := [] } }

/-- Firmware has run since 1 µs; 10 s have passed. -/
def servedState (trial : Option Nat) : State :=
  { State.reset with now := 20000000000
                     op := { state := .service, gaffer := .running .a, sources := [], servedSince := 1000, watchdogCount := 1
                             trial := true, trialSince := trial } }

/-- Asleep since 1 ms, WAKE low since 2 ms. -/
def sleepState : State :=
  { opState .sleep .maintenance with
    now := 20000000
    op := { state := .sleep, gaffer := .running .a, sources := [], sleepAt := some 1000000, wakeLow := true, wakeFellAt := some 2000000 } }

/-- A frame that is a magic packet of the device's address and no more. -/
def magicFrame : List Nat :=
  List.replicate 6 0xFF ++ (List.replicate 16 (bytesBE 6 (Config.identity (okey 0x1100 1)))).flatten

theorem holdsMagic_self (m : List Nat) :
    holdsMagic m (List.replicate 6 0xFF ++ (List.replicate 16 m).flatten) = true := by
  simp [List.replicate, holdsMagic]

theorem magicFrame_holds : sleepState.op.state = .sleep ∧
    holdsMagic (bytesBE 6 (Config.identity (okey 0x1100 1))) magicFrame = true :=
  ⟨rfl, holdsMagic_self _⟩

/-- DISCIPLINED with one accepted sample of 1 ns. -/
def lockedState : State :=
  { State.reset with
    now := 2000000000, op := { state := .service, gaffer := .running .a, sources := [] }
    time := { state := .disciplined, quality := .coarse, lastSync := some 1000000000, syncLog := -3, fAt := 2000000000
              accepted := [{ offset := 1000, delay := 500, at_ := 1000000000, moved := 0 }] } }

/-- SERVICE with channel 1 in RS-422 mode, in an angle state, its shaft at position 5 and turning forward. -/
def encoderState (a : AngState) : State :=
  { State.reset with
    now := 1000, op := { state := .service, gaffer := .running .a, sources := [] }
    sess := { inForce := [(okey 0x5001 1, .num 1)] }
    angle := { ch := [(1, { state := a, homed := a != .stopped, pos := 5, forward := true, w := 1000000, wLocked := 900000, th := 77 })] } }

/-- An edge of B has come 1 T80 unit ago. -/
def pairState : State :=
  { encoderState .locked with
    angle := { ch := [(1, { state := .locked, homed := true, pos := 5, lastDelta := 1, edgeB := some 65536, w := 1000000 })] } }

/-- The mark channel turns and its mark at angle 0 is near. -/
def markState : State :=
  { State.reset with
    op := { state := .service, gaffer := .running .a, sources := [] }
    angle := { ch := [(0, { state := .locked, homed := true, pos := 16383, forward := true, w := 281474976710, th := 2 ^ 48 - 7036874417 })] }
    blank := { slots := [(0, { state := .activating, mode := .atMark })] } }

/-- An angle event's firing lies 400 ns back. -/
def firedEvent : QEvent :=
  { uid := 5, serial := 9, pos := 1, ch := 0, act := 1, param := 0, key := .angle 1 77, rpt := false, task := 0, tag := 0
    zone := 1, stage := .frozen, when_ := 65536 }

/-- Ring 2 holds that event. -/
def firedState : State :=
  { State.reset with time := { t64 := 500 }, ring := { rings := [(2, { events := [firedEvent] })] }
                     angle := { ch := [(1, { state := .locked, th := 0, w := 1000 })] } }

/-- RUN, an OPERATOR's session open; task 9 of zone 1 has tile 0 in its slot 1. -/
def taskState (t : TaskState) (k : TriggerKind) : State :=
  { opState .run .operator with
    array := { tiles := [(0, { tile0 with ctx := if t = .running ∨ t = .draining then 1 else 15
                                          owner := if t = .running ∨ t = .draining then some 9 else none })]
               tasks := [(9, { zone := 1, tiles := [(0, 1)], state := t, kind := k, queueSize := 4 })] } }

/-- Task 9 fires every 1,000 ns with phase 200. -/
def periodState : State :=
  { taskState .armed .period with
    time := { t64 := 5300 }
    array := { tasks := [(9, { zone := 1, tiles := [(0, 1)], state := .armed, kind := .period, param := 200 * 2 ^ 32 + 1000 })] } }

/-- Task 9 has a tile in clusters 0 and 1. -/
def multiState (t : TaskState) (r : Option StartRound) : State :=
  { opState .run .operator with
    array := { tiles := [(0, { tile0 with ctx := 15 }), (4, { tile0 with ctx := 15 })]
               tasks := [(9, { zone := 1, tiles := [(0, 1), (4, 0)], state := t, kind := .time, start := r })] } }

/-- Its start has been aborted twice. -/
def failState : State :=
  { opState .run .operator with
    array := { tasks := [(9, { zone := 1, tiles := [(0, 1), (4, 0)], state := .ready, aborts := 2
                               start := some ⟨1010, some 1, [0], false, [], false⟩ })] } }

/-- Task 9 drains and its tile has reached context 15. -/
def drainedState : State :=
  { taskState .draining .host with
    array := { (taskState .draining .host).array with tiles := [(0, { tile0 with ctx := 15, owner := some 9 })] } }

/-- Task 9 has stopped with tokens in its buffers and its queue. -/
def flushState : State :=
  { taskState .stopped .host with
    array := { tiles := [(0, { tile0 with inbuf := [(1, [5, 6]), (3, [7])] })]
               tasks := [(9, { zone := 1, tiles := [(0, 1)], state := .stopped, queue := [1, 2], flushDue := true })] } }

/-- Z0 has cluster 0, where tile 0 runs, and a quench stop is due. -/
def quenchStopState : State :=
  { State.reset with
    quench := { words := [(0, 1)], stopDue := true }
    array := { tiles := [(0, { tile0 with owner := some 9 })]
               tasks := [(9, { zone := 0, tiles := [(0, 1)], state := .running }), (10, { zone := 1, state := .running })] } }

/-- Bridge 3 joins cluster 0 of zone 1 and cluster 1 of zone 2. -/
def bridgeState (o : Bool) : State :=
  { opState .service .operator with
    sess := { opened .operator with inForce := [(okey 0x3001 1, .num 1), (okey 0x3002 1, .num 2)] }
    array := { bridges := [(3, { a := 0, b := 1, opened := o })] } }

/-- Cluster 1 holds 7 in word 4. -/
def wordState : State :=
  { State.reset with now := 9000, op := { state := .service, gaffer := .running .a, sources := [] }
                     array := { clusters := [(1, { mem := [(32, 7)] })] } }

/-- Task 9's queue has number 2 in cluster 0. -/
def queueState : State :=
  { wordState with array := { tasks := [(9, { zone := 1, tiles := [(0, 1)], state := .loaded, kind := .host, queueNo := 2, queueSize := 4 })] } }

/-- A staged start of task 9. -/
def stagedOne : StagedEntry :=
  { src := 0, tag := 1, msg := .taskStart 9 100, hold := 500, applyAt := 501, onCommit := false, committed := false }

/-- NI 1 holds it. -/
def stagedState : State := { wordState with net := { nis := [(1, { staged := [stagedOne] })] } }

/-- NI 2's entry 5 to NI 1 is down. -/
def downState : State :=
  { wordState with net := { nis := [(2, { entries := [(5, { target := 1, allot := 4, live := true, down := true, timeouts := 4 })] })] } }

/-- Flow 2 leads to NI 66 and its queue holds 4 words. -/
def flowState : State :=
  { wordState with net := { flows := [(2, { source := 1, target := 66, runs := 1, size := 4 })] } }

/-- NI 1 waits for NI 2 under tag 3, for descriptor 0 of its ring at 0. -/
def tagState : State :=
  { wordState with net := { nis := [(1, { tags := [(3, some { waiting := [(2, 5)], epo := 0, issuedAt := 0, use := .descriptor 0 })]
                                          entries := [(5, { target := 2, allot := 4, credits := 1, live := true })], ringSize := 4 })] } }

/-- Cluster 1 of zone 1 has a WR of one word in descriptor 0 of its ring, for entry 5. -/
def producerState : State :=
  { wordState with
    sess := { inForce := [(okey 0x3001 1, .num 2)] }
    array := { clusters := [(1, { mem := [(0, 0x42), (1, 0x11)] })] }
    net := { nis := [(1, { entries := [(5, { target := 2, allot := 4, credits := 1, live := true })], ringSize := 4 })] } }


/-- The 64 bytes of a header with the magic number and TOTAL given, for zone 1, with one section. -/
def headerOf (magic : List Nat) (total : Nat) : List Nat :=
  let h := magic ++ [1, 0, 0x32, 0x32] ++ bytesLE 4 total ++ [0, 0, 1, 2] ++ List.replicate 40 0
  h ++ bytesLE 4 (crc32c h) ++ [0, 0, 0, 0]

/-- A blank's header. -/
def blankHeader (total : Nat) : List Nat := headerOf [0x4C, 0x5A, 0x42, 0x4B] total

/-- A firmware image's header. -/
def firmwareHeader (total : Nat) : List Nat := headerOf [0x4C, 0x5A, 0x46, 0x57] total

/-- Staging slot 0 holds entry 2, an image of 68 bytes for zone 1 of which the header has come. -/
def stagingState (st : StageState) : State :=
  { opState .service .maintenance with
    time := { t64 := 5000 }
    blank := { slots := [(0, { state := st, owner := 1, entry := 2, total := 68, edge := if st = .activating then some 90000 else none
                               committed := st = .activating })]
               library := [(2, { state := st, image := blankHeader 68, reserved := 68, golden := [(1, 5)] })]
               assay := { tainted := if st = .priming then [1] else [] } } }

/-- Its session wants it primed. -/
def wantedState : State :=
  { stagingState .verifying with
    blank := { (stagingState .verifying).blank with slots := [(0, { state := .verifying, owner := 1, entry := 2, total := 68, primeWanted := true })] } }

/-- The library holds entry 2. -/
def libraryState : State :=
  { opState .service .maintenance with
    blank := { library := [(2, { state := .verified, image := blankHeader 68, reserved := 68 })] } }

/-- Slot 0 is activating at 90 µs, and zone 1 has clusters 0 and 1. -/
def roundState : State :=
  { stagingState .activating with
    sess := { opened .maintenance with inForce := [(okey 0x3001 1, .num 3)] }
    blank := { (stagingState .activating).blank with
      slots := [(0, { state := .activating, owner := 1, entry := 2, total := 68, edge := some 90000 })] } }

/-- An apply of session 1 that waits for a mark. -/
def waitingApply : Apply :=
  { session := 1, mode := .atMark, fallback := none, set := [⟨okey 0x8500 1, .num 20, none, 5⟩], edge := none, since := 0
    aborted := 0, stage := 0, jseq := 7 }

/-- An apply and an activation have waited for a mark for 40 s. -/
def waitState : State :=
  { stagingState .activating with
    now := 40000000000
    sess := { opened .maintenance with applies := [waitingApply] }
    blank := { (stagingState .activating).blank with
      slots := [(0, { state := .activating, owner := 1, entry := 2, total := 68, mode := .atMark, actFallback := 1 })] } }

/-- A firmware upload into slot B has its header. -/
def uploadState : State :=
  { opState .service .maintenance with blank := { upload := some ⟨.b, 68, firmwareHeader 68⟩ } }

/-- HALT, with a verified image in slot B. -/
def haltState : State :=
  { opState .halt .maintenance with
    op := { state := .halt, gaffer := .recovery, sources := [] }, blank := { fwB := { verifies := true } } }

/-- A descriptor: code word 0, window 0. -/
def repairWords : List Word := [0, 0, 7, 0, 9, 0, 0, 0]

/-- An image whose one section gives slot 1 of tile 0 that descriptor. -/
def repairImage : List Nat :=
  let c := [0, 1, 0, 0] ++ repairWords.flatMap (fun w => bytesLE 4 w.toNat)
  blankHeader 116 ++ [3, 0, 0, 0] ++ bytesLE 4 80 ++ bytesLE 4 36 ++ bytesLE 4 (crc32c c) ++ c

/-- Entry 3, active in zone 1, gives slot 1 of tile 0, which is tainted. -/
def repairState : State :=
  { opState .service .maintenance with
    now := 20000000
    array := { tiles := [(0, { tile0 with ctx := 15, imem := [(0, 77)] })] }
    blank := { active := [(1, 3)]
               library := [(3, { state := .active, image := repairImage, reserved := 116, golden := [(1, signatureOf repairWords (fun _ => 0))] })]
               assay := { golden := [(1, signatureOf repairWords (fun _ => 0))], tainted := [1] } } }

/-- A session with one write in its pending set. -/
def applyingSession : Session :=
  { sessionOf .maintenance with pendingSet := [⟨okey 0x8500 1, .num 20, some 10, 5⟩] }

/-- Its block, at T64 5,000. -/
def applyingState : State :=
  { serviceState with time := { t64 := 5000 }, sess := { opened .maintenance with sessions := [(1, applyingSession)] } }

/-- An apply of a value that the Gaffer alone holds, with its edge at 5,000. -/
def ownApply (stage : Nat) : Apply :=
  { session := 1, mode := .atOnce, fallback := none, set := [⟨okey 0x8500 1, .num 20, some 10, 5⟩], edge := some 5000, since := 0
    aborted := 0, stage := stage, jseq := 7 }

/-- The apply stands at a stage. -/
def ownApplyState (stage : Nat) : State :=
  { serviceState with time := { t64 := 1000 }, sess := { opened .maintenance with applies := [ownApply stage] } }

/-- An apply of the zones that ring 0 admits. -/
def unitApply : Apply :=
  { session := 1, mode := .atOnce, fallback := none, set := [⟨okey 0x5100 1, .num 2, some 7, 5⟩], edge := some 105000, since := 0
    aborted := 0, stage := 0, jseq := 7 }

/-- The apply waits for its round. -/
def roundApply (t : Nat) : State :=
  { serviceState with time := { t64 := t }, sess := { opened .maintenance with applies := [unitApply] } }

/-- The round of an activation of slot 0 under tag 0, with two members. -/
def deadlineRound (oks : List Nat) : AtomicRound :=
  { kind := .activation 0, tag := 0, members := [0, 1], oks := oks, deadline := 86000, hold := 89000, edge := 90000 }

/-- Its tag. -/
def deadlineTag : NetTag := { waiting := [], epo := 0, issuedAt := 0, use := .round 0 0 false }

/-- Its DEADLINE has come. -/
def deadlineState (oks : List Nat) : State :=
  { roundState with time := { t64 := 86000 }
                    net := { rounds := [deadlineRound oks], nis := [(64, { tags := [(0, some deadlineTag)] })] } }

/-- The committed start of task 9 at cluster 0. -/
def memberStage : StagedEntry :=
  { src := 0, tag := 1, msg := .taskStart 9 1010, hold := 500, applyAt := 1010, onCommit := false, committed := true }

/-- Task 9 starts in clusters 0 and 1 at 1,010. -/
def memberState : State :=
  { multiState .ready (some ⟨1010, some 1, [0, 1], true, [0, 1], false⟩) with
    now := 1010, time := { t64 := 1010 }, net := { nis := [(0, { staged := [memberStage] })] } }

/-- Ring 2 in a state, with one head described, its serial in the table of the last CLOSED state; SERVICE at 20 s. -/
def ringState (x : RingState) : State :=
  { opState .service .maintenance with
    now := 20000000000, time := { t64 := 5000500 }
    ring := { rings := [(2, { state := x, headCount := 1, lastCount := 1, serials := [(1, 9)], segAEnd := 1
                              recs := [(1, { present := true, desc := { serial := 9, channels := 4, evCap := 8 }, confirmed := true })] })] } }

/-- Ring 2 of `n` heads is being calibrated. -/
def calState (n : Nat) : State :=
  { ringState .training with
    ring := { rings := [(2, { (ringState .training).ringAt 2 with headCount := n, calBusy := true, calF := some 250000 })] } }

/-- Head 1 of ring 2: time-valid, fed at port U, not quenched, with four channels. -/
def headOne : Head :=
  { powered := true, desc := { serial := 9, channels := 4, evCap := 8 }, pos := 1, timeValid := true, localBase := 655360000, localAt := 10000
    dlyA := some 100, dlyB := some 200, tmarkU := some 9000, armU := some 9500, pairAt := 9000, quenched := false }

/-- A ring with that head. -/
def withHead (h : Head) : State :=
  { ringState .closed with now := 10000, time := { t64 := 10000 }
                           ring := { (ringState .closed).ring with heads := [(2 * 128 + 1, h)] } }

/-- The head stands as it is. -/
def headState : State := withHead headOne

/-- A SAFE frame of ring 2 at 10 us. -/
def safeOf (sseq q : Nat) : SafeFields :=
  { sseq := sseq, stime := 10000, qstate := q, sfmode := 0, qcause := 0, rsv := 0, scrc := safeCrc 2 sseq 10000 q 0 0 0 }

/-- Ring 2, CLOSED and not quenched, in RUN, with these events pending; zone 1 may send events, and task 9 takes tokens. -/
def queueRing (l : List QEvent) : State :=
  { opState .run .operator with
    now := 20000000000, time := { t64 := 5000500 }
    sess := { opened .operator with inForce := [(okey 0x5102 1, .num 2)] }
    quench := { qa := true, qb := true }
    array := { tasks := [(9, { zone := 1, state := .running, kind := .host, queueSize := 16, tref := 6, entry := 3 })] }
    ring := { rings := [(2, { state := .closed, headCount := 1, lastCount := 1, goodSafeA := 4, events := l, nextUid := 7
                              recs := [(1, { present := true, desc := { serial := 9, channels := 4, evCap := 8 }, confirmed := true })] })] } }

/-- An ON of channel 0 of head 1 at 5.1 ms. -/
def dueEvent : QEvent :=
  { uid := 5, serial := 9, pos := 1, ch := 0, act := 1, param := 0, key := .time 5100000, rpt := false, task := 9, tag := 1, zone := 1
    when_ := 334233600000 }

/-- It has been sent. -/
def sentEvent : QEvent := { dueEvent with stage := .sent, eid := 3, sentAt := 1000 }

/-- It is done, and reported. -/
def doneEvent : QEvent := { sentEvent with stage := .frozen, rpt := true, when_ := 4999000 * 65536 }

/-- A sent angle event whose WHEN was taken 1 us too early. -/
def trimmedEvent : QEvent := { sentEvent with key := .angle 0 1669332991, when_ := 334233600000 - 65536000 }

/-- The same, 27 us before its WHEN. -/
def lastEvent : QEvent := { sentEvent with key := .angle 0 452984831, when_ := 5026000 * 65536 }

/-- Ring 2 with an angle event; the shaft turns and will pass its angle at 5.1 ms. -/
def angleRing (e : QEvent) : State :=
  { queueRing [e] with
    sess := { opened .operator with inForce := [(okey 0x5000 1, .num 1)] }
    angle := { ch := [(0, { state := .locked, homed := true, forward := true, w := 281474976710, wLocked := 281474976710, th := 0
                            ts := 327712768000 })] } }

/-- Group slot 3 assembles. -/
def openGroup : Group :=
  { atomic := true, n := 1, ackWindow := 0, task := 9, tag := 1, zone := 1, entry := 0, openedAt := 0 }

/-- A group of one member. -/
def oneGroup (st : GroupStage) : Group :=
  { openGroup with stage := st, members := [5], mask := [1], gid := 4, hold := 5080000, deadline := 5070000 }

/-- Its member. -/
def memberEvent : QEvent := { dueEvent with group := some 3 }

/-- Ring 2 with a group in slot 3. -/
def groupRing (g : Group) (l : List QEvent) : State :=
  { queueRing l with ring := { rings := [(2, { (queueRing l).ringAt 2 with groups := [(3, g)] })] } }

/-- Stream 3 of head 1 is bound to task 9. -/
def senseRing : State :=
  { queueRing [] with ring := { (queueRing []).ring with sections := [(3, { zones := [1], templates := [], bindings := [⟨2, 1, 3, 6⟩] })] } }

/-- ON of channel 2 at 60 us, under EID 3. -/
def onEntry : EventEntry := { ch := 2, act := 1, eid := 3, when_ := 60000 * 65536, param := 0 }

/-- Head 1 holds an entry. -/
def holding (e : EventEntry) : Head := { headOne with held := [{ entry := e, arrival := 0 }], arrivals := 1 }

/-- The energy unit knows head 9 and counts its reports. -/
def energyHeadState : State :=
  { headState with sess := { opened .maintenance with inForce := [(okey 0x6012 1, .num 1)] }
                   energy := { accepting := true, heads := [(9, some ⟨2000, 2⟩)] } }

/-- ARMED in RUN; SI0 is a GUARD that is closed, SI1 a RESET pair; both contacts of QO0 conduct. -/
def armedState2 : State :=
  { opState .run .operator with
    now := 20000000000, time := { t64 := 5000500 }
    quench := { qa := true, qb := true, active := [], words := [(4, 13 + 32768)]
                si := [(0, { openA := false, openB := false, passedA := true, passedB := true })]
                qo := [(0, { conducts := true }), (1, { conducts := true })] } }

/-- QUENCHED by the GUARD, whose channel B is open. -/
def guardState : State :=
  { armedState2 with quench := { armedState2.quench with
      qa := false, qb := false, active := [0x10], si := [(0, { openA := false, openB := true, differSince := some 1000 })] } }

/-- No cause is active, the GUARD is closed and tested, and the RESET pair is pressed. -/
def pressState : State :=
  { armedState2 with
    now := 200001000
    quench := { armedState2.quench with
      qa := false, qb := false
      si := [(0, { openA := false, openB := false, passedA := true, passedB := true }), (1, { openA := false, openB := false, closedSince := some 1000 })]
      qo := [] } }

/-- A command PDU of address 7 under count `n`, RUN_PERMIT alone set. -/
def commandPdu (n : Nat) : List Nat :=
  let b := bytesBE 2 7 ++ bytesBE 2 n ++ [1, 0] ++ bytesBE 2 100 ++ bytesBE 4 0
  b ++ bytesBE 4 (crc32cFrom 0 b)

/-- PDUs are enabled, with a watchdog of 10 ms and no count accepted yet. -/
def pduState : State :=
  { opState .run .safety with
    now := 20000000000, quench := { active := [], words := [(4, 4096), (5, 100 * 65536 + 7)] } }

/-- Comparator channel 3 has one token on each side. -/
def mirrorState (a b : Word) : State :=
  { armedState2 with quench := { armedState2.quench with cmp := [(3, { queueA := [(a, 0)], queueB := [(b, 0)] })] } }

/-- ARMED, with ring 2 CLOSED and no SAFE frame sent for 20 s. -/
def armedRing : State := { armedState2 with ring := (ringState .closed).ring }

/-- `n` handshakes in progress since 5 ns, in SERVICE and commissioning. -/
def shakingState (n : Nat) (c : Option Nat) : State :=
  { opState .service .operator with sess := { handshakes := (List.range n).map (fun i => ⟨i, 5, false, [], c⟩) } }

/-- One handshake, and credential 3 enabled with a key of zeros. -/
def credentialState (c : Option Nat) : State :=
  { shakingState 1 c with
    sess := { (shakingState 1 c).sess with inForce := [(okey 0x1503 1, .oct (List.replicate 32 0)), (okey 0x1503 4, .num 1)] } }

/-- Session 2 holds lease 0. -/
def heldElsewhere : State :=
  { serviceState with sess := { serviceState.sess with leases := [(0, { holder := 2, epoch := 5 })] } }

/-- A fence of lease 3 waits since 500 ns; an acknowledgement began at 1 us and has lasted. -/
def fencedState : State :=
  { serviceState with
    now := 60000000
    sess := { serviceState.sess with ackFuse := some 1000, leases := [(3, { holder := 2, epoch := 5, fence := .waitAck, fenceAt := 500 })] } }

/-- Session 1 holds image record 3. -/
def imageState (x : ImageRec) : State :=
  { serviceState with
    time := { t64 := 5000500 }, sess := { serviceState.sess with images := [(3, { x with owner := 1 })] } }

/-- Ring controller 2 has a histogram, 64 periods of bursts at one offset, and two frames held for a gap. -/
def noiseState : State :=
  { serviceState with
    now := 100000000000, time := { t64 := 30000000 }
    ring := { rcs := [(2, { hist := [(3, 9), (4, 1)], phase0 := 5000000, window := [25006400, 5006400]
                            deferred := [(9, true, 3, .commit 1 []), (9, false, 4, .commit 1 [])] })] } }

/-- FUSE_EN high, 1.8 V, 25 °C. -/
def goodEnv : FuseEnv := ⟨true, 1800, 250⟩

/-- Word 0x24 is being programmed for session 1. -/
def programmingState : State :=
  { serviceState with fuse := { prog := some ⟨0x24, 7, [], 1, 9⟩, phase := 1, copyA := [(0x24, 2)], copyB := [(0x25, 3)] } }

/-- Word 0x24 stands in copy A alone. -/
def fusedState : State := { serviceState with fuse := { copyA := [(0x24, fuseTarget 0x24 7)] } }

/-- The running image has SVN 9. -/
def svnState : State := { serviceState with blank := { serviceState.blank with fwA := { svn := 9 } } }

/-- One object waits for its home record; another was written at 500 ns. -/
def dirtyState : State :=
  { serviceState with now := 200000000, store := { dirty := [0x850001, 0x850002], homeAt := [(0x850001, 500), (0x850002, 150000000)] } }

/-- The energy unit runs, MTR0 enabled and 2 pulses counted, its last pulse at 0; a ceiling of 30 W. -/
def meterState : State :=
  { serviceState with
    now := 100000000000000, time := { t64 := 1700000000000 }
    sess := { opened .maintenance with inForce := [(okey 0x6010 1, .num 1), (okey 0x6010 2, .num 3), (okey 0x6000 5, .num 30)] }
    energy := { accepting := true, sources := [(0, { n := 2 })], start := 900000000000, stop := 1800000000000, energy := [(0, 7000)] } }

/-- Its boundary has come. -/
def boundaryState : State := { meterState with time := { t64 := 1800000000004 } }

/-- Task 9 has a tile in cluster 1, no feed is POWERED, and Z0 is empty. -/
def loadedState : State :=
  { serviceState with power := {}, array := { tasks := [(9, { zone := 1, tiles := [(4, 1)], state := .loaded })] } }

/-- Word 0 of a two-wire command of operation `op`: 2 bytes at address 0x10, task 9, tag 5. -/
def readWord (op : Nat) : Nat := op + 0x10 * 2 ^ 3 + 2 * 2 ^ 18 + 9 * 2 ^ 24 + 5 * 2 ^ 32

/-- A host's READ. -/
def readOne : TwCommand := ⟨.host, [readWord 2]⟩

/-- A host's WRITE. -/
def writeOne : TwCommand := ⟨.host, [readWord 1, 0x0605]⟩

/-- A host's WRITE_READ. -/
def bothOne : TwCommand := ⟨.host, [readWord 3]⟩

/-- Bus 1 has these commands queued, and is polled every 100 ms. -/
def busState (l : List TwCommand) : State :=
  { serviceState with
    now := 200000000, sess := { opened .maintenance with inForce := [(okey 0x9001 4, .num 100)] }
    io := { buses := [(1, { queue := l })] } }

/-- A round of bus 1 is due, of its entry 3. -/
def pollState : State :=
  { busState [] with
    sess := { opened .maintenance with
      inForce := [(okey 0x901B 1, .num 0x10), (okey 0x901B 2, .num 1), (okey 0x901B 4, .num 1), (okey 0x901B 6, .num 9)] }
    array := { tasks := [(9, { zone := 1, state := .running, kind := .host, queueSize := 16 })] }
    io := { buses := [(1, { roundDue := true, request := some 7 })] } }

/-- TWT is on. -/
def twtState : State :=
  { serviceState with
    now := 200000000, sess := { opened .maintenance with inForce := [(okey 0x9040 1, .num 1)] }
    array := { tasks := [(9, { zone := 1, state := .running, kind := .host, queueSize := 16 })] } }

/-- DIO4 in a mode, with a filter, at 5 ms. -/
def dioState (mode filter : Nat) (p : DioPin) : State :=
  { serviceState with
    time := { t64 := 5000000 }
    sess := { opened .maintenance with inForce := [(okey 0x9104 1, .num mode), (okey 0x9104 3, .num filter)] }
    io := { dio := [(4, p)] } }

/-- Tile 0 is ready, its AGUs and d3 at odd addresses. -/
def misalignedState : State :=
  ofTile { tile0 with agu0 := { base := 0x101 }, agu1 := { base := 0x203 }, win := [(0, { d := [(3, 0x301)] })] }

/-! ### What meets the hypotheses of the statements, clause by clause -/

/-- States and operands that meet the hypotheses of `Obligations.ResetAndPowerTransitions`, clause by clause. -/
theorem witness_ResetAndPowerTransitions :
  (∃ (s : State) (f : Fin 2), (s.op.state = .off)) ∧
  (∃ (s : State) (ready high bist : Bool) (weak : List (Fin 64)), (s.op.state = .reset)) ∧
  (∃ (s : State) (ns : Nat), (1000 ≤ ns) ∧ (s.op.state ≠ .off) ∧ (s.op.state ≠ .reset)) ∧
  (∃ (s : State) (ns : Nat), (ns < 200)) ∧
  (∃ (s : State) (mv : Nat), (s.op.state ≠ .off)) :=
  ⟨⟨offState, 0, by decide⟩,
    ⟨resetState, true, true, true, [], by decide⟩,
    ⟨serviceState, 1000, by decide⟩,
    ⟨serviceState, 199, by decide⟩,
    ⟨serviceState, 3000, by decide⟩⟩

/-- States and operands that meet the hypotheses of `Obligations.GafferStartsAndExpiries`, clause by clause. -/
theorem witness_GafferStartsAndExpiries :
  (∃ (s : State) (k : FwSlot), (s.op.gaffer = .bootRom) ∧ (s.op.state = .boot) ∧ (s.bootFault = none) ∧ (s.blank.trialStored = none) ∧ (s.selectFw = some k)) ∧
  (∃ (s : State) (k : FwSlot), (s.op.gaffer = .selected k) ∧ (s.op.state ≠ .boot) ∧ (s.blank.slots = []) ∧ (s.blank.active = []) ∧ (s.sess.stored = []) ∧ (s.sess.restoreDefaults = false) ∧ (s.sess.applies = []) ∧ (s.energy.backlog = [])) ∧
  (∃ (s : State), (s.gafferRuns = true) ∧ (s.op.watchdogCount < 2)) ∧
  (∃ (s : State), (s.gafferRuns = true) ∧ (2 ≤ s.op.watchdogCount) ∧ (s.op.state ≠ .halt) ∧ (s.op.state ≠ .off) ∧ (s.op.state ≠ .reset)) ∧
  (∃ (s : State) (k : FwSlot), (s.op.gaffer = .running k) ∧ (s.op.servedSince + 10000000000 ≤ s.now)) ∧
  (∃ (s : State) (k : FwSlot) (t : Nat), (s.op.gaffer = .running k) ∧ (s.op.trialSince = some t) ∧ (t + 10000000000 ≤ s.now) ∧ (s.op.state = .service ∨ s.op.state = .run)) ∧
  (∃ (s : State) (a : Nat), (s.gafferRuns = true) ∧ (s.op.state ≠ .halt) ∧ (s.op.state ≠ .off) ∧ (s.op.state ≠ .reset)) :=
  ⟨⟨bootRomState, .a, by decide⟩,
    ⟨selectedState, .a, by decide⟩,
    ⟨serviceState, by decide⟩,
    ⟨{ serviceState with op := { serviceState.op with watchdogCount := 2 } }, by decide⟩,
    ⟨servedState none, .a, by decide⟩,
    ⟨servedState (some 1000), .a, 1000, by decide⟩,
    ⟨serviceState, 0x1234, by decide⟩⟩

/-- States and operands that meet the hypotheses of `Obligations.OpCommandAndWakeResults`, clause by clause. -/
theorem witness_OpCommandAndWakeResults :
  (∃ (s : State) (q : Req) (ss : Session), (s.hears q ss) ∧ (s.admitted q ss (okey 0x1010 2)) ∧ (s.op.state = .service) ∧ (s.someActive = true) ∧ (s.store.refreshDue = false) ∧ (s.power.brownoutCount < 3) ∧ (s.admits s.committed = true)) ∧
  (∃ (s : State) (q : Req) (ss : Session), (s.hears q ss) ∧ (s.admitted q ss (okey 0x1010 2)) ∧ (s.op.state = .run ∨ s.op.state = .sleep)) ∧
  (∃ (s : State) (q : Req) (ss : Session), (s.hears q ss) ∧ (s.admitted q ss (okey 0x1010 2)) ∧ (s.op.state = .service)) ∧
  (∃ (s : State) (q : Req) (ss : Session), (s.hears q ss) ∧ (s.admitted q ss (okey 0x1010 2)) ∧ (ss.role = .maintenance) ∧ (s.op.state ≠ .reset) ∧ (s.op.state ≠ .off)) ∧
  (∃ (s : State) (q : Req) (ss : Session), (s.hears q ss) ∧ (s.admitted q ss (okey 0x1010 2)) ∧ (ss.role = .maintenance) ∧ (s.op.state ≠ .halt)) ∧
  (∃ (s : State) (p : Port) (b : List Nat), (s.op.state = .sleep) ∧ (holdsMagic (bytesBE 6 (Config.identity (okey 0x1100 1))) b = true)) ∧
  (∃ (s : State) (f z : Nat), (s.op.state = .sleep) ∧ (s.op.wakeLow = true) ∧ (s.op.wakeFellAt = some f) ∧ (s.op.sleepAt = some z) ∧ (z ≤ f) ∧ (f + 10000000 ≤ s.now)) :=
  ⟨⟨serviceState, ask0, sessionOf .maintenance, by decide⟩,
    ⟨sleepState, ask0, sessionOf .maintenance, by decide⟩,
    ⟨serviceState, ask0, sessionOf .maintenance, by decide⟩,
    ⟨serviceState, ask0, sessionOf .maintenance, by decide⟩,
    ⟨serviceState, ask0, sessionOf .maintenance, by decide⟩,
    ⟨sleepState, .fa, magicFrame, magicFrame_holds⟩,
    ⟨sleepState, 2000000, 1000000, by decide⟩⟩

/-- States and operands that meet the hypotheses of `Obligations.PtpSampleAndTimebaseTransitions`, clause by clause. -/
theorem witness_PtpSampleAndTimebaseTransitions :
  (∃ (s : State) (p : Port) (l o d : Int), (s.servoRuns = true) ∧ (-7 ≤ l ∧ l ≤ 0) ∧ (s.time.state = .disciplined) ∧ ((s.time.integrate s.now).outlier s.outlierLimit (o - s.setting 0x1302 (if p = .fa then 1 else 2) 0) d = true) ∧ (s.time.rejectRun + 1 < s.num 0x1303 2 4)) ∧
  (∃ (s : State) (p : Port) (l o d : Int), (s.servoRuns = true) ∧ (-7 ≤ l ∧ l ≤ 0) ∧ (s.time.state = .disciplined) ∧ ((s.time.integrate s.now).outlier s.outlierLimit (o - s.setting 0x1302 (if p = .fa then 1 else 2) 0) d = false)) ∧
  (∃ (s : State) (p : Port) (l o d : Int), (s.servoRuns = true) ∧ (-7 ≤ l ∧ l ≤ 0) ∧ (s.time.state ≠ .disciplined) ∧ (s.time.candidates.length < 7)) ∧
  (∃ (s : State) (a : Nat), (s.servoRuns = true) ∧ (s.time.state = .disciplined) ∧ (s.time.lastSync = some a) ∧ (a + 3 * (1000000000 / 2 ^ s.time.syncLog.natAbs) ≤ s.now)) ∧
  (∃ (s : State), (s.time.state = .holdover) ∧ (s.time.holdoverAt + 60000000000 ≤ s.now)) ∧
  (∃ (s : State), (s.time.state = .holdover) ∧ (s.time.holdoverAt + s.num 0x1303 3 300 * 1000000000 ≤ s.now)) :=
  ⟨⟨lockedState, .fa, -3, 900000, 500, by decide⟩,
    ⟨lockedState, .fa, -3, 1000, 500, by decide⟩,
    ⟨{ lockedState with time := {} }, .fb, -3, 1000, 500, by decide⟩,
    ⟨{ lockedState with now := 3000000000 }, 1000000000, by decide⟩,
    ⟨{ State.reset with now := 61000000000, time := { state := .holdover, quality := .fine, holdoverAt := 1000 } }, by decide⟩,
    ⟨{ State.reset with now := 301000000000, time := { state := .holdover, quality := .fine, holdoverAt := 1000 } }, by decide⟩⟩

/-- States and operands that meet the hypotheses of `Obligations.GrandmasterForwardingAndTimeRecords`, clause by clause. -/
theorem witness_GrandmasterForwardingAndTimeRecords :
  (∃ (s : State) (g : Fin 18446744073709551616) (utc : Int), (s.servoRuns = true) ∧ (s.time.gmIdentity = 0 ∨ s.time.gmIdentity = g.val)) ∧
  (∃ (s : State) (g : Fin 18446744073709551616) (utc : Int), (s.servoRuns = true) ∧ (s.time.gmIdentity ≠ 0) ∧ (s.time.gmIdentity ≠ g.val)) ∧
  (∃ (s : State) (p : Port) (c r : Int), (s.op.state = .service ∨ s.op.state = .run ∨ s.op.state = .sleep) ∧ (s.num 0x1301 1 0 ≠ 1)) ∧
  (∃ (s : State), (s.gafferRuns = true) ∧ (s.time.journalAt + 10000000000 ≤ s.now)) ∧
  (∃ (s : State) (a : Nat), (s.gafferRuns = true) ∧ (s.time.state = .disciplined) ∧ (s.time.disciplinedAt = some a) ∧ (a + 600000000000 ≤ s.now) ∧ ((s.time.savedAt.all (fun b => decide (b + 600000000000 ≤ s.now))) = true)) ∧
  (∃ (s : State) (p : Port) (m : Fin 3), (s.op.state ≠ .off) ∧ (s.op.state ≠ .reset)) :=
  ⟨⟨lockedState, 5, 37, by decide⟩,
    ⟨{ lockedState with time := { lockedState.time with gmIdentity := 9 } }, 5, 37, by decide⟩,
    ⟨lockedState, .fa, 5, 9, by decide⟩,
    ⟨{ lockedState with now := 10000000000 }, by decide⟩,
    ⟨{ lockedState with now := 700000000000, time := { lockedState.time with disciplinedAt := some 5 } }, 5, by decide⟩,
    ⟨serviceState, .fb, 2, by decide⟩⟩

/-- States and operands that meet the hypotheses of `Obligations.EncoderEdgesAndZeroMark`, clause by clause. -/
theorem witness_EncoderEdgesAndZeroMark :
  (∃ (s : State) (c : Fin 2) (b level : Bool) (sub : Fin 32), (s.angleRuns = true) ∧ ((s.angleCfg c).mode = 1) ∧ ((s.angleCh c).state ≠ .lost) ∧ ((s.angleCh c).edgeA.all (fun e => decide (e + (s.angleCfg c).filter ≤ s.edgeTime sub)) = true) ∧ ((s.angleCh c).edgeB.all (fun e => decide (e + (s.angleCfg c).filter ≤ s.edgeTime sub)) = true) ∧ (level ≠ (if b then (s.angleCh c).levelB else (s.angleCh c).levelA))) ∧
  (∃ (s : State) (c : Fin 2) (level : Bool) (sub : Fin 32) (e : Nat), (s.angleRuns = true) ∧ ((s.angleCfg c).mode = 1) ∧ ((s.angleCh c).state = .locked) ∧ ((s.angleCh c).edgeA = none) ∧ ((s.angleCh c).edgeB = some e) ∧ (s.edgeTime sub < e + (s.angleCfg c).filter) ∧ (level ≠ (s.angleCh c).levelA) ∧ ((s.angleCh c).illegalAt.length < 8)) ∧
  (∃ (s : State) (c : Fin 2) (sub : Fin 32), (s.angleRuns = true) ∧ ((s.angleCfg c).mode ≠ 0) ∧ ((s.angleCh c).edgeZ.all (fun e => decide (e + (s.angleCfg c).filter ≤ s.edgeTime sub)) = true) ∧ ((s.angleCh c).forward = true) ∧ ((s.angleCh c).state ≠ .lost) ∧ ((s.angleCh c).homed = false)) ∧
  (∃ (s : State) (c : Fin 2) (sub : Fin 32), (s.angleRuns = true) ∧ ((s.angleCfg c).mode ≠ 0) ∧ ((s.angleCh c).edgeZ.all (fun e => decide (e + (s.angleCfg c).filter ≤ s.edgeTime sub)) = true) ∧ ((s.angleCh c).forward = true) ∧ ((s.angleCh c).state ≠ .lost) ∧ ((s.angleCh c).homed = true)) :=
  ⟨⟨encoderState .stopped, 1, false, true, 3, by decide⟩,
    ⟨pairState, 1, true, 3, 65536, by decide⟩,
    ⟨encoderState .stopped, 1, 3, by decide⟩,
    ⟨encoderState .locked, 1, 3, by decide⟩⟩

/-- States and operands that meet the hypotheses of `Obligations.AngleGridLossStopAndAcknowledge`, clause by clause. -/
theorem witness_AngleGridLossStopAndAcknowledge :
  (∃ (s : State) (c : Fin 2) (ph : Fin 65536) (amp : Nat), (s.angleRuns = true) ∧ (s.time.t64 % 200 < 4) ∧ ((s.angleCfg c).mode = 1) ∧ ((s.angleCh c).state = .locked) ∧ ((s.angleCh c).resuming = false)) ∧
  (∃ (s : State) (c : Fin 2) (ph : Fin 65536) (amp : Nat), (s.angleRuns = true) ∧ (s.time.t64 % 200 < 4) ∧ ((s.angleCfg c).mode = 1) ∧ ((s.angleCh c).state = .suspect)) ∧
  (∃ (s : State) (c : Fin 2), (s.angleRuns = true) ∧ ((s.angleCfg c).mode ≠ 0) ∧ ((s.angleCh c).state = .locked ∨ (s.angleCh c).state = .suspect)) ∧
  (∃ (s : State) (c : Fin 2), (s.angleRuns = true) ∧ ((s.angleCh c).state = .locked ∨ (s.angleCh c).state = .suspect) ∧ (s.stopTimePassed c = true)) ∧
  (∃ (s : State) (q : Req) (ss : Session) (c : Fin 2), (s.hears q ss) ∧ (s.admitted q ss (okey 0x5020 1)) ∧ (s.op.state ≠ .sleep) ∧ ((s.angleCh c).state = .lost)) :=
  ⟨⟨encoderState .locked, 1, 0, 0, by decide⟩,
    ⟨encoderState .suspect, 1, 0, 0, by decide⟩,
    ⟨encoderState .locked, 1, by decide⟩,
    ⟨{ encoderState .locked with time := { t64 := 200000000 } }, 1, by decide⟩,
    ⟨{ encoderState .lost with sess := opened .maintenance }, ask0, sessionOf .maintenance, 1, by decide⟩⟩

/-- States and operands that meet the hypotheses of `Obligations.CourseMarksAndFiringResidual`, clause by clause. -/
theorem witness_CourseMarksAndFiringResidual :
  (∃ (s : State) (m : FixedMark), (s.angleRuns = true) ∧ (s.angle.mark = none) ∧ (s.angle.awaited = none) ∧ ((s.angleCh s.markChannel).state = .locked) ∧ (s.angleForward s.markChannel = true) ∧ (s.markDue = some m)) ∧
  (∃ (s : State) (m : FixedMark), (s.angle.mark = some m) ∧ (m.edge ≤ s.time.t64)) ∧
  (∃ (s : State) (r : Fin 16) (uid : Nat) (e : QEvent) (c a : Nat), ((s.ringAt r).event? uid = some e) ∧ (e.key = .angle c a) ∧ (e.stage = .frozen) ∧ (e.when_ + 400 * 65536 ≤ s.t80)) :=
  ⟨⟨markState, ⟨7, 1⟩, by decide⟩,
    ⟨{ State.reset with time := { t64 := 9 }, angle := { mark := some ⟨9, 3⟩ } }, ⟨9, 3⟩, by decide⟩,
    ⟨firedState, 2, 5, firedEvent, 1, 77, by decide⟩⟩

/-- States and operands that meet the hypotheses of `Obligations.AluRegisterArithmeticResults`, clause by clause. -/
theorem witness_AluRegisterArithmeticResults :
  (∃ (s : State) (t : Fin 1024) (u sat : Bool) (d a b : Reg), (s.ready t)) :=
  ⟨tileState, 0, false, false, 1, 2, 3, by decide⟩

/-- States and operands that meet the hypotheses of `Obligations.AluLogicShiftAndMoveResults`, clause by clause. -/
theorem witness_AluLogicShiftAndMoveResults :
  (∃ (s : State) (t : Fin 1024) (u sat : Bool) (d a b : Reg), (s.ready t)) ∧
  (∃ (s : State) (t : Fin 1024) (u sat : Bool) (d a : Reg), (s.ready t)) :=
  ⟨⟨tileState, 0, false, false, 1, 2, 3, by decide⟩,
    ⟨tileState, 0, false, false, 1, 2, by decide⟩⟩

/-- States and operands that meet the hypotheses of `Obligations.AluImmediateAndConstantResults`, clause by clause. -/
theorem witness_AluImmediateAndConstantResults :
  (∃ (s : State) (t : Fin 1024) (u sat : Bool) (d a : Reg) (i : BitVec 8) (n : BitVec 5), (s.ready t)) ∧
  (∃ (s : State) (t : Fin 1024) (d : Reg) (k : BitVec 16), (s.ready t)) ∧
  (∃ (s : State) (t : Fin 1024) (csat covf : Bool), (s.ready t)) :=
  ⟨⟨tileState, 0, false, false, 1, 2, 3, 4, by decide⟩,
    ⟨tileState, 0, 1, 2, by decide⟩,
    ⟨tileState, 0, true, false, by decide⟩⟩

/-- States and operands that meet the hypotheses of `Obligations.MacMultiplyResults`, clause by clause. -/
theorem witness_MacMultiplyResults :
  (∃ (s : State) (t : Fin 1024) (f sat cj : Bool) (a b : Reg), (s.ready t)) :=
  ⟨tileState, 0, true, false, true, 1, 2, by decide⟩

/-- States and operands that meet the hypotheses of `Obligations.MacExtractLoadAndClearResults`, clause by clause. -/
theorem witness_MacExtractLoadAndClearResults :
  (∃ (s : State) (t : Fin 1024) (sat im hi : Bool) (rnd : BitVec 2) (n : BitVec 5) (d : Reg), (s.ready t) ∧ (rnd ≠ 3)) ∧
  (∃ (s : State) (t : Fin 1024) (sat re im : Bool) (n : BitVec 5) (a : Reg), (s.ready t) ∧ ((re || im) = true)) :=
  ⟨⟨tileState, 0, true, false, true, 1, 16, 2, by decide⟩,
    ⟨tileState, 0, true, false, true, 3, 1, by decide⟩⟩

/-- States and operands that meet the hypotheses of `Obligations.TileLoadResults`, clause by clause. -/
theorem witness_TileLoadResults :
  (∃ (s : State) (t : Fin 1024) (ag : Bool) (sz : MemSize) (d : Reg) (pm : Bool), (s.ready t) ∧ (evenFor sz d = true) ∧ (((s.tile t).agu ag).legal = true) ∧ (s.ownAccess t ((s.tile t).agu ag).address (memBytes sz))) ∧
  (∃ (s : State) (t : Fin 1024) (ag : Bool) (sz : MemSize) (d : Reg) (pm : Bool), (s.ready t) ∧ (evenFor sz d = true) ∧ (((s.tile t).agu ag).legal = true) ∧ (s.sharedAccess t ((s.tile t).agu ag).address (memBytes sz))) ∧
  (∃ (s : State) (t : Fin 1024) (d a : Reg) (off : BitVec 8), (s.ready t) ∧ (s.ownAccess t (((((s.tile t).rd a).toNat + 4 * off.toInt) % 2 ^ 20).toNat) 4)) ∧
  (∃ (s : State) (t : Fin 1024) (d a : Reg) (off : BitVec 8), (s.ready t) ∧ (s.sharedAccess t (((((s.tile t).rd a).toNat + 4 * off.toInt) % 2 ^ 20).toNat) 4)) ∧
  (∃ (s : State) (t : Fin 1024) (da db : Reg) (p0 p1 : Bool), (s.ready t) ∧ (da ≠ db) ∧ ((s.tile t).agu0.legal = true) ∧ ((s.tile t).agu1.legal = true) ∧ (s.ownAccess t (s.tile t).agu0.address 4) ∧ (s.ownAccess t (s.tile t).agu1.address 4)) ∧
  (∃ (s : State) (t : Fin 1024) (da db : Reg) (p0 p1 : Bool), (s.ready t) ∧ (da ≠ db) ∧ ((s.tile t).agu0.legal = true) ∧ ((s.tile t).agu1.legal = true) ∧ (s.sharedAccess t (s.tile t).agu0.address 4) ∧ (s.sharedAccess t (s.tile t).agu1.address 4)) :=
  ⟨⟨tileState, 0, true, .d, 2, true, by decide⟩,
    ⟨sharedState, 0, false, .w, 2, true, by decide⟩,
    ⟨tileState, 0, 2, 1, 4, by decide⟩,
    ⟨sharedState, 0, 2, 1, 4, by decide⟩,
    ⟨tileState, 0, 3, 4, true, false, by decide⟩,
    ⟨sharedState, 0, 3, 4, true, false, by decide⟩⟩

/-- States and operands that meet the hypotheses of `Obligations.TileStoreResults`, clause by clause. -/
theorem witness_TileStoreResults :
  (∃ (s : State) (t : Fin 1024) (ag : Bool) (sz : MemSize) (r : Reg) (pm : Bool), (s.ready t) ∧ (evenFor sz r = true) ∧ (((s.tile t).agu ag).legal = true) ∧ (s.ownAccess t ((s.tile t).agu ag).address (memBytes sz) ∨ s.sharedAccess t ((s.tile t).agu ag).address (memBytes sz))) ∧
  (∃ (s : State) (t : Fin 1024) (r a : Reg) (off : BitVec 8), (s.ready t) ∧ (s.ownAccess t (((((s.tile t).rd a).toNat + 4 * off.toInt) % 2 ^ 20).toNat) 4 ∨ s.sharedAccess t (((((s.tile t).rd a).toNat + 4 * off.toInt) % 2 ^ 20).toNat) 4)) :=
  ⟨⟨tileState, 0, true, .h, 3, true, by decide⟩,
    ⟨tileState, 0, 3, 1, 4, by decide⟩⟩

/-- States and operands that meet the hypotheses of `Obligations.AguUpdateAndFenceResults`, clause by clause. -/
theorem witness_AguUpdateAndFenceResults :
  (∃ (s : State) (t : Fin 1024) (ag : Bool) (a : Reg), (s.ready t)) :=
  ⟨tileState, 0, true, 1, by decide⟩

/-- States and operands that meet the hypotheses of `Obligations.AluTwoRunsTheSameOperations`, clause by clause. -/
theorem witness_AluTwoRunsTheSameOperations :
  (∃ (s : State) (t : Fin 1024) (sat : Bool) (d a b : Reg), (s.ready t)) ∧
  (∃ (s : State) (t : Fin 1024) (sat : Bool) (d a : Reg) (n : BitVec 5), (s.ready t)) ∧
  (∃ (s : State) (t : Fin 1024) (sat : Bool) (d a b : Reg), (s.ready t)) :=
  ⟨⟨tileState, 0, true, 3, 1, 2, by decide⟩,
    ⟨tileState, 0, true, 3, 1, 2, by decide⟩,
    ⟨tileState, 0, true, 3, 1, 2, by decide⟩⟩

/-- States and operands that meet the hypotheses of `Obligations.FlowResults`, clause by clause. -/
theorem witness_FlowResults :
  (∃ (s : State) (t : Fin 1024) (u : Bool) (cond : BitVec 4) (target : BitVec 9), (s.ready t) ∧ (s.offEnd t) ∧ ((FlowOp.jmp u cond target).legal = true) ∧ ((s.tile t).topRep = none) ∧ ((s.tile t).inCode target.toNat = true)) ∧
  (∃ (s : State) (t : Fin 1024) (target : BitVec 9) (e : RepEntry), (s.ready t) ∧ (s.offEnd t) ∧ ((s.tile t).topRep = some e) ∧ (e.start ≤ (s.tile t).pc ∧ (s.tile t).pc ≤ e.stop) ∧ (e.start ≤ target ∧ target ≤ e.stop) ∧ ((s.tile t).inCode target.toNat = true)) ∧
  (∃ (s : State) (t : Fin 1024) (len : BitVec 4) (count : BitVec 16), (s.ready t) ∧ (s.offEnd t) ∧ ((s.tile t).topRep = none)) ∧
  (∃ (s : State) (t : Fin 1024) (a : Reg) (stop : BitVec 9), (s.ready t) ∧ (s.offEnd t) ∧ ((s.tile t).topRep = none) ∧ ((s.tile t).pc < stop)) ∧
  (∃ (s : State) (t : Fin 1024) (e : RepEntry), (s.ready t) ∧ (s.offEnd t) ∧ ((s.tile t).topRep = some e)) :=
  ⟨⟨tileState, 0, true, 2, 7, by decide⟩,
    ⟨repeatState, 0, 5, ⟨4, 8, 1, 3⟩, by decide⟩,
    ⟨tileState, 0, 2, 5, by decide⟩,
    ⟨tileState, 0, 1, 9, by decide⟩,
    ⟨repeatState, 0, ⟨4, 8, 1, 3⟩, by decide⟩⟩

/-- States and operands that meet the hypotheses of `Obligations.CallAndReturnResults`, clause by clause. -/
theorem witness_CallAndReturnResults :
  (∃ (s : State) (t : Fin 1024) (ind : Bool) (a : Reg) (target : BitVec 9), (s.ready t) ∧ (s.offEnd t) ∧ ((FlowOp.call ind a target).legal = true) ∧ ((s.tile t).frames < 16) ∧ ((s.tile t).res < 4) ∧ ((s.tile t).inCode (if ind then ((s.tile t).rd a).extractLsb' 0 9 else target).toNat = true)) ∧
  (∃ (s : State) (t : Fin 1024), (s.ready t) ∧ (s.offEnd t) ∧ ((s.tile t).topRep = none) ∧ (1 < (s.tile t).frames) ∧ (1 < (s.tile t).res) ∧ ((s.tile t).inCode ((s.tile t).window (s.tile t).cwp.toNat).lnk.toNat = true)) ∧
  (∃ (s : State) (t : Fin 1024) (target : BitVec 9), (s.ready t) ∧ (s.offEnd t) ∧ ((s.tile t).frames < 16) ∧ ((s.tile t).res = 4) ∧ ((s.tile t).guarded = false) ∧ ((s.tile t).inCode target.toNat = true)) ∧
  (∃ (s : State) (t : Fin 1024) (wait : Nat) (target : BitVec 9), ((s.tile t).trapping = some (joinWord 0 0 0 (encodeFlow (.call false 0 target)))) ∧ ((s.tile t).waiting = none) ∧ ((s.tile t).frames < 16) ∧ ((s.tile t).res = 4) ∧ (4 ≤ (s.tile t).frames)) ∧
  (∃ (s : State) (t : Fin 1024) (wait : Nat), ((s.tile t).trapping = some (joinWord 0 0 0 (encodeFlow .ret))) ∧ ((s.tile t).waiting = none) ∧ ((s.tile t).topRep = none) ∧ (1 < (s.tile t).frames) ∧ ((s.tile t).res = 1) ∧ ((upsetsIn (s.cluster (tileCluster t)).upsets (spillSlot t ((s.tile t).frames - 1) / 8) 10).1 = false)) :=
  ⟨⟨tileState, 0, false, 0, 6, by decide⟩,
    ⟨calledState, 0, by decide⟩,
    ⟨fullState, 0, 6, by decide⟩,
    ⟨trapState, 0, 0, 6, by decide⟩,
    ⟨underState, 0, 0, by decide⟩⟩

/-- States and operands that meet the hypotheses of `Obligations.SwitchSlotLaneAndContextResults`, clause by clause. -/
theorem witness_SwitchSlotLaneAndContextResults :
  (∃ (s : State) (t : Fin 1024) (p : BitVec 3) (d : Reg) (v : Word), (s.ready t) ∧ ((s.tile t).swcfg.getLsbD (32 + p.toNat) = true) ∧ ((s.tile t).inbuf = [(p.toNat, [v])]) ∧ ((s.modTile t (fun x => { x with inbuf := [] })).lanesEmpty = true)) ∧
  (∃ (s : State) (t : Fin 1024) (p : BitVec 3) (r : Reg) (n q : Nat), (s.ready t) ∧ (s.lanesEmpty = true) ∧ (osel (s.tile t).swcfg p.toNat = 1) ∧ (cmpOn (s.tile t).swcfg p.toNat = false) ∧ (laneEnd t p.toNat = .tile n q) ∧ (s.hasRoom t p.toNat = true) ∧ (sinkOn (s.tile n).swcfg q = false) ∧ (feeds (s.tile n).swcfg q = []) ∧ ((s.tile n).parityPort = none) ∧ (n ≠ t.val)) ∧
  (∃ (s : State) (t : Fin 1024) (k : BitVec 4), (s.ready t) ∧ (s.lanesEmpty = true) ∧ (k ≠ 15) ∧ ((s.tile t).slotValid k.toNat = true)) ∧
  (∃ (s : State) (t : Fin 1024), (s.ready t) ∧ (s.lanesEmpty = true) ∧ ((s.tile t).owner = none)) ∧
  (∃ (s : State) (t : Fin 1024) (code : BitVec 8), (s.ready t) ∧ (s.lanesEmpty = true) ∧ ((s.tile t).owner = none)) :=
  ⟨⟨receiveState, 0, 1, 3, 77, by decide⟩,
    ⟨sendState, 0, 1, 3, 1, 3, by decide⟩,
    ⟨tileState, 0, 1, by decide⟩,
    ⟨tileState, 0, by decide⟩,
    ⟨tileState, 0, 9, by decide⟩⟩

/-- States and operands that meet the hypotheses of `Obligations.StoreAndLoadMultipleBeats`, clause by clause. -/
theorem witness_StoreAndLoadMultipleBeats :
  (∃ (s : State) (t : Fin 1024) (bk pm : Bool) (base : Reg) (m : BitVec 18), (s.ready t) ∧ ((MemOp.stm bk base pm).legal = true) ∧ ((s.tile t).mprog = {}) ∧ ((bk || ((s.tile t).agu (base.getLsbD 0)).legal) = true) ∧ (s.imageAccess t (multBase (s.tile t) bk base) (multLength m))) ∧
  (∃ (s : State) (t : Fin 1024) (bk pm : Bool) (base : Reg) (m : BitVec 18), (s.ready t) ∧ ((MemOp.ldm bk base pm).legal = true) ∧ ((s.tile t).mprog = {}) ∧ ((bk || ((s.tile t).agu (base.getLsbD 0)).legal) = true) ∧ (s.imageAccess t (multBase (s.tile t) bk base) (multLength m)) ∧ ((bk && pm && (maskRegs m).contains base.toNat) = false)) :=
  ⟨⟨tileState, 0, true, true, 1, 0x20006, by decide⟩,
    ⟨tileState, 0, true, false, 1, 0x20006, by decide⟩⟩

/-- States and operands that meet the hypotheses of `Obligations.SequencerTileAndMemoryActs`, clause by clause. -/
theorem witness_SequencerTileAndMemoryActs :
  (∃ (s : State) (c : Fin 64) (arm : List (Fin 16 × Fin 16)), ((arm.map (·.1)).Nodup)) ∧
  (∃ (s : State) (c : Fin 64), (s.lanesEmpty = true) ∧ (((clusterTiles c).all (fun t => match (s.tile t).armed with | some k => decide (k < 15) && (s.tile t).slotValid k && (s.tile t).trapping.isNone | none => true)) = true)) ∧
  (∃ (s : State) (t : Fin 1024) (l : PendingLoad) (rest : List PendingLoad), ((s.tile t).loads = l :: rest)) ∧
  (∃ (s : State) (c : Fin 64) (bank : Fin 4) (w : Fin 8192), ((s.cluster c).gated = false)) ∧
  (∃ (s : State) (t : Fin 1024) (b : Fin 2), (16 ≤ tget 0 (s.tile t).refused b)) :=
  ⟨⟨tileState, 0, [(0, 1), (3, 2)], by decide⟩,
    ⟨armedState, 0, by decide⟩,
    ⟨loadingState, 0, ⟨2, [(3, 9), (4, 8)]⟩, [], by decide⟩,
    ⟨upsetState, 1, 1, 5, by decide⟩,
    ⟨refusedState, 0, 1, by decide⟩⟩

/-- States and operands that meet the hypotheses of `Obligations.RegisterWriteGatingAndWakingResults`, clause by clause. -/
theorem witness_RegisterWriteGatingAndWakingResults :
  (∃ (s : State) (t : Fin 1024) (src : Fin 78) (w : Fin 4) (r : Fin 16) (v : Word), (64 ≤ src.val) ∧ ((s.cluster (tileCluster t)).gated = false) ∧ ((s.tile t).atRest = true)) ∧
  (∃ (s : State) (t : Fin 1024) (src : Fin 78) (v : Word), (64 ≤ src.val) ∧ ((s.cluster (tileCluster t)).gated = false)) ∧
  (∃ (s : State) (t : Fin 1024) (src : Fin 78) (i : Fin 4096) (v : Word), (64 ≤ src.val) ∧ ((s.cluster (tileCluster t)).gated = false)) ∧
  (∃ (s : State) (src : Fin 78) (t : Fin 1024) (off : Fin 20480) (k : Fin 16) (v : Word), (src.val < 64)) ∧
  (∃ (s : State) (c : Fin 64), (s.gateable c = true)) ∧
  (∃ (s : State) (c : Fin 64), ((s.cluster c).gated = true) ∧ ((s.ni c).requests = []) ∧ (s.array.tasks = [])) :=
  ⟨⟨restState, 0, 64, 1, 3, 99, by decide⟩,
    ⟨restState, 0, 64, 0x100, by decide⟩,
    ⟨restState, 0, 64, 2, 0xA1B2C3D4, by decide⟩,
    ⟨restState, 3, 0, 0, 2, 0x7777, by decide⟩,
    ⟨idleState, 5, by decide⟩,
    ⟨gatedState, 5, by decide⟩⟩

/-- States and operands that meet the hypotheses of `Obligations.TaskCommandResults`, clause by clause. -/
theorem witness_TaskCommandResults :
  (∃ (s : State) (q : Req) (ss : Session) (n : Fin 256), (s.hears q ss) ∧ (s.admitted q ss (okey (0x3100 + n.val) 8)) ∧ (s.op.state ≠ .sleep) ∧ (s.op.state = .run) ∧ ((s.task n).zone ≠ 0 ∨ ss.role = .safety) ∧ ((s.task n).state = .loaded ∨ (s.task n).state = .stopped) ∧ (s.gatedOf n = []) ∧ ((s.task n).kind ≠ .immediate)) ∧
  (∃ (s : State) (q : Req) (ss : Session) (n : Fin 256), (s.hears q ss) ∧ (s.admitted q ss (okey (0x3100 + n.val) 8)) ∧ (s.op.state ≠ .sleep) ∧ (s.op.state = .run) ∧ ((s.task n).zone ≠ 0 ∨ ss.role = .safety) ∧ ((s.task n).state = .loaded ∨ (s.task n).state = .stopped) ∧ (s.gatedOf n ≠ [])) ∧
  (∃ (s : State) (q : Req) (ss : Session) (n : Fin 256), (s.hears q ss) ∧ (s.admitted q ss (okey (0x3100 + n.val) 8)) ∧ (s.op.state ≠ .sleep) ∧ ((s.task n).state = .armed)) ∧
  (∃ (s : State) (q : Req) (ss : Session) (n : Fin 256), (s.hears q ss) ∧ (s.admitted q ss (okey (0x3100 + n.val) 8)) ∧ (s.op.state ≠ .sleep) ∧ ((s.task n).state = .running ∨ (s.task n).state = .draining)) ∧
  (∃ (s : State) (q : Req) (ss : Session) (n : Fin 256), (s.hears q ss) ∧ (s.admitted q ss (okey (0x3100 + n.val) 8)) ∧ (s.op.state ≠ .sleep) ∧ ((s.task n).state = .running)) ∧
  (∃ (s : State) (q : Req) (ss : Session) (n : Fin 256), (s.hears q ss) ∧ (s.admitted q ss (okey (0x3100 + n.val) 8)) ∧ (s.op.state ≠ .sleep) ∧ ((s.task n).state = .faulted)) ∧
  (∃ (s : State) (q : Req) (ss : Session) (n : Fin 256), (s.hears q ss) ∧ (s.admitted q ss (okey (0x3100 + n.val) 8)) ∧ (s.op.state ≠ .sleep) ∧ ((s.task n).state = .loaded ∨ (s.task n).state = .stopped ∨ (s.task n).state = .faulted)) ∧
  (∃ (s : State) (q : Req) (ss : Session) (n : Fin 256), (s.hears q ss) ∧ (s.admitted q ss (okey (0x3100 + n.val) 8)) ∧ (s.op.state ≠ .sleep) ∧ (s.op.state = .run) ∧ ((s.task n).live = true) ∧ ((s.task n).kind = .host) ∧ ((s.task n).multi = false ∨ (s.task n).state ≠ .armed)) :=
  ⟨⟨taskState .loaded .host, ask, sessionOf .operator, 9, by decide⟩,
    ⟨{ taskState .loaded .host with array := { (taskState .loaded .host).array with clusters := [(0, { gated := true })] } }, ask, sessionOf .operator, 9, by decide⟩,
    ⟨taskState .armed .host, ask, sessionOf .operator, 9, by decide⟩,
    ⟨taskState .running .host, ask, sessionOf .operator, 9, by decide⟩,
    ⟨taskState .running .host, ask, sessionOf .operator, 9, by decide⟩,
    ⟨taskState .faulted .host, ask, sessionOf .operator, 9, by decide⟩,
    ⟨taskState .faulted .host, ask, sessionOf .operator, 9, by decide⟩,
    ⟨taskState .armed .host, ask, sessionOf .operator, 9, by decide⟩⟩

/-- States and operands that meet the hypotheses of `Obligations.TriggersDispatchAndStarts`, clause by clause. -/
theorem witness_TriggersDispatchAndStarts :
  (∃ (s : State) (n : Fin 256), ((s.task n).kind = .time) ∧ ((s.task n).live = true) ∧ ((s.task n).param ≤ s.time.t64) ∧ ((s.task n).firedAt ≠ some (s.task n).param) ∧ ((s.task n).multi = false ∨ (s.task n).state ≠ .armed)) ∧
  (∃ (s : State) (n : Fin 256), ((s.task n).kind = .period) ∧ ((s.task n).live = true) ∧ (1000 ≤ (s.task n).param % 2 ^ 32) ∧ ((s.task n).param / 2 ^ 32 ≤ s.time.t64) ∧ ((s.task n).multi = false ∨ (s.task n).state ≠ .armed)) ∧
  (∃ (s : State) (n : Fin 256), ((s.task n).kind = .angle) ∧ ((s.task n).live = true) ∧ (s.angleReached (s.task n).param = true) ∧ ((s.task n).firedAt ≠ some (s.task n).param) ∧ ((s.task n).multi = false ∨ (s.task n).state ≠ .armed)) ∧
  (∃ (s : State) (n : Fin 256), ((s.task n).kind = .time) ∧ ((s.task n).state = .armed) ∧ ((s.task n).param ≤ s.time.t64) ∧ ((s.task n).firedAt ≠ some (s.task n).param) ∧ ((s.task n).multi = true)) ∧
  (∃ (s : State) (c : Fin 64) (n : Nat), (s.nextDispatch c = some n) ∧ (s.canStart n)) ∧
  (∃ (s : State) (n : Fin 256) (r : StartRound), ((s.task n).state = .ready) ∧ ((s.task n).start = some r) ∧ (r.committed = false) ∧ (r.tick ≤ s.now + 32) ∧ (((s.task n).clusters.all (fun c => r.acks.contains c)) = true)) ∧
  (∃ (s : State) (n : Fin 256) (r : StartRound), ((s.task n).state = .ready) ∧ ((s.task n).start = some r) ∧ (r.committed = false) ∧ (r.tick ≤ s.now + 32) ∧ (((s.task n).clusters.all (fun c => r.acks.contains c)) = false) ∧ (2 ≤ (s.task n).aborts)) ∧
  (∃ (s : State) (n : Fin 256) (r : StartRound), ((s.task n).state = .ready) ∧ ((s.task n).start = some r) ∧ (r.committed = true) ∧ (r.tick ≤ s.now) ∧ (((s.task n).clusters.all (fun c => r.holders.contains c)) = true) ∧ (r.drainAtStart = false) ∧ (s.canStart n)) :=
  ⟨⟨{ taskState .armed .time with time := { t64 := 500 } }, 9, by decide⟩,
    ⟨periodState, 9, by decide⟩,
    ⟨{ taskState .armed .angle with angle := { ch := [(0, { forward := true, pos := 9 })] } }, 9, by decide⟩,
    ⟨multiState .armed none, 9, by decide⟩,
    ⟨{ taskState .ready .host with now := 2000 }, 0, 9, by decide⟩,
    ⟨multiState .ready (some ⟨1010, some 1, [0, 1], false, [], false⟩), 9, ⟨1010, some 1, [0, 1], false, [], false⟩, by decide⟩,
    ⟨failState, 9, ⟨1010, some 1, [0], false, [], false⟩, by decide⟩,
    ⟨multiState .ready (some ⟨1000, some 1, [0, 1], true, [0, 1], false⟩), 9, ⟨1000, some 1, [0, 1], true, [0, 1], false⟩, by decide⟩⟩

/-- States and operands that meet the hypotheses of `Obligations.DrainsFlushesStopsAndBridges`, clause by clause. -/
theorem witness_DrainsFlushesStopsAndBridges :
  (∃ (s : State) (n : Fin 256), ((s.task n).state = .draining) ∧ (s.drained n = true)) ∧
  (∃ (s : State) (n : Fin 256), ((s.task n).state = .draining) ∧ ((s.task n).drainAt + (s.task n).drainMax * 1000 ≤ s.now)) ∧
  (∃ (s : State) (n : Fin 256), ((s.task n).flushDue = true) ∧ (((s.task n).tiles.map (·.1)).Nodup) ∧ (((s.task n).tiles.all (fun p => (s.tile p.1).owner.all (· == n.val))) = true)) ∧
  (∃ (s : State) (n : Fin 256) (c : Fin 64), ((s.task n).state = .stopped)) ∧
  (∃ (s : State), (s.quench.stopDue = true)) ∧
  (∃ (s : State) (q : Req) (ss : Session) (k : Fin 32) (a b : Nat), (s.hears q ss) ∧ (s.admitted q ss (okey (0x3010 + k.val) 4)) ∧ (s.op.state ≠ .sleep) ∧ (s.zoneOfCluster (s.bridge k).a = some a) ∧ (s.zoneOfCluster (s.bridge k).b = some b) ∧ (adjacent (s.bridge k).a (s.bridge k).b = true) ∧ (a ≠ b) ∧ (s.holdsZone q.session a = true) ∧ (s.holdsZone q.session b = true) ∧ (a ≠ 0) ∧ (b ≠ 0)) ∧
  (∃ (s : State) (q : Req) (ss : Session) (k : Fin 32), (s.hears q ss) ∧ (s.admitted q ss (okey (0x3010 + k.val) 4)) ∧ (s.op.state ≠ .sleep) ∧ (s.bridgeUsed k = false)) :=
  ⟨⟨drainedState, 9, by decide⟩,
    ⟨{ taskState .draining .host with now := 200000 }, 9, by decide⟩,
    ⟨flushState, 9, by decide⟩,
    ⟨taskState .stopped .host, 9, 0, by decide⟩,
    ⟨quenchStopState, by decide⟩,
    ⟨bridgeState false, ask, sessionOf .operator, 3, 1, 2, by decide⟩,
    ⟨bridgeState true, ask, sessionOf .operator, 3, by decide⟩⟩

/-- States and operands that meet the hypotheses of `Obligations.WordRequestsAtClusters`, clause by clause. -/
theorem witness_WordRequestsAtClusters :
  (∃ (s : State) (n : Fin 78) (p : Packet), (s.takes n p 1) ∧ (p.addr + p.len % 16 ≤ 0x8000) ∧ (p.zone % 16 = zoneSys)) ∧
  (∃ (s : State) (n : Fin 78) (p : Packet) (v : Fin 18446744073709551616), (s.takes n p 2) ∧ (p.data = [v.val])) ∧
  (∃ (s : State) (n : Fin 78) (p : Packet) (m : Fin 256) (v : Fin 18446744073709551616), (s.takes n p 3) ∧ (p.data = [m.val, v.val])) ∧
  (∃ (s : State) (n : Fin 78) (p : Packet) (v : Fin 18446744073709551616), (s.takes n p 4) ∧ (p.data = [v.val])) ∧
  (∃ (s : State) (n : Fin 78) (p : Packet) (v : Fin 18446744073709551616), (s.takes n p 5) ∧ (p.data = [v.val])) ∧
  (∃ (s : State) (n : Fin 78) (p : Packet) (a b : Fin 18446744073709551616), (s.takes n p 6) ∧ (p.data = [a.val, b.val])) ∧
  (∃ (s : State) (n : Fin 78) (p : Packet), (n.val < 64) ∧ ((s.cluster n).gated = false) ∧ (p.addr < 0x8000) ∧ (s.niAdmits n (p.zone % 16) 2 = false)) :=
  ⟨⟨wordState, 1, { opc := 1, len := 2, zone := 8, dst := 1, src := 0, tag := 3, epo := 0, addr := 4 }, by decide⟩,
    ⟨wordState, 1, { opc := 2, zone := 8, dst := 1, src := 0, tag := 3, epo := 0, addr := 4, data := [99] }, 99, by decide⟩,
    ⟨wordState, 1, { opc := 3, zone := 8, dst := 1, src := 0, tag := 3, epo := 0, addr := 4, data := [5, 0x112233] }, 5, 0x112233, by decide⟩,
    ⟨wordState, 1, { opc := 4, zone := 8, dst := 1, src := 0, tag := 3, epo := 0, addr := 4, data := [99] }, 99, by decide⟩,
    ⟨wordState, 1, { opc := 5, zone := 8, dst := 1, src := 0, tag := 3, epo := 0, addr := 4, data := [99] }, 99, by decide⟩,
    ⟨wordState, 1, { opc := 6, zone := 8, dst := 1, src := 0, tag := 3, epo := 0, addr := 4, data := [7, 99] }, 7, 99, by decide⟩,
    ⟨wordState, 1, { opc := 2, zone := 3, dst := 1, src := 0, tag := 3, epo := 0, addr := 4, data := [99] }, by decide⟩⟩

/-- States and operands that meet the hypotheses of `Obligations.QueuesMessagesAndAtomicMembers`, clause by clause. -/
theorem witness_QueuesMessagesAndAtomicMembers :
  (∃ (s : State) (n : Fin 78) (p : Packet) (t : Nat), (n.val < 64) ∧ ((s.cluster n).gated = false) ∧ (s.niAdmits n (p.zone % 16) 7 = true) ∧ (0x110000 ≤ p.addr ∧ p.addr < 0x110100) ∧ (s.queueTask n (p.addr - 0x110000) = some t) ∧ ((s.task t).state ≠ .draining) ∧ ((s.task t).queue.length + p.data.length ≤ (s.task t).queueSize) ∧ ((s.task t).kind ≠ .queue)) ∧
  (∃ (s : State) (n : Fin 78) (p : Packet), (s.niGated n = false) ∧ (64 ≤ n.val ∨ s.niAdmits n (p.zone % 16) 8 = true)) ∧
  (∃ (s : State) (n : Fin 78) (q : StageReq), (s.niGated n = false) ∧ (s.memberFailure n q.msg = none) ∧ ((s.ni n).staged.length < 4)) ∧
  (∃ (s : State) (n : Fin 78) (p : Packet) (e : StagedEntry), (s.niGated n = false) ∧ ((s.ni n).stagedOf (p.src % 128) (p.tag % 64) = some e) ∧ (s.time.t64 ≤ e.hold)) ∧
  (∃ (s : State) (n : Fin 78) (p : Packet) (e : StagedEntry), (s.niGated n = false) ∧ ((s.ni n).stagedOf (p.src % 128) (p.tag % 64) = some e)) ∧
  (∃ (s : State) (n : Fin 78) (p : Packet), (s.niGated n = false) ∧ ((s.ni (p.data.headD 0 % 2 ^ 64 % 128)).held = [])) ∧
  (∃ (s : State) (f : Fin 64) (w : List (Fin 18446744073709551616)), ((s.flow f).runs ≠ 0) ∧ (s.niGated (s.flow f).target = false) ∧ (s.flowTask (s.flow f) = none)) :=
  ⟨⟨queueState, 0, { opc := 7, zone := 8, dst := 0, src := 0, tag := 3, epo := 0, addr := 0x110002, data := [5, 6] }, 9, by decide⟩,
    ⟨wordState, 66, { opc := 8, zone := 8, dst := 1, src := 0, tag := 3, epo := 0, addr := 4 }, by decide⟩,
    ⟨wordState, 1, { src := 0, tag := 1, epo := 0, msg := .taskStart 9 100, hold := 500, applyOfs := 1, onCommit := false }, by decide⟩,
    ⟨stagedState, 1, { opc := 10, zone := 8, dst := 1, src := 0, tag := 1, epo := 0, addr := 0 }, stagedOne, by decide⟩,
    ⟨stagedState, 1, { opc := 11, zone := 8, dst := 1, src := 0, tag := 1, epo := 0, addr := 0 }, stagedOne, by decide⟩,
    ⟨downState, 1, { opc := 12, zone := 8, dst := 1, src := 64, tag := 1, epo := 0, addr := 0, data := [2] }, by decide⟩,
    ⟨flowState, 2, [5, 6], by decide⟩⟩

/-- States and operands that meet the hypotheses of `Obligations.InitiatorsDropsAndProbes`, clause by clause. -/
theorem witness_InitiatorsDropsAndProbes :
  (∃ (s : State) (n : Fin 78) (p : Packet) (t : NetTag) (e d : Nat), (s.niGated n = false) ∧ (tget none (s.ni n).tags (p.tag % 64) = some t) ∧ (t.epo = p.epo % 16) ∧ (t.waiting = [(p.src % 128, e)]) ∧ (t.use = .descriptor d) ∧ ((s.descWordAt n d 0).testBit 5 = false) ∧ ((s.ni n).ringBase % 8 = 0) ∧ ((s.ni n).held = []) ∧ (e < 64) ∧ (((s.ni n).entry e).closing = false)) ∧
  (∃ (s : State) (n : Fin 78) (k : Fin 64) (t : NetTag) (m e d : Nat), (s.niGated n = false) ∧ (tget none (s.ni n).tags k = some t) ∧ (t.waiting = [(m, e)]) ∧ (t.issuedAt + s.timeoutOf m (t.gated.contains m) ≤ s.now) ∧ (t.use = .descriptor d) ∧ ((s.descWordAt n d 0).testBit 5 = false) ∧ ((s.ni n).ringBase % 8 = 0) ∧ ((s.ni n).held = []) ∧ (e < 64) ∧ (((s.ni n).entry e).closing = false) ∧ (((s.ni n).entry e).timeouts < 3)) ∧
  (∃ (s : State) (c : Fin 64) (v : Fin 256) (z g epo : Nat), ((s.ni c).ringSize ≤ 256) ∧ (v.val < (s.ni c).ringSize) ∧ (((s.ni c).consumer + 1) % (s.ni c).ringSize = v.val) ∧ ((s.ni c).consumer < (s.ni c).ringSize) ∧ (1 < (s.ni c).ringSize) ∧ ((s.cluster c).gated = false) ∧ ((s.ni c).held = []) ∧ (s.niZone c = some z) ∧ (s.descWordAt c (s.ni c).consumer 0 % 64 = 2) ∧ (((s.ni c).entry (s.descWordAt c (s.ni c).consumer 0 / 64 % 64)).valid = true) ∧ (((s.ni c).entry (s.descWordAt c (s.ni c).consumer 0 / 64 % 64)).route = 0) ∧ (s.descWordAt c (s.ni c).consumer 0 / 2 ^ 12 % 16 ≤ 8) ∧ (((s.ni c).entry (s.descWordAt c (s.ni c).consumer 0 / 64 % 64)).down = false) ∧ (((s.ni c).entry (s.descWordAt c (s.ni c).consumer 0 / 64 % 64)).credits ≠ 0) ∧ ((s.ni c).freeTag = some (g, epo))) ∧
  (∃ (s : State), (s.now % 512 = 0)) ∧
  (∃ (s : State) (q : Req) (ss : Session) (k : Fin 16) (b : List Nat), (s.hears q ss) ∧ (s.admitted q ss (okey (0x7100 + k.val) 1)) ∧ (s.op.state ≠ .sleep) ∧ (b = [0, 0, 0, 0, 0, 0, 0, 16])) ∧
  (∃ (s : State) (k : Fin 16) (t : T64), ((s.probe k).stoppedAt = some t) ∧ ((s.probe k).saved = false) ∧ ((s.probe k).ctl / 2 % 4 = 1) ∧ ((s.num 0x8050 1 0).testBit k = true) ∧ ((s.probe k).archivedAt = none)) :=
  ⟨⟨tagState, 1, { opc := 0x18, zone := 8, dst := 1, src := 2, tag := 3, epo := 0, addr := 0, data := [77] }, { waiting := [(2, 5)], epo := 0, issuedAt := 0, use := .descriptor 0 }, 5, 0, by decide⟩,
    ⟨tagState, 1, 3, { waiting := [(2, 5)], epo := 0, issuedAt := 0, use := .descriptor 0 }, 2, 5, 0, by decide⟩,
    ⟨producerState, 1, 1, 1, 0, 0, by decide⟩,
    ⟨{ State.reset with now := 1024 }, by decide⟩,
    ⟨{ opState .service .maintenance with net := { probes := [(2, { cnt := 9, sel := 4 })] } }, ask0, sessionOf .maintenance, 2, [0, 0, 0, 0, 0, 0, 0, 16], by decide⟩,
    ⟨{ State.reset with sess := { inForce := [(okey 0x8050 1, .num 4)] }, net := { probes := [(2, { ctl := 2, stoppedAt := some 5 })] } }, 2, 5, by decide⟩⟩

/-- States and operands that meet the hypotheses of `Obligations.StagingAndVerification`, clause by clause. -/
theorem witness_StagingAndVerification :
  (∃ (s : State) (q : Req) (ss : Session) (k : Fin 2) (b : List Nat) (e : Nat), (s.hears q ss) ∧ (s.admitted q ss (slotKey k 4)) ∧ (b.length = 64) ∧ (headerCheck b = (.ok, 0)) ∧ ((s.slot k).state = .empty) ∧ (imageTotal b ≤ s.libraryFree) ∧ (s.freeEntry = some e) ∧ (s.leaseBusy (0x40 + k) = false)) ∧
  (∃ (s : State) (q : Req) (ss : Session) (k : Fin 2) (off : Fin 4294967296) (last : Bool) (data : List Nat), (s.hears q ss) ∧ (s.admitted q ss (slotKey k 5)) ∧ (ss.inOrder (slotKey k 5) off = true) ∧ (0 < data.length ∧ data.length ≤ 1020) ∧ ((s.slot k).state = .receiving) ∧ (64 + off.val = (s.lib (s.slot k).entry).image.length) ∧ (64 + off.val + data.length ≤ (s.slot k).total) ∧ (last = decide (64 + off.val + data.length = (s.slot k).total))) ∧
  (∃ (s : State) (k : Fin 2), ((s.slot k).state = .verifying) ∧ ((s.slot k).primeWanted = false)) ∧
  (∃ (s : State) (k : Fin 2), ((s.slot k).state = .verifying) ∧ ((s.slot k).primeWanted = true)) ∧
  (∃ (s : State) (q : Req) (ss : Session) (k : Fin 2) (e : Fin 32), (s.hears q ss) ∧ (s.admitted q ss (slotKey k 6)) ∧ ((s.lib e).state = .verified ∨ (s.lib e).state = .retired) ∧ ((s.slot k).state = .empty) ∧ (s.leaseBusy (0x40 + k) = false)) ∧
  (∃ (s : State) (q : Req) (ss : Session) (e : Fin 32), (s.hears q ss) ∧ (s.op.state ≠ .halt) ∧ (ss.role = .maintenance) ∧ (q.epoch = 0) ∧ ((s.lib e).state = .verified ∨ (s.lib e).state = .retired)) :=
  ⟨⟨serviceState, ask0, sessionOf .maintenance, 0, blankHeader 200, 0, by decide⟩,
    ⟨stagingState .receiving, ask, sessionOf .maintenance, 0, 0, true, [1, 2, 3, 4], by decide⟩,
    ⟨stagingState .verifying, 0, by decide⟩,
    ⟨wantedState, 0, by decide⟩,
    ⟨libraryState, ask0, sessionOf .maintenance, 0, 2, by decide⟩,
    ⟨libraryState, ask0, sessionOf .maintenance, 2, by decide⟩⟩

/-- States and operands that meet the hypotheses of `Obligations.PrimingActivationAndWithdrawal`, clause by clause. -/
theorem witness_PrimingActivationAndWithdrawal :
  (∃ (s : State) (q : Req) (ss : Session) (k : Fin 2), (s.hears q ss) ∧ (s.admitted q ss (slotKey k 7)) ∧ ((s.slot k).state = .receiving ∨ (s.slot k).state = .verifying) ∧ (s.zoneNotHeld q.session (imageZones (s.image (s.slot k).entry)) = none)) ∧
  (∃ (s : State) (k : Fin 2), ((s.slot k).state = .priming)) ∧
  (∃ (s : State) (q : Req) (ss : Session) (k : Fin 2), (s.hears q ss) ∧ (s.admitted q ss (slotKey k 13)) ∧ ((s.slot k).state = .receiving ∨ (s.slot k).state = .verifying)) ∧
  (∃ (s : State) (q : Req) (ss : Session) (k : Fin 2), (s.hears q ss) ∧ (s.admitted q ss (slotKey k 13)) ∧ ((s.slot k).state = .priming ∨ (s.slot k).state = .primed)) ∧
  (∃ (s : State) (q : Req) (ss : Session) (k : Fin 2), (s.hears q ss) ∧ (s.admitted q ss (slotKey k 12)) ∧ (s.goCheck k q.session = (.ok, 0))) ∧
  (∃ (s : State) (k : Fin 2) (e t x : Nat), ((s.slot k).edge = some e) ∧ (s.roundDue k e = true) ∧ (s.activationMembers (s.image (s.slot k).entry) ≠ []) ∧ ((s.ni niGaffer).freeTag = some (t, x))) ∧
  (∃ (s : State) (k : Fin 2) (e : Nat), ((s.slot k).state = .activating) ∧ ((s.slot k).committed = true) ∧ ((s.slot k).edge = some e) ∧ (e ≤ s.time.t64)) ∧
  (∃ (s : State) (k : Fin 2) (j : Nat), ((s.slot k).state = .activating) ∧ ((s.slot k).mode = .atMark) ∧ ((s.slot k).edge = none) ∧ ((s.slot k).since + s.markWait ≤ s.now)) ∧
  (∃ (s : State) (j : Nat) (a : Apply), (s.applyOf? j = some a) ∧ (a.jseq = j) ∧ (a.mode = .atMark) ∧ (a.edge = none) ∧ (a.since + s.markWait ≤ s.now)) :=
  ⟨⟨stagingState .verifying, ask, sessionOf .maintenance, 0, by decide⟩,
    ⟨stagingState .priming, 0, by decide⟩,
    ⟨stagingState .verifying, ask, sessionOf .maintenance, 0, by decide⟩,
    ⟨stagingState .primed, ask, sessionOf .maintenance, 0, by decide⟩,
    ⟨stagingState .primed, ask, sessionOf .maintenance, 0, by decide⟩,
    ⟨roundState, 0, 90000, 0, 0, by decide⟩,
    ⟨{ stagingState .activating with time := { t64 := 95000 } }, 0, 90000, by decide⟩,
    ⟨waitState, 0, 0, by decide⟩,
    ⟨waitState, 7, waitingApply, by decide⟩⟩

/-- States and operands that meet the hypotheses of `Obligations.FirmwareUploadAndAssay`, clause by clause. -/
theorem witness_FirmwareUploadAndAssay :
  (∃ (s : State) (q : Req) (ss : Session) (b : List Nat), (s.hears q ss) ∧ (s.admitted q ss (okey 0x8600 6)) ∧ (b.length = 64) ∧ (fwHeaderCheck (b.map (· % 256)) = (.ok, 0))) ∧
  (∃ (s : State) (q : Req) (ss : Session) (off : Fin 4294967296) (last : Bool) (data : List Nat) (x : FwUpload), (s.hears q ss) ∧ (s.admitted q ss (okey 0x8600 7)) ∧ (ss.inOrder (okey 0x8600 7) off = true) ∧ (0 < data.length ∧ data.length ≤ 1020) ∧ (s.blank.upload = some x) ∧ (64 + off.val = x.data.length) ∧ (64 + off.val + data.length ≤ x.total) ∧ (last = decide (64 + off.val + data.length = x.total))) ∧
  (∃ (s : State) (q : Req) (ss : Session) (f : FwSlot), (s.hears q ss) ∧ (s.op.state = .halt) ∧ (ss.role = .maintenance) ∧ (q.epoch = 0) ∧ (s.recoveryTrial = some f)) ∧
  (∃ (s : State) (q : Req) (ss : Session), (s.hears q ss) ∧ (s.op.state ≠ .halt) ∧ (s.admitted q ss (okey 0x8600 8)) ∧ (s.pendCheck q.session ss (okey 0x8600 8) (.num 1) = (.ok, 0)) ∧ (s.fwGood s.fwTarget = true)) ∧
  (∃ (s : State) (us : Fin 151), (s.assayRuns = true) ∧ (s.blank.assay.lastPassAt + s.scrubPeriod ≤ s.now + 150000) ∧ (s.assayFinds = []) ∧ (s.banksChanged = [])) ∧
  (∃ (s : State) (us : Fin 151) (key : Nat), (s.assayRuns = true) ∧ (s.blank.assay.lastPassAt + s.scrubPeriod ≤ s.now + 150000) ∧ (s.assayFinds = [key]) ∧ (s.banksChanged = []) ∧ (s.tileInZ0 (key / 16) = false) ∧ ((s.tile (key / 16)).ctx ≠ key % 16)) ∧
  (∃ (s : State) (t : Fin 1024) (k : Fin 15) (e : Nat) (w : List Word), (s.assayRuns = true) ∧ (s.repairable (16 * t.val + k.val) = true) ∧ (s.entryOfSlot (16 * t.val + k.val) = some e) ∧ ((imageSlots (s.image e) (tileCluster t) (localIndex t)).find? (fun x => x.1 == k.val) = some (k.val, w)) ∧ (w.length = 8) ∧ (sourceIntact (s.image e) (tileCluster t) = true) ∧ (((s.putCode t (s.image e) w).putDescriptor t k (primedWords e false w)).slotMatches (16 * t.val + k.val) (tget 0 s.blank.assay.golden (16 * t.val + k.val)) = true) ∧ ((tget [] s.blank.assay.history t).length < 2)) ∧
  (∃ (s : State), (s.assayRuns = true) ∧ (s.blank.assay.lastPassAt + 2 * s.scrubPeriod < s.now) ∧ (s.alarmOn 0x0602 0 = false)) :=
  ⟨⟨serviceState, ask0, sessionOf .maintenance, firmwareHeader 200, by decide⟩,
    ⟨uploadState, ask0, sessionOf .maintenance, 0, true, [1, 2, 3, 4], ⟨.b, 68, firmwareHeader 68⟩, by decide⟩,
    ⟨haltState, ask0, sessionOf .maintenance, .b, by decide⟩,
    ⟨{ serviceState with blank := { fwB := { verifies := true } } }, ask, sessionOf .maintenance, by decide⟩,
    ⟨{ serviceState with now := 20000000 }, 90, by decide⟩,
    ⟨{ repairState with array := { tiles := [(0, { tile0 with ctx := 15, desc := [(8, 0x20000000)] })] }, blank := { repairState.blank with assay := { golden := [(1, 5)] } } }, 90, 1, by decide⟩,
    ⟨repairState, 0, 1, 3, repairWords, by decide⟩,
    ⟨{ serviceState with now := 30000000 }, by decide⟩⟩

/-- States and operands that meet the hypotheses of `Obligations.PendingWritesAndApplies`, clause by clause. -/
theorem witness_PendingWritesAndApplies :
  (∃ (s : State) (q : Req) (ss : Session) (z : Fin 7) (b : List Nat), (s.hears q ss) ∧ (s.admitted q ss (okey (0x3001 + z.val) 1)) ∧ (s.op.state ≠ .sleep) ∧ (b.length = 8) ∧ (s.pendCheck q.session ss (okey (0x3001 + z.val) 1) (.num (ofBytesBE b)) = (.ok, 0))) ∧
  (∃ (s : State) (q : Req) (ss : Session), (s.hears q ss) ∧ (s.admitted q ss (okey 0x1010 3)) ∧ (s.pendCheck q.session ss (okey 0x1010 3) (.num 1) = (.ok, 0))) ∧
  (∃ (s : State) (q : Req) (ss : Session), (s.hears q ss) ∧ (s.admitted q ss (okey 0x1210 3))) ∧
  (∃ (s : State) (q : Req) (ss : Session) (m f : Fin 256) (at_ fall : Fin 18446744073709551616), (s.hears q ss) ∧ (s.admitted q ss (okey 0x1210 5)) ∧ (s.applyRequestCheck ss ⟨m, f, at_, fall⟩ = (.ok, 0))) ∧
  (∃ (s : State) (j : Nat) (a : Apply) (e t x : Nat), (s.gafferRuns = true) ∧ (s.applyOf? j = some a) ∧ (a.jseq = j) ∧ (a.edge = some e) ∧ (s.applyDue a e = true) ∧ (a.members ≠ []) ∧ ((s.ni niGaffer).freeTag = some (t, x))) ∧
  (∃ (s : State) (j : Nat) (a : Apply) (e : Nat), (s.gafferRuns = true) ∧ (s.applyOf? j = some a) ∧ (a.jseq = j) ∧ (a.edge = some e) ∧ (s.applyDue a e = true) ∧ (a.members = []) ∧ (e ≤ s.time.t64 + 4000) ∧ (s.ownFailure a = none)) ∧
  (∃ (s : State) (j : Nat) (a : Apply) (e : Nat) (key : Nat) (v : Val), (s.applyOf? j = some a) ∧ (a.jseq = j) ∧ (a.edge = some e) ∧ (a.stage = 2) ∧ (e ≤ s.time.t64) ∧ (a.values = [(key, v)]) ∧ (s.effective j key = true) ∧ (commitOf key = .apply) ∧ (key / 256 = 0x8500)) ∧
  (∃ (s : State) (j : Nat) (a : Apply) (x : Session), (s.gafferRuns = true) ∧ (s.applyOf? j = some a) ∧ (a.stage = 3) ∧ (a.session ≠ 0) ∧ (s.session? a.session = some x)) :=
  ⟨⟨serviceState, ask, sessionOf .maintenance, 2, [0, 0, 0, 0, 0, 0, 0, 0], by decide⟩,
    ⟨serviceState, ask, sessionOf .maintenance, by decide⟩,
    ⟨applyingState, ask0, applyingSession, by decide⟩,
    ⟨applyingState, ask0, applyingSession, 0, 0, 0, 0, by decide⟩,
    ⟨roundApply 0, 7, unitApply, 105000, 0, 0, by decide⟩,
    ⟨ownApplyState 0, 7, ownApply 0, 5000, by decide⟩,
    ⟨{ ownApplyState 2 with time := { t64 := 5000 } }, 7, ownApply 2, 5000, okey 0x8500 1, .num 20, by decide⟩,
    ⟨ownApplyState 3, 7, ownApply 3, sessionOf .maintenance, by decide⟩⟩

/-- States and operands that meet the hypotheses of `Obligations.AtomicDeadlinesAndApplyEdges`, clause by clause. -/
theorem witness_AtomicDeadlinesAndApplyEdges :
  (∃ (s : State) (t : Fin 64) (r : AtomicRound) (x : NetTag) (k i p : Nat) (o : Bool), (tget none (s.ni niGaffer).tags t = some x) ∧ (x.decided = false) ∧ (x.use = .round i p o) ∧ (s.net.rounds.find? (fun y => y.tag == t.val) = some r) ∧ (r.tag = t.val) ∧ (r.kind = .activation k) ∧ (r.deadline ≤ s.time.t64) ∧ (r.members.all r.oks.contains = true) ∧ (r.fails = [])) ∧
  (∃ (s : State) (t : Fin 64) (r : AtomicRound) (x : NetTag) (k i p : Nat) (o : Bool), (tget none (s.ni niGaffer).tags t = some x) ∧ (x.decided = false) ∧ (x.use = .round i p o) ∧ (s.net.rounds.find? (fun y => y.tag == t.val) = some r) ∧ (r.tag = t.val) ∧ (r.kind = .activation k) ∧ (r.deadline ≤ s.time.t64) ∧ (r.members.all r.oks.contains = false)) ∧
  (∃ (s : State) (n : Fin 78) (e : StagedEntry) (k p : Nat), ((s.ni n).staged = [e]) ∧ (e.msg = .taskStart k p) ∧ (e.committed = true) ∧ (e.applyAt ≤ s.time.t64) ∧ ((s.task k).state = .ready) ∧ ((s.task k).start.map (fun r => r.committed && decide (r.tick ≤ s.now) && !r.drainAtStart && (s.task k).clusters.all r.holders.contains) = some true) ∧ ((s.task k).multi = true) ∧ (s.canStart k)) ∧
  (∃ (s : State) (n : Fin 78), ((s.ni n).staged.all (fun e => !e.committed || decide (s.time.t64 < e.applyAt)) = true)) :=
  ⟨⟨deadlineState [0, 1], 0, deadlineRound [0, 1], deadlineTag, 0, 0, 0, false, by decide⟩,
    ⟨deadlineState [0], 0, deadlineRound [0], deadlineTag, 0, 0, 0, false, by decide⟩,
    ⟨memberState, 0, memberStage, 9, 1010, by decide⟩,
    ⟨stagedState, 1, by decide⟩⟩

/-- States and operands that meet the hypotheses of `Obligations.RingStatesMarksAndSafeFrames`, clause by clause. -/
theorem witness_RingStatesMarksAndSafeFrames :
  (∃ (s : State) (r : Fin 16), (s.op.state = .service ∨ s.op.state = .run) ∧ ((s.ringAt r).state = .off ∨ (s.ringAt r).state = .fault) ∧ (s.mayDefer (r / 4) 8 = true)) ∧
  (∃ (s : State) (r : Fin 16), ((s.ringAt r).state ≠ .off)) ∧
  (∃ (s : State) (r : Fin 16), ((s.ringAt r).state = .training) ∧ ((s.ringAt r).trainAt + 1000000000 ≤ s.now)) ∧
  (∃ (s : State) (r : Fin 16), ((s.ringAt r).state ≠ .off) ∧ ((s.ringAt r).fedB = false) ∧ (1 ≤ s.timePeriod) ∧ ((s.ringAt r).tmarkAt ≠ s.time.t64 / s.timePeriod * s.timePeriod)) ∧
  (∃ (s : State) (r : Fin 16), ((s.ringAt r).state ≠ .off) ∧ ((s.ringAt r).fedB = false) ∧ ((s.ringAt r).safeAtA + 250000 ≤ s.now)) ∧
  (∃ (s : State) (r : Fin 16), (s.calDue r = true)) ∧
  (∃ (s : State) (r : Fin 16) (k : Fin 65) (ps : Nat), ((s.ringAt r).calBusy = true) ∧ (({ s.ringAt r with rttA := tput k ps (s.ringAt r).rttA }).calDone = false)) ∧
  (∃ (s : State) (r : Fin 16) (f v : Nat), ((s.ringAt r).calBusy = true) ∧ ((s.ringAt r).headCount = 0) ∧ ((s.ringAt r).state = .training) ∧ ((s.ringAt r).calF = some f)) :=
  ⟨⟨ringState .off, 2, by decide⟩,
    ⟨ringState .closed, 2, by decide⟩,
    ⟨ringState .training, 2, by decide⟩,
    ⟨ringState .closed, 2, by decide⟩,
    ⟨ringState .closed, 2, by decide⟩,
    ⟨ringState .closed, 2, by decide⟩,
    ⟨calState 1, 2, 1, 300000, by decide⟩,
    ⟨calState 0, 2, 250000, 251000, by decide⟩⟩

/-- States and operands that meet the hypotheses of `Obligations.EnumerationBreaksAndHeals`, clause by clause. -/
theorem witness_EnumerationBreaksAndHeals :
  (∃ (s : State) (r : Fin 16) (n base : Fin 256), ((s.ringAt r).state = .training ∨ (s.ringAt r).state = .renumber) ∧ (n.val ≠ 0) ∧ (s.mayDefer (r / 4) 8 = true) ∧ ((s.rc (r / 4)).deferred.any (fun d => d.1 == r.val) = false)) ∧
  (∃ (s : State) (r : Fin 16) (p : Fin 65) (prov : Bool) (d : HeadDesc), (p.val ≠ 0) ∧ ((s.ringAt r).state = .wrap)) ∧
  (∃ (s : State) (r : Fin 16) (p : Fin 65) (a b : Fin 4294967296), ((s.ringAt r).state = .training ∨ (s.ringAt r).state = .renumber) ∧ ((positions 1 (s.ringAt r).headCount).all (fun k => k == p.val || (s.ringAt r).reported.contains k) = true)) ∧
  (∃ (s : State) (r : Fin 16) (p : Fin 65) (d : Bool), ((s.ringAt r).state = .closed) ∧ ((s.ringAt r).breaks = []) ∧ ((s.ringAt r).fedB = false) ∧ (s.mayDefer (r / 4) 8 = true) ∧ ((s.rc (r / 4)).deferred.any (fun d => d.1 == r.val) = false)) ∧
  (∃ (s : State) (r : Fin 16) (b : Bool), ((s.ringAt r).state = .closed) ∧ ((s.ringAt r).breaks = []) ∧ ((s.ringAt r).fedB = false) ∧ (s.mayDefer (r / 4) 8 = true) ∧ ((s.rc (r / 4)).deferred.any (fun d => d.1 == r.val) = false)) ∧
  (∃ (s : State) (r : Fin 16), ((s.ringAt r).state = .closed) ∧ ((s.ringAt r).breaks = []) ∧ ((s.ringAt r).fedB = false) ∧ (s.mayDefer (r / 4) 8 = true) ∧ ((s.rc (r / 4)).deferred.any (fun d => d.1 == r.val) = false)) ∧
  (∃ (s : State) (r : Fin 16) (p : Fin 65) (d : Bool), (p.val ≠ 0) ∧ ((s.ringAt r).state = .wrap) ∧ ((s.ringAt r).breaks = [.head p (if d then .d else .u)]) ∧ (s.mayDefer (r / 4) 8 = true) ∧ ((s.rc (r / 4)).deferred.any (fun d => d.1 == r.val) = false)) :=
  ⟨⟨ringState .training, 2, 3, 0, by decide⟩,
    ⟨ringState .wrap, 2, 1, false, { serial := 9, channels := 4 }, by decide⟩,
    ⟨calState 1, 2, 1, 500, 700, by decide⟩,
    ⟨ringState .closed, 2, 1, true, by decide⟩,
    ⟨ringState .closed, 2, true, by decide⟩,
    ⟨ringState .closed, 2, by decide⟩,
    ⟨{ ringState .wrap with ring := { rings := [(2, { (ringState .wrap).ringAt 2 with breaks := [.head 1 .d] })] } }, 2, 1, true, by decide⟩⟩

/-- States and operands that meet the hypotheses of `Obligations.HeadsMarksTimeAndCalibration`, clause by clause. -/
theorem witness_HeadsMarksTimeAndCalibration :
  (∃ (s : State) (r : Fin 16) (p : Fin 65) (d : Bool), ((s.headAt r p).powered = true)) ∧
  (∃ (s : State) (r : Fin 16) (p : Fin 65) (b : Bool) (ttx ep t d : Nat), ((s.headAt r p).powered = true) ∧ ((if b then (s.headAt r p).tmarkD else (s.headAt r p).tmarkU) = some t) ∧ (s.now ≤ t + 4000) ∧ ((if b then (s.headAt r p).dlyB else (s.headAt r p).dlyA) = some d)) ∧
  (∃ (s : State) (r : Fin 16) (p : Fin 65) (d : Bool) (t : Nat), ((s.headAt r p).powered = true) ∧ ((if d then (s.headAt r p).armD else (s.headAt r p).armU) = some t) ∧ (s.now ≤ t + 20000)) ∧
  (∃ (s : State) (r : Fin 16) (p : Fin 65) (dst : Fin 256), ((s.headAt r p).powered = true) ∧ (dst.val = 0xFF ∨ ((s.headAt r p).pos ≠ 0 ∧ dst.val = (s.headAt r p).pos))) ∧
  (∃ (s : State) (r : Fin 16) (p : Fin 65) (dst : Fin 256) (a b : Fin 4294967296), ((s.headAt r p).powered = true) ∧ (dst.val = 0xFF ∨ ((s.headAt r p).pos ≠ 0 ∧ dst.val = (s.headAt r p).pos))) ∧
  (∃ (s : State) (r : Fin 16) (p : Fin 65) (dst : Fin 256) (a b : Fin 4294967296), ((s.headAt r p).powered = true)) ∧
  (∃ (s : State) (r : Fin 16) (p : Fin 65), (p.val ≠ 0) ∧ ((s.headAt r p).powered = true) ∧ ((s.headAt r p).idling = false)) ∧
  (∃ (s : State) (r : Fin 16) (p : Fin 65), (p.val ≠ 0)) :=
  ⟨⟨headState, 2, 1, false, by decide⟩,
    ⟨headState, 2, 1, false, 655360000, 0, 9000, 100, by decide⟩,
    ⟨headState, 2, 1, false, 9500, by decide⟩,
    ⟨headState, 2, 1, 1, by decide⟩,
    ⟨headState, 2, 1, 1, 500, 700, by decide⟩,
    ⟨headState, 2, 1, 1, 500, 700, by decide⟩,
    ⟨headState, 2, 1, by decide⟩,
    ⟨headState, 2, 1, by decide⟩⟩

/-- States and operands that meet the hypotheses of `Obligations.HeadsPositionsPortsAndSafeFrames`, clause by clause. -/
theorem witness_HeadsPositionsPortsAndSafeFrames :
  (∃ (s : State) (r : Fin 16) (p : Fin 65) (b : Bool) (hops base : Fin 256), ((s.headAt r p).powered = true) ∧ (hops.val < 64)) ∧
  (∃ (s : State) (r : Fin 16) (p : Fin 65), ((s.headAt r p).powered = true) ∧ ((s.headAt r p).pos ≠ 0)) ∧
  (∃ (s : State) (r : Fin 16) (p : Fin 65), ((s.headAt r p).powered = true)) ∧
  (∃ (s : State) (r : Fin 16) (p : Fin 65), ((s.headAt r p).powered = true) ∧ ((s.headAt r p).feed = .u) ∧ ((s.headAt r p).downU = false) ∧ ((s.headAt r p).coast = false)) ∧
  (∃ (s : State) (r : Fin 16) (p : Fin 65), ((s.headAt r p).powered = true) ∧ ((s.headAt r p).feed = .u) ∧ ((s.headAt r p).downD = false)) ∧
  (∃ (s : State) (r : Fin 16) (p : Fin 65) (d : Bool), ((s.headAt r p).powered = true) ∧ ((if d then (s.headAt r p).downD else (s.headAt r p).downU) = true)) ∧
  (∃ (s : State) (r : Fin 16) (p : Fin 65) (f : SafeFields), ((s.headAt r p).powered = true) ∧ ((s.headAt r p).acceptsSafe r f s.now = false)) ∧
  (∃ (s : State) (r : Fin 16) (p : Fin 65) (f : SafeFields), ((s.headAt r p).powered = true) ∧ ((s.headAt r p).acceptsSafe r f s.now = true) ∧ (f.qstate % 2 = 1) ∧ ((s.headAt r p).quenched = false)) ∧
  (∃ (s : State) (r : Fin 16) (p : Fin 65) (f : SafeFields), ((s.headAt r p).powered = true) ∧ ((s.headAt r p).acceptsSafe r f s.now = true) ∧ (f.qstate % 2 = 0) ∧ (f.sfmode = 0) ∧ ((s.headAt r p).jog = false) ∧ ((s.headAt r p).quenched = true) ∧ ((s.headAt r p).quenchSeen = true) ∧ ((s.headAt r p).lastSseq.map inc32 = some f.sseq)) :=
  ⟨⟨headState, 2, 1, false, 0, 0, by decide⟩,
    ⟨headState, 2, 1, by decide⟩,
    ⟨headState, 2, 1, by decide⟩,
    ⟨headState, 2, 1, by decide⟩,
    ⟨headState, 2, 1, by decide⟩,
    ⟨withHead { headOne with downU := true }, 2, 1, false, by decide⟩,
    ⟨headState, 2, 1, { sseq := 1, stime := 10000, qstate := 1, sfmode := 0, qcause := 0, rsv := 0, scrc := 0 }, by decide⟩,
    ⟨headState, 2, 1, safeOf 1 1, by decide⟩,
    ⟨withHead { headOne with quenched := true, quenchSeen := true, goodFrames := 3, lastSseq := some 0 }, 2, 1, safeOf 1 0, by decide⟩⟩

/-- States and operands that meet the hypotheses of `Obligations.EventRecordsSendsAndCompletions`, clause by clause. -/
theorem witness_EventRecordsSendsAndCompletions :
  (∃ (s : State) (r : Fin 16) (z : Fin 16) (w k : BitVec 64), (s.eventZone r z = true) ∧ (fieldOf w 14 2 = 0) ∧ (plainRecord w) ∧ ((s.ringAt r).unplaced (fieldOf w 4 6 + 1) = false) ∧ ((s.ringAt r).events.length < 4096)) ∧
  (∃ (s : State) (r : Fin 16) (z : Fin 16) (w k : BitVec 64), (s.eventZone r z = true) ∧ (fieldOf w 14 2 = 0) ∧ (plainRecord w) ∧ ((s.ringAt r).unplaced (fieldOf w 4 6 + 1) = true) ∧ (s.tokenRoom (fieldOf w 40 8))) ∧
  (∃ (s : State) (r : Fin 16) (p : Fin 65) (e : QEvent) (w : Nat), ((s.ringAt r).events.filter (fun f => f.uid == e.uid) = [e]) ∧ ((s.ringAt r).events.filter (fun f => f.pos == p.val && f.stage == .queued && s.dueMember r f != .waits) = [e]) ∧ (s.dueMember r e = .now w) ∧ (s.ringQuenched r = false) ∧ ((s.ringAt r).reaches p = true) ∧ ((s.ringAt r).arrives p s.t80 w = true) ∧ (((s.ringAt r).headRec p).confirmed = true) ∧ (s.headLoad r p < ((s.ringAt r).headRec p).desc.evCap)) ∧
  (∃ (s : State) (r : Fin 16) (p : Fin 65) (e : QEvent), ((s.ringAt r).events.filter (fun f => f.uid == e.uid) = [e]) ∧ ((s.ringAt r).events.filter (fun f => f.pos == p.val && s.echoDue r f) = [e]) ∧ (s.ringQuenched r = false) ∧ ((s.ringAt r).reaches p = true) ∧ ((s.ringAt r).arrives p s.t80 e.when_ = true) ∧ (e.group = none)) ∧
  (∃ (s : State) (r : Fin 16) (i : Nat) (e : QEvent) (w : Nat), ((s.ringAt r).event? i = some e) ∧ (e.uid = i) ∧ (s.trimTo r e = some w) ∧ (e.trimAt + s.num 0x5200 4 10 * 1000 ≤ s.now) ∧ (s.t80 + lockLead + s.num 0x5200 5 8 * 1000 * 65536 < e.when_)) ∧
  (∃ (s : State) (r : Fin 16) (i : Nat) (e : QEvent) (w : Nat), ((s.ringAt r).event? i = some e) ∧ (e.uid = i) ∧ (s.trimTo r e = some w) ∧ (e.when_ ≤ s.t80 + lockLead + s.num 0x5200 5 8 * 1000 * 65536)) ∧
  (∃ (s : State) (r : Fin 16) (i : Nat) (e : QEvent), ((s.ringAt r).event? i = some e) ∧ (e.stage = .sent) ∧ (e.when_ ≤ s.t80 + lockLead)) ∧
  (∃ (s : State) (r : Fin 16) (i : Nat) (e : QEvent), ((s.ringAt r).event? i = some e) ∧ (e.uid = i) ∧ (e.stage = .frozen) ∧ (e.when_ + 1000 * 65536 ≤ s.t80) ∧ (e.group = none) ∧ (s.tokenRoom e.task)) :=
  ⟨⟨queueRing [], 2, 1, 0x0001090000010000, 5100000, by decide⟩,
    ⟨queueRing [], 2, 1, 0x0001090000010020, 5100000, by decide⟩,
    ⟨queueRing [dueEvent], 2, 1, dueEvent, 334233600000, by decide⟩,
    ⟨queueRing [sentEvent], 2, 1, sentEvent, by decide⟩,
    ⟨angleRing trimmedEvent, 2, 5, trimmedEvent, 334233599996, by decide⟩,
    ⟨angleRing lastEvent, 2, 5, lastEvent, 329482239996, by decide⟩,
    ⟨queueRing [{ sentEvent with when_ := 5001000 * 65536 }], 2, 5, { sentEvent with when_ := 5001000 * 65536 }, by decide⟩,
    ⟨queueRing [doneEvent], 2, 5, doneEvent, by decide⟩⟩

/-- States and operands that meet the hypotheses of `Obligations.FiringGroupsAcksAndSense`, clause by clause. -/
theorem witness_FiringGroupsAcksAndSense :
  (∃ (s : State) (r : Fin 16) (z : Fin 16) (n : Nat) (w k : BitVec 64), (s.eventZone r z = true) ∧ ((s.ringAt r).group? (fieldOf w 0 4) = none) ∧ (1 ≤ fieldOf w 5 5 ∧ fieldOf w 5 5 ≤ 28)) ∧
  (∃ (s : State) (r : Fin 16) (z : Fin 16) (n : Nat) (w k : BitVec 64) (y : Group), (s.eventZone r z = true) ∧ (s.memberRefused r (fieldOf w 60 4) n = false) ∧ ((s.ringAt r).group? (fieldOf w 60 4) = some y) ∧ (y.stage = .assembling) ∧ (y.entry = n) ∧ (y.mask.contains (fieldOf w 4 6 + 1) = false) ∧ (plainRecord w) ∧ ((s.ringAt r).unplaced (fieldOf w 4 6 + 1) = false) ∧ ((s.ringAt r).events.length < 4096)) ∧
  (∃ (s : State) (r : Fin 16) (g : Fin 16) (y : Group), ((s.ringAt r).group? g = some y) ∧ (y.stage = .assembling) ∧ (y.openedAt + 100000 ≤ s.now) ∧ (s.tokenRoom y.task)) ∧
  (∃ (s : State) (r : Fin 16) (g : Fin 16) (y : Group) (ms : List (QEvent × Nat)) (w0 : Nat), ((s.ringAt r).group? g = some y) ∧ (y.stage = .waiting) ∧ (y.atomic = true) ∧ (s.groupPassed r g = false) ∧ (s.groupTimes r g = some ms) ∧ (ms.foldl (fun m p => min m p.2) ((ms.head?.map (·.2)).getD 0) = w0) ∧ (w0 ≤ s.t80 + s.sendAhead) ∧ (s.ringQuenched r = false) ∧ (s.time.t64 + 30000 ≤ (w0 - lockLead) / 65536) ∧ ((s.ringAt r).openGroups < 8) ∧ (ms.all (fun p => ((s.ringAt r).headRec p.1.pos).confirmed && decide (s.headLoad r p.1.pos < ((s.ringAt r).headRec p.1.pos).desc.evCap)) = true) ∧ ((s.ringAt r).fedEnds = [.a])) ∧
  (∃ (s : State) (r : Fin 16) (g : Fin 16) (y : Group), ((s.ringAt r).group? g = some y) ∧ (y.stage = .staged) ∧ (y.retried = false) ∧ (y.stagedAt + 50000 ≤ s.now) ∧ (s.time.t64 < y.deadline) ∧ (y.mask.filter (fun p => !y.oks.contains p) ≠ []) ∧ ((s.ringAt r).fedEnds = [.a])) ∧
  (∃ (s : State) (r : Fin 16) (g : Fin 16) (y : Group), ((s.ringAt r).group? g = some y) ∧ (y.stage = .staged) ∧ (y.deadline ≤ s.time.t64) ∧ ((s.ringAt r).fedEnds = [.a]) ∧ (y.mask.all y.oks.contains = true)) ∧
  (∃ (s : State) (r : Fin 16) (g : Fin 16) (y : Group), ((s.ringAt r).group? g = some y) ∧ (y.stage = .staged) ∧ (y.deadline ≤ s.time.t64) ∧ ((s.ringAt r).fedEnds = [.a]) ∧ (y.mask.all y.oks.contains = false) ∧ (s.tokenRoom y.task)) ∧
  (∃ (s : State) (r : Fin 16) (g : Fin 16) (y : Group) (l : List Nat), ((s.ringAt r).group? g = some y) ∧ (y.stage = .committed) ∧ (y.commitAt + 10000 ≤ s.now) ∧ (y.unanswered.filter (fun p => (s.ringAt r).reaches p && decide (s.t80 + 2700 * 65536 + (s.ringAt r).delayTo p ≤ y.hold * 65536)) = l) ∧ (l ≠ []) ∧ ((s.ringAt r).fedEnds = [.a])) ∧
  (∃ (s : State) (r : Fin 16) (g : Fin 16) (y : Group), ((s.ringAt r).group? g = some y) ∧ (y.stage = .committed) ∧ (y.hold ≤ s.time.t64) ∧ (y.unanswered = []) ∧ (s.tokenRoom y.task)) ∧
  (∃ (s : State) (r : Fin 16) (p : Fin 65) (n st fmt t0 sp : Nat) (l : List Nat), (s.senseTask r p st = some n) ∧ (fmt ≤ 2) ∧ (l ≠ []) ∧ (l.length ≤ 40 / (if fmt = 0 then 2 else 4)) ∧ ((s.task n).state ≠ .absent) ∧ ((s.task n).state ≠ .draining) ∧ ((s.task n).queue.length + (senseChunk r p st fmt sp t0 0 l).length ≤ (s.task n).queueSize) ∧ ((s.task n).kind ≠ .queue)) :=
  ⟨⟨queueRing [], 2, 1, 0, 0x0001090000000053, 0, by decide⟩,
    ⟨groupRing openGroup [], 2, 1, 0, 0x3001090000018000, 5100000, openGroup, by decide⟩,
    ⟨groupRing openGroup [], 2, 3, openGroup, by decide⟩,
    ⟨groupRing (oneGroup .waiting) [memberEvent], 2, 3, oneGroup .waiting, [(memberEvent, 334233600000)], 334233600000, by decide⟩,
    ⟨groupRing (oneGroup .staged) [memberEvent], 2, 3, oneGroup .staged, by decide⟩,
    ⟨groupRing { oneGroup .staged with oks := [1], deadline := 5000000 } [memberEvent], 2, 3, { oneGroup .staged with oks := [1], deadline := 5000000 }, by decide⟩,
    ⟨groupRing { oneGroup .staged with deadline := 5000000 } [memberEvent], 2, 3, { oneGroup .staged with deadline := 5000000 }, by decide⟩,
    ⟨groupRing (oneGroup .committed) [], 2, 3, oneGroup .committed, [1], by decide⟩,
    ⟨groupRing { oneGroup .committed with hold := 5000000, commits := [1] } [], 2, 3, { oneGroup .committed with hold := 5000000, commits := [1] }, by decide⟩,
    ⟨senseRing, 2, 1, 9, 3, 0, 65536000, 1000000, [5, 6], by decide⟩⟩

/-- States and operands that meet the hypotheses of `Obligations.HeadsEventsGroupsAndFiring`, clause by clause. -/
theorem witness_HeadsEventsGroupsAndFiring :
  (∃ (s : State) (r : Fin 16) (p : Fin 65) (dst : Fin 256) (e : EventEntry), ((s.headAt r p).powered = true) ∧ (dst.val = 0xFF ∨ ((s.headAt r p).pos ≠ 0 ∧ dst.val = (s.headAt r p).pos)) ∧ (e.withdraw = false) ∧ (e.trim = false) ∧ (e.suspect = false) ∧ ((s.headAt r p).held.all (fun x => x.entry.eid != e.eid) = true) ∧ ((s.headAt r p).refusesEntry e = false) ∧ ((s.headAt r p).isLate e.when_ s.now = false) ∧ ((s.headAt r p).load < (s.headAt r p).desc.evCap)) ∧
  (∃ (s : State) (r : Fin 16) (p : Fin 65) (dst : Fin 256) (e : EventEntry), ((s.headAt r p).powered = true) ∧ (dst.val = 0xFF ∨ ((s.headAt r p).pos ≠ 0 ∧ dst.val = (s.headAt r p).pos)) ∧ (e.withdraw = false) ∧ (e.trim = false) ∧ (e.suspect = false) ∧ ((s.headAt r p).held.all (fun x => x.entry.eid != e.eid) = true) ∧ ((s.headAt r p).refusesEntry e = true ∨ (s.headAt r p).isLate e.when_ s.now = true)) ∧
  (∃ (s : State) (r : Fin 16) (p : Fin 65) (dst : Fin 256) (e : EventEntry) (x : HeldEvent), ((s.headAt r p).powered = true) ∧ (dst.val = 0xFF ∨ ((s.headAt r p).pos ≠ 0 ∧ dst.val = (s.headAt r p).pos)) ∧ (e.withdraw = false) ∧ (e.trim = false) ∧ (e.suspect = false) ∧ ((s.headAt r p).held.find? (fun y => y.entry.eid == e.eid) = some x) ∧ (e.when_ = x.entry.when_)) ∧
  (∃ (s : State) (r : Fin 16) (p : Fin 65) (dst : Fin 256) (e : EventEntry) (x : HeldEvent), ((s.headAt r p).powered = true) ∧ (dst.val = 0xFF ∨ ((s.headAt r p).pos ≠ 0 ∧ dst.val = (s.headAt r p).pos)) ∧ (e.withdraw = false) ∧ (e.trim = true) ∧ (e.suspect = false) ∧ ((s.headAt r p).held.find? (fun y => y.entry.eid == e.eid) = some x) ∧ (x.locked = false) ∧ ((s.headAt r p).atLock x.entry.when_ s.now = false)) ∧
  (∃ (s : State) (r : Fin 16) (p : Fin 65) (gid fq : Fin 65536) (hold : Nat) (m : List (Fin 65)) (es : List (Fin 65 × EventEntry)), ((s.headAt r p).powered = true) ∧ ((s.headAt r p).pos ≠ 0) ∧ (m.any (fun x => x.val == (s.headAt r p).pos) = true) ∧ ((s.headAt r p).staged.all (fun g => g.gid != gid.val) = true) ∧ ((s.headAt r p).committed.all (fun g => g.1 != gid.val) = true) ∧ ((s.headAt r p).quenched = false) ∧ ((entriesFor (s.headAt r p).pos es).all (fun e => !e.suspect && !(s.headAt r p).refusesEntry e && !(s.headAt r p).isLate e.when_ s.now) = true) ∧ ((s.headAt r p).staged.length < 4) ∧ ((s.headAt r p).load + (entriesFor (s.headAt r p).pos es).length ≤ (s.headAt r p).desc.evCap)) ∧
  (∃ (s : State) (r : Fin 16) (p : Fin 65) (gid fq : Fin 65536) (m : List (Fin 65)) (g : StagedGroup), ((s.headAt r p).powered = true) ∧ ((s.headAt r p).pos ≠ 0) ∧ (m.any (fun x => x.val == (s.headAt r p).pos) = true) ∧ ((s.headAt r p).staged.find? (fun x => x.gid == gid.val) = some g) ∧ ((s.headAt r p).committed = []) ∧ ((s.headAt r p).pastHold g.hold s.now = false)) ∧
  (∃ (s : State) (r : Fin 16) (p : Fin 65) (gid fq : Fin 65536) (m : List (Fin 65)), ((s.headAt r p).powered = true) ∧ ((s.headAt r p).pos ≠ 0) ∧ (m.any (fun x => x.val == (s.headAt r p).pos) = true)) ∧
  (∃ (s : State) (r : Fin 16) (p : Fin 65) (c : Fin 16) (x : HeldEvent), ((s.headAt r p).held.filter (fun y => y.entry.ch == c.val) = [x]) ∧ ((x.entry.when_ : Int) ≤ (s.headAt r p).localTime s.now) ∧ ((s.headAt r p).quenched = false) ∧ ((s.headAt r p).timeValid = true) ∧ ((s.headAt r p).jog = false) ∧ (x.entry.act = 1 ∨ x.entry.act = 2 ∨ x.entry.act = 3 ∨ x.entry.act = 4)) ∧
  (∃ (s : State) (r : Fin 16) (p : Fin 65) (c : Fin 16) (t : Nat), ((tget {} (s.headAt r p).channels c).pulseEnd = some t) ∧ ((t : Int) ≤ (s.headAt r p).localTime s.now)) :=
  ⟨⟨headState, 2, 1, 1, onEntry, by decide⟩,
    ⟨headState, 2, 1, 1, { onEntry with when_ := 655360001 }, by decide⟩,
    ⟨withHead (holding onEntry), 2, 1, 1, onEntry, { entry := onEntry, arrival := 0 }, by decide⟩,
    ⟨withHead (holding onEntry), 2, 1, 1, { onEntry with trim := true, when_ := 6553600001 }, { entry := onEntry, arrival := 0 }, by decide⟩,
    ⟨headState, 2, 1, 4, 9, 50000, [1], [(1, onEntry)], by decide⟩,
    ⟨withHead { headOne with staged := [⟨4, 50000, [onEntry]⟩] }, 2, 1, 4, 9, [1], ⟨4, 50000, [onEntry]⟩, by decide⟩,
    ⟨withHead { headOne with staged := [⟨4, 50000, [onEntry]⟩] }, 2, 1, 4, 9, [1], by decide⟩,
    ⟨withHead (holding { onEntry with when_ := 655360000 }), 2, 1, 2, { entry := { onEntry with when_ := 655360000 }, arrival := 0 }, by decide⟩,
    ⟨withHead { headOne with channels := [(2, { level := 65535, pulseEnd := some 655360000 })] }, 2, 1, 2, 655360000, by decide⟩⟩

/-- States and operands that meet the hypotheses of `Obligations.HeadsRegistersCoastAndReports`, clause by clause. -/
theorem witness_HeadsRegistersCoastAndReports :
  (∃ (s : State) (r : Fin 16) (p : Fin 65) (dst : Fin 256) (tag addr : Fin 65536) (n : Fin 256) (l : List Nat), ((s.headAt r p).powered = true) ∧ (dst.val = 0xFF ∨ ((s.headAt r p).pos ≠ 0 ∧ dst.val = (s.headAt r p).pos)) ∧ ((s.headAt r p).readRegs addr n = some l)) ∧
  (∃ (s : State) (r : Fin 16) (p : Fin 65) (dst : Fin 256) (tag addr : Fin 65536) (v : Fin 4294967296), ((s.headAt r p).powered = true) ∧ (dst.val = 0xFF ∨ ((s.headAt r p).pos ≠ 0 ∧ dst.val = (s.headAt r p).pos))) ∧
  (∃ (s : State) (r : Fin 16) (p : Fin 65) (tag addr : Fin 65536) (v : Fin 4294967296), (addr.val = 2)) ∧
  (∃ (s : State) (r : Fin 16) (p : Fin 65), ((s.headAt r p).powered = true) ∧ ((s.headAt r p).coast = false) ∧ ((s.headAt r p).pairAt + 3000 * (s.headAt r p).timePeriod ≤ s.now)) ∧
  (∃ (s : State) (r : Fin 16) (p : Fin 65), ((s.headAt r p).powered = true) ∧ ((s.headAt r p).coast = true) ∧ ((s.headAt r p).quenched = false) ∧ ((s.headAt r p).coastAt + 1000 * (s.headAt r p).coastMax ≤ s.now)) ∧
  (∃ (s : State) (r : Fin 16) (p : Fin 65) (t : Nat), ((s.headAt r p).powered = true) ∧ ((s.headAt r p).safeAt = some t) ∧ (t + 1000 * (s.headAt r p).safeTimeout ≤ s.now)) ∧
  (∃ (s : State) (r : Fin 16) (p : Fin 65) (e : Nat), ((s.headAt r p).powered = true) ∧ ((s.headAt r p).desc.energy = true) ∧ ((s.headAt r p).energyAt + 1000000 * (s.headAt r p).energyPeriod ≤ s.now)) ∧
  (∃ (s : State) (r : Fin 16) (p : Fin 65) (st : Fin 8) (t : Nat) (l : List Nat), ((s.headAt r p).powered = true) ∧ ((s.headAt r p).desc.sense = true) ∧ ((tget 0 (s.headAt r p).streams st).testBit 0 = true) ∧ (st.val < (s.headAt r p).desc.streams) ∧ (l ≠ [])) ∧
  (∃ (s : State) (r : Fin 16) (p : Fin 65) (d : HeadDesc) (j : Bool) (l : List (Fin 4294967296)), (p.val ≠ 0)) ∧
  (∃ (s : State) (r : Fin 16) (p : Fin 65) (e n : Nat) (k : HeadMeter), (s.counting 2 = true) ∧ (tget none s.energy.heads (((s.ringAt r).headRec p).desc.serial) = some k) ∧ (k.ecum ≤ e)) :=
  ⟨⟨headState, 2, 1, 1, 7, 1, 1, [9], by decide⟩,
    ⟨withHead { headOne with quenched := true }, 2, 1, 1, 7, 3, 600, by decide⟩,
    ⟨headState, 2, 1, 7, 2, 5, by decide⟩,
    ⟨{ headState with now := 90000000 }, 2, 1, by decide⟩,
    ⟨{ withHead { headOne with coast := true } with now := 90000000 }, 2, 1, by decide⟩,
    ⟨{ withHead { headOne with safeAt := some 9000 } with now := 90000000 }, 2, 1, 9000, by decide⟩,
    ⟨{ withHead { headOne with desc := { headOne.desc with energy := true } } with now := 90000000000 }, 2, 1, 40, by decide⟩,
    ⟨withHead { headOne with desc := { headOne.desc with sense := true, streams := 8 }, streams := [(3, 2049)] }, 2, 1, 3, 655360000, [5], by decide⟩,
    ⟨headState, 2, 3, {}, false, [4, 5], by decide⟩,
    ⟨energyHeadState, 2, 1, 5000, 4, ⟨2000, 2⟩, by decide⟩⟩

/-- States and operands that meet the hypotheses of `Obligations.NoiseHistogramPhaseAndHeldFrames`, clause by clause. -/
theorem witness_NoiseHistogramPhaseAndHeldFrames :
  (∃ (s : State) (m : Fin 4), ((s.rc m).decayAt + s.num (0x4700 + m) 6 60 * 1000000000 ≤ s.now)) ∧
  (∃ (s : State) (m : Fin 4) (a : Nat), (s.num (0x4700 + m) 2 0 ≠ 1) ∧ ((s.rc m).phaseAt + 64 * (s.rc m).period ≤ s.now) ∧ ((s.rc m).window ≠ []) ∧ ((s.rc m).window.all (fun t => (s.rc m).offset t == a) = true)) ∧
  (∃ (s : State) (m : Fin 4), (s.num (0x4700 + m) 2 0 ≠ 1) ∧ ((s.rc m).phaseAt + 64 * (s.rc m).period ≤ s.now) ∧ ((s.rc m).window = [])) ∧
  (∃ (s : State) (m : Fin 4) (r dst : Nat) (b : Bool) (body : FrameBody) (rest : List (Nat × Bool × Nat × FrameBody)), ((s.rc m).deferred = (r, b, dst, body) :: rest) ∧ (s.mayDefer m body.len = true)) ∧
  (∃ (s : State) (m : Fin 4), ((s.rc m).deferred = [] ∨ (s.rc m).deferred.all (fun d => !s.mayDefer m d.2.2.2.len) = true)) :=
  ⟨⟨noiseState, 2, by decide⟩,
    ⟨noiseState, 2, 6400, by decide⟩,
    ⟨{ noiseState with ring := {} }, 2, by decide⟩,
    ⟨noiseState, 2, 9, 3, true, .commit 1 [], [(9, false, 4, .commit 1 [])], by decide⟩,
    ⟨noiseState, 1, by decide⟩⟩

/-- States and operands that meet the hypotheses of `Obligations.SafetyInputsAcknowledgementsAndPdu`, clause by clause. -/
theorem witness_SafetyInputsAcknowledgementsAndPdu :
  (∃ (s : State) (n : Fin 4) (b : Bool), ((s.quench.pair n).opened b = false) ∧ (s.quench.siType n = .guard) ∧ (s.mayCause (0x10 + n))) ∧
  (∃ (s : State) (n : Fin 4) (b : Bool), (s.quenchRuns = true) ∧ ((s.quench.pair n).opened b = true) ∧ ((s.quench.pair n).opened (!b) = false) ∧ (s.quench.siType n = .guard)) ∧
  (∃ (s : State) (n : Fin 4) (t : Nat), ((s.quench.pair n).differSince = some t) ∧ (s.quench.siType n ≠ .unused) ∧ (t + s.quench.siDisc < s.now) ∧ (s.mayCause (0x14 + n))) ∧
  (∃ (s : State) (n : Fin 4) (b : Bool), (s.quench.siType n ≠ .unused) ∧ ((s.quench.pair n).opened b = false) ∧ (s.mayCause (0x18 + n))) ∧
  (∃ (s : State) (c : Fin 4), (s.quenchRuns = true) ∧ (s.quench.pulseDue c s.now = true)) ∧
  (∃ (s : State) (n : Fin 4) (t : Nat), (s.quenchRuns = true) ∧ ((s.quench.pair n).closedSince = some t) ∧ (s.quench.siType n = .reset) ∧ (t + 100000000 ≤ s.now ∧ s.now ≤ t + 2000000000) ∧ (s.quench.pduEn = false) ∧ (s.armed = false) ∧ (s.quench.active = [])) ∧
  (∃ (s : State) (q : Req) (ss : Session) (b : List Nat), (s.hears q ss) ∧ (s.admitted q ss (okey 0x2100 1)) ∧ (b.length = 16) ∧ (s.quenchRuns = true) ∧ (s.quench.pduEn = true) ∧ (s.quench.pduRight b = true) ∧ (s.quench.lastCnt.all (fun c => (c + 1) % 65536 == pduField b 2 2) = true)) ∧
  (∃ (s : State) (q : Req) (ss : Session) (b : List Nat), (s.hears q ss) ∧ (s.admitted q ss (okey 0x2100 1)) ∧ (b.length = 16) ∧ (s.quench.pduEn = true) ∧ (s.quench.pduRight b = false)) ∧
  (∃ (s : State), (s.quench.pduEn = true) ∧ (s.quench.pduAt + s.quench.pduWatchdog < s.now) ∧ (s.mayCause 0x20)) ∧
  (∃ (s : State) (q : Req) (ss : Session), (s.hears q ss) ∧ (s.admitted q ss (okey 0x2000 5)) ∧ (s.mayCause 0x40)) ∧
  (∃ (s : State) (r : Fin 16) (b w : Bool), ((s.ringAt r).feeds (if b then .b else .a) = true) ∧ (w = true ∨ (if b then (s.ringAt r).safeAtB else (s.ringAt r).safeAtA) + 300000 < s.now) ∧ (s.mayCause 0x51)) :=
  ⟨⟨armedState2, 0, true, by decide⟩,
    ⟨guardState, 0, true, by decide⟩,
    ⟨guardState, 0, 1000, by decide⟩,
    ⟨armedState2, 0, true, by decide⟩,
    ⟨armedState2, 0, by decide⟩,
    ⟨pressState, 1, 1000, by decide⟩,
    ⟨pduState, ask0, sessionOf .safety, commandPdu 0, by decide⟩,
    ⟨pduState, ask0, sessionOf .safety, List.replicate 16 0, by decide⟩,
    ⟨pduState, by decide⟩,
    ⟨armedState2, ask0, sessionOf .operator, by decide⟩,
    ⟨armedRing, 2, false, false, by decide⟩⟩

/-- States and operands that meet the hypotheses of `Obligations.ComparatorContactsAndMonitors`, clause by clause. -/
theorem witness_ComparatorContactsAndMonitors :
  (∃ (s : State) (k : Fin 64) (c : CmpChannel) (a b : Word × Nat) (ta tb : List (Word × Nat)) (p : Bool), (alook s.quench.cmp k = some c) ∧ (c.queueA = a :: ta) ∧ (c.queueB = b :: tb) ∧ (a.1 ≠ b.1 ∨ p = true) ∧ (s.mayCause 0x30)) ∧
  (∃ (s : State) (k : Fin 64) (c : CmpChannel) (a b : Word × Nat) (ta tb : List (Word × Nat)), (alook s.quench.cmp k = some c) ∧ (c.queueA = a :: ta) ∧ (c.queueB = b :: tb) ∧ (a.1 = b.1) ∧ (c.demand = false)) ∧
  (∃ (s : State) (k : Fin 64) (x : Word × Nat), ((alook s.quench.cmp k).bind CmpChannel.unmatched = some x) ∧ (x.2 + 8 ≤ s.now) ∧ (s.mayCause 0x31)) ∧
  (∃ (s : State) (k : Fin 64) (c : CmpChannel), (alook s.quench.cmp k = some c) ∧ (c.demand = true) ∧ (c.watchAt + s.demandWatch < s.now) ∧ (s.mayCause 0x33)) ∧
  (∃ (s : State) (f : List (Fin 64)), (s.quench.selfTestAt + 1000000000 ≤ s.now) ∧ (s.mayCause 0x52)) ∧
  (∃ (s : State) (n : Fin 4), (s.offTestDue n = true)) ∧
  (∃ (s : State) (n : Fin 4) (t : Nat), ((s.quench.contact n).testAt = some t) ∧ (t + 200000 ≤ s.now) ∧ (s.mayCause 0x50)) ∧
  (∃ (s : State) (c : Nat), (s.quench.clockAt + 40000 ≤ s.now) ∧ (s.mayCause 0x54)) ∧
  (∃ (s : State), (s.mayCause 0x53) ∧ (s.mayCause 0x55)) ∧
  (∃ (s : State) (t : Int), (s.mayCause 0x56)) ∧
  (∃ (s : State) (t : Int), (s.quenchRuns = true) ∧ (t < 1050)) ∧
  (∃ (s : State) (a b : Bool), (s.mayCause 0x54)) :=
  ⟨⟨mirrorState 5 6, 3, { queueA := [(5, 0)], queueB := [(6, 0)] }, (5, 0), (6, 0), [], [], false, by decide⟩,
    ⟨mirrorState 5 5, 3, { queueA := [(5, 0)], queueB := [(5, 0)] }, (5, 0), (5, 0), [], [], by decide⟩,
    ⟨{ armedState2 with quench := { armedState2.quench with cmp := [(3, { queueA := [(5, 0)] })] } }, 3, (5, 0), by decide⟩,
    ⟨{ armedState2 with quench := { armedState2.quench with cmp := [(3, { demand := true })] } }, 3, { demand := true }, by decide⟩,
    ⟨mirrorState 5 6, [3], by decide⟩,
    ⟨armedState2, 1, by decide⟩,
    ⟨{ armedState2 with quench := { armedState2.quench with qo := [(1, { testAt := some 1000 })] } }, 1, 1000, by decide⟩,
    ⟨armedState2, 8999, by decide⟩,
    ⟨armedState2, by decide⟩,
    ⟨armedState2, 1101, by decide⟩,
    ⟨armedState2, 1049, by decide⟩,
    ⟨armedState2, true, false, by decide⟩⟩

/-- States and operands that meet the hypotheses of `Obligations.FusesAndStore`, clause by clause. -/
theorem witness_FusesAndStore :
  (∃ (s : State) (q : Req) (ss : Session) (a : Fin 65536) (d : Fin 4294967296) (e : FuseEnv), (s.hears q ss) ∧ (s.admitted q ss (okey 0x8001 1)) ∧ (fuseAddressable ss.role a d = true) ∧ ((s.senseFuse e).fuseStop a (fuseTarget a d) = none) ∧ ((decide (0x14 ≤ a.val ∧ a.val < 0x16) && s.keepsFwKey (a - 0x14)) = false) ∧ ((decide (0x20 ≤ a.val) && s.fuse.keyRevoked ((a.val - 0x20) / 8)) = false) ∧ (s.fuse.prog = none) ∧ (s.fuse.already a d = false)) ∧
  (∃ (s : State) (p : FuseProgram) (fails : BitVec 80) (n : Fin 9) (e : FuseEnv), (s.fuse.prog = some p) ∧ (p.rest = []) ∧ (p.session ≠ 0)) ∧
  (∃ (s : State) (p : FuseProgram) (fails : BitVec 80) (n : Fin 9) (l : Fin 80) (e : FuseEnv), (s.fuse.prog = some p) ∧ (p.session ≠ 0) ∧ (e.en = false ∨ (s.senseFuse e).fuse.inWindow = false)) ∧
  (∃ (s : State) (a : Fin 1024), (s.gafferRuns = true) ∧ (s.fuse.prog = none)) ∧
  (∃ (s : State) (a : Fin 1024) (x y : BitVec 40), (s.gafferRuns = true) ∧ (s.fuse.prog = none)) ∧
  (∃ (s : State) (l : List (Fin 64)), (s.gafferRuns = true) ∧ (s.fuse.prog = none) ∧ (l.eraseDups = l)) ∧
  (∃ (s : State) (q : Req) (ss : Session) (n : Fin 65536) (e : FuseEnv) (f : FwImage), (s.hears q ss) ∧ (s.admitted q ss (okey 0x8020 1)) ∧ (s.runningFw = some f) ∧ (s.fuse.svn < n.val) ∧ (n.val ≤ f.svn) ∧ (s.fuse.remaining svnFloor ≠ 0) ∧ (s.fuse.prog = none) ∧ ((s.senseFuse e).fuseStop (0x40 + s.genFor svnFloor [n.val]) (fuseTarget (0x40 + s.genFor svnFloor [n.val]) n) = none) ∧ (s.fuse.already (0x40 + s.genFor svnFloor [n.val]) n = false)) ∧
  (∃ (s : State) (q : Req) (ss : Session) (n : Fin 65536) (e : FuseEnv), (s.hears q ss) ∧ (s.admitted q ss (okey 0x8020 1)) ∧ (n.val < s.fuse.svn)) ∧
  (∃ (s : State) (q : Req) (ss : Session) (b : List Nat) (e : FuseEnv) (w0 w1 w2 w3 : Nat), (s.hears q ss) ∧ (s.admitted q ss (okey 0x8021 1)) ∧ (b = bytesLE 4 w0 ++ bytesLE 4 w1 ++ bytesLE 4 w2 ++ bytesLE 4 w3) ∧ (w0 < 2 ^ 32 ∧ w1 < 2 ^ 32 ∧ w2 < 2 ^ 32 ∧ w3 < 2 ^ 32) ∧ (legalString b = true) ∧ (b ≠ s.fuse.machineIdent) ∧ (s.fuse.remaining machineIdentGen ≠ 0) ∧ (s.fuse.prog = none) ∧ ((s.senseFuse e).fuseStop (0x80 + s.genFor machineIdentGen [w0, w1, w2, w3] * 4) (fuseTarget (0x80 + s.genFor machineIdentGen [w0, w1, w2, w3] * 4) w0) = none) ∧ (s.fuse.already (0x80 + s.genFor machineIdentGen [w0, w1, w2, w3] * 4) w0 = false)) ∧
  (∃ (s : State) (l : List (Fin 1048576)), (s.gafferRuns = true) ∧ (s.store.scrubAt + s.num 0x8031 1 24 * 3600000000000 ≤ s.now) ∧ (s.store.upsets = [])) ∧
  (∃ (s : State) (a : Fin 1048576), (s.gafferRuns = true) ∧ (s.store.scrubAt + s.num 0x8031 1 24 * 3600000000000 ≤ s.now) ∧ (s.store.upsets = [])) ∧
  (∃ (s : State), (s.gafferRuns = true) ∧ (s.store.refreshDue = true ∨ s.store.refreshAt + (if s.store.hot then 30 else 90) * 86400000000000 ≤ s.now)) ∧
  (∃ (s : State), (s.store.refreshDue = false) ∧ (s.now < s.store.refreshAt + (if s.store.hot then 30 else 90) * 86400000000000)) ∧
  (∃ (s : State) (key : Fin 16777216), (s.gafferRuns = true) ∧ (s.store.dirty.contains key.val = true) ∧ ((alook s.store.homeAt key).all (fun t => decide (t + 100000000 ≤ s.now)) = true)) ∧
  (∃ (s : State) (key : Fin 16777216), (s.store.dirty.contains key.val = false ∨ (alook s.store.homeAt key).any (fun t => decide (s.now < t + 100000000)) = true)) :=
  ⟨⟨serviceState, ask0, sessionOf .maintenance, 0x24, 7, goodEnv, by decide⟩,
    ⟨programmingState, ⟨0x24, 7, [], 1, 9⟩, 1, 3, goodEnv, by decide⟩,
    ⟨programmingState, ⟨0x24, 7, [], 1, 9⟩, 0, 1, 12, { goodEnv with rail := 1700 }, by decide⟩,
    ⟨fusedState, 0x24, by decide⟩,
    ⟨fusedState, 0x24, 1, 3, by decide⟩,
    ⟨fusedState, [5], by decide⟩,
    ⟨svnState, ask0, sessionOf .maintenance, 3, goodEnv, { svn := 9 }, by decide⟩,
    ⟨{ svnState with fuse := { svnState.fuse with copyA := [(0x40, fuseTarget 0x40 5)] } }, ask0, sessionOf .maintenance, 3, goodEnv, by decide⟩,
    ⟨serviceState, ask0, sessionOf .maintenance, bytesLE 4 0x41414141 ++ bytesLE 4 0x42414141 ++ bytesLE 4 0x43414141 ++ bytesLE 4 0, goodEnv, 0x41414141, 0x42414141, 0x43414141, 0, by decide⟩,
    ⟨{ serviceState with now := 100000000000000 }, [3, 4], by decide⟩,
    ⟨{ serviceState with now := 100000000000000 }, 3, by decide⟩,
    ⟨{ serviceState with now := 30 * 86400000000000, store := { hot := true } }, by decide⟩,
    ⟨serviceState, by decide⟩,
    ⟨dirtyState, 0x850001, by decide⟩,
    ⟨dirtyState, 0x850002, by decide⟩⟩

/-- States and operands that meet the hypotheses of `Obligations.EnergySourcesBoundariesAndTariffs`, clause by clause. -/
theorem witness_EnergySourcesBoundariesAndTariffs :
  (∃ (s : State) (m : Fin 2) (active inactive : Nat), (s.counting m = true) ∧ ((tget {} s.io.loops m).state ≠ .short) ∧ (s.num (0x6010 + m) 3 30 * 1000000 ≤ active) ∧ (s.num (0x6010 + m) 3 30 * 1000000 ≤ inactive)) ∧
  (∃ (s : State) (m : Fin 2) (active inactive : Nat), (s.counting m = true) ∧ ((tget {} s.io.loops m).state ≠ .short) ∧ (active < s.num (0x6010 + m) 3 30 * 1000000 ∨ inactive < s.num (0x6010 + m) 3 30 * 1000000)) ∧
  (∃ (s : State) (m : Fin 2), (s.counting m = true) ∧ ((s.source m).silent = false) ∧ ((s.source m).lastPulse + s.num (0x6010 + m) 4 15 * 60000000000 ≤ s.now)) ∧
  (∃ (s : State) (m : Fin 2) (i : Fin 65536), ((tget {} s.io.loops m).state ≠ .unsupplied) ∧ ((tget {} s.io.loops m).state ≠ .short)) ∧
  (∃ (s : State) (va ia vb ib : Fin 65536), (s.counting 3 = true) ∧ (s.energy.provisional = false)) ∧
  (∃ (s : State) (r : IntervalRec), (s.boundaryDue = true) ∧ (s.gafferRuns = true) ∧ (s.closeAt s.energy.stop = false) ∧ (s.tariffAt s.energy.stop = none) ∧ (r = { start := s.energy.start, stop := s.energy.stop, tariff := s.energy.tariff, flags := s.energy.flags, minutes := s.energy.minutes, energy := s.energy.energy, demand := tmap 0 (fun _ e => e * 3 / (50 * s.energy.minutes)) s.energy.energy })) ∧
  (∃ (s : State) (t c : Nat), (s.boundaryDue = true) ∧ (s.closeAt s.energy.stop = true) ∧ (s.tariffAt s.energy.stop = some (t, c))) ∧
  (∃ (s : State), (s.boundaryDue = false)) ∧
  (∃ (s : State) (q : Req) (ss : Session) (t : Fin 18446744073709551616) (a k : Fin 256), (s.hears q ss) ∧ (s.admitted q ss (okey 0x6031 1)) ∧ (s.op.state ≠ .sleep) ∧ (t.val = 0 ∨ s.time.t64 ≤ t.val) ∧ (k.val < s.num 0x6000 3 1)) ∧
  (∃ (s : State) (q : Req) (ss : Session) (t : Fin 18446744073709551616) (a k : Fin 256), (s.hears q ss) ∧ (s.admitted q ss (okey 0x6031 1)) ∧ ((t.val ≠ 0 ∧ t.val < s.time.t64) ∨ s.num 0x6000 3 1 ≤ k.val)) ∧
  (∃ (s : State) (q : Req) (ss : Session), (s.hears q ss) ∧ (s.admitted q ss (okey 0x6031 3)) ∧ (s.op.state ≠ .sleep)) ∧
  (∃ (s : State), (s.energy.accepting = true) ∧ (s.gafferRuns = true) ∧ (s.energy.countersAt + s.num 0x6000 8 60 * 1000000000 ≤ s.now)) ∧
  (∃ (s : State), (s.energy.accepting = true) ∧ (s.gafferRuns = false) ∧ (s.energy.countersAt + s.num 0x6000 8 60 * 1000000000 ≤ s.now) ∧ (s.energy.backlog = [])) ∧
  (∃ (s : State), (s.energy.accepting = true) ∧ (s.energy.forecastAt + 1000000000 ≤ s.now)) ∧
  (∃ (s : State), (s.energy.provisional = true) ∧ (s.energy.longRaised = false) ∧ (s.energy.restoreAt + s.num 0x6000 9 24 * 3600000000000 ≤ s.now)) :=
  ⟨⟨meterState, 0, 30000000, 50000000, by decide⟩,
    ⟨meterState, 0, 29999999, 50000000, by decide⟩,
    ⟨meterState, 0, by decide⟩,
    ⟨{ meterState with io := { loops := [(0, { state := .on })] } }, 0, 300, by decide⟩,
    ⟨meterState, 5000, 300, 0, 0, by decide⟩,
    ⟨boundaryState, ⟨900000000000, 1800000000000, 0, 0, 0, 15, 1, [(0, 7000)], [(0, 28)]⟩, by decide⟩,
    ⟨{ boundaryState with energy := { boundaryState.energy with closeDue := true, push := some ⟨0, 3⟩ } }, 3, 1, by decide⟩,
    ⟨meterState, by decide⟩,
    ⟨{ serviceState with sess := { opened .maintenance with inForce := [(okey 0x6000 3, .num 4)] } }, ask0, sessionOf .maintenance, 0, 1, 3, by decide⟩,
    ⟨serviceState, ask0, sessionOf .maintenance, 0, 1, 3, by decide⟩,
    ⟨serviceState, ask0, sessionOf .maintenance, by decide⟩,
    ⟨meterState, by decide⟩,
    ⟨{ meterState with op := { meterState.op with gaffer := .selected .a } }, by decide⟩,
    ⟨meterState, by decide⟩,
    ⟨{ meterState with energy := { meterState.energy with provisional := true } }, by decide⟩⟩

/-- States and operands that meet the hypotheses of `Obligations.FeedsHoldsAndShedding`, clause by clause. -/
theorem witness_FeedsHoldsAndShedding :
  (∃ (s : State) (f : Fin 2) (n : Fin 6), ((s.feed f).state ≠ .powered)) ∧
  (∃ (s : State) (f : Fin 2) (n : Fin 6), ((s.feed f).state = .powered)) ∧
  (∃ (s : State) (f : Fin 2), ((s.feed f).state = .powered)) ∧
  (∃ (s : State) (f : Fin 2), ((s.feed f).state ≠ .absent)) ∧
  (∃ (s : State), (s.op.state ≠ .off)) ∧
  (∃ (s : State), (s.governs = true) ∧ (s.supplyBudget * 10 < s.estimate)) ∧
  (∃ (s : State), (s.estimate ≤ s.supplyBudget * 10)) ∧
  (∃ (s : State), (s.op.state ≠ .off) ∧ (s.op.state ≠ .reset) ∧ (s.power.shed = false) ∧ ((s.feed 0).state ≠ .powered ∧ (s.feed 1).state ≠ .powered) ∧ (s.mayCause 0x58)) ∧
  (∃ (s : State), (s.op.state = .off ∨ s.power.shed = true ∨ (s.feed 0).state = .powered ∨ (s.feed 1).state = .powered)) ∧
  (∃ (s : State), (3 ≤ s.power.brownoutCount) ∧ (([0, 1] : List Nat).any (fun f => (s.feed f).poweredSince.any (fun t => decide (max t s.op.bootAt + s.num 0x1023 5 30 * 1000000000 ≤ s.now))) = true)) ∧
  (∃ (s : State) (t : Nat), (s.op.brownoutOpen = true) ∧ (s.op.serviceAt = some t) ∧ (t + 60000000000 ≤ s.now) ∧ (s.op.state = .service ∨ s.op.state = .run)) :=
  ⟨⟨{ serviceState with power := {} }, 1, 3, by decide⟩,
    ⟨serviceState, 0, 1, by decide⟩,
    ⟨serviceState, 0, by decide⟩,
    ⟨serviceState, 1, by decide⟩,
    ⟨serviceState, by decide⟩,
    ⟨loadedState, by decide⟩,
    ⟨serviceState, by decide⟩,
    ⟨{ serviceState with power := {}, time := { t64 := 77 }, quench := { active := [] } }, by decide⟩,
    ⟨serviceState, by decide⟩,
    ⟨{ serviceState with now := 40000000000, power := { brownoutCount := 3, feeds := [(0, { state := .powered, poweredSince := some 5 })] } }, by decide⟩,
    ⟨{ serviceState with now := 70000000000, op := { serviceState.op with brownoutOpen := true, serviceAt := some 5 } }, 5, by decide⟩⟩

/-- States and operands that meet the hypotheses of `Obligations.TemperatureLifeAndKeeper`, clause by clause. -/
theorem witness_TemperatureLifeAndKeeper :
  (∃ (s : State) (l : List Int) (m : Int), (l.max? = some m) ∧ (1000 < m) ∧ (s.governs = true) ∧ (s.thermalRested 1000000 = true)) ∧
  (∃ (s : State) (l : List Int) (m : Int), (l.max? = some m) ∧ (m ≤ 970) ∧ (s.governs = true) ∧ (0 < s.power.thermalHeld) ∧ (s.thermalRested 10000000 = true)) ∧
  (∃ (s : State) (l : List Int) (m : Int), (l.max? = some m) ∧ (1150 ≤ m) ∧ (s.op.state ≠ .off) ∧ (s.op.state ≠ .reset) ∧ (s.op.state ≠ .halt)) ∧
  (∃ (s : State) (l : List Int) (m : Int), (l.max? = some m) ∧ (m < 1150)) ∧
  (∃ (s : State) (l : List Int) (m : Int), (l.max? = some m) ∧ (s.op.state ≠ .off) ∧ (s.power.life + lifeFactor m ≤ 263000 * 3600 * 2 ^ 20)) ∧
  (∃ (s : State) (l : List Int) (m : Int), (l.max? = some m) ∧ (s.op.state ≠ .off) ∧ (263000 * 3600 * 2 ^ 20 < s.power.life + lifeFactor m) ∧ (s.power.lifeRaised = false)) ∧
  (∃ (s : State) (v : Fin 1800), (s.op.state = .off)) ∧
  (∃ (s : State) (v : Fin 1800), (s.op.state ≠ .off)) :=
  ⟨⟨loadedState, [250, 1010], 1010, by decide⟩,
    ⟨{ loadedState with power := { thermalHeld := 1, held := [0] } }, [250, 970], 970, by decide⟩,
    ⟨serviceState, [1150], 1150, by decide⟩,
    ⟨serviceState, [1149], 1149, by decide⟩,
    ⟨serviceState, [300, 950], 950, by decide⟩,
    ⟨{ serviceState with power := { life := 263000 * 3600 * 2 ^ 20 } }, [300], 300, by decide⟩,
    ⟨offState, 1700, by decide⟩,
    ⟨serviceState, 1700, by decide⟩⟩

/-- States and operands that meet the hypotheses of `Obligations.TwoWireCommandsPollsAndRecovery`, clause by clause. -/
theorem witness_TwoWireCommandsPollsAndRecovery :
  (∃ (s : State) (q : Req) (ss : Session) (k : Fin 2) (b : List Nat), (s.hears q ss) ∧ (s.admitted q ss (okey (0x9000 + k.val) 6)) ∧ (s.op.state ≠ .sleep) ∧ (b.length = 40) ∧ ((s.bus k).queue.length < 16) ∧ ((s.bus k).state ≠ .fault) ∧ (({ issuer := .host, words := hostTransferWords b } : TwCommand).legal = true)) ∧
  (∃ (s : State) (q : Req) (ss : Session) (k : Fin 2) (b : List Nat), (s.hears q ss) ∧ (s.admitted q ss (okey (0x9000 + k.val) 6)) ∧ (b.length = 40) ∧ (16 ≤ (s.bus k).queue.length)) ∧
  (∃ (s : State) (k : Fin 2) (c : TwCommand) (rest : List TwCommand) (ack : Bool) (n : Fin 34) (bad : Bool), (s.ioRuns = true) ∧ ((s.bus k).state ≠ .fault) ∧ ((s.bus k).roundDue = false ∧ (s.bus k).recoverDue = false ∧ (s.bus k).stretchAt = none) ∧ ((s.bus k).queue = c :: rest) ∧ (twField c.head 0 2 = 1) ∧ (c.issuer = .host)) ∧
  (∃ (s : State) (k : Fin 2) (c : TwCommand) (rest : List TwCommand) (ack : Bool) (d : List (Fin 256)) (bad : Bool), (s.ioRuns = true) ∧ ((s.bus k).state ≠ .fault) ∧ ((s.bus k).roundDue = false ∧ (s.bus k).recoverDue = false ∧ (s.bus k).stretchAt = none) ∧ ((s.bus k).queue = c :: rest) ∧ (twField c.head 0 2 = 2) ∧ (c.issuer = .host)) ∧
  (∃ (s : State) (k : Fin 2) (c : TwCommand) (rest : List TwCommand) (nack : Fin 4) (d : List (Fin 256)) (bad : Bool), (s.ioRuns = true) ∧ ((s.bus k).state ≠ .fault) ∧ ((s.bus k).roundDue = false ∧ (s.bus k).recoverDue = false ∧ (s.bus k).stretchAt = none) ∧ ((s.bus k).queue = c :: rest) ∧ (twField c.head 0 2 = 3) ∧ (c.issuer = .host)) ∧
  (∃ (s : State) (k : Fin 2) (c : TwCommand) (rest : List TwCommand) (d : List (Fin 256)) (n : Nat), (s.ioRuns = true) ∧ ((s.bus k).state ≠ .fault) ∧ ((s.bus k).roundDue = false ∧ (s.bus k).recoverDue = false ∧ (s.bus k).stretchAt = none) ∧ ((s.bus k).queue = c :: rest) ∧ (twField c.head 0 2 = 2) ∧ (c.issuer = .task) ∧ (n = twField c.head 24 8) ∧ ((s.task n).state ≠ .absent ∧ (s.task n).state ≠ .draining ∧ (s.task n).kind ≠ .queue) ∧ ((s.task n).queue.length + 6 ≤ (s.task n).queueSize)) ∧
  (∃ (s : State) (k : Fin 2) (low : Nat), (s.ioRuns = true) ∧ ((s.bus k).state ≠ .fault)) ∧
  (∃ (s : State) (k : Fin 2), (s.ioRuns = true) ∧ ((s.bus k).state ≠ .fault) ∧ (s.num (0x9000 + k.val) 4 0 ≠ 0) ∧ ((s.bus k).pollAt + s.num (0x9000 + k.val) 4 0 * 1000000 ≤ s.now)) ∧
  (∃ (s : State) (k : Fin 2) (e : Nat) (v : Fin 4294967296) (n : Nat) (again : Bool), (s.ioRuns = true) ∧ ((s.bus k).state ≠ .fault) ∧ ((s.bus k).roundDue = true ∧ (s.bus k).recoverDue = false ∧ (s.bus k).stretchAt = none) ∧ (s.reqEntries k = [e]) ∧ (v.val % 2 ^ (8 * s.num (0x9010 + 8 * k.val + e) 4 1) &&& s.num (0x9010 + 8 * k.val + e) 5 0xFFFFFFFF ≠ 0) ∧ (n = s.num (0x9010 + 8 * k.val + e) 6 0xFF) ∧ (n ≠ 0xFF) ∧ (s.tokenRoom n)) ∧
  (∃ (s : State) (k : Fin 2), (s.ioRuns = true) ∧ ((s.bus k).state ≠ .fault) ∧ ((s.bus k).queue = [])) ∧
  (∃ (s : State) (k : Fin 2) (c : TwCommand) (rest : List TwCommand), (s.ioRuns = true) ∧ ((s.bus k).state ≠ .fault) ∧ ((s.bus k).queue = c :: rest) ∧ (c.issuer = .host)) ∧
  (∃ (s : State) (k : Fin 2) (t : Nat), ((s.bus k).stretchAt = some t) ∧ (t + 1000000 ≤ s.now) ∧ ((s.bus k).state ≠ .fault)) ∧
  (∃ (s : State) (k : Fin 2), ((s.bus k).state = .fault) ∧ ((s.bus k).recoverDue = false)) ∧
  (∃ (s : State) (k : Fin 2) (c : TwCommand) (rest : List TwCommand), (s.ioRuns = true) ∧ ((s.bus k).state ≠ .fault) ∧ ((s.bus k).queue = c :: rest) ∧ (c.issuer = .host)) ∧
  (∃ (s : State) (k : Fin 2), ((s.bus k).recoverDue = true) ∧ ((s.bus k).state ≠ .fault ∨ (s.bus k).recoverAt + 100000000 ≤ s.now)) :=
  ⟨⟨busState [], ask0, sessionOf .maintenance, 1, bytesBE 8 (readWord 2) ++ List.replicate 32 0, by decide⟩,
    ⟨busState (List.replicate 16 readOne), ask0, sessionOf .maintenance, 1, List.replicate 40 0, by decide⟩,
    ⟨busState [writeOne], 1, writeOne, [], true, 3, false, by decide⟩,
    ⟨busState [readOne], 1, readOne, [], true, [5, 6], false, by decide⟩,
    ⟨busState [bothOne], 1, bothOne, [], 2, [5, 6], false, by decide⟩,
    ⟨{ busState [{ readOne with issuer := .task }] with array := { tasks := [(9, { zone := 1, state := .running, kind := .host, queueSize := 16 })] } }, 1, { readOne with issuer := .task }, [], [5, 6], 9, by decide⟩,
    ⟨busState [], 1, 1000, by decide⟩,
    ⟨busState [], 1, by decide⟩,
    ⟨pollState, 1, 3, 5, 9, false, by decide⟩,
    ⟨busState [], 1, by decide⟩,
    ⟨busState [readOne], 1, readOne, [], by decide⟩,
    ⟨{ busState [readOne] with io := { buses := [(1, { queue := [readOne], stretchAt := some 5 })] } }, 1, 5, by decide⟩,
    ⟨{ busState [] with io := { buses := [(1, { state := .fault })] } }, 1, by decide⟩,
    ⟨busState [readOne], 1, readOne, [], by decide⟩,
    ⟨{ busState [] with io := { buses := [(1, { recoverDue := true })] } }, 1, by decide⟩⟩

/-- States and operands that meet the hypotheses of `Obligations.TwtWindowAndDirectIo`, clause by clause. -/
theorem witness_TwtWindowAndDirectIo :
  (∃ (s : State) (p : Fin 256) (v : Fin 256), (s.twtOn = true) ∧ (s.num 0x9040 5 0xFF = 0xFF)) ∧
  (∃ (s : State) (p : Fin 256) (v : Fin 256) (n : Nat), (s.twtOn = true) ∧ (n = s.num 0x9040 5 0xFF) ∧ (n ≠ 0xFF) ∧ (128 ≤ p.val) ∧ (s.tokenRoom n)) ∧
  (∃ (s : State) (n : Fin 4096), (s.twtOn = true)) ∧
  (∃ (s : State) (d : List (Fin 256)) (n : Fin 4096), (s.twtOn = false)) ∧
  (∃ (s : State) (q : Req) (ss : Session), (s.hears q ss) ∧ (s.admitted q ss (okey 0x9040 6)) ∧ (s.twtOn = true)) ∧
  (∃ (s : State), (s.io.twt.request = true) ∧ (s.twtOn = true) ∧ (s.io.twt.pulseAt.all (fun t => decide (t + 10000000 ≤ s.now)) = true)) ∧
  (∃ (s : State), (s.io.twt.request = false ∨ s.io.twt.pulseAt.any (fun t => decide (s.now < t + 10000000)) = true)) ∧
  (∃ (s : State) (y : Fin 24) (l : Bool) (b : Fin 32), (s.dioIn y = true) ∧ (s.filterNs y = 0) ∧ ((s.pin y).raw ≠ l) ∧ ((s.pin y).waiting = none) ∧ (s.dioMode y = 1)) ∧
  (∃ (s : State) (y : Fin 24) (l : Bool) (b : Fin 32), (s.dioIn y = true) ∧ (s.filterNs y ≠ 0) ∧ ((s.pin y).raw ≠ l) ∧ ((s.pin y).waiting = none) ∧ ((s.pin y).level ≠ l)) ∧
  (∃ (s : State) (y : Fin 24) (l : Bool) (b : Fin 32) (a : T80), (s.dioIn y = true) ∧ (s.filterNs y ≠ 0) ∧ ((s.pin y).raw ≠ l) ∧ ((s.pin y).waiting = some a) ∧ (s.t80 + b.val * 8192 < a + s.filterNs y * 65536)) ∧
  (∃ (s : State) (y : Fin 24) (a : T80), (s.dioIn y = true) ∧ ((s.pin y).waiting = some a) ∧ (a + s.filterNs y * 65536 ≤ s.t80)) ∧
  (∃ (s : State) (q : Req) (ss : Session) (y : Fin 24) (v : Fin 2), (s.hears q ss) ∧ (s.admitted q ss (okey (0x9100 + y.val) 7)) ∧ (s.dioOut y = true) ∧ ((s.pin y).placedAt ≠ some s.slotNow)) ∧
  (∃ (s : State) (q : Req) (ss : Session) (y : Fin 24) (t : Fin 1208925819614629174706176) (v : Fin 2), (s.hears q ss) ∧ (s.admitted q ss (okey (0x9100 + y.val) 8)) ∧ (s.dioOut y = true) ∧ (s.t80 < t.val) ∧ (s.slotNow + 800 ≤ gridSlot t) ∧ ((s.pin y).queue.length < 16)) ∧
  (∃ (s : State) (q : Req) (ss : Session) (y : Fin 24) (t : Fin 1208925819614629174706176) (v : Fin 2), (s.hears q ss) ∧ (s.admitted q ss (okey (0x9100 + y.val) 8)) ∧ (s.dioOut y = true) ∧ (s.t80 < t.val) ∧ (gridSlot t < s.slotNow + 800)) ∧
  (∃ (s : State) (y : Fin 24) (v : Word) (rest : List Word), ((s.pin y).outTokens = v :: rest) ∧ (s.dioOut y = true) ∧ (s.dioMode y = 4) ∧ (v.getLsbD 30 = false) ∧ (s.lanesEmpty = true)) ∧
  (∃ (s : State) (y : Fin 24) (v : Word) (rest : List Word), ((s.pin y).outTokens = v :: rest) ∧ (s.dioOut y = true) ∧ (s.dioMode y = 4) ∧ (v.getLsbD 30 = true) ∧ (s.lanesEmpty = true) ∧ (s.slotNow + 800 ≤ nearestSlot s.slotNow (v.toNat % 2 ^ 30)) ∧ ((s.pin y).queue.length < 16)) ∧
  (∃ (s : State) (y : Fin 24) (n : Nat) (l : Bool) (rest : List (Nat × Bool)), ((s.pin y).queue = (n, l) :: rest) ∧ (s.dioOut y = true) ∧ (n < s.slotNow + 32)) ∧
  (∃ (s : State) (y : Fin 24) (n : Nat) (l : Bool) (rest : List (Nat × Bool)), ((s.pin y).queue = (n, l) :: rest) ∧ (s.slotNow + 32 ≤ n)) :=
  ⟨⟨twtState, 130, 7, by decide⟩,
    ⟨{ twtState with sess := { opened .maintenance with inForce := [(okey 0x9040 1, .num 1), (okey 0x9040 5, .num 9)] } }, 130, 7, 9, by decide⟩,
    ⟨twtState, 3, by decide⟩,
    ⟨serviceState, [1], 3, by decide⟩,
    ⟨twtState, ask0, sessionOf .maintenance, by decide⟩,
    ⟨{ twtState with io := { twt := { request := true, pulseAt := some 5 } } }, by decide⟩,
    ⟨twtState, by decide⟩,
    ⟨dioState 1 0 {}, 4, true, 3, by decide⟩,
    ⟨dioState 1 500 {}, 4, true, 3, by decide⟩,
    ⟨dioState 1 500 { raw := true, waiting := some 327680010000 }, 4, false, 3, 327680010000, by decide⟩,
    ⟨dioState 1 500 { raw := true, waiting := some 5 }, 4, 5, by decide⟩,
    ⟨dioState 2 0 {}, ask0, sessionOf .maintenance, 4, 1, by decide⟩,
    ⟨dioState 2 0 {}, ask0, sessionOf .maintenance, 4, 655360000000, 1, by decide⟩,
    ⟨dioState 2 0 {}, ask0, sessionOf .maintenance, 4, 327680100000, 1, by decide⟩,
    ⟨dioState 4 0 { outTokens := [0x80000000] }, 4, 0x80000000, [], by decide⟩,
    ⟨dioState 4 0 { outTokens := [0xC3000000] }, 4, 0xC3000000, [], by decide⟩,
    ⟨dioState 2 0 { queue := [(40000010, true)] }, 4, 40000010, true, [], by decide⟩,
    ⟨dioState 2 0 { queue := [(50000010, true)] }, 4, 50000010, true, [], by decide⟩⟩

/-- States and operands that meet the hypotheses of `Obligations.HandshakesSessionsAndLapses`, clause by clause. -/
theorem witness_HandshakesSessionsAndLapses :
  (∃ (s : State) (conn : Nat) (p : List Nat) (en : Bool), (s.servesHosts = true) ∧ (s.shake? conn = none) ∧ (s.sessionOn conn = none) ∧ ((s.sess.handshakes.filter (fun h => h.credential.isNone)).length < 4)) ∧
  (∃ (s : State) (conn : Nat) (p : List Nat) (c en : Bool), (s.servesHosts = true) ∧ (s.shake? conn = none) ∧ (s.sessionOn conn = none) ∧ (4 ≤ (s.sess.handshakes.filter (fun h => h.credential.isNone)).length)) ∧
  (∃ (s : State) (conn : Nat) (key : List Nat) (h : Handshake) (c : Nat), (s.shake? conn = some h) ∧ (h.credential = none) ∧ (s.credOf key = some c)) ∧
  (∃ (s : State) (conn : Nat) (h : Handshake), (s.shake? conn = some h) ∧ (h.credential = none) ∧ (h.since + 10000000000 ≤ s.now)) ∧
  (∃ (s : State) (conn : Nat) (role : Fin 256) (r : Role) (k : Fin 65536) (name : List Nat) (h : Handshake) (c n : Nat), (s.sessionOn conn = none) ∧ (s.shake? conn = some h) ∧ (h.credential = some c) ∧ (roleOf role = some r) ∧ (s.openCheck c (some r) = .ok) ∧ (s.freeSession = some n)) ∧
  (∃ (s : State) (conn : Nat) (role : Fin 256) (k : Fin 65536) (name : List Nat) (h : Handshake) (c : Nat), (s.sessionOn conn = none) ∧ (s.shake? conn = some h) ∧ (h.credential = some c) ∧ (s.openCheck c (roleOf role) ≠ .ok)) ∧
  (∃ (s : State) (q : Req) (ss : Session), (s.hears q ss) ∧ (q.session ≠ 0)) ∧
  (∃ (s : State) (q : Req) (ss : Session), (s.hears q ss)) ∧
  (∃ (s : State) (conn : Nat) (n : Nat), (s.sessionOn conn = some n) ∧ (n ≠ 0)) ∧
  (∃ (s : State) (n : Fin 9) (x : Session), (n.val ≠ 0) ∧ (s.session? n = some x) ∧ (x.lastHeard + x.keepAlive * 1000000000 ≤ s.now)) :=
  ⟨⟨serviceState, 7, [1, 2], false, by decide⟩,
    ⟨shakingState 4 none, 7, [], true, false, by decide⟩,
    ⟨credentialState none, 0, List.replicate 32 0, ⟨0, 5, false, [], none⟩, 3, by decide⟩,
    ⟨{ shakingState 1 none with now := 10000000005 }, 0, ⟨0, 5, false, [], none⟩, by decide⟩,
    ⟨shakingState 1 (some 0xFF), 0, 4, .maintenance, 900, [77], ⟨0, 5, false, [], some 0xFF⟩, 0xFF, 1, by decide⟩,
    ⟨shakingState 1 (some 0xFF), 0, 0, 900, [77], ⟨0, 5, false, [], some 0xFF⟩, 0xFF, by decide⟩,
    ⟨serviceState, ask, sessionOf .maintenance, by decide⟩,
    ⟨serviceState, ask, sessionOf .maintenance, by decide⟩,
    ⟨serviceState, 1, 1, by decide⟩,
    ⟨{ serviceState with now := 10000000000 }, 1, sessionOf .maintenance, by decide⟩⟩

/-- States and operands that meet the hypotheses of `Obligations.ReadsWritesAndSegments`, clause by clause. -/
theorem witness_ReadsWritesAndSegments :
  (∃ (s : State) (q : Req) (ss : Session) (key : Fin 16777216), (s.hears q ss) ∧ (s.readCheck key = .ok) ∧ ((typeAt key).segmented = false)) ∧
  (∃ (s : State) (q : Req) (ss : Session) (key : Fin 16777216), (s.hears q ss) ∧ (s.readCheck key ≠ .ok)) ∧
  (∃ (s : State) (q : Req) (ss : Session) (key : Fin 16777216) (b : List Nat) (r : ObjRow), (s.hears q ss) ∧ (objRow key = some r) ∧ (r.acc ≠ .ro) ∧ (r.commit ≠ .now) ∧ (key.val ≠ okey 0x1010 3 ∧ key.val ≠ okey 0x8600 8) ∧ (s.admitted q ss key) ∧ (b.all (· < 256) = true) ∧ (bytesCheck key r b = (.ok, 0)) ∧ (s.pendCheck q.session ss key (r.ty.decode b) = (.ok, 0)) ∧ (s.op.state ≠ .sleep)) ∧
  (∃ (s : State) (q : Req) (ss : Session) (key : Fin 16777216) (len : Fin 65536), (s.hears q ss) ∧ (1 ≤ len.val ∧ len.val ≤ 1016) ∧ (s.readCheck key = .ok)) ∧
  (∃ (s : State) (q : Req) (ss : Session) (key : Fin 16777216) (data : List Nat), (s.hears q ss) ∧ (s.admitted q ss key) ∧ (key.val ≠ slotKey 0 5 ∧ key.val ≠ slotKey 1 5 ∧ key.val ≠ okey 0x8600 7) ∧ (1 ≤ data.length ∧ data.length ≤ 1020) ∧ (data.all (· < 256) = true)) ∧
  (∃ (s : State) (n : Fin 9) (key : Fin 16777216) (x : Session), (s.session? n = some x)) :=
  ⟨⟨serviceState, ask, sessionOf .maintenance, 0x101001, by decide⟩,
    ⟨serviceState, ask, sessionOf .maintenance, 0x841004, by decide⟩,
    ⟨serviceState, ask, sessionOf .maintenance, 0x850001, [0, 20], oRW 0x8500 0x8500 1 1 .u16 rM .apply 10 (some (1, 1000)), by decide⟩,
    ⟨serviceState, ask, sessionOf .maintenance, 0x850101, 100, by decide⟩,
    ⟨serviceState, ask0, sessionOf .maintenance, 0x860006, [1, 2, 3], by decide⟩,
    ⟨serviceState, 1, 0x850101, sessionOf .maintenance, by decide⟩⟩

/-- States and operands that meet the hypotheses of `Obligations.LeasesAcknowledgementsAndImages`, clause by clause. -/
theorem witness_LeasesAcknowledgementsAndImages :
  (∃ (s : State) (q : Req) (ss : Session) (l : Fin 256), (s.hears q ss) ∧ (s.admitted q ss (okey (0x1400 + l) 5)) ∧ (mayTake ss.role l = true) ∧ (l.val ≠ 0x40 ∧ l.val ≠ 0x41) ∧ ((s.lease l).holder = 0) ∧ (s.leaseBusy l = false)) ∧
  (∃ (s : State) (q : Req) (ss : Session) (l : Fin 256), (s.hears q ss) ∧ (s.admitted q ss (okey (0x1400 + l) 5)) ∧ ((s.lease l).holder = q.session) ∧ (s.leaseBusy l = false) ∧ (q.session ≠ 0)) ∧
  (∃ (s : State) (q : Req) (ss : Session) (l : Fin 256), (s.hears q ss) ∧ (s.admitted q ss (okey (0x1400 + l) 5)) ∧ (ss.role = .maintenance) ∧ (s.leaseBusy l = false)) ∧
  (∃ (s : State), (s.op.fuseEn = false) ∧ (s.op.wakeLow = false) ∧ (s.gafferRuns = true)) ∧
  (∃ (s : State) (b : Bool) (t l : Nat), ((if b then s.sess.ackFuse else s.sess.ackWake) = some t) ∧ (t + 50000000 ≤ s.now) ∧ (leaseNumbers.filter (fun k => s.ackServes k t) = [l])) ∧
  (∃ (s : State) (l : Fin 256), ((s.lease l).fence = .waitAck) ∧ ((s.lease l).fenceAt + s.physWindow < s.now) ∧ (s.sess.ackFuse = none) ∧ (s.sess.ackWake = none)) ∧
  (∃ (s : State) (q : Req) (ss : Session) (i : Fin 16), (s.hears q ss) ∧ (s.admitted q ss (okey (0xA000 + i) 2)) ∧ ((s.imageRec i).owner = 0) ∧ (s.imagesOf q.session < 4) ∧ (q.session ≠ 0)) ∧
  (∃ (s : State) (q : Req) (ss : Session) (i : Fin 16), (s.hears q ss) ∧ (s.admitted q ss (okey (0xA000 + i) 7)) ∧ ((s.imageRec i).owner = q.session)) ∧
  (∃ (s : State) (i : Fin 16) (gen seq c : Nat) (b : List Nat), ((s.imageRec i).enable = true) ∧ ((s.imageRec i).toHost = false) ∧ (gen = (s.imageRec i).gen ∨ gen = (s.imageRec i).gen + 1) ∧ (b.length = (s.imageRec i).payloadLen) ∧ ((s.imageRec i).fresh seq = true) ∧ ((s.imageRec i).lastCycle.all (fun x => decide (x < c)) = true) ∧ (s.time.t64 + 10000 ≤ c) ∧ ((s.imageRec i).boundaryAt c = c)) ∧
  (∃ (s : State) (i : Fin 16) (n gen seq c : Nat) (b : List Nat), ((s.imageRec i).enable = true) ∧ ((s.imageRec i).toHost = false)) ∧
  (∃ (s : State) (i : Fin 16), ((s.imageRec i).enable = true) ∧ ((s.imageRec i).toHost = false) ∧ ((s.imageRec i).boundary ≠ some ((s.imageRec i).boundaryAt s.time.t64)) ∧ ((s.imageRec i).waiting.all (fun w => decide ((s.imageRec i).boundaryAt s.time.t64 < w.1)) = true)) ∧
  (∃ (s : State) (i : Fin 16) (c : Nat) (b : List Nat), ((s.imageRec i).enable = true) ∧ ((s.imageRec i).toHost = false) ∧ ((s.imageRec i).boundary ≠ some ((s.imageRec i).boundaryAt s.time.t64)) ∧ ((s.imageRec i).waiting = [((s.imageRec i).boundaryAt s.time.t64, c, b)]) ∧ ((s.imageRec i).lastCycle.all (fun x => decide (x < c)) = true) ∧ ((s.imageRec i).entries = []) ∧ ((s.imageRec i).images < 2 ^ 32 - 1)) ∧
  (∃ (s : State) (i : Fin 16), ((s.imageRec i).enable = true) ∧ ((s.imageRec i).toHost = true) ∧ ((s.imageRec i).boundary ≠ some ((s.imageRec i).boundaryAt s.time.t64)) ∧ (s.time.t64 ≤ (s.imageRec i).boundaryAt s.time.t64 + 20000)) ∧
  (∃ (s : State) (i : Fin 16), ((s.imageRec i).enable = true) ∧ ((s.imageRec i).toHost = false) ∧ ((s.imageRec i).tripped = false) ∧ ((s.imageRec i).watchdog ≤ (s.imageRec i).missed) ∧ ((s.imageRec i).failZero = false)) :=
  ⟨⟨{ serviceState with sess := { serviceState.sess with leases := [] } }, ask0, sessionOf .maintenance, 0, by decide⟩,
    ⟨serviceState, ask0, sessionOf .maintenance, 0, by decide⟩,
    ⟨heldElsewhere, ask0, sessionOf .maintenance, 0, by decide⟩,
    ⟨serviceState, by decide⟩,
    ⟨fencedState, true, 1000, 3, by decide⟩,
    ⟨{ fencedState with now := 40000000000, sess := { fencedState.sess with ackFuse := none } }, 3, by decide⟩,
    ⟨serviceState, ask0, sessionOf .maintenance, 3, by decide⟩,
    ⟨imageState {}, ask0, sessionOf .maintenance, 3, by decide⟩,
    ⟨imageState { enable := true, toHost := false }, 3, 0, 5, 6000000, [], by decide⟩,
    ⟨imageState { enable := true, toHost := false }, 3, 1, 0, 5, 6000000, [], by decide⟩,
    ⟨imageState { enable := true, toHost := false }, 3, by decide⟩,
    ⟨imageState { enable := true, toHost := false, waiting := [(5000000, 5000000, [])] }, 3, 5000000, [], by decide⟩,
    ⟨imageState { enable := true }, 3, by decide⟩,
    ⟨imageState { enable := true, toHost := false, missed := 3 }, 3, by decide⟩⟩

/-- States and operands that meet the hypotheses of `Obligations.MisalignedAccessFaultsWithAlign`, clause by clause. -/
theorem witness_MisalignedAccessFaultsWithAlign :
  (∃ (s : State) (t : Fin 1024) (ag : Bool) (sz : MemSize) (d : Reg) (pm : Bool), (s.ready t) ∧ (evenFor sz d = true) ∧ (((s.tile t).agu ag).legal = true) ∧ (((s.tile t).agu ag).address % memBytes sz ≠ 0)) ∧
  (∃ (s : State) (t : Fin 1024) (ag : Bool) (sz : MemSize) (r : Reg) (pm : Bool), (s.ready t) ∧ (evenFor sz r = true) ∧ (((s.tile t).agu ag).legal = true) ∧ (((s.tile t).agu ag).address % memBytes sz ≠ 0)) ∧
  (∃ (s : State) (t : Fin 1024) (d a : Reg) (off : BitVec 8), (s.ready t) ∧ (((((s.tile t).rd a).toNat + 4 * off.toInt) % 2 ^ 20).toNat % 4 ≠ 0)) ∧
  (∃ (s : State) (t : Fin 1024) (da db : Reg) (p0 p1 : Bool), (s.ready t) ∧ (da ≠ db) ∧ ((s.tile t).agu0.legal = true) ∧ ((s.tile t).agu1.legal = true) ∧ ((s.tile t).agu0.address % 4 ≠ 0 ∨ (s.ownAccess t (s.tile t).agu0.address 4 ∧ (s.tile t).agu1.address % 4 ≠ 0))) ∧
  (∃ (s : State) (t : Fin 1024) (bk : Bool) (base : Reg) (pm : Bool) (m : BitVec 18), (s.ready t) ∧ ((MemOp.stm bk base pm).legal = true) ∧ ((bk || ((s.tile t).agu (base.getLsbD 0)).legal) = true) ∧ (m ≠ 0) ∧ (multBase (s.tile t) bk base % 8 ≠ 0)) ∧
  (∃ (s : State) (t : Fin 1024) (bk : Bool) (base : Reg) (pm : Bool) (m : BitVec 18), (s.ready t) ∧ ((MemOp.ldm bk base pm).legal = true) ∧ ((bk || ((s.tile t).agu (base.getLsbD 0)).legal) = true) ∧ (m ≠ 0) ∧ (multBase (s.tile t) bk base % 8 ≠ 0) ∧ ((bk && (maskRegs m).contains base.toNat) = false)) :=
  ⟨⟨misalignedState, 0, true, .d, 2, true, by decide⟩,
    ⟨misalignedState, 0, true, .w, 2, true, by decide⟩,
    ⟨misalignedState, 0, 2, 3, 4, by decide⟩,
    ⟨misalignedState, 0, 3, 4, true, false, by decide⟩,
    ⟨misalignedState, 0, true, 3, false, 1, by decide⟩,
    ⟨misalignedState, 0, true, 3, false, 1, by decide⟩⟩

/-- States and operands that meet the hypotheses of `Obligations.ZeroSlotsAreNops`, clause by clause. -/
theorem witness_ZeroSlotsAreNops :
  (∃ (s : State) (t : Fin 1024), (s.ready t)) :=
  ⟨tileState, 0, by decide⟩

/-- States and operands that meet the hypotheses of `Obligations.StepTakesTheFrontCommandOrTicks`, clause by clause. -/
theorem witness_StepTakesTheFrontCommandOrTicks :
  (∃ (s : State), (s.pending = []) ∧ (s.alarmOn 0x0503 0 = false)) :=
  ⟨serviceState, by decide⟩

/-- States and operands that meet the hypotheses of `Obligations.SlotsDecodeAsTheyEncode`, clause by clause. -/
theorem witness_SlotsDecodeAsTheyEncode :
  (∃ (w : TileWord), (w.legal = true)) ∧
  (∃ (x : BitVec 96) (w : TileWord), (decodeWord x = some w)) :=
  ⟨⟨⟨.nop, .nop, .nop, .nop⟩, by decide⟩,
    ⟨0, ⟨.nop, .nop, .nop, .nop⟩, by decide⟩⟩

/-- States and operands that meet the hypotheses of `Obligations.FuseBitsNeverClear`, clause by clause. -/
theorem witness_FuseBitsNeverClear :
  (∃ (s u : State) (a : Nat), (step s = .next u)) :=
  ⟨fusedState, fusedState.idle, 0x24, rfl⟩

/-! ### The specification's worked examples -/

/-- 03: tile (13,22) is tile 717, in cluster 43 with local index 9. -/
theorem test_tile_numbers : tileCluster (32 * 22 + 13) = 43 ∧ localIndex 717 = 9 := by decide

/-- 03: CMAC with the guard bits, from ACCRE 0.5. -/
theorem test_cmac_guard_bits :
    macSlot (.mul .cmac .acc true true false 0 1) (fun r => if r = 0 then 0x60004000 else 0xA0004000) 0x0040000000 0 =
      { re := some 0x00A8000000, im := some 0, mv := some false } := by decide

/-- 03: its extraction saturates to 0x7FFF. -/
theorem test_extract_saturates :
    (macSlot (.extH true 0 16 false false 0) (fun _ => 0) 0x00A8000000 0).reg = some (0, 0x00007FFF) ∧
      (macSlot (.extH true 0 16 false false 0) (fun _ => 0) 0x00A8000000 0).sat = true := by decide

/-- 03: 1.5 and −0.5 in units of 2^16 under TRUNC, NEAR and CONV. -/
theorem test_rounding_modes :
    ([0, 1, 2].map (fun r => rounded 0x18000 16 (BitVec.ofNat 2 r)) = [1, 2, 2]) ∧
      ([0, 1, 2].map (fun r => rounded 0x8000 16 (BitVec.ofNat 2 r)) = [0, 1, 0]) ∧
      [0, 1, 2].map (fun r => rounded (-0x8000) 16 (BitVec.ofNat 2 r)) = [-1, 0, 0] := by decide

/-- 03: the bit-reversed sweep of 8 with a step of 4. -/
theorem test_bit_reversed_sweep : [0, 4, 2, 6, 1, 5, 3, 7].map (fun i => nextIndex i 4 8 2) = [4, 2, 6, 1, 5, 3, 7, 0] := by decide

/-- 04: e+3 of the FIR program, a word of CMUL, LD2 and REPS. -/
theorem test_decode_fir_first :
    decodeWord 0x1E45000000000345C050001E =
      some ⟨.mul .cmac .mul true true false 4 5, .nop, .ld2 4 5 true true, .reps 0 30⟩ := by decide

/-- 04: e+4, CMAC and LD2. -/
theorem test_decode_fir_step :
    decodeWord 0x0E45000000000345C0000000 =
      some ⟨.mul .cmac .acc true true false 4 5, .nop, .ld2 4 5 true true, .nop⟩ := by decide

/-- 04: e+7, SW RX W to d6 and TX E from d7. -/
theorem test_decode_fir_switch : decodeWord 0x0B6970 = some ⟨.nop, .nop, .nop, .sw true 3 6 true 1 7⟩ := by decide

/-- 04: b2 of the butterfly, EXT.C CONV S N = 16 d2. -/
theorem test_decode_butterfly_extract : decodeWord 0x668040000000000000000000 = some ⟨.extC true 2 16 2, .nop, .nop, .nop⟩ := by decide

/-- 04: b3, HADD2 d4, d0, d2 on ALU A and HSUB2 d5, d0, d2 on ALU B. -/
theorem test_decode_butterfly_halves :
    decodeWord 0x000000064402000000168A04 =
      some ⟨.nop, .reg .hadd2 false false 4 0 2, .nop, .alu2Reg .hsub2 false 5 0 2⟩ := by decide

/-- 04: b5, ST.W AGU1 d5, PM. -/
theorem test_decode_butterfly_store : decodeWord 0x000002AB00000000 = some ⟨.nop, .nop, .st true .w 5 true, .nop⟩ := by decide

/-- 04 R150: an undefined MAC opcode and a reserved bit are refused. -/
theorem test_decode_refuses : decodeMac 0xF800000 = none ∧ decodeMac 0x0E45001 = none ∧ decodeMem 0xF0000 = none := by decide

/-- 05: the SWCFG that passes W to E, reads N and sends south. -/
theorem test_switch_outputs : osel 0x00000001000001B0 1 = 0xB ∧ osel 0x00000001000001B0 2 = 1 ∧ feeds 0x00000001000001B0 3 = [1] := by decide

/-- 06: the route from RC1 to cluster 12. -/
theorem test_route_rc1_to_cluster_12 : turnCodes 73 12 = [0, 0, 1, 1, 1, 2, 2, 5] ∧ routeOf (turnCodes 73 12) = 0xA91240 := by decide

/-- 08: the mains-phase bin of a frame. -/
theorem test_mains_bin : ({ period := 20000000 } : RingController).bin 1234567890 = 46 := by decide

/-- 09: word 0 of a selection event. -/
theorem test_event_fields :
    [(0, 4), (4, 6), (10, 1), (12, 1), (16, 8), (24, 16), (40, 8), (48, 16)].map (fun p => fieldOf 0x012311001E0314A4 p.1 p.2) =
      [4, 10, 1, 1, 3, 30, 17, 0x0123] := by decide

/-- 13: 12,400 pulses of 1,000 mWh in 15 minutes. -/
theorem test_demand : demandOf 12400000 15 = 49600 := by decide

/-- 14: two Type 3 PSEs, one of them pulled: 16 clusters are held. -/
theorem test_power_budget : grantOf 4 = 510 ∧ 960 + 85 * 48 + 3 * 16 ≤ 510 * 10 ∧ ¬ 960 + 85 * 49 + 3 * 15 ≤ 510 * 10 := by decide

/-- 12: words 0x080 to 0x083 belong to generation 0 of MachineIdent, 0x08C to 0x08F to generation 3. -/
theorem test_generations : machineIdentGen.addrs 0 = [0x80, 0x81, 0x82, 0x83] ∧ machineIdentGen.addrs 3 = [0x8C, 0x8D, 0x8E, 0x8F] := by decide

/-! ### Terms that the checks of well-formedness refuse -/

/-- CJ outside CMAC, RND 3, IM with both, and ACLR of nothing. -/
theorem test_ill_formed_mac :
    (MacOp.mul .dmac .acc true true true 0 1).legal = false ∧ (Instr.extH 0 true 3 16 false false 2 {}).wellFormed = false ∧
      (Instr.extW 0 true 3 16 false 2 {}).wellFormed = false ∧ (Instr.extC 0 true 3 16 2 {}).wellFormed = false ∧
      (Instr.lda 0 true 16 true true 2 {}).wellFormed = false ∧ (Instr.aclr 0 false false {}).wellFormed = false := by decide

/-- An ALU2 operation that is no shift by an amount. -/
theorem test_ill_formed_alu2 : (Instr.alu2 0 (.imm .addi true 1 2 3) {}).wellFormed = false := by decide

/-- A 64-bit access with an odd register, and an AGU named beyond 1 as the base of STM and LDM. -/
theorem test_ill_formed_memory :
    (Instr.ld 0 false .d 3 true {}).wellFormed = false ∧ (Instr.st 0 false .d 3 true {}).wellFormed = false ∧
      (Instr.stm 0 false 2 true {}).wellFormed = false ∧ (Instr.ldm 0 false 2 true {}).wellFormed = false := by decide

/-- SW of neither direction, a field of the direction not taken, U with an unconditional JMP, and a CALL of both kinds. -/
theorem test_ill_formed_flow :
    (Instr.sw 0 false 0 0 false 0 0 none {}).wellFormed = false ∧ (FlowOp.sw true 1 2 false 3 0).legal = false ∧
      (Instr.jmp 0 true 0 5 {}).wellFormed = false ∧ (Instr.call 0 true 1 5 {}).wellFormed = false := by decide

/-- What is no octet in what a command carries as octets. -/
theorem test_ill_formed_octets :
    (Instr.write ask 0x850001 [256]).wellFormed = false ∧ (Instr.applyCommand ask [1, 300]).wellFormed = false ∧
      (Instr.handshakeComplete 1 [256]).wellFormed = false ∧ (Instr.write ask 0x850001 [255]).wellFormed = true := by decide

/-! ### The dictionary -/

/-- 11: each sub-index once, and the highest sub-index at sub-index 0. -/
theorem test_objects : (objRow 0x850001).map (·.dflt) = some (.num 10) ∧ topSub 0x8500 ≠ 0 ∧ objRow 0x0FFF01 = none := by decide

/-- State.reset's queue is empty, and its step is a tick. -/
theorem test_reset_ticks : step State.reset = .next State.reset.idle := rfl

end Sys2Proof.Tests
end

section
/-!
What the shared operations leave alone: the fault log and its notices, the journal, and the holds of the governor.
-/

namespace Sys2Proof.Machine

/-! ### Records and notices over a state (17 R620, R624, 11 R426) -/

theorem State.logsOver_refl (w : State) : w.logsOver w := ⟨rfl, rfl, rfl, List.suffix_refl _⟩

theorem State.logsOver.trans {u v w : State} (h : u.logsOver v) (g : v.logsOver w) : u.logsOver w := by
  obtain ⟨hu, husess, hmap, hout⟩ := h
  obtain ⟨hv, hvsess, gmap, gout⟩ := g
  refine ⟨?_, ?_, hmap.trans gmap, gout.trans hout⟩
  · calc u = { v with log := u.log, sess := u.sess, out := u.out } := hu
      _ = { w with log := u.log, sess := u.sess, out := u.out } := by rw [hv]
  · calc u.sess = { v.sess with sessions := u.sess.sessions } := husess
      _ = { w.sess with sessions := u.sess.sessions } := by rw [hvsess]

section
variable {u w : State} (h : u.logsOver w)
include h

theorem State.logsOver.now : u.now = w.now := by rw [h.1]
theorem State.logsOver.op : u.op = w.op := by rw [h.1]
theorem State.logsOver.time : u.time = w.time := by rw [h.1]
theorem State.logsOver.array : u.array = w.array := by rw [h.1]
theorem State.logsOver.blank : u.blank = w.blank := by rw [h.1]
theorem State.logsOver.ring : u.ring = w.ring := by rw [h.1]
theorem State.logsOver.quench : u.quench = w.quench := by rw [h.1]

end

/-- One NOTIFY changes the session's notice counter alone. -/
theorem notifyOne_logsOver (s : State) (r : LogRecord) (n : SessionNo) : (s.notifyOne r n).logsOver s := by
  unfold State.notifyOne
  split
  · exact s.logsOver_refl
  · split
    · refine ⟨rfl, rfl, ?_, List.suffix_cons _ _⟩
      simp only [emit_sess, State.modSession, List.map_map]
      refine List.map_congr_left fun p _ => ?_
      simp only [Function.comp_apply]
      split <;> rfl
    · exact s.logsOver_refl

theorem notify_logsOver (s : State) (r : LogRecord) : (s.notify r).logsOver s := by
  unfold State.notify
  generalize s.sess.sessions.map (·.1) = l
  induction l generalizing s with
  | nil => exact s.logsOver_refl
  | cons n l ih => exact (ih _).trans (notifyOne_logsOver s r n)

/-- A fault-log record and its notices (17 R620, R624). -/
theorem record_logsOver (s : State) (area : AreaName) (cls : LogClass) (source code : Nat) (detail : List Nat)
    (session : Nat) : (s.record area cls source code detail session).logsOver s := by
  have logged (l : LogUnit) : State.logsOver { s with log := l } s := ⟨rfl, rfl, rfl, List.suffix_refl _⟩
  unfold State.record
  dsimp only
  split
  · exact logged _
  · exact (notify_logsOver _ _).trans (logged _)

theorem alarm_logsOver (s : State) (cls : LogClass) (code idx : Nat) (detail : List Nat) :
    (s.alarm cls code idx detail).logsOver s :=
  State.logsOver.trans ⟨rfl, rfl, rfl, List.suffix_refl _⟩ (record_logsOver s .general cls niGaffer code detail 0)

theorem clearAlarm_logsOver (s : State) (code idx : Nat) : (s.clearAlarm code idx).logsOver s :=
  ⟨rfl, rfl, rfl, List.suffix_refl _⟩

/-! ### The governor's holds (14 R519, R521) -/

/-- A hold's alarm is raised, cleared, or left as it stands. -/
theorem holdAlarm_logsOver (s : State) (k was code : Nat) :
    (if k = 0 then s.clearAlarm code 0 else if was = 0 then s.alarm .power code 0 [] else s).logsOver s := by
  split
  · exact clearAlarm_logsOver s code 0
  · split
    · exact alarm_logsOver s .power code 0 []
    · exact s.logsOver_refl

/-- The judgement of the holds changes the power unit, with the alarms and notices of it. -/
theorem judgeHold_logsOver (s : State) : ∃ p, s.judgeHold.logsOver { s with power := p } := by
  unfold State.judgeHold State.setHolds
  split
  · exact ⟨_, (holdAlarm_logsOver _ _ _ _).trans (holdAlarm_logsOver _ _ _ _)⟩
  · exact ⟨s.power, s.logsOver_refl⟩

@[simp] theorem judgeHold_now (s : State) : s.judgeHold.now = s.now := (judgeHold_logsOver s).elim fun _ h => h.now
@[simp] theorem judgeHold_op (s : State) : s.judgeHold.op = s.op := (judgeHold_logsOver s).elim fun _ h => h.op
@[simp] theorem judgeHold_time (s : State) : s.judgeHold.time = s.time := (judgeHold_logsOver s).elim fun _ h => h.time
@[simp] theorem judgeHold_array (s : State) : s.judgeHold.array = s.array :=
  (judgeHold_logsOver s).elim fun _ h => h.array
@[simp] theorem judgeHold_blank (s : State) : s.judgeHold.blank = s.blank :=
  (judgeHold_logsOver s).elim fun _ h => h.blank
@[simp] theorem judgeHold_ring (s : State) : s.judgeHold.ring = s.ring := (judgeHold_logsOver s).elim fun _ h => h.ring
@[simp] theorem judgeHold_quench (s : State) : s.judgeHold.quench = s.quench :=
  (judgeHold_logsOver s).elim fun _ h => h.quench

/-! ### The journal (12 R477 to R481) -/

/-- A commit changes the store alone. -/
theorem commit_rest (s : State) (b : JBody) : s.commit b = { s with store := (s.commit b).store } := by
  unfold State.commit
  dsimp only
  split <;> rfl

/-- A replay without gaps changes the store alone. -/
theorem replay_rest (s : State) (torn : Bool) : s.replay torn [] = { s with store := (s.replay torn []).store } := by
  unfold State.replay State.checkpoint
  dsimp only [List.foldl_nil]
  rw [commit_rest]

end Sys2Proof.Machine
end

section
/-!
What leaves the operational state and the device's clock alone: the operations of a Gaffer restart, of leaving RUN, of
the energy unit's commits and of the rings' start.
-/

namespace Sys2Proof.Machine

/-- `u` has the operational unit and the clock of `s`. -/
def State.sameOp (s u : State) : Prop := u.op = s.op ∧ u.now = s.now

theorem State.sameOp_refl (s : State) : s.sameOp s := ⟨rfl, rfl⟩

theorem State.sameOp.trans {s u v : State} (h : s.sameOp u) (g : u.sameOp v) : s.sameOp v :=
  ⟨g.1.trans h.1, g.2.trans h.2⟩

theorem State.logsOver.sameOp {u w : State} (h : u.logsOver w) : w.sameOp u := ⟨h.op, h.now⟩

/-- A fold of steps that each keep the operational unit keeps it. -/
theorem sameOp_foldl {α : Type} {f : State → α → State} (hf : ∀ t a, State.sameOp t (f t a)) (l : List α)
    (s : State) : s.sameOp (l.foldl f s) := by
  induction l generalizing s with
  | nil => exact s.sameOp_refl
  | cons a l ih => exact (hf s a).trans (ih _)

theorem sameOp_ite {s u v : State} (c : Prop) [Decidable c] (hu : s.sameOp u) (hv : s.sameOp v) :
    s.sameOp (if c then u else v) := by
  split
  · exact hu
  · exact hv

/-! ### The journal and the energy unit -/

theorem commit_sameOp (s : State) (b : JBody) : s.sameOp (s.commit b) := by
  rw [commit_rest]
  exact ⟨rfl, rfl⟩

theorem energyFlush_sameOp (s : State) : s.sameOp s.energyFlush :=
  (show s.sameOp { s with energy := { s.energy with backlog := [] } } from ⟨rfl, rfl⟩).trans
    (sameOp_foldl commit_sameOp _ _)

theorem energyCommit_sameOp (s : State) (b : JBody) : s.sameOp (s.energyCommit b) := by
  have held (l : List JBody) : s.sameOp { s with energy := { s.energy with backlog := l } } := ⟨rfl, rfl⟩
  unfold State.energyCommit
  exact sameOp_ite _ (commit_sameOp s b)
    (sameOp_ite _ ((held _).trans (alarm_logsOver _ _ _ _ _).sameOp) (held _))

/-! ### Causes and the quench stop (10 R366, R379, 05 R192) -/

theorem driveQLevels_sameOp (s : State) : s.sameOp s.driveQLevels := by
  refine sameOp_foldl (fun t y => sameOp_ite _ ?_ t.sameOp_refl) _ s
  split <;> exact ⟨rfl, rfl⟩

theorem enterQuenched_sameOp (s : State) (code : Nat) : s.sameOp (s.enterQuenched code) := by
  refine State.sameOp.trans ?_ (driveQLevels_sameOp _)
  exact ⟨rfl, rfl⟩

theorem quenchCause_sameOp (s : State) (code : Nat) (n : SessionNo) : s.sameOp (s.quenchCause code n) := by
  have recorded (u : State) (d : List Nat) : u.sameOp (u.record .quench .safety 0x80 (0x0100 + code) d n) :=
    (record_logsOver ..).sameOp
  unfold State.quenchCause
  refine sameOp_ite _ s.sameOp_refl ?_
  have counted (f : QuenchUnit → QuenchUnit) : s.sameOp (s.modQuench f) := ⟨rfl, rfl⟩
  exact (counted _).trans
    (sameOp_ite _ ((recorded _ _).trans (enterQuenched_sameOp _ _)) (recorded _ _))

/-! ### The lane fabric and stopped tiles (05 R162 to R170, 03 R134) -/

theorem toComparator_sameOp (s : State) (t p : Nat) (v : Word) : s.sameOp (s.toComparator t p v) := by
  unfold State.toComparator
  split <;> exact ⟨rfl, rfl⟩

theorem arrive_sameOp (s : State) (t q : Nat) (v : Word) : s.sameOp (s.arrive t q v) := by
  unfold State.arrive
  refine sameOp_ite _ ⟨rfl, rfl⟩ (sameOp_ite _ ?_ ⟨rfl, rfl⟩)
  split <;> exact ⟨rfl, rfl⟩

theorem sendLane_sameOp (s : State) (t p : Nat) (v : Word) : s.sameOp (s.sendLane t p v) := by
  unfold State.sendLane
  split
  · exact arrive_sameOp ..
  · exact ⟨rfl, rfl⟩
  · exact s.sameOp_refl

theorem leave_sameOp (s : State) (t p : Nat) (v : Word) : s.sameOp (s.leave t p v) := by
  have compared (c : Prop) [Decidable c] : s.sameOp (if c then s.toComparator t p v else s) :=
    sameOp_ite _ (toComparator_sameOp ..) s.sameOp_refl
  unfold State.leave
  exact sameOp_ite _ (compared _) ((compared _).trans (sendLane_sameOp ..))

theorem passOne_sameOp (s : State) (t q : Nat) : s.sameOp (s.passOne t q) := by
  unfold State.passOne
  split
  · exact s.sameOp_refl
  · have taken (f : Tile → Tile) : s.sameOp (s.modTile t f) := ⟨rfl, rfl⟩
    exact (taken _).trans (sameOp_ite _ (arrive_sameOp ..) (sameOp_foldl (fun u p => leave_sameOp u t p _) _ _))

theorem pinToLane_sameOp (s : State) (t : Nat) : s.sameOp (s.pinToLane t) := by
  unfold State.pinToLane
  split
  · exact s.sameOp_refl
  · exact State.sameOp.trans (u := s.modPin _ _) ⟨rfl, rfl⟩ (arrive_sameOp ..)

theorem settle_sameOp (n : Nat) (l : List Nat) (s : State) : s.sameOp (settle n l s) := by
  fun_induction settle n l s with
  | case1 => exact State.sameOp_refl _
  | case2 => exact State.sameOp_refl _
  | case3 n t w s q _ ih => exact (passOne_sameOp s t q).trans ih
  | case4 n t w s _ _ ih => exact (pinToLane_sameOp s t).trans ih
  | case5 n t w s _ _ ih => exact ih

theorem stopTile_sameOp (s : State) (t : Nat) (r : CtxReason) : s.sameOp (s.stopTile t r) := by
  unfold State.stopTile
  exact sameOp_ite _ ⟨rfl, rfl⟩ (State.sameOp.trans (u := s.modTile t _) ⟨rfl, rfl⟩ (settle_sameOp ..))

/-- A tile stops and has no owner any more. -/
theorem freeTile_sameOp (s : State) (t : Nat) (r : CtxReason) (f : Tile → Tile) :
    s.sameOp ((s.stopTile t r).modTile t f) :=
  (stopTile_sameOp s t r).trans ⟨rfl, rfl⟩

/-! ### Stopping tasks (05 R187 to R194) -/

theorem stopTiles_sameOp (s : State) (ts : List Nat) (r : CtxReason) (peer : Bool) :
    s.sameOp (s.stopTiles ts r peer) := by
  refine sameOp_foldl (fun u t => State.sameOp.trans ?_ (freeTile_sameOp _ t r _)) ts s
  exact sameOp_ite _ ⟨rfl, rfl⟩ u.sameOp_refl

theorem stopTask_sameOp (s : State) (n : Nat) (cs : List Nat) (r : TaskReason) (q : CtxReason) :
    s.sameOp (s.stopTask n cs r q) :=
  (stopTiles_sameOp s _ q false).trans ⟨rfl, rfl⟩

theorem cancelPre_sameOp (s : State) (n : Nat) : s.sameOp (s.cancelPre n) :=
  (stopTask_sameOp s n [] .cancelledPre .cancel).trans ⟨rfl, rfl⟩

theorem quenchTask_sameOp (s : State) (n : Nat) : s.sameOp (s.quenchTask n) :=
  sameOp_ite _ ⟨rfl, rfl⟩ s.sameOp_refl

theorem quenchStop_sameOp (s : State) : s.sameOp s.quenchStop := by
  have stopped := sameOp_foldl (fun u t => freeTile_sameOp u t .quench (fun x => { x with owner := none }))
    ((s.zoneClusters 0).flatMap clusterTiles) s
  have served (u : State) (q : QuenchUnit) : u.sameOp { u with quench := q } := ⟨rfl, rfl⟩
  unfold State.quenchStop
  exact (stopped.trans (sameOp_foldl quenchTask_sameOp _ _)).trans (served _ _)

theorem sendDecision_sameOp (s : State) (n tag zone : Nat) (members : List Nat) (commit : Bool) :
    s.sameOp (s.sendDecision n tag zone members commit) := by
  unfold State.sendDecision
  split
  · exact s.sameOp_refl
  · have sent (u : State) (f : Nat → Output) : u.sameOp (members.foldl (fun t m => t.emit (f m)) u) :=
      sameOp_foldl (fun t m => (⟨rfl, rfl⟩ : t.sameOp (t.emit (f m)))) members u
    exact State.sameOp.trans (u := s.modNi n _) ⟨rfl, rfl⟩ (sent _ _)

theorem decideStart_sameOp (s : State) (n : Nat) (commit : Bool) : s.sameOp (s.decideStart n commit) := by
  unfold State.decideStart
  dsimp only
  split
  · exact sendDecision_sameOp ..
  · exact s.sameOp_refl

/-! ### Leaving RUN (01 R38) -/

theorem leaveTask_sameOp (s : State) (n : Nat) : s.sameOp (s.leaveTask n) := by
  have woken : s.sameOp (s.modTask n (fun k => { k with waking := [] })) := ⟨rfl, rfl⟩
  unfold State.leaveTask
  dsimp only
  split
  · exact woken.trans ⟨rfl, rfl⟩
  · exact woken.trans (cancelPre_sameOp _ n)
  · exact (woken.trans (sameOp_ite _ (State.sameOp_refl _) (decideStart_sameOp _ n false))).trans (cancelPre_sameOp _ n)
  · exact woken

theorem discardEvents_sameOp (s : State) : s.sameOp s.discardEvents := ⟨rfl, rfl⟩

/-- The device leaves RUN without the rings. -/
theorem leaveRun_sameOp (s : State) : s.sameOp (s.leaveRun false) := by
  have stopped := (quenchCause_sameOp s 0x01 0).trans (quenchStop_sameOp _)
  exact (stopped.trans (sameOp_foldl leaveTask_sameOp _ _)).trans (discardEvents_sameOp _)

theorem leaving_sameOp (s : State) : s.sameOp (s.leaving false) := sameOp_ite _ (leaveRun_sameOp s) s.sameOp_refl

/-! ### The start of the rings (08 R307, R310, R315) -/

theorem sendDeferrable_sameOp (s : State) (r : Nat) (b : Bool) (dst : Nat) (body : FrameBody) :
    s.sameOp (s.sendDeferrable r b dst body) := by
  have deferred (f : RingController → RingController) : s.sameOp (s.modRc (r / 4) f) := ⟨rfl, rfl⟩
  have sent : s.sameOp (s.sendFrame r (ringEnd b) dst body) := ⟨rfl, rfl⟩
  exact sameOp_ite _ (deferred _) sent

theorem sendCount_sameOp (s : State) (r : Nat) (b : Bool) : s.sameOp (s.sendCount r b) :=
  sendDeferrable_sameOp s r b _ _

theorem ringOff_sameOp (s : State) (r : Nat) : s.sameOp (s.ringOff r) := by
  constructor <;> simp [State.ringOff]

theorem startTraining_sameOp (s : State) (r : Nat) : s.sameOp (s.startTraining r) := by
  have training (u : State) (f : Ring → Ring) : u.sameOp (u.modRing r f) := ⟨rfl, rfl⟩
  exact ((ringOff_sameOp s r).trans (training _ _)).trans (sendCount_sameOp _ r false)

theorem ringsStart_sameOp (s : State) : s.sameOp s.ringsStart :=
  sameOp_foldl (fun u r => sameOp_ite _ (startTraining_sameOp u r) u.sameOp_refl) _ s

/-! ### The end of the sessions (11 R418, R448) -/

/-- A write of class NOW: each object it can reach belongs to another unit. -/
theorem nowEffect_sameOp (s : State) (n : SessionNo) (key : Nat) (v : Val) : s.sameOp (s.nowEffect n key v) := by
  unfold State.nowEffect
  dsimp only
  repeat' refine sameOp_ite _ ?_ ?_
  pick_goal 7
  · split <;> exact ⟨rfl, rfl⟩
  all_goals exact ⟨rfl, rfl⟩

theorem zeroObject_sameOp (s : State) (n : SessionNo) (key : Nat) : s.sameOp (s.zeroObject n key) := by
  unfold State.zeroObject
  split
  · exact s.sameOp_refl
  · refine sameOp_ite _ s.sameOp_refl (sameOp_ite _ ⟨rfl, rfl⟩ (sameOp_ite _ ?_ (sameOp_ite _ ⟨rfl, rfl⟩
      (sameOp_ite _ ?_ s.sameOp_refl))))
    · exact sameOp_ite _ s.sameOp_refl ⟨rfl, rfl⟩
    · split
      · exact nowEffect_sameOp ..
      · exact s.sameOp_refl

theorem zeroImage_sameOp (s : State) (x : ImageRec) : s.sameOp (s.zeroImage x) := by
  refine sameOp_foldl (fun t e => ?_) _ s
  exact sameOp_ite _ ⟨rfl, rfl⟩ (zeroObject_sameOp ..)

theorem failImage_sameOp (s : State) (i : Nat) : s.sameOp (s.failImage i) := by
  unfold State.failImage
  have tripped (d : List Nat) (f : ImageRec → ImageRec) :
      s.sameOp ((s.alarm .alarm 0x0906 i d).modImage i f) :=
    (alarm_logsOver s .alarm 0x0906 i d).sameOp
  exact sameOp_ite _ ((tripped _ _).trans (zeroImage_sameOp _ _)) (tripped _ _)

theorem endImages_sameOp (s : State) (n : SessionNo) : s.sameOp (s.endImages n) := by
  refine (sameOp_foldl (fun t i => ?_) _ s).trans (sameOp_foldl (fun t i => ?_) _ _)
  · exact sameOp_ite _ (failImage_sameOp t i) t.sameOp_refl
  · exact ⟨rfl, rfl⟩

/-- A session ends without a lapse of its leases. -/
theorem endSession_sameOp (s : State) (n : SessionNo) : s.sameOp (s.endSession n false) := by
  have dropped : s.sameOp (s.dropRequests n) := ⟨rfl, rfl⟩
  have closed (u : State) (x : SessionUnit) : u.sameOp { u with sess := x } := ⟨rfl, rfl⟩
  exact (dropped.trans (endImages_sameOp _ n)).trans (closed _ _)

theorem endSessions_sameOp (s : State) : s.sameOp s.endSessions :=
  (sameOp_foldl endSession_sameOp (s.sess.sessions.map Prod.fst) s).trans ⟨rfl, rfl⟩

theorem dropRounds_sameOp (s : State) : s.sameOp s.dropRounds := ⟨rfl, rfl⟩

end Sys2Proof.Machine
end

section
/-!
The Gaffer: the boot ROM's selection, the start of the firmware, its restart, a FATAL fault, and a trial's confirmation
(01 R30, R46, 07 R268, 11 R432, 17 R623).
-/

namespace Sys2Proof.Machine

/-! ### The dispatch of the Gaffer's commands -/

theorem exec_imageSelection (s : State) : exec .imageSelection s = execImageSelection s := rfl

theorem exec_gafferFirmwareStart (torn : Bool) (gaps : List Nat) (lost : List (Fin 16777216)) (s : State) :
    exec (.gafferFirmwareStart torn gaps lost) s = execGafferFirmwareStart torn gaps lost s := rfl

theorem exec_gafferWatchdogExpiry (s : State) : exec .gafferWatchdogExpiry s = execGafferWatchdogExpiry s := rfl

theorem exec_watchdogCountClear (s : State) : exec .watchdogCountClear s = execWatchdogCountClear s := rfl

theorem exec_trialConfirm (s : State) : exec .trialConfirm s = execTrialConfirm s := rfl

theorem exec_gafferCodeUe (a : Nat) (s : State) : exec (.gafferCodeUe a) s = execGafferCodeUe a s := rfl

theorem gafferRuns_of_running {s : State} {k : FwSlot} (h : s.op.gaffer = .running k) : s.gafferRuns = true := by
  simp [State.gafferRuns, h]

/-! ### Another operational unit in a state -/

/-- `s` with another operational unit. -/
def State.withOp (s : State) (o : OpUnit) : State := { s with op := o }

@[simp] theorem withOp_fw (s : State) (o : OpUnit) (k : FwSlot) : (s.withOp o).fw k = s.fw k := by cases k <;> rfl

/-- `s` with one more expiry of the Gaffer's watchdog counted (01 R30). -/
def State.countExpiry (s : State) : State := s.withOp { s.op with watchdogCount := s.op.watchdogCount + 1 }

/-- `s` with the image of slot `k` running from now on (01 R30, 07 R268). -/
def State.runsImage (s : State) (k : FwSlot) : State :=
  s.withOp { s.op with
    gaffer := .running k, servedSince := s.now
    watchdogCount := if s.op.gafferCause = .watchdog then s.op.watchdogCount else 0
    trialSince := if s.op.trial then some s.now else none }

/-! ### Firmware slots (07 R267) -/

@[simp] theorem fw_modFw_self (s : State) (k : FwSlot) (f : FwImage → FwImage) : (s.modFw k f).fw k = f (s.fw k) := by
  cases k <;> rfl

@[simp] theorem fw_modFw_other (s : State) (k : FwSlot) (f : FwImage → FwImage) :
    (s.modFw k f).fw k.other = s.fw k.other := by
  cases k <;> rfl

/-- `s` with slot `k` CONFIRMED, and the other slot CONFIRMED no more (07 R268). -/
def State.confirmSlot (s : State) (k : FwSlot) : State :=
  (s.modFw k (fun x => { x with mark := .confirmed })).modFw k.other (fun x =>
    { x with mark := if x.mark = .confirmed then .none else x.mark })

theorem confirmSlot_fw (s : State) (k : FwSlot) : (s.confirmSlot k).fw k = { s.fw k with mark := .confirmed } := by
  cases k <;> rfl

theorem confirmSlot_fw_other (s : State) (k : FwSlot) :
    (s.confirmSlot k).fw k.other =
      { s.fw k.other with mark := if (s.fw k.other).mark = .confirmed then .none else (s.fw k.other).mark } := by
  cases k <;> rfl

/-- The start of an image changes the Gaffer and the mark of its slot, TRIAL becoming NONE (07 R268). -/
theorem startImage_selects (s : State) (k : FwSlot) :
    let u := s.startImage k
    u.op.gaffer = .selected k ∧ u.op.state = s.op.state ∧ u.op.trial = ((s.fw k).mark == .trial) ∧
      (u.fw k).mark = (if (s.fw k).mark = .trial then .none else (s.fw k).mark) ∧ u.fw k.other = s.fw k.other ∧
      u = { s with op := u.op, blank := u.blank } := by
  have hst : (s.startImage k).op.state = s.op.state := by
    unfold State.startImage
    dsimp only
    split <;> rfl
  by_cases h : (s.fw k).mark = .trial
  · have hs : s.startImage k = (s.modFw k (fun x => { x with mark := .none })).withOp (s.startImage k).op := by
      simp [State.startImage, State.withOp, h]
    refine ⟨rfl, hst, rfl, ?_, ?_, ?_⟩
    · rw [hs, withOp_fw, fw_modFw_self, if_pos h]
    · rw [hs, withOp_fw, fw_modFw_other]
    · rw [hs]; rfl
  · have hs : s.startImage k = s.withOp (s.startImage k).op := by
      simp [State.startImage, State.withOp, h]
    refine ⟨rfl, hst, rfl, ?_, ?_, ?_⟩
    · rw [hs, withOp_fw, if_neg h]
    · rw [hs, withOp_fw]
    · rw [hs]; rfl

/-- The boot ROM with good critical words and no trial stored starts the image it selects (07 R268). -/
theorem bootSelect_of_select {s : State} {k : FwSlot} (hf : s.bootFault = none) (ht : s.blank.trialStored = none)
    (hk : s.selectFw = some k) : s.bootSelect = s.startImage k := by
  have hm : s.markTrial = s := by simp [State.markTrial, ht]
  simp [State.bootSelect, hf, hm, hk]

/-! ### Leases at a start of the firmware (11 R432) -/

/-- `u` is `s` with leases, fault-log records and the notices of them. -/
def State.leasesOver (s u : State) : Prop :=
  u = { s with log := u.log, sess := u.sess, out := u.out } ∧
    u.sess = { s.sess with sessions := u.sess.sessions, leases := u.sess.leases }

theorem State.leasesOver_refl (s : State) : s.leasesOver s := ⟨rfl, rfl⟩

theorem State.leasesOver.trans {s u v : State} (h : s.leasesOver u) (g : u.leasesOver v) : s.leasesOver v := by
  obtain ⟨hu, husess⟩ := h
  obtain ⟨hv, hvsess⟩ := g
  constructor
  · calc v = { u with log := v.log, sess := v.sess, out := v.out } := hv
      _ = { s with log := v.log, sess := v.sess, out := v.out } := by rw [hu]
  · calc v.sess = { u.sess with sessions := v.sess.sessions, leases := v.sess.leases } := hvsess
      _ = { s.sess with sessions := v.sess.sessions, leases := v.sess.leases } := by rw [husess]

/-- Reading a lease after changing one. -/
theorem lease_modLease_ne (s : State) {l k : Nat} (h : l ≠ k) (f : Lease → Lease) :
    (s.modLease l f).lease k = s.lease k := by
  rw [lease_modLease, if_neg h]

theorem State.logsOver.lease {u w : State} (h : u.logsOver w) (l : Nat) : u.lease l = w.lease l := by
  unfold State.lease
  rw [h.2.1]

theorem State.logsOver.leasesOver {u w : State} (h : u.logsOver w) : w.leasesOver u := by
  refine ⟨h.1, ?_⟩
  rw [h.2.1]

/-- What a start leaves of a lease: no holder, the next epoch; and what it leaves of the rest. -/
theorem freshLease_modLease (s : State) (l : Nat) :
    ∃ f : Lease → Lease, (∀ x, (f x).holder = 0 ∧ (f x).epoch = nextEpoch x.epoch) ∧
      (s.freshLease l).logsOver (s.modLease l f) := by
  refine ⟨fun x => { x with holder := 0, epoch := nextEpoch x.epoch, fence := .none, recent := []
                            changes := if (s.lease l).holder != 0 then inc32 x.changes else x.changes },
    fun _ => ⟨rfl, rfl⟩, ?_⟩
  unfold State.freshLease
  dsimp only
  split
  · exact record_logsOver ..
  · exact State.logsOver_refl _

theorem freshLease_leasesOver (s : State) (l : Nat) : s.leasesOver (s.freshLease l) := by
  obtain ⟨f, -, h⟩ := freshLease_modLease s l
  exact State.leasesOver.trans (u := s.modLease l f) ⟨rfl, rfl⟩ h.leasesOver

theorem freshLease_self (s : State) (l : Nat) :
    ((s.freshLease l).lease l).holder = 0 ∧ ((s.freshLease l).lease l).epoch = nextEpoch (s.lease l).epoch := by
  obtain ⟨f, hf, h⟩ := freshLease_modLease s l
  rw [h.lease, lease_modLease_self]
  exact hf _

theorem freshLease_ne (s : State) {l k : Nat} (hk : l ≠ k) : (s.freshLease l).lease k = s.lease k := by
  obtain ⟨f, -, h⟩ := freshLease_modLease s l
  rw [h.lease, lease_modLease_ne s hk]

theorem freshLeases_leasesOver (ls : List Nat) (s : State) : s.leasesOver (ls.foldl State.freshLease s) := by
  induction ls generalizing s with
  | nil => exact s.leasesOver_refl
  | cons l ls ih => exact (freshLease_leasesOver s l).trans (ih _)

theorem freshLeases_notMem (ls : List Nat) (s : State) {k : Nat} (hk : k ∉ ls) :
    (ls.foldl State.freshLease s).lease k = s.lease k := by
  induction ls generalizing s with
  | nil => rfl
  | cons l ls ih =>
    obtain ⟨hl, hls⟩ := not_or.1 (fun h => hk (List.mem_cons.2 h))
    rw [List.foldl_cons, ih _ hls, freshLease_ne s (Ne.symm hl)]

/-- Each listed lease is freed once: no holder, the next epoch. -/
theorem freshLeases_mem (ls : List Nat) (hd : ls.Nodup) (s : State) {k : Nat} (hk : k ∈ ls) :
    ((ls.foldl State.freshLease s).lease k).holder = 0 ∧
      ((ls.foldl State.freshLease s).lease k).epoch = nextEpoch (s.lease k).epoch := by
  induction ls generalizing s with
  | nil => exact absurd hk List.not_mem_nil
  | cons l ls ih =>
    obtain ⟨hl, hd⟩ := List.nodup_cons.1 hd
    by_cases hkl : l = k
    · subst hkl
      rw [List.foldl_cons, freshLeases_notMem ls _ hl]
      exact freshLease_self s l
    · obtain ⟨hh, he⟩ := ih hd (s.freshLease l) ((List.mem_cons.1 hk).resolve_left (Ne.symm hkl))
      rw [freshLease_ne s hkl] at he
      exact ⟨hh, he⟩

theorem leaseNumbers_nodup : leaseNumbers.Nodup := by decide

/-! ### A start of the firmware (01 R30, 11 R432, 12 R481) -/

/-- Without a staging a staging slot stands as it is. -/
theorem freshSlot_of_no_slots {s : State} (h : s.blank.slots = []) (k : Nat) : s.freshSlot k = s := by
  have hk : s.slot k = {} := by simp [State.slot, h]
  simp [State.freshSlot, State.withdraw, hk]

/-- Without stored values the dictionary stands as it is. -/
theorem loadDictionary_of_none_stored {s : State} (hs : s.sess.stored = []) (hr : s.sess.restoreDefaults = false) :
    s.loadDictionary = s := by
  have hsess : { s.sess with stored := [], restoreDefaults := false } = s.sess := by rw [← hs, ← hr]
  simp [State.loadDictionary, hs, hr, hsess]

/-- Without a record in its buffer the energy unit's flush does nothing. -/
theorem energyFlush_of_no_backlog {s : State} (h : s.energy.backlog = []) : s.energyFlush = s := by
  have he : { s.energy with backlog := [] } = s.energy := by rw [← h]
  simp [State.energyFlush, h, he]

theorem activeEntries_of_no_active {s : State} (h : s.blank.active = []) : s.activeEntries = [] := by
  simp only [State.activeEntries, h, tget_nil]
  rfl

/-- Out of BOOT, with nothing staged, active, stored or waiting, a start changes the Gaffer, the leases and the store,
with the records and notices of it. -/
theorem firmwareStart_rest {s : State} (k : FwSlot) (hb : s.op.state ≠ .boot) (hslots : s.blank.slots = [])
    (hactive : s.blank.active = []) (hstored : s.sess.stored = []) (hrestore : s.sess.restoreDefaults = false)
    (happlies : s.sess.applies = []) (hbacklog : s.energy.backlog = []) :
    ∃ st, s.firmwareStart k false [] [] = { leaseNumbers.foldl State.freshLease (s.runsImage k) with store := st } := by
  obtain ⟨hrest, hsess⟩ := freshLeases_leasesOver leaseNumbers (s.runsImage k)
  have hstart : s.firmwareStart k false [] [] =
      (let s2 := [0, 1].foldl State.freshSlot (leaseNumbers.foldl State.freshLease (s.runsImage k))
       let s3 := (s2.replay false []).loadDictionary
       let s4 := s3.sess.applies.foldl State.freshApply s3
       (s4.activeEntries.foldl State.joinBlank s4).energyFlush) := by
    have hboot : (s.op.state == .boot) = false := by simpa using hb
    unfold State.firmwareStart State.runsImage State.withOp
    simp only [hboot, Bool.false_eq_true, if_false, List.foldl_nil]
  generalize leaseNumbers.foldl State.freshLease (s.runsImage k) = u at hrest hsess hstart
  have uslots : u.blank.slots = [] := by rw [hrest]; exact hslots
  have uactive : u.blank.active = [] := by rw [hrest]; exact hactive
  have ustored : u.sess.stored = [] := by rw [hsess]; exact hstored
  have urestore : u.sess.restoreDefaults = false := by rw [hsess]; exact hrestore
  have uapplies : u.sess.applies = [] := by rw [hsess]; exact happlies
  have ubacklog : u.energy.backlog = [] := by rw [hrest]; exact hbacklog
  have hslot : [0, 1].foldl State.freshSlot u = u := by
    simp [freshSlot_of_no_slots uslots]
  have hload : (u.replay false []).loadDictionary = { u with store := (u.replay false []).store } := by
    rw [replay_rest]
    exact loadDictionary_of_none_stored ustored urestore
  have hactives : ({ u with store := (u.replay false []).store } : State).activeEntries = [] :=
    activeEntries_of_no_active uactive
  refine ⟨(u.replay false []).store, ?_⟩
  rw [hstart, hslot]
  dsimp only
  rw [hload]
  simp only [uapplies, List.foldl_nil]
  rw [hactives]
  exact energyFlush_of_no_backlog ubacklog

/-! ### A restart, and a FATAL fault (01 R30, R46) -/

/-- A restart sends the Gaffer to the boot ROM and ends sessions, handshakes and rounds; the rest of the operational unit
stands. -/
theorem gafferRestart_restarts (s : State) (cause : GafferCause) :
    let u := s.gafferRestart cause
    u.op.gaffer = .bootRom ∧ u.op.gafferCause = cause ∧ u.op.trial = false ∧ u.op.state = s.op.state ∧
      u.op.watchdogCount = s.op.watchdogCount ∧ u.net.rounds = [] ∧ u.sess.handshakes = [] := by
  obtain ⟨hop, -⟩ := (endSessions_sameOp s).trans (dropRounds_sameOp _)
  refine ⟨rfl, rfl, rfl, ?_, ?_, rfl, rfl⟩
  · exact (congrArg OpUnit.state hop :)
  · exact (congrArg OpUnit.watchdogCount hop :)

/-- A FATAL fault of a running device enters HALT, where the recovery service runs on a free timebase. -/
theorem fatal_halts {s : State} (code source addr : Nat) (hh : s.op.state ≠ .halt) (ho : s.op.state ≠ .off)
    (hr : s.op.state ≠ .reset) :
    let u := s.fatal code source addr
    u.op.state = .halt ∧ u.op.gaffer = .recovery ∧ u.time.state = .free ∧ u.time.quality = .none ∧
      u.blank.upload = none := by
  simp [State.fatal, hh, ho, hr]

/-! ### The watchdog (01 R30) -/

/-- The first two expiries in a row restart the Gaffer. -/
theorem gafferWatchdogExpiry_restarts {s : State} (hg : s.gafferRuns = true) (hn : s.op.watchdogCount < 2) :
    exec .gafferWatchdogExpiry s = .next (s.countExpiry.gafferRestart .watchdog) := by
  have h3 : ¬ 3 ≤ s.op.watchdogCount + 1 := by omega
  rw [exec_gafferWatchdogExpiry, execGafferWatchdogExpiry, if_pos hg]
  exact congrArg _ (if_neg h3)

/-- The third expiry in a row is FATAL. -/
theorem gafferWatchdogExpiry_halts {s : State} (hg : s.gafferRuns = true) (hn : 2 ≤ s.op.watchdogCount) :
    exec .gafferWatchdogExpiry s = .next (s.countExpiry.fatal 2 niGaffer 0) := by
  have h3 : 3 ≤ s.op.watchdogCount + 1 := by omega
  rw [exec_gafferWatchdogExpiry, execGafferWatchdogExpiry, if_pos hg]
  exact congrArg _ (if_pos h3)

end Sys2Proof.Machine

open Sys2Proof Sys2Proof.Machine

/-- Settles O2, from what the selection, the start, the restart and a FATAL fault each leave. -/
theorem gafferStartsAndExpiries : Obligations.GafferStartsAndExpiries := by
  unfold Obligations.GafferStartsAndExpiries
  refine ⟨?selection, ?start, ?expiry, ?third, ?clear, ?confirm, ?codeUe⟩
  case selection =>
    intro s k hg hb hf ht hk
    obtain ⟨hgaffer, hstate, htrial, hmark, hother, hrest⟩ := startImage_selects s k
    refine ⟨s.startImage k, ?_, hgaffer, hstate.trans hb, htrial, hmark, hother, hrest⟩
    rw [exec_imageSelection, execImageSelection, if_pos hg, bootSelect_of_select hf ht hk]
  case start =>
    intro s k hg hb hslots hactive hstored hrestore happlies hbacklog
    obtain ⟨st, hstart⟩ := firmwareStart_rest k hb hslots hactive hstored hrestore happlies hbacklog
    have hleases (l : Nat) (hl : l ∈ leaseNumbers) :=
      freshLeases_mem leaseNumbers leaseNumbers_nodup (s.runsImage k) hl
    obtain ⟨hrest, -⟩ := freshLeases_leasesOver leaseNumbers (s.runsImage k)
    generalize leaseNumbers.foldl State.freshLease (s.runsImage k) = v at hstart hrest hleases
    have hop : v.op = (s.runsImage k).op := by rw [hrest]
    have harray : v.array = s.array := by rw [hrest]; rfl
    refine ⟨{ v with store := st }, ?_, ?_, ?_, ?_, ?_, hleases, harray⟩
    · rw [exec_gafferFirmwareStart, execGafferFirmwareStart, hg, ← hstart]
      rfl
    all_goals
      dsimp only
      rw [hop]
      rfl
  case expiry =>
    intro s hg hn
    obtain ⟨hrom, hcause, -, hstate, hcount, hrounds, hshakes⟩ := gafferRestart_restarts s.countExpiry .watchdog
    exact ⟨_, gafferWatchdogExpiry_restarts hg hn, hrom, hcount, hstate, hcause, hshakes, hrounds⟩
  case third =>
    intro s hg hn hh ho hr
    obtain ⟨hhalt, hrecovery, hfree, hquality, -⟩ := fatal_halts (s := s.countExpiry) 2 niGaffer 0 hh ho hr
    exact ⟨_, gafferWatchdogExpiry_halts hg hn, hrecovery, hhalt, hfree, hquality⟩
  case clear =>
    intro s k hg ht
    refine ⟨s.withOp { s.op with watchdogCount := 0 }, ?_, rfl, rfl⟩
    rw [exec_watchdogCountClear, execWatchdogCountClear, if_pos ⟨gafferRuns_of_running hg, ht⟩]
    rfl
  case confirm =>
    intro s k t hg ht hnow hst
    refine ⟨(s.confirmSlot k).withOp { s.op with trial := false, trialSince := none }, ?_, ?_, ?_, ?_, rfl, rfl⟩
    · rw [exec_trialConfirm, execTrialConfirm, hg, ht]
      exact if_pos ⟨hnow, hst⟩
    · rw [withOp_fw, confirmSlot_fw]
    · rw [withOp_fw, confirmSlot_fw_other]
      dsimp only
      split
      · exact FwMark.noConfusion
      · assumption
    · rw [withOp_fw, confirmSlot_fw_other]
  case codeUe =>
    intro s a hg hh ho hr
    obtain ⟨hhalt, hrecovery, -, -, hupload⟩ := fatal_halts 1 niGaffer a hh ho hr
    refine ⟨_, ?_, hhalt, hrecovery, hupload⟩
    rw [exec_gafferCodeUe, execGafferCodeUe, if_pos hg]

end

section
/-!
*OpCommand* and the wakes: what a request that is heard and admitted leaves of the operational state, and how it is
answered (01 R36, R38, R45, 11 R451, 14 R528, R535, R536).
-/

namespace Sys2Proof.Machine

/-! ### The dispatch of the wakes -/

theorem exec_wakeFrame (p : Port) (b : List Nat) (s : State) : exec (.wakeFrame p b) s = execWakeFrame p b s := rfl

theorem exec_wakePin (s : State) : exec .wakePin s = execWakePin s := rfl

/-! ### Serving a request (11 R417, R421 to R423) -/

/-- `s` with the request `q` noted as the last thing heard of its session (11 R417). -/
def State.noted (s : State) (q : Req) : State := s.modSession q.session (fun x => { x with lastHeard := s.now })

theorem noted_sameOp (s : State) (q : Req) : s.sameOp (s.noted q) := ⟨rfl, rfl⟩

@[simp] theorem noted_op (s : State) (q : Req) : (s.noted q).op = s.op := rfl

/-- What a request heard leaves when it is served at once. -/
theorem serve_of_hears {s : State} {q : Req} {ss : Session} (h : s.hears q ss) {run : State → Session → Served}
    (hl : (run (s.noted q) ss).later = false) :
    s.serve q run = (run (s.noted q) ss).state.reply q.session
      { rid := q.rid, code := (run (s.noted q) ss).code, detail := (run (s.noted q) ss).detail
        value := (run (s.noted q) ss).value } := by
  obtain ⟨hopen, hkept, hflight, hfew⟩ := h
  have hnone : ss.kept.find? (fun a => decide (a.rid = q.rid)) = none := by
    rw [List.find?_eq_none]
    intro a ha
    simpa using List.all_eq_true.1 hkept a ha
  simp only [State.noted] at hl
  simp [State.serve, State.noted, hopen, hnone, hflight, Nat.not_le.2 hfew, hl]

/-- The gate reads no session. -/
theorem gate_noted (s : State) (q : Req) (n : SessionNo) (role : Role) (key epoch : Nat) :
    (s.noted q).gate n role key epoch = s.gate n role key epoch := rfl

/-- An *OpCommand* that is heard and admitted is carried out and answered OK. -/
theorem opRequest_of_admitted {s : State} {q : Req} {ss : Session} {v : Nat} {run : State → Served} {u : State}
    (h : s.hears q ss) (ha : s.admitted q ss (okey 0x1010 2)) (hh : s.op.state ≠ .halt ∨ v = 4)
    (hr : v < 4 ∨ ss.role = .maintenance) (hrun : run (s.noted q) = { state := u }) :
    s.opRequest q v run = u.reply q.session { rid := q.rid, code := .ok } := by
  have hhalt : ¬ (s.op.state = .halt ∧ v ≠ 4) := fun ⟨a, b⟩ => hh.elim (· a) b
  have hrole : ¬ (4 ≤ v ∧ ss.role ≠ .maintenance) := fun ⟨a, b⟩ => hr.elim (by omega) b
  obtain ⟨d, hgate⟩ : ∃ d, s.gate q.session ss.role (okey 0x1010 2) q.epoch = (.ok, d) := ⟨_, Prod.ext ha rfl⟩
  unfold State.opRequest
  rw [serve_of_hears h] <;>
    simp only [noted_op, if_neg hhalt, if_neg hrole, gate_noted, hgate, hrun]

/-- The same, as the command's outcome; a state other than HALT or *OpCommand* 4, and MAINTENANCE from 4 on. -/
theorem next_opRequest {s : State} {q : Req} {ss : Session} {v : Nat} {run : State → Served} {u : State}
    (h : s.hears q ss) (ha : s.admitted q ss (okey 0x1010 2)) (hh : s.op.state ≠ .halt ∨ v = 4)
    (hr : v < 4 ∨ ss.role = .maintenance) (hrun : run (s.noted q) = { state := u }) :
    (.next (s.opRequest q v run) : Host.Outcome State Fault Refusal) =
      .next (u.reply q.session { rid := q.rid, code := .ok }) :=
  congrArg _ (opRequest_of_admitted h ha hh hr hrun)

/-! ### An answer (11 R419, R422) -/

@[simp] theorem reply_op (s : State) (n : SessionNo) (a : Answer) : (s.reply n a).op = s.op := rfl
@[simp] theorem reply_array (s : State) (n : SessionNo) (a : Answer) : (s.reply n a).array = s.array := rfl
@[simp] theorem reply_ring (s : State) (n : SessionNo) (a : Answer) : (s.reply n a).ring = s.ring := rfl
@[simp] theorem reply_blank (s : State) (n : SessionNo) (a : Answer) : (s.reply n a).blank = s.blank := rfl
@[simp] theorem reply_quench (s : State) (n : SessionNo) (a : Answer) : (s.reply n a).quench = s.quench := rfl
@[simp] theorem reply_net (s : State) (n : SessionNo) (a : Answer) : (s.reply n a).net = s.net := rfl
@[simp] theorem reply_handshakes (s : State) (n : SessionNo) (a : Answer) :
    (s.reply n a).sess.handshakes = s.sess.handshakes := rfl

theorem reply_sessions_nil {s : State} (h : s.sess.sessions = []) (n : SessionNo) (a : Answer) :
    (s.reply n a).sess.sessions = [] := by
  simp [State.reply, State.modSession, h]

/-- The answer has just been sent. -/
theorem reply_answers (s : State) (q : Req) (c : Abort) : (s.reply q.session { rid := q.rid, code := c }).answers q c :=
  rfl

/-! ### The transitions (01 R36, 14 R528, R535, R536) -/

/-- The device leaves SLEEP with its cause. -/
theorem wake_op (s : State) (cause : Nat) :
    (s.wake cause).op = { s.op with state := .service, wakeCause := cause, sleepAt := none } := by
  rw [State.wake, judgeHold_op]
  exact (ringsStart_sameOp _).1

theorem enterSleep_state (s : State) : s.enterSleep.op.state = .sleep := by rw [State.enterSleep, judgeHold_op]

theorem enterSleep_sleepAt (s : State) : s.enterSleep.op.sleepAt = some s.now := by
  rw [State.enterSleep, judgeHold_op]

/-- A powered device that asserts a reset source enters RESET, held by that source, and loses what is volatile. -/
theorem assertReset_enters {s : State} (r : ResetSource) (h : s.op.state ≠ .reset) :
    let u := s.assertReset r
    u.op.state = .reset ∧ u.op.lastResetCause = r.code ∧ u.op.sources = [(r, s.now)] ∧ u.array = {} ∧
      u.sess.sessions = [] := by
  simp [State.assertReset, h, State.loseVolatile, SessionUnit.kept]

/-- SERVICE to RUN, where nothing refuses it (01 R36, 14 R519, R534, R545). -/
theorem toRun_of_ready {s : State} {n : SessionNo} (hs : s.op.state = .service) (ha : s.someActive = true)
    (hr : s.store.refreshDue = false) (hb : s.power.brownoutCount < 3) (hl : s.admits s.committed = true) :
    s.toRun n = { state := (State.endDemand { s with op := { s.op with state := .run } } 0x01).judgeHold } := by
  have hb' : ¬ 3 ≤ s.power.brownoutCount := by omega
  simp [State.toRun, hs, ha, hr, hb', hl]

/-- A DEMAND cause that ends is active no more. -/
theorem endDemand_not_active (s : State) (code : Nat) : code ∉ (s.endDemand code).quench.active := by
  simp [State.endDemand, State.modQuench]

/-- The commits before a commanded RESET (14 R529). -/
def State.flushed (s : State) : State :=
  if s.gafferRuns then s.energyFlush.energyCommit (s.countersRec s.time.t64 0) else s

theorem flushed_sameOp (s : State) : s.sameOp s.flushed :=
  sameOp_ite _ ((energyFlush_sameOp s).trans (energyCommit_sameOp _ _)) s.sameOp_refl

end Sys2Proof.Machine

open Sys2Proof Sys2Proof.Machine

/-- Settles O3: each request is answered OK with the state that its transition leaves, and each wake is a `wake`. -/
theorem opCommandAndWakeResults : Obligations.OpCommandAndWakeResults := by
  unfold Obligations.OpCommandAndWakeResults
  refine ⟨?run, ?service, ?sleep, ?reset, ?restart, ?frame, ?pin⟩
  case run =>
    intro s q ss h ha hs hact href hbrown hload
    refine ⟨_, next_opRequest h ha (.inl (by simp [hs])) (.inl (by omega))
      (toRun_of_ready hs hact href hbrown hload), ?_, ?_, ?_, ?_, ?_, ?_, reply_answers _ q .ok⟩
    · rw [reply_op, judgeHold_op]; rfl
    · rw [reply_array, judgeHold_array]; rfl
    · rw [reply_ring, judgeHold_ring]; rfl
    · rw [reply_blank, judgeHold_blank]; rfl
    · rw [reply_quench, judgeHold_quench]; exact endDemand_not_active _ _
    · rw [State.armed, reply_quench, judgeHold_quench]; rfl
  case service =>
    intro s q ss h ha hs
    rcases hs with hs | hs
    · refine ⟨_, next_opRequest h ha (.inl (by simp [hs])) (.inl (by omega)) (if_pos hs), ?_, fun hsleep => ?_,
        reply_answers _ q .ok⟩
      · rw [reply_op, judgeHold_op]
      · rw [hs] at hsleep; cases hsleep
    · have hrun : s.op.state ≠ .run := by simp [hs]
      refine ⟨_, next_opRequest h ha (.inl (by simp [hs])) (.inl (by omega)) ((if_neg hrun).trans (if_pos hs)), ?_,
        fun _ => ?_, reply_answers _ q .ok⟩ <;> rw [reply_op, wake_op]
  case sleep =>
    intro s q ss h ha hs
    refine ⟨_, next_opRequest h ha (.inl (by simp [hs])) (.inl (by omega)) (if_pos hs), ?_, ?_, reply_answers _ q .ok⟩
    · rw [reply_op, enterSleep_state]
    · rw [reply_op, enterSleep_sleepAt]; rfl
  case reset =>
    intro s q ss h ha hm hr _
    obtain ⟨hop, hnow⟩ := ((noted_sameOp s q).trans (flushed_sameOp _)).trans (leaving_sameOp _)
    obtain ⟨hstate, hcause, hsources, harray, hsessions⟩ :=
      assertReset_enters (s := (s.noted q).flushed.leaving false) .command (by rwa [hop])
    rw [hnow] at hsources
    have hnext := next_opRequest (u := ((s.noted q).flushed.leaving false).assertReset .command)
      (run := fun t => { state := (t.flushed.leaving false).assertReset .command }) h ha (.inr rfl) (.inr hm) rfl
    generalize ((s.noted q).flushed.leaving false).assertReset .command = u
      at hnext hstate hcause hsources harray hsessions
    exact ⟨_, hnext, hstate, hcause, hsources, harray, reply_sessions_nil hsessions _ _⟩
  case restart =>
    intro s q ss h ha hm hh
    obtain ⟨hrom, hcause, htrial, hstate, -, hrounds, hshakes⟩ := gafferRestart_restarts (s.noted q) .command
    exact ⟨_, next_opRequest h ha (.inl hh) (.inr hm) rfl, hrom, hcause, hstate, htrial, hrounds, hshakes⟩
  case frame =>
    intro s p b hs hb
    refine ⟨s.wake 1, ?_, ?_, ?_, ?_⟩
    · rw [exec_wakeFrame, execWakeFrame, if_pos ⟨hs, hb⟩]
    all_goals rw [wake_op]
  case pin =>
    intro s f z hs hlow hf hz hzf hlong
    refine ⟨s.wake 3, ?_, ?_, ?_, ?_⟩
    · simp [exec_wakePin, execWakePin, hs, hlow, hf, hz, hzf, hlong]
    all_goals rw [wake_op]

end

section
/-!
The tick and the timebase: what a step does, how the timebase takes a PTP sample, and how it enters and leaves HOLDOVER
(02 R48 to R65).
-/

namespace Sys2Proof.Machine

/-! ### The dispatch of the time commands -/

theorem exec_ptpSyncSample (p : Port) (l o d : Int) (s : State) :
    exec (.ptpSyncSample p l o d) s = .next (s.syncSample p l o d) := rfl

theorem exec_syncTimeout (s : State) : exec .syncTimeout s = execSyncTimeout s := rfl

theorem exec_announceTimeout (s : State) : exec .announceTimeout s = execAnnounceTimeout s := rfl

theorem exec_holdoverQualityExpiry (s : State) : exec .holdoverQualityExpiry s = execHoldoverQualityExpiry s := rfl

theorem exec_holdoverMaxExpiry (s : State) : exec .holdoverMaxExpiry s = execHoldoverMaxExpiry s := rfl

/-! ### A tick (02 R49, R90) -/

/-- Where R90 keeps no offset, nothing is judged. -/
theorem judgeLarge_of_no_alarm {s : State} (h : s.alarmOn 0x0503 0 = false) : s.judgeLarge = s := by
  simp [State.judgeLarge, h]

theorem step_of_pending_nil {s : State} (h : s.pending = []) : step s = .next s.idle := by
  simp only [step, h]

/-! ### The newest record (17 R620, R624) -/

/-- A NOTIFY leaves the log as it is. -/
theorem notify_log (s : State) (r : LogRecord) : (s.notify r).log = s.log := by
  unfold State.notify
  generalize s.sess.sessions.map (·.1) = l
  induction l generalizing s with
  | nil => rfl
  | cons n l ih =>
    rw [List.foldl_cons, ih, State.notifyOne]
    split
    · rfl
    · split <;> rfl

theorem record_log (s : State) (cls : LogClass) (source code : Nat) (detail : List Nat) (session : Nat) :
    (s.record .general cls source code detail session).log =
      { s.log with general := s.log.general.add 3584 (s.mkRecord cls source code detail session) } := by
  unfold State.record
  dsimp only
  split
  · rfl
  · rw [notify_log]; rfl

/-- The newest record of an area after one is added has its code: it is that record, or one it repeats. -/
theorem add_newest_code {bound : Nat} (hb : 0 < bound) (a : LogArea) (r d : LogRecord) :
    ((a.add bound r).records.headD d).code = r.code := by
  obtain ⟨n, rfl⟩ := Nat.exists_eq_add_of_lt hb
  unfold LogArea.add
  split
  case h_1 h t heq =>
    split
    case isTrue hc =>
      simp only [LogArea.coalesced, heq, Bool.and_eq_true, beq_iff_eq] at hc
      obtain ⟨⟨⟨-, hcode⟩, -⟩, -⟩ := hc
      exact hcode
    case isFalse => simp
  case h_2 => rfl

/-- A record of the general area is its newest. -/
theorem record_lastCode (s : State) (cls : LogClass) (source code : Nat) (detail : List Nat) (session : Nat) :
    (s.record .general cls source code detail session).lastCode = code := by
  rw [State.lastCode, record_log]
  exact add_newest_code (by decide) _ _ _

/-! ### HOLDOVER (02 R58, R61) -/

/-- The timebase with which HOLDOVER begins. -/
def State.holdoverTime (s : State) : TimeUnit :=
  let t := s.time.integrate s.now
  { t with
    state := .holdover, holdoverAt := s.now, holdovers := inc32 t.holdovers, candidates := [], rejectRun := 0
    fTarget := clampF (t.learned + Config.temperatureModel s.power.junction), disciplinedAt := none }

/-- HOLDOVER begins with its timebase and its record. -/
theorem holdoverEntry_enters (s : State) :
    let u := s.holdoverEntry
    u.logsOver { s with time := u.time } ∧ u.time = s.holdoverTime ∧ u.lastCode = 0x0501 := by
  have hlogs : s.holdoverEntry.logsOver { s with time := s.holdoverTime } := record_logsOver ..
  have htime : s.holdoverEntry.time = s.holdoverTime := hlogs.time
  refine ⟨?_, htime, record_lastCode ..⟩
  rw [htime]
  exact hlogs

/-- The timebase with which HOLDOVER ends in FREE: F stands where it is. -/
def State.freeTime (s : State) : TimeUnit :=
  let t := s.time.integrate s.now
  { t with state := .free, quality := .none, fTarget := t.f }

theorem syncTimeout_enters {s : State} {a : Nat} (hrun : s.servoRuns = true) (hst : s.time.state = .disciplined)
    (hlast : s.time.lastSync = some a) (hnow : a + 3 * (1000000000 / 2 ^ s.time.syncLog.natAbs) ≤ s.now) :
    exec .syncTimeout s = .next s.holdoverEntry := by
  rw [exec_syncTimeout, execSyncTimeout, hlast]
  exact congrArg _ (if_pos ⟨hst, hrun, hnow⟩)

theorem announceTimeout_enters {s : State} (hrun : s.servoRuns = true) (hst : s.time.state = .disciplined) :
    exec .announceTimeout s = .next s.holdoverEntry := by
  rw [exec_announceTimeout, execAnnounceTimeout, if_pos ⟨hst, hrun⟩]

/-! ### A Sync sample (02 R56, R60, R63, R65) -/

/-- The sample of a Sync exchange on a port, its asymmetry taken off (02 R60, R65). -/
def State.sampleOf (s : State) (p : Port) (o d : Int) : PtpSample :=
  { offset := o - s.setting 0x1302 (if p = .fa then 1 else 2) 0, delay := d, at_ := s.now
    moved := (s.time.integrate s.now).moved }

/-- `s` with F brought to the present and the Sync noted (02 R48, R56). -/
def State.syncNoted (s : State) (l : Int) : State :=
  { s with time := { s.time.integrate s.now with lastSync := some s.now, syncLog := l } }

/-- While the servo acts, a sample goes to the judgement of the timebase's state. -/
theorem syncSample_of_servoRuns {s : State} {p : Port} {l o d : Int} (hrun : s.servoRuns = true)
    (hl : -7 ≤ l ∧ l ≤ 0) :
    s.syncSample p l o d =
      if s.time.state = .disciplined then (s.syncNoted l).disciplinedSample (s.sampleOf p o d)
      else (s.syncNoted l).candidateSample (s.sampleOf p o d) :=
  if_pos ⟨hrun, hl⟩

/-- An outlier short of OutlierRun is counted and changes nothing else of the timebase. -/
theorem disciplinedSample_outlier {s : State} {x : PtpSample}
    (ho : s.time.outlier s.outlierLimit x.offset x.delay = true) (hn : s.time.rejectRun + 1 < s.num 0x1303 2 4) :
    s.disciplinedSample x =
      { s with time := { s.time with outliers := inc32 s.time.outliers, rejectRun := s.time.rejectRun + 1 } } := by
  have hn' : ¬ s.time.rejectRun + 1 ≥ s.num 0x1303 2 4 := by omega
  exact (if_pos ho).trans (if_neg hn')

/-- An alarm cleared under a condition changes the log alone. -/
theorem clearAlarm_ite (v : State) (c : Prop) [Decidable c] (code idx : Nat) :
    (if c then v.clearAlarm code idx else v) = { v with log := if c then (v.clearAlarm code idx).log else v.log } := by
  split <;> rfl

/-- A sample that is no outlier becomes the newest accepted one, and the slew follows the filtered offset. -/
theorem disciplinedSample_accepted {s : State} {x : PtpSample}
    (ho : s.time.outlier s.outlierLimit x.offset x.delay = false) :
    ∃ t l, s.disciplinedSample x = { s with time := t, log := l } ∧ t.state = s.time.state ∧
      t.accepted = (x :: s.time.accepted).take 16 ∧ t.rejectRun = 0 ∧ t.outliers = s.time.outliers ∧
      t.offset = Config.offsetFilter (t.accepted.map (fun y => (y.offset - (s.time.moved - y.moved), (y.at_ : Int)))) ∧
      t.fTarget = t.slewFor t.offset ∧ t.t64 = s.time.t64 ∧ t.lastSync = s.time.lastSync :=
  ⟨_, _, (if_neg (by simp [ho])).trans (clearAlarm_ite _ _ _ _), rfl, rfl, rfl, rfl, rfl, rfl, rfl, rfl⟩

/-- Fewer than eight candidates do not agree. -/
theorem agree_of_few {t : TimeUnit} (h : t.candidates.length < 8) (limit : Nat) : t.agree limit = false := by
  have hne : (t.candidates.length == 8) = false := beq_false_of_ne (Nat.ne_of_lt h)
  simp only [TimeUnit.agree, hne, Bool.false_and]

/-- A sample that does not make eight joins the candidates. -/
theorem candidateSample_of_few {s : State} {x : PtpSample} (h : s.time.candidates.length < 7) :
    s.candidateSample x = { s with time := { s.time with candidates := x :: s.time.candidates } } := by
  have hlen : (x :: s.time.candidates).length < 8 := by
    rw [List.length_cons]
    omega
  unfold State.candidateSample
  dsimp only
  rw [List.take_of_length_le hlen.le]
  exact if_neg fun ⟨_, hagree⟩ => Bool.false_ne_true ((agree_of_few hlen _).symm.trans hagree)

end Sys2Proof.Machine

open Sys2Proof Sys2Proof.Machine

/-- Settles O57: the first and the last clause are the definitions of the step and of the empty table of words; a tick
is the clock's own where nothing waits for R90. -/
theorem stepTakesTheFrontCommandOrTicks : Obligations.StepTakesTheFrontCommandOrTicks := by
  unfold Obligations.StepTakesTheFrontCommandOrTicks
  refine ⟨fun s c l => rfl, fun s hp ha => ?_, fun s n w => ⟨rfl, rfl⟩⟩
  exact (step_of_pending_nil hp).trans (congrArg _ (judgeLarge_of_no_alarm (s := s.tick) ha))

/-- Settles O4, from what a sample of each kind, the entry to HOLDOVER and its expiries leave of the timebase. -/
theorem ptpSampleAndTimebaseTransitions : Obligations.PtpSampleAndTimebaseTransitions := by
  unfold Obligations.PtpSampleAndTimebaseTransitions
  refine ⟨?outlier, ?accepted, ?candidate, ?timeout, ?quality, ?free⟩
  case outlier =>
    intro s p l o d hrun hl hst ho hn
    have hu := disciplinedSample_outlier (s := s.syncNoted l) (x := s.sampleOf p o d) ho hn
    refine ⟨(s.syncNoted l).disciplinedSample (s.sampleOf p o d), ?_, ?_⟩
    · rw [exec_ptpSyncSample, syncSample_of_servoRuns hrun hl, if_pos hst]
    · rw [hu]
      exact ⟨rfl, hst, rfl, rfl, rfl, rfl, rfl⟩
  case accepted =>
    intro s p l o d hrun hl hst ho
    obtain ⟨t, g, hu, hstate, hrest⟩ :=
      disciplinedSample_accepted (s := s.syncNoted l) (x := s.sampleOf p o d) ho
    refine ⟨{ s with time := t, log := g }, ?_, rfl, hstate.trans hst, hrest⟩
    rw [exec_ptpSyncSample, syncSample_of_servoRuns hrun hl, if_pos hst, hu]
    rfl
  case candidate =>
    intro s p l o d hrun hl hst hfew
    have hu := candidateSample_of_few (s := s.syncNoted l) (x := s.sampleOf p o d) hfew
    refine ⟨(s.syncNoted l).candidateSample (s.sampleOf p o d), ?_, ?_⟩
    · rw [exec_ptpSyncSample, syncSample_of_servoRuns hrun hl, if_neg hst]
    · rw [hu]
      exact ⟨rfl, rfl, rfl, rfl⟩
  case timeout =>
    intro s a hrun hst hlast hnow
    obtain ⟨hlogs, htime, hcode⟩ := holdoverEntry_enters s
    refine ⟨⟨_, syncTimeout_enters hrun hst hlast hnow, hlogs, ?_⟩,
      ⟨_, announceTimeout_enters hrun hst, hlogs, ?_⟩⟩
    all_goals
      rw [htime]
      exact ⟨rfl, rfl, rfl, rfl, rfl, rfl, rfl, hcode⟩
  case quality =>
    intro s hst hnow
    refine ⟨_, ?_, rfl⟩
    rw [exec_holdoverQualityExpiry, execHoldoverQualityExpiry, if_pos ⟨hst, hnow⟩]
  case free =>
    intro s hst hnow
    refine ⟨{ s with time := s.freeTime }, ?_, rfl, rfl, rfl, rfl, rfl, rfl⟩
    rw [exec_holdoverMaxExpiry, execHoldoverMaxExpiry, if_pos ⟨hst, hnow⟩]
    rfl

end

section
/-!
The angle channels: what an edge, a Z mark, a grid instant, a loss and an acknowledgement leave of a channel, and that
the events that follow a channel leave everything else alone (02 R72 to R91).
-/

namespace Sys2Proof.Machine

/-! ### The dispatch of the angle commands -/

theorem exec_encoderEdge (c : Fin 2) (b level : Bool) (sub : Fin 32) (s : State) :
    exec (.encoderEdge c b level sub) s =
      .next (s.onChannel c (fun t => t.encoderEdge c (if b then .b else .a) level (t.edgeTime sub))) := rfl

theorem exec_zEdge (c : Fin 2) (sub : Fin 32) (s : State) :
    exec (.zEdge c sub) s = .next (s.onChannel c (fun t => t.zEdge c (t.edgeTime sub))) := rfl

theorem exec_angleGridUpdate (c : Fin 2) (ph : Fin 65536) (amp : Nat) (s : State) :
    exec (.angleGridUpdate c ph amp) s = execAngleGridUpdate c ph amp s := rfl

theorem exec_signalLoss (c : Fin 2) (s : State) : exec (.signalLoss c) s = execSignalLoss c s := rfl

theorem exec_stopTimeExpiry (c : Fin 2) (s : State) : exec (.stopTimeExpiry c) s = execStopTimeExpiry c s := rfl

theorem exec_angleFaultAck (q : Req) (b : List Nat) (s : State) :
    exec (.angleFaultAck q b) s = execAngleFaultAck q b s := rfl

/-! ### What the events of a channel leave alone (02 R91, 09 R330) -/

/-- `u` is `s` with other rings and with frames that have left the block. -/
def State.ringsOver (s u : State) : Prop := u = { s with ring := u.ring, out := u.out }

theorem State.ringsOver_refl (s : State) : s.ringsOver s := rfl

theorem State.ringsOver.trans {s u v : State} (h : s.ringsOver u) (g : u.ringsOver v) : s.ringsOver v :=
  calc v = { u with ring := v.ring, out := v.out } := g
    _ = { s with ring := v.ring, out := v.out } := by rw [h]

/-- A fold of steps that each change the rings alone changes the rings alone. -/
theorem ringsOver_foldl {α : Type} {f : State → α → State} (hf : ∀ t a, State.ringsOver t (f t a)) (l : List α)
    (s : State) : s.ringsOver (l.foldl f s) := by
  induction l generalizing s with
  | nil => exact s.ringsOver_refl
  | cons a l ih => exact (hf s a).trans (ih _)

/-- The withdrawal of an event that returns to its queue. -/
theorem withdrawEvent_ringsOver (s : State) (r : Nat) (e : QEvent) : s.ringsOver (s.withdrawEvent r true e) := by
  have sent (t : State) (b : FrameBody) : t.ringsOver (t.sendTo r e.pos b) := rfl
  have queued (t : State) (f : Ring → Ring) (g : QEvent → QEvent) :
      t.ringsOver ((t.modRing r f).modEvent r e.uid g) := rfl
  exact ((sent _ _).trans (sent _ _)).trans (queued _ _ _)

theorem suspendRing_ringsOver (s : State) (c r : Nat) : s.ringsOver (s.suspendRing c r) :=
  ringsOver_foldl (fun t e => withdrawEvent_ringsOver t r e) _ s

/-- The events of a channel mark it suspended or predicted, or leave it, and beyond that change the rings alone. -/
theorem angleEvents_cases (s : State) (c : Nat) :
    s.angleEvents c = s ∨ ∃ b, (s.modAngle c (fun y => { y with suspended := b })).ringsOver (s.angleEvents c) := by
  unfold State.angleEvents
  dsimp only
  split
  · exact .inr ⟨false, State.ringsOver_refl _⟩
  · split
    · exact .inl rfl
    · exact .inr ⟨true, ringsOver_foldl (fun t r => suspendRing_ringsOver t c r) _ _⟩

/-- The events of a channel leave everything but the angle unit, the rings and the frames sent. -/
theorem angleEvents_rest (s : State) (c : Nat) :
    s.angleEvents c = { s with angle := (s.angleEvents c).angle, ring := (s.angleEvents c).ring
                               out := (s.angleEvents c).out } := by
  obtain h | ⟨b, h⟩ := angleEvents_cases s c
  · rw [h]
  · rw [h]; rfl

@[simp] theorem angleEvents_time (s : State) (c : Nat) : (s.angleEvents c).time = s.time := by rw [angleEvents_rest]
@[simp] theorem angleEvents_op (s : State) (c : Nat) : (s.angleEvents c).op = s.op := by rw [angleEvents_rest]
@[simp] theorem angleEvents_log (s : State) (c : Nat) : (s.angleEvents c).log = s.log := by rw [angleEvents_rest]

/-- Of the channel itself they change nothing but whether its events stand suspended. -/
theorem angleEvents_self (s : State) (c : Nat) :
    ∃ b, (s.angleEvents c).angleCh c = { s.angleCh c with suspended := b } := by
  obtain h | ⟨b, h⟩ := angleEvents_cases s c
  · exact ⟨_, by rw [h]⟩
  · refine ⟨b, ?_⟩
    rw [h]
    exact angleCh_modAngle_self s c _

theorem angleCh_modAngle_ne (s : State) {c k : Nat} (h : k ≠ c) (f : AngleChannel → AngleChannel) :
    (s.modAngle c f).angleCh k = s.angleCh k := by
  rw [angleCh_modAngle, if_neg h.symm]

theorem angleEvents_others (s : State) {c k : Nat} (hk : k ≠ c) : (s.angleEvents c).angleCh k = s.angleCh k := by
  obtain h | ⟨b, h⟩ := angleEvents_cases s c
  · rw [h]
  · rw [h]
    exact angleCh_modAngle_ne s hk _

/-! ### A step of one channel -/

/-- `u` is `s` with channel `c` become `y`, up to whether its events stand suspended; the other channels, the timebase
and the operational unit are those of `s`. -/
structure State.StepsChannel (s u : State) (c : Nat) (y : AngleChannel) : Prop where
  self : ∃ b, u.angleCh c = { y with suspended := b }
  others : ∀ k, k ≠ c → u.angleCh k = s.angleCh k
  time : u.time = s.time
  op : u.op = s.op

theorem modAngle_stepsChannel (s : State) (c : Nat) (f : AngleChannel → AngleChannel) :
    s.StepsChannel (s.modAngle c f) c (f (s.angleCh c)) :=
  ⟨⟨_, angleCh_modAngle_self s c f⟩, fun _ hk => angleCh_modAngle_ne s hk f, rfl, rfl⟩

theorem State.logsOver.angle {u w : State} (h : u.logsOver w) : u.angle = w.angle := by rw [h.1]

theorem State.logsOver.angleCh {u w : State} (h : u.logsOver w) (k : Nat) : u.angleCh k = w.angleCh k := by
  rw [State.angleCh, h.angle, State.angleCh]

theorem State.StepsChannel.trans {s u v : State} {c : Nat} {y z : AngleChannel} (h : s.StepsChannel u c y)
    (g : u.StepsChannel v c z) : s.StepsChannel v c z :=
  ⟨g.self, fun k hk => (g.others k hk).trans (h.others k hk), g.time.trans h.time, g.op.trans h.op⟩

/-- A channel's step with records and notices over it. -/
theorem State.logsOver.stepsChannel {s u v : State} {c : Nat} {y : AngleChannel} (h : v.logsOver u)
    (g : s.StepsChannel u c y) : s.StepsChannel v c y := by
  obtain ⟨⟨b, hb⟩, hothers, htime, hop⟩ := g
  exact ⟨⟨b, (h.angleCh c).trans hb⟩, fun k hk => (h.angleCh k).trans (hothers k hk), h.time.trans htime, h.op.trans hop⟩

/-- A channel's step with the events that follow it. -/
theorem State.StepsChannel.events {s u : State} {c : Nat} {y : AngleChannel} (h : s.StepsChannel u c y) :
    s.StepsChannel (u.angleEvents c) c y := by
  obtain ⟨⟨b, hb⟩, hothers, htime, hop⟩ := h
  obtain ⟨d, hd⟩ := angleEvents_self u c
  exact ⟨⟨d, by rw [hd, hb]⟩, fun k hk => (angleEvents_others u hk).trans (hothers k hk), by simp [htime], by simp [hop]⟩

/-- While the angle unit runs, a happening at a channel takes place and its events follow. -/
theorem onChannel_of_angleRuns {s : State} (h : s.angleRuns = true) (c : Nat) (f : State → State) :
    s.onChannel c f = (f s).angleEvents c :=
  if_pos h

/-! ### Positions (02 R76) -/

/-- Every setting of a channel gives its revolution at least one position. -/
theorem perRev_pos (s : State) (c : Nat) : 0 < (s.angleCfg c).perRev := by
  have hlines : 0 < (s.angleCfg c).lines := Nat.lt_of_lt_of_le Nat.one_pos (Nat.le_max_left 1 _)
  refine Nat.mul_pos hlines ?_
  unfold AngleCfg.perLine
  split <;> decide

theorem perRev_of_rs422 {g : AngleCfg} (h : g.mode = 1) : g.perRev = 4 * g.lines := by
  simp [AngleCfg.perRev, AngleCfg.perLine, h, Nat.mul_comm]

/-- A move takes the position around the revolution. -/
theorem move_pos (x : AngleChannel) {g : AngleCfg} (hg : 0 < g.perRev) (d : Int) :
    ((x.move g d).pos : Int) = ((x.pos : Int) + d).emod g.perRev :=
  Int.toNat_of_nonneg (Int.emod_nonneg _ (by omega))

/-- A move carries into the revolution count, which wraps at 24 bits. -/
theorem move_rev (x : AngleChannel) (g : AngleCfg) (d : Int) :
    ((x.move g d).rev : Int) = ((x.rev : Int) + ((x.pos : Int) + d).fdiv g.perRev).emod (2 ^ 24) :=
  Int.toNat_of_nonneg (Int.emod_nonneg _ (by decide))

/-! ### Edges of A and B (02 R73, R78) -/

/-- The channel with an edge of A, or of B when `b`, to a level at a time. -/
def AngleChannel.edgeSeen (x : AngleChannel) (b level : Bool) (t : T80) : AngleChannel :=
  if b then { x with levelB := level, edgeB := some t } else { x with levelA := level, edgeA := some t }

/-- Whether an edge of A, or of B when `b`, to a level turns the channel forward (02 R73). -/
def AngleChannel.edgeForward (x : AngleChannel) (g : AngleCfg) (b level : Bool) : Bool :=
  (if b then x.levelA == level else level != x.levelB) != g.reversed

/-- One count the way the shaft turns. -/
def countOf (forward : Bool) : Int := if forward then 1 else -1

/-- The channel one count on, at an edge at a time. -/
def AngleChannel.counted (x : AngleChannel) (g : AngleCfg) (forward : Bool) (t : T80) : AngleChannel :=
  { x.move g (countOf forward) with lastDelta := countOf forward, gridEdge := some t }

/-- The channel after an edge counted at a time: where a line boundary is crossed, the crossing is taken (02 R73,
R78). -/
def AngleChannel.edgeCounted (x : AngleChannel) (g : AngleCfg) (b level : Bool) (t : T80) : AngleChannel :=
  let forward := x.edgeForward g b level
  let z := (x.edgeSeen b level t).counted g forward t
  let crossed : Bool := if forward then z.pos % 4 == 0 else x.pos % 4 == 0
  if crossed then
    z.lineCrossed g (if forward then z.angle g else x.angle g) t forward 0
  else { z with forward := forward }

/-- The channel with its last count undone (02 R73). -/
def AngleChannel.uncounted (x : AngleChannel) (g : AngleCfg) : AngleChannel :=
  { x.move g (-x.lastDelta) with lastDelta := 0 }

/-- Whether an edge lies within the filter time before `t`. -/
def closeEdge (filter t : T80) : Option T80 → Bool
  | some u => decide (t < u + filter)
  | none => false

/-- An edge is ignored; or undoes the last count as an illegal transition; or counts (02 R73). -/
theorem encoderEdge_eq (s : State) (c : Nat) (b level : Bool) (t : T80) :
    let x := s.angleCh c
    let g := s.angleCfg c
    s.encoderEdge c (if b then .b else .a) level t =
      if g.mode ≠ 1 ∨ x.state = .lost ∨ closeEdge g.filter t (if b then x.edgeB else x.edgeA) = true ∨
          level = (if b then x.levelB else x.levelA) then s
      else if closeEdge g.filter t (if b then x.edgeA else x.edgeB) = true then
        (s.modAngle c (fun _ => (x.edgeSeen b level t).uncounted g)).illegalTransition c t
      else s.modAngle c (fun _ => x.edgeCounted g b level t) := by
  cases b <;> rfl

theorem not_closeEdge {filter t : T80} {edge : Option T80}
    (h : edge.all (fun e => decide (e + filter ≤ t)) = true) : ¬ closeEdge filter t edge = true := by
  cases edge with
  | none => exact Bool.false_ne_true
  | some e => simpa [closeEdge] using h

/-- An accepted edge with none within the filter time before it counts. -/
theorem encoderEdge_counts {s : State} {c : Nat} {b level : Bool} {t : T80} (hmode : (s.angleCfg c).mode = 1)
    (hstate : (s.angleCh c).state ≠ .lost)
    (hA : (s.angleCh c).edgeA.all (fun e => decide (e + (s.angleCfg c).filter ≤ t)) = true)
    (hB : (s.angleCh c).edgeB.all (fun e => decide (e + (s.angleCfg c).filter ≤ t)) = true)
    (hlevel : level ≠ (if b then (s.angleCh c).levelB else (s.angleCh c).levelA)) :
    s.encoderEdge c (if b then .b else .a) level t =
      s.modAngle c (fun _ => (s.angleCh c).edgeCounted (s.angleCfg c) b level t) := by
  have hfar (v : Bool) : ¬ closeEdge (s.angleCfg c).filter t
      (if v then (s.angleCh c).edgeB else (s.angleCh c).edgeA) = true := by
    cases v
    · exact not_closeEdge hA
    · exact not_closeEdge hB
  have hother : ¬ closeEdge (s.angleCfg c).filter t
      (if b then (s.angleCh c).edgeA else (s.angleCh c).edgeB) = true := by
    simpa [apply_ite] using hfar (!b)
  rw [encoderEdge_eq]
  rw [if_neg, if_neg hother]
  simp only [not_or]
  exact ⟨not_not.2 hmode, hstate, hfar b, hlevel⟩

/-- An edge closer than the filter to one of the other signal is an illegal transition. -/
theorem encoderEdge_illegal {s : State} {c : Nat} {b level : Bool} {t : T80} (hmode : (s.angleCfg c).mode = 1)
    (hstate : (s.angleCh c).state ≠ .lost)
    (hfar : ¬ closeEdge (s.angleCfg c).filter t (if b then (s.angleCh c).edgeB else (s.angleCh c).edgeA) = true)
    (hclose : closeEdge (s.angleCfg c).filter t (if b then (s.angleCh c).edgeA else (s.angleCh c).edgeB) = true)
    (hlevel : level ≠ (if b then (s.angleCh c).levelB else (s.angleCh c).levelA)) :
    s.encoderEdge c (if b then .b else .a) level t =
      (s.modAngle c (fun _ => ((s.angleCh c).edgeSeen b level t).uncounted (s.angleCfg c))).illegalTransition c t := by
  rw [encoderEdge_eq]
  rw [if_neg, if_pos hclose]
  simp only [not_or]
  exact ⟨not_not.2 hmode, hstate, hfar, hlevel⟩

/-- `y` has the position, the levels, the illegal count and the homing of `z`, and turns forward as `forward` says. -/
structure AngleChannel.TurnsAs (y z : AngleChannel) (forward : Bool) : Prop where
  pos : y.pos = z.pos
  rev : y.rev = z.rev
  levelA : y.levelA = z.levelA
  levelB : y.levelB = z.levelB
  illegalTotal : y.illegalTotal = z.illegalTotal
  homed : y.homed = z.homed
  forward : y.forward = forward

theorem lineCrossed_turnsAs (z : AngleChannel) (g : AngleCfg) (boundary : Int) (t : T80) (forward : Bool) (amp : Nat) :
    (z.lineCrossed g boundary t forward amp).TurnsAs z forward := by
  unfold AngleChannel.lineCrossed
  dsimp only
  split
  · split <;> exact ⟨rfl, rfl, rfl, rfl, rfl, rfl, rfl⟩
  · split <;> exact ⟨rfl, rfl, rfl, rfl, rfl, rfl, rfl⟩
  · exact ⟨rfl, rfl, rfl, rfl, rfl, rfl, rfl⟩

/-- A counted edge turns the channel, whether it crosses a line boundary or not. -/
theorem edgeCounted_turnsAs (x : AngleChannel) (g : AngleCfg) (b level : Bool) (t : T80) :
    (x.edgeCounted g b level t).TurnsAs ((x.edgeSeen b level t).counted g (x.edgeForward g b level) t)
      (x.edgeForward g b level) := by
  have turns (z : AngleChannel) (boundary : Int) (forward crossed : Bool) :
      (if crossed then z.lineCrossed g boundary t forward 0 else { z with forward := forward }).TurnsAs z forward := by
    split
    · exact lineCrossed_turnsAs ..
    · exact ⟨rfl, rfl, rfl, rfl, rfl, rfl, rfl⟩
  exact turns _ _ _ _

/-- An edge seen changes its own level and leaves position, counts and homing. -/
theorem edgeSeen_keeps (x : AngleChannel) (b level : Bool) (t : T80) :
    let y := x.edgeSeen b level t
    y.pos = x.pos ∧ y.rev = x.rev ∧ y.levelA = (if b then x.levelA else level) ∧
      y.levelB = (if b then level else x.levelB) ∧ y.illegalTotal = x.illegalTotal ∧ y.homed = x.homed := by
  cases b <;> exact ⟨rfl, rfl, rfl, rfl, rfl, rfl⟩

/-- What an edge counted leaves of a channel: one position on, around the revolution, with its direction and levels. -/
theorem edgeCounted_counts (x : AngleChannel) {g : AngleCfg} (hg : 0 < g.perRev) (b level : Bool) (t : T80) :
    let y := x.edgeCounted g b level t
    let p : Int := (x.pos : Int) + countOf (x.edgeForward g b level)
    (y.pos : Int) = p.emod g.perRev ∧ (y.rev : Int) = ((x.rev : Int) + p.fdiv g.perRev).emod (2 ^ 24) ∧
      y.forward = x.edgeForward g b level ∧ y.levelA = (if b then x.levelA else level) ∧
      y.levelB = (if b then level else x.levelB) ∧ y.illegalTotal = x.illegalTotal ∧ y.homed = x.homed := by
  obtain ⟨hpos, hrev, hA, hB, htotal, hhomed, hforward⟩ := edgeCounted_turnsAs x g b level t
  obtain ⟨kpos, krev, kA, kB, ktotal, khomed⟩ := edgeSeen_keeps x b level t
  refine ⟨?_, ?_, hforward, hA.trans kA, hB.trans kB, htotal.trans ktotal, hhomed.trans khomed⟩
  · rw [hpos, ← kpos]
    exact move_pos _ hg _
  · rw [hrev, ← kpos, ← krev]
    exact move_rev _ _ _

/-! ### Illegal transitions and losses (02 R78, R80) -/

/-- The channel with an illegal transition counted at a time. -/
def AngleChannel.illegalCounted (x : AngleChannel) (t : T80) : AngleChannel :=
  { x with illegalTotal := inc32 x.illegalTotal, lastIllegal := t, legalRun := 0, crossings := []
           illegalAt := (x.travel :: x.illegalAt).take 9 }

/-- The channel as it becomes SUSPECT. -/
def AngleChannel.suspected (x : AngleChannel) : AngleChannel :=
  { x with state := .suspect, reason := .illegal, suspectEntries := inc32 x.suspectEntries, wLocked := x.w }

/-- The channel as it becomes LOST, with the angle it holds. -/
def AngleChannel.lostAt (x : AngleChannel) (r : AngReason) (held : Nat) : AngleChannel :=
  { x with state := .lost, reason := r, held := held, lostEntries := inc32 x.lostEntries, legalRun := 0
           crossings := [] }

/-- Fewer than eight illegal transitions before one make it no ninth. -/
theorem not_ninth_illegalCounted {x : AngleChannel} (h : x.illegalAt.length < 8) (g : AngleCfg) (t : T80) :
    (x.illegalCounted t).ninth g = false := by
  have hnone : (x.illegalCounted t).illegalAt[8]? = none := by
    refine List.getElem?_eq_none ?_
    simp only [AngleChannel.illegalCounted, List.length_take, List.length_cons]
    omega
  simp only [AngleChannel.ninth, hnone]

/-- An illegal transition of a LOCKED channel with fewer than eight before it makes the channel SUSPECT. -/
theorem illegalTransition_suspects {s : State} {c : Nat} (hstate : (s.angleCh c).state = .locked)
    (hfew : (s.angleCh c).illegalAt.length < 8) (t : T80) :
    s.StepsChannel (s.illegalTransition c t) c ((s.angleCh c).illegalCounted t).suspected := by
  have hself : (s.modAngle c (fun x => x.illegalCounted t)).angleCh c = (s.angleCh c).illegalCounted t :=
    angleCh_modAngle_self ..
  have heq : s.illegalTransition c t =
      (s.modAngle c (fun x => x.illegalCounted t)).modAngle c AngleChannel.suspected := by
    have hninth (g : AngleCfg) : ¬ ((s.modAngle c (fun x => x.illegalCounted t)).angleCh c).ninth g = true := by
      rw [hself, not_ninth_illegalCounted hfew]
      exact Bool.false_ne_true
    exact (if_neg fun h => hninth _ h.2).trans (if_pos ((congrArg AngleChannel.state hself).trans hstate))
  rw [heq, ← hself]
  exact (modAngle_stepsChannel s c _).trans (modAngle_stepsChannel _ c _)

/-- An illegal pair of edges undoes the last count, and makes such a channel SUSPECT. -/
theorem illegalEdge_suspects {s : State} {c : Nat} (hstate : (s.angleCh c).state = .locked)
    (hfew : (s.angleCh c).illegalAt.length < 8) (b level : Bool) (t : T80) :
    s.StepsChannel
      ((s.modAngle c (fun _ => ((s.angleCh c).edgeSeen b level t).uncounted (s.angleCfg c))).illegalTransition c t) c
      ((((s.angleCh c).edgeSeen b level t).uncounted (s.angleCfg c)).illegalCounted t).suspected := by
  have hself : (s.modAngle c (fun _ => ((s.angleCh c).edgeSeen b level t).uncounted (s.angleCfg c))).angleCh c =
      ((s.angleCh c).edgeSeen b level t).uncounted (s.angleCfg c) := angleCh_modAngle_self ..
  have hstate' : (((s.angleCh c).edgeSeen b level t).uncounted (s.angleCfg c)).state = .locked := by
    cases b <;> exact hstate
  have hfew' : (((s.angleCh c).edgeSeen b level t).uncounted (s.angleCfg c)).illegalAt.length < 8 := by
    cases b <;> exact hfew
  rw [← hself] at hstate' hfew'
  have h := (modAngle_stepsChannel s c _).trans (illegalTransition_suspects hstate' hfew' t)
  rwa [hself] at h

/-- A loss takes the channel to LOST with its published angle, and raises the alarm. -/
theorem angleLost_stepsChannel (s : State) (c : Nat) (r : AngReason) :
    s.StepsChannel (s.angleLost c r) c ((s.angleCh c).lostAt r (s.publishedAngle c)) :=
  State.logsOver.stepsChannel (u := s.modAngle c (fun x => x.lostAt r (s.publishedAngle c))) (alarm_logsOver ..)
    (modAngle_stepsChannel s c _)

/-- An alarm raised stands. -/
theorem alarm_alarmOn (s : State) (cls : LogClass) (code idx : Nat) (detail : List Nat) :
    (s.alarm cls code idx detail).alarmOn code idx = true := by
  unfold State.alarm State.alarmOn
  dsimp only
  split
  next h => exact List.contains_iff_mem.2 h
  next => simp

/-- A LOST channel publishes the angle it holds. -/
theorem publishedAngle_of_lost {s : State} {c : Nat} (h : (s.angleCh c).state = .lost) :
    s.publishedAngle c = (s.angleCh c).held := by
  simp only [State.publishedAngle, h]

/-! ### Edges of Z (02 R75) -/

/-- The channel with an edge of Z at a time. -/
def AngleChannel.zSeen (x : AngleChannel) (t : T80) : AngleChannel := { x with edgeZ := some t }

/-- The channel as its first Z edge in forward rotation homes it. -/
def AngleChannel.homedAt (x : AngleChannel) (g : AngleCfg) : AngleChannel :=
  { x with homed := true, pos := if g.mode = 2 then x.pos % 65536 else 0, legalRun := 0, crossings := []
           reason := .noMotion }

theorem zEdge_eq (s : State) (c : Nat) (t : T80) :
    let x := s.angleCh c
    let g := s.angleCfg c
    let z := s.modAngle c (fun y => y.zSeen t)
    s.zEdge c t =
      if g.mode = 0 ∨ closeEdge g.filter t x.edgeZ = true then s
      else if !x.forward ∨ x.state = .lost then z
      else if !x.homed then z.modAngle c (fun y => y.homedAt g)
      else if x.fromZero g > g.zLimit then z.angleLost c .zMismatch
      else z := rfl

section
variable {s : State} {c : Nat} {t : T80} (hmode : (s.angleCfg c).mode ≠ 0)
  (hfar : (s.angleCh c).edgeZ.all (fun e => decide (e + (s.angleCfg c).filter ≤ t)) = true)
  (hforward : (s.angleCh c).forward = true) (hstate : (s.angleCh c).state ≠ .lost)
include hmode hfar hforward hstate

/-- An accepted Z edge in forward rotation homes the channel or checks its position. -/
theorem zEdge_of_forward :
    s.zEdge c t =
      if !(s.angleCh c).homed then (s.modAngle c (fun y => y.zSeen t)).modAngle c (fun y => y.homedAt (s.angleCfg c))
      else if (s.angleCh c).fromZero (s.angleCfg c) > (s.angleCfg c).zLimit then
        (s.modAngle c (fun y => y.zSeen t)).angleLost c .zMismatch
      else s.modAngle c (fun y => y.zSeen t) := by
  rw [zEdge_eq, if_neg, if_neg]
  · simpa [hforward] using hstate
  · exact not_or.2 ⟨hmode, not_closeEdge hfar⟩

theorem zEdge_homes (hhomed : (s.angleCh c).homed = false) :
    s.StepsChannel (s.zEdge c t) c (((s.angleCh c).zSeen t).homedAt (s.angleCfg c)) := by
  have hself : (s.modAngle c (fun y => y.zSeen t)).angleCh c = (s.angleCh c).zSeen t := angleCh_modAngle_self ..
  rw [zEdge_of_forward hmode hfar hforward hstate, if_pos (by rw [hhomed]; rfl), ← hself]
  exact (modAngle_stepsChannel s c _).trans (modAngle_stepsChannel _ c _)

/-- The Z edge of a homed channel: LOST where its position lies off by more than the limit, and else as it was. -/
theorem zEdge_checks (hhomed : (s.angleCh c).homed = true) :
    ∃ y, s.StepsChannel (s.zEdge c t) c y ∧
      y.state = (if (s.angleCh c).fromZero (s.angleCfg c) > (s.angleCfg c).zLimit then .lost else (s.angleCh c).state) ∧
      y.pos = (s.angleCh c).pos ∧ y.homed = true := by
  have hself : (s.modAngle c (fun y => y.zSeen t)).angleCh c = (s.angleCh c).zSeen t := angleCh_modAngle_self ..
  have hseen := modAngle_stepsChannel s c (fun y => y.zSeen t)
  rw [zEdge_of_forward hmode hfar hforward hstate, if_neg (by simp [hhomed])]
  split
  · refine ⟨_, hseen.trans (angleLost_stepsChannel _ c _), ?_⟩
    rw [hself]
    exact ⟨rfl, rfl, hhomed⟩
  · exact ⟨_, hseen, rfl, rfl, hhomed⟩

end

/-! ### Grid instants (02 R80, R82) -/

/-- The time of the grid instant that the present TCLK edge belongs to. -/
def State.gridTime (s : State) : T80 := s.time.t64 / 200 * 200 * 65536

theorem gridInstant_of_rs422 {s : State} {c : Nat} (hmode : (s.angleCfg c).mode = 1) (ph amp : Nat) :
    s.gridInstant c ph amp =
      s.modAngle c (fun y => y.gridUpdate (s.angleCfg c) s.gridTime (y.measureRs (s.angleCfg c) s.gridTime)) := by
  have hmode0 : ¬ (s.angleCfg c).mode = 0 := by omega
  exact (if_neg hmode0).trans (if_pos hmode)

/-- At a grid instant of an RS-422 channel its predictor is updated, and its events follow. -/
theorem angleGridUpdate_updates {s : State} {c : Fin 2} (hrun : s.angleRuns = true) (hgrid : s.time.t64 % 200 < 4)
    (hmode : (s.angleCfg c).mode = 1) (ph : Fin 65536) (amp : Nat) :
    ∃ u, exec (.angleGridUpdate c ph amp) s = .next u ∧
      s.StepsChannel u c ((s.angleCh c).gridUpdate (s.angleCfg c) s.gridTime
        ((s.angleCh c).measureRs (s.angleCfg c) s.gridTime)) := by
  have hu := modAngle_stepsChannel s c
    (fun y => y.gridUpdate (s.angleCfg c) s.gridTime (y.measureRs (s.angleCfg c) s.gridTime))
  refine ⟨_, ?_, hu.events⟩
  rw [exec_angleGridUpdate, execAngleGridUpdate, if_pos hgrid, onChannel_of_angleRuns hrun,
    gridInstant_of_rs422 hmode]

/-- A LOCKED channel that does not resume takes the measurement. -/
theorem gridUpdate_of_locked {x : AngleChannel} (hstate : x.state = .locked) (hresuming : x.resuming = false)
    (g : AngleCfg) (tg : T80) (m : Int) :
    x.gridUpdate g tg m = { x.measured g tg m with gridEdge := none } := by
  simp only [AngleChannel.gridUpdate, hstate, AngleChannel.takeMeasurement, hresuming, Bool.false_eq_true, if_false]

theorem gridUpdate_of_suspect {x : AngleChannel} (hstate : x.state = .suspect) (g : AngleCfg) (tg : T80) (m : Int) :
    x.gridUpdate g tg m = { x.extrapolated tg with gridEdge := none } := by
  simp only [AngleChannel.gridUpdate, hstate]

/-! ### Standstill and acknowledgement (02 R78, R79, R89) -/

/-- The channel as it stands still, homed or not as it was. -/
def AngleChannel.stoodStill (x : AngleChannel) : AngleChannel :=
  { x with state := .stopped, reason := .noMotion, legalRun := 0, crossings := [], w := 0, a := 0, resuming := false }

/-- A write of an object that is heard and admitted, whose bytes and value pass, is carried out and answered OK. -/
theorem serveBytes_of_admitted {s : State} {q : Req} {ss : Session} {key : Nat} {b : List Nat} {r : ObjRow} {d : Nat}
    {effect : State → Session → Val → Served} {u : State} (h : s.hears q ss) (ha : s.admitted q ss key)
    (hr : objRow key = some r) (hb : bytesCheck key r b = (.ok, d)) (hs : s.op.state ≠ .sleep)
    (hrun : effect (s.noted q) ss (r.ty.decode b) = { state := u }) :
    s.serveBytes q key b noCheck effect = u.reply q.session { rid := q.rid, code := .ok } := by
  obtain ⟨e, hgate⟩ : ∃ e, s.gate q.session ss.role key q.epoch = (.ok, e) := ⟨_, Prod.ext ha rfl⟩
  have hawake : ¬ ((s.noted q).op.state = .sleep ∧ sleepGated key) := fun ⟨hsleep, _⟩ => hs hsleep
  unfold State.serveBytes
  rw [hr]
  dsimp only
  unfold State.serveWrite
  rw [serve_of_hears h] <;> simp only [gate_noted, hgate, hb, noCheck, if_neg hawake, hrun]

@[simp] theorem reply_angleCh (s : State) (n : SessionNo) (a : Answer) (k : Nat) :
    (s.reply n a).angleCh k = s.angleCh k := rfl
@[simp] theorem reply_time (s : State) (n : SessionNo) (a : Answer) : (s.reply n a).time = s.time := rfl
@[simp] theorem noted_angleCh (s : State) (q : Req) (k : Nat) : (s.noted q).angleCh k = s.angleCh k := rfl
@[simp] theorem noted_time (s : State) (q : Req) : (s.noted q).time = s.time := rfl

/-- The row of AngleFaultAck (02 R89). -/
def angleFaultAckRow : ObjRow := { oWO 0x5020 0x5020 1 1 .u8 rOM with range := some (0, 1) }

theorem objRow_angleFaultAck : objRow (okey 0x5020 1) = some angleFaultAckRow := rfl

theorem bytesCheck_angleFaultAck (c : Fin 2) : bytesCheck (okey 0x5020 1) angleFaultAckRow [c.val] = (.ok, 0) := by
  revert c
  decide

theorem valNat_angleFaultAck (c : Fin 2) : valNat (angleFaultAckRow.ty.decode [c.val]) = c := by
  revert c
  decide

/-- The acknowledgement of a LOST channel is answered OK, and the channel is homed no more. -/
theorem angleFaultAck_unhomes {s : State} {q : Req} {ss : Session} {c : Fin 2} (h : s.hears q ss)
    (ha : s.admitted q ss (okey 0x5020 1)) (hsleep : s.op.state ≠ .sleep) (hlost : (s.angleCh c).state = .lost) :
    exec (.angleFaultAck q [c.val]) s =
      .next ((((s.noted q).modAngle c AngleChannel.unhome).angleEvents c).reply q.session
        { rid := q.rid, code := .ok }) := by
  rw [exec_angleFaultAck, execAngleFaultAck]
  refine congrArg _ (serveBytes_of_admitted h ha objRow_angleFaultAck (bytesCheck_angleFaultAck c) hsleep ?_)
  have hnoted : ((s.noted q).angleCh c).state = .lost := hlost
  simp only [valNat_angleFaultAck, hnoted, if_true]

end Sys2Proof.Machine

open Sys2Proof Sys2Proof.Machine

/-- Settles O6: an edge of A or B is ignored, counts or is an illegal transition, and a Z edge homes or checks; the events
that follow leave the channel but for their suspension. -/
theorem encoderEdgesAndZeroMark : Obligations.EncoderEdgesAndZeroMark := by
  unfold Obligations.EncoderEdgesAndZeroMark
  refine ⟨?edge, ?illegal, ?homing, ?check⟩
  case edge =>
    intro s c b level sub hrun hmode hstate hA hB hlevel
    obtain ⟨⟨d, hself⟩, hothers, htime, hop⟩ := (modAngle_stepsChannel s c
      (fun _ => (s.angleCh c).edgeCounted (s.angleCfg c) b level (s.edgeTime sub))).events
    obtain ⟨hpos, hrev, hcounted⟩ :=
      edgeCounted_counts (s.angleCh c) (perRev_pos s c) b level (s.edgeTime sub)
    rw [perRev_of_rs422 hmode] at hpos hrev
    obtain ⟨hforward, hlevelA, hlevelB, htotal, hhomed⟩ := hcounted
    refine ⟨_, ?_, ?_, ?_, ?_, ?_, ?_, ?_, ?_, hothers, htime, hop⟩
    · rw [exec_encoderEdge, onChannel_of_angleRuns hrun, encoderEdge_counts hmode hstate hA hB hlevel]
    all_goals rw [hself]
    · exact hpos
    · exact hrev
    · exact hforward
    · exact hlevelA
    · exact hlevelB
    · exact htotal
    · exact hhomed
  case illegal =>
    intro s c level sub e hrun hmode hstate hA hB hclose hlevel hfew
    obtain ⟨⟨d, hself⟩, hothers, htime, hop⟩ :=
      (illegalEdge_suspects hstate hfew false level (s.edgeTime sub)).events
    refine ⟨_, ?_, ?_, ?_, ?_, ?_, ?_, ?_, hothers, htime, hop⟩
    · rw [exec_encoderEdge, onChannel_of_angleRuns hrun]
      exact congrArg (fun u => Host.Outcome.next (State.angleEvents u c)) (encoderEdge_illegal (b := false) hmode
        (by simp [hstate]) (by simp [hA, closeEdge]) (by simpa [hB, closeEdge] using hclose) hlevel)
    all_goals rw [hself]
    · rfl
    · rfl
    · exact move_pos _ (perRev_pos s c) _
    all_goals rfl
  case homing =>
    intro s c sub hrun hmode hfar hforward hstate hhomed
    obtain ⟨⟨d, hself⟩, hothers, htime, hop⟩ := (zEdge_homes hmode hfar hforward hstate hhomed).events
    refine ⟨_, ?_, ?_, ?_, ?_, ?_, ?_, ?_, hothers, htime, hop⟩
    · rw [exec_zEdge, onChannel_of_angleRuns hrun]
    all_goals rw [hself]; rfl
  case check =>
    intro s c sub hrun hmode hfar hforward hstate hhomed
    obtain ⟨y, hy, ystate, ypos, yhomed⟩ := zEdge_checks hmode hfar hforward hstate hhomed
    obtain ⟨⟨d, hself⟩, hothers, htime, hop⟩ := hy.events
    refine ⟨_, ?_, ?_, ?_, ?_, hothers, htime, hop⟩
    · rw [exec_zEdge, onChannel_of_angleRuns hrun]
    all_goals rw [hself]
    · exact ystate
    · exact ypos
    · exact yhomed

/-- Settles O7: what a grid instant, a loss, standstill and an acknowledgement leave of the channel stands under the
events that follow it. -/
theorem angleGridLossStopAndAcknowledge : Obligations.AngleGridLossStopAndAcknowledge := by
  unfold Obligations.AngleGridLossStopAndAcknowledge
  refine ⟨?locked, ?suspect, ?loss, ?stop, ?acknowledge⟩
  case locked =>
    intro s c ph amp hrun hgrid hmode hstate hresuming
    obtain ⟨u, hu, hstep⟩ := angleGridUpdate_updates hrun hgrid hmode ph amp
    rw [gridUpdate_of_locked hstate hresuming] at hstep
    obtain ⟨⟨d, hself⟩, hothers, htime, hop⟩ := hstep
    refine ⟨u, hu, ?_, ?_, ?_, ?_, ?_, ?_, ?_, hothers, htime, hop⟩
    all_goals rw [hself]
    case refine_6 => exact hstate
    all_goals rfl
  case suspect =>
    intro s c ph amp hrun hgrid hmode hstate
    obtain ⟨u, hu, hstep⟩ := angleGridUpdate_updates hrun hgrid hmode ph amp
    rw [gridUpdate_of_suspect hstate] at hstep
    obtain ⟨⟨d, hself⟩, hothers, htime, hop⟩ := hstep
    refine ⟨u, hu, ?_, ?_, ?_, ?_, ?_, hothers, htime, hop⟩
    all_goals rw [hself]
    case refine_5 => exact hstate
    all_goals rfl
  case loss =>
    intro s c hrun hmode hstate
    obtain ⟨⟨d, hself⟩, hothers, htime, hop⟩ := (angleLost_stepsChannel s c .signalLoss).events
    have hlost : (((s.angleLost c .signalLoss).angleEvents c).angleCh c).state = .lost := by rw [hself]; rfl
    refine ⟨_, ?_, hlost, ?_, ?_, ?_, (publishedAngle_of_lost hlost).trans ?_, ?_, hothers, htime, hop⟩
    · rw [exec_signalLoss, execSignalLoss]
      exact congrArg _ ((if_pos ⟨hmode, hstate⟩).trans (onChannel_of_angleRuns hrun c _))
    case refine_6 =>
      rw [State.alarmOn, angleEvents_log]
      exact alarm_alarmOn ..
    all_goals rw [hself]; rfl
  case stop =>
    intro s c hrun hstate hpassed
    obtain ⟨⟨d, hself⟩, hothers, htime, hop⟩ := (modAngle_stepsChannel s c AngleChannel.stoodStill).events
    refine ⟨_, ?_, ?_, ?_, ?_, ?_, ?_, ?_, ?_, hothers, htime, hop⟩
    · rw [exec_stopTimeExpiry, execStopTimeExpiry]
      exact congrArg _ ((if_pos ⟨hstate, hpassed⟩).trans (onChannel_of_angleRuns hrun c _))
    all_goals rw [hself]; rfl
  case acknowledge =>
    intro s q ss c h ha hsleep hlost
    obtain ⟨⟨d, hself⟩, hothers, htime, hop⟩ :=
      (modAngle_stepsChannel (s.noted q) c AngleChannel.unhome).events
    refine ⟨_, angleFaultAck_unhomes h ha hsleep hlost, ?_, ?_, ?_, reply_answers _ q .ok, ?_, ?_, ?_⟩
    case refine_4 =>
      simpa only [reply_angleCh, noted_angleCh] using hothers
    case refine_5 => rw [reply_time, htime, noted_time]
    case refine_6 => rw [reply_op, hop, noted_op]
    all_goals rw [reply_angleCh, hself]; rfl

end

section
/-!
The fixing of a course mark: what it leaves of the angle unit and of the staging slots (02 R87, 07 R261), and a slot
table that lists one slot twice.
-/

namespace Sys2Proof.Machine

theorem exec_courseMarkFix (s : State) : exec .courseMarkFix s = execCourseMarkFix s := rfl

/-- With no mark fixed or awaited, the mark channel LOCKED and forward and a mark due, the mark is fixed, and what waits
for it takes its edge. -/
theorem courseMarkFix_fixes {s : State} {m : FixedMark} (hrun : s.angleRuns = true) (hmark : s.angle.mark = none)
    (hawaited : s.angle.awaited = none) (hstate : (s.angleCh s.markChannel).state = .locked)
    (hforward : s.angleForward s.markChannel = true) (hdue : s.markDue = some m) :
    exec .courseMarkFix s =
      .next (State.markFixed { s with angle := { s.angle with
        mark := some m, nextMarkTime := m.edge, courseNumber := m.course % 2 ^ 32, awaited := none } } m.edge) := by
  rw [exec_courseMarkFix, execCourseMarkFix, if_neg (by simp [hrun, hmark]), hawaited]
  refine congrArg _ ((if_pos ⟨hstate, hforward⟩).trans ?_)
  have hdue' : ({ s with angle := { s.angle with awaited := some s.nextMark.1 } } : State).markDue = some m := hdue
  simp only [hdue']

/-- A mark is due at 7 ns, and the slot table is not canonical: it lists slot 0 as an empty slot, and again as one whose
activation waits for the mark. -/
def slotListedTwice : State :=
  { State.reset with
    op := { state := .service, gaffer := .running .a, sources := [] }
    angle := { ch := [(0, { state := .locked, homed := true, pos := 16383, forward := true, w := 281474976710
                            th := 2 ^ 48 - 7036874417 })] }
    blank := { slots := [(0, {}), (0, { state := .activating, mode := .atMark })] } }

end Sys2Proof.Machine

open Sys2Proof Sys2Proof.Machine

/-- Refutes O8, at its first clause: the statement speaks of every state, with no hypothesis that the slot table has its
canonical form (`twf`). In `slotListedTwice` slot 0 reads as empty; the fixing drops the listed empty entry, and slot 0
then reads as the second entry, with the edge of the mark, where the clause has none. -/
theorem not_courseMarksAndFiringResidual : ¬ Obligations.CourseMarksAndFiringResidual := by
  unfold Obligations.CourseMarksAndFiringResidual
  rintro ⟨hfix, -, -⟩
  have hdue : slotListedTwice.markDue = some ⟨7, 1⟩ := by decide
  have hnext := courseMarkFix_fixes (s := slotListedTwice) rfl rfl rfl rfl (by decide) hdue
  obtain ⟨u, hu, -, hedge, -⟩ :=
    hfix slotListedTwice ⟨7, 1⟩ rfl rfl rfl rfl (by decide) hdue
  obtain rfl := Host.Outcome.next.inj (hnext.symm.trans hu)
  exact absurd (hedge 0) (by decide)

end

section
/-!
Fields of a word that meet, a field of a field, and flags as fields: what puts the bits of a slot together again.
-/

namespace Sys2Proof

@[simp] theorem field_zero {n : Nat} (lo w : Nat) : field (0 : BitVec n) lo w = 0 := by
  unfold field
  apply BitVec.eq_of_getLsbD_eq
  intro i hi
  simp

theorem bit_flag {n : Nat} (x : BitVec n) (i : Nat) : bit (flag x i) = field x i 1 := by
  unfold bit flag field
  apply BitVec.eq_of_getLsbD_eq
  intro j hj
  obtain rfl : j = 0 := by omega
  simp

theorem field_append_field {k hi lo m n : Nat} (x : BitVec k) (h : hi = lo + n) :
    field x hi m ++ field x lo n = field x lo (m + n) := by
  subst h
  unfold field
  apply BitVec.eq_of_getLsbD_eq
  intro i hi
  simp only [BitVec.getLsbD_append, BitVec.getLsbD_extractLsb']
  split
  · simp [*]
  · rw [show lo + n + (i - n) = lo + i by omega]
    simp [show i - n < m by omega, hi]

theorem field_field {n lo w : Nat} (x : BitVec n) (a b : Nat) (h : a + b ≤ w) :
    field (field x lo w) a b = field x (lo + a) b := by
  unfold field
  apply BitVec.eq_of_getLsbD_eq
  intro i hi
  simp [hi, show a + i < w by omega, Nat.add_assoc]

theorem eq_ofNat_of_toNat_eq {n k : Nat} {x : BitVec n} (h : x.toNat = k) : x = BitVec.ofNat n k := by
  rw [← h, BitVec.ofNat_toNat, BitVec.setWidth_eq]

theorem bit_false : bit false = 0 := rfl

@[simp] theorem flag_zero {n : Nat} (i : Nat) : flag (0 : BitVec n) i = false := BitVec.getLsbD_zero

end Sys2Proof

end

section
/-!
The MAC slot (04 R150, R151): the fields of each form fill its 28 bits, and decoding and encoding are inverse.
-/

namespace Sys2Proof

theorem macMultiply_layout (x : BitVec 28) :
    field x 23 5 ++ bit (flag x 22) ++ bit (flag x 21) ++ bit (flag x 20) ++ field x 16 4 ++ field x 12 4 ++
      field x 0 12 = x := by
  simp (disch := rfl) only [bit_flag, field_append_field, field_whole]

theorem macExtract_layout (x : BitVec 28) :
    field x 23 5 ++ bit (flag x 22) ++ field x 20 2 ++ field x 15 5 ++ bit (flag x 14) ++ bit (flag x 13) ++
      field x 9 4 ++ field x 0 9 = x := by
  simp (disch := rfl) only [bit_flag, field_append_field, field_whole]

theorem macClear_layout (x : BitVec 28) :
    field x 23 5 ++ field x 15 8 ++ bit (flag x 14) ++ bit (flag x 13) ++ field x 0 13 = x := by
  simp (disch := rfl) only [bit_flag, field_append_field, field_whole]

theorem macSum_layout (x : BitVec 28) : field x 23 5 ++ bit (flag x 22) ++ field x 0 22 = x := by
  simp (disch := rfl) only [bit_flag, field_append_field, field_whole]

theorem macOpcode_of_macModeForm : ∀ op : BitVec 5, ∀ p ∈ macModeForm op, macOpcode p.1 p.2 = op := by decide

theorem mul_legal_iff {m : MacMode} {fm : MacForm} {f s cj : Bool} {a b : Reg} :
    (MacOp.mul m fm f s cj a b).legal = true ↔ (m ≠ .cmac → cj = false) := by
  simp [MacOp.legal, or_iff_not_imp_left]

theorem lda_legal_iff {s im c : Bool} {n : BitVec 5} {a : Reg} :
    (MacOp.lda s n im c a).legal = true ↔ (c = true → im = false) := by
  cases c <;> simp [MacOp.legal]

theorem decodeMac_encodeMac {op : MacOp} (h : op.legal = true) : decodeMac (encodeMac op) = some op := by
  cases op
  all_goals simp (disch := omega) only [decodeMac, encodeMac, field_above, field_within, flag_above, flag_within,
    Nat.reduceSub, field_whole, flag_bit, field_zero]
  case nop => rfl
  case mul m fm f s cj a b =>
    have hcj := mul_legal_iff.mp h
    cases m <;> cases fm <;> simp [macOpcode, macModeForm, hcj]
  case extH | extW | extC => simpa [MacOp.legal] using h
  case aclr => simpa [MacOp.legal, or_iff_not_imp_left] using h
  case lda => simpa using lda_legal_iff.mp h
  case asum => simp

theorem encodeMac_of_decodeMac {x : BitVec 28} {op : MacOp} (h : decodeMac x = some op) :
    encodeMac op = x ∧ op.legal = true := by
  simp only [decodeMac] at h
  generalize hop : field x 23 5 = o at h
  split at h
  case h_8 => -- a multiply, or an undefined OP
    split at h
    case h_1 m fm hform =>
      have hcode := macOpcode_of_macModeForm o (m, fm) hform
      obtain ⟨⟨hzero, hcj⟩, rfl⟩ := Option.ite_some_none_eq_some.mp h
      exact ⟨by simpa only [encodeMac, hcode, hop, hzero] using macMultiply_layout x, mul_legal_iff.mpr hcj⟩
    case h_2 => cases h
  all_goals
    rename_i hcode
    obtain rfl := eq_ofNat_of_toNat_eq hcode
  case h_1 => -- NOP
    obtain ⟨rfl, rfl⟩ := Option.ite_some_none_eq_some.mp h
    exact ⟨rfl, rfl⟩
  case h_2 => -- EXT.H
    obtain ⟨⟨hzero, hrnd⟩, rfl⟩ := Option.ite_some_none_eq_some.mp h
    exact ⟨by simpa only [encodeMac, hop, hzero, BitVec.ofNat_eq_ofNat] using macExtract_layout x,
      by simpa [MacOp.legal] using hrnd⟩
  case h_3 => -- EXT.W
    obtain ⟨⟨hzero, hrnd, hhi⟩, rfl⟩ := Option.ite_some_none_eq_some.mp h
    exact ⟨by simpa only [encodeMac, hop, hzero, hhi, BitVec.ofNat_eq_ofNat] using macExtract_layout x,
      by simpa [MacOp.legal] using hrnd⟩
  case h_4 => -- EXT.C
    obtain ⟨⟨hzero, hrnd, hhi, has⟩, rfl⟩ := Option.ite_some_none_eq_some.mp h
    exact ⟨by simpa only [encodeMac, hop, hzero, hhi, has, BitVec.ofNat_eq_ofNat] using macExtract_layout x,
      by simpa [MacOp.legal] using hrnd⟩
  case h_5 => -- LDA
    obtain ⟨⟨hzero, hrnd, has⟩, rfl⟩ := Option.ite_some_none_eq_some.mp h
    exact ⟨by simpa only [encodeMac, hop, hzero, hrnd, BitVec.ofNat_eq_ofNat] using macExtract_layout x,
      lda_legal_iff.mpr has⟩
  case h_6 => -- ACLR
    obtain ⟨⟨hhigh, hlow, hsome⟩, rfl⟩ := Option.ite_some_none_eq_some.mp h
    exact ⟨by simpa only [encodeMac, hop, hhigh, hlow, BitVec.ofNat_eq_ofNat] using macClear_layout x,
      by simpa [MacOp.legal] using hsome⟩
  case h_7 => -- ASUM
    obtain ⟨hzero, rfl⟩ := Option.ite_some_none_eq_some.mp h
    exact ⟨by simpa only [encodeMac, hop, hzero, BitVec.ofNat_eq_ofNat] using macSum_layout x, rfl⟩

end Sys2Proof

end

section
/-!
The ALU slot (04 R152, R153): the fields of each form fill its 24 bits, what selects a form, and decoding and
encoding are inverse.
-/

namespace Sys2Proof

theorem aluRegister_layout (x : BitVec 24) :
    field x 18 6 ++ bit (flag x 17) ++ bit (flag x 16) ++ field x 12 4 ++ field x 8 4 ++ field x 4 4 ++ field x 0 4 =
      x := by
  simp (disch := rfl) only [bit_flag, field_append_field, field_whole]

theorem aluImmediate_layout (x : BitVec 24) :
    field x 18 6 ++ bit (flag x 17) ++ bit (flag x 16) ++ field x 12 4 ++ field x 8 4 ++ field x 0 8 = x := by
  simp (disch := rfl) only [bit_flag, field_append_field, field_whole]

theorem aluMask_layout (x : BitVec 24) : field x 18 6 ++ field x 0 18 = x := by
  simp (disch := rfl) only [field_append_field, field_whole]

theorem aluConstant_layout (x : BitVec 24) : field x 22 2 ++ field x 20 2 ++ field x 16 4 ++ field x 0 16 = x := by
  simp (disch := rfl) only [field_append_field, field_whole]

theorem aluRegCode_of_aluRegOf : ∀ op : BitVec 6, ∀ r ∈ aluRegOf op.toNat, aluRegCode r = op := by decide

theorem aluImmCode_of_aluImmOf : ∀ op : BitVec 6, ∀ i ∈ aluImmOf op.toNat, aluImmCode i = op := by decide

@[simp] theorem aluRegOf_aluRegCode (r : AluReg) : aluRegOf (aluRegCode r).toNat = some r := by cases r <;> rfl

@[simp] theorem aluRegOf_aluImmCode (i : AluImm) : aluRegOf (aluImmCode i).toNat = none := by cases i <;> rfl

@[simp] theorem aluImmOf_aluImmCode (i : AluImm) : aluImmOf (aluImmCode i).toNat = some i := by cases i <;> rfl

/-- An OP from 0x01 to 0x2F selects neither the constant form nor the NOP (04 R152). -/
theorem not_const_of_aluOp {x : BitVec 24} {op : BitVec 6} (hop : field x 18 6 = op) (hlow : 1 ≤ op.toNat)
    (hhigh : op.toNat ≤ 0x2F) : field x 22 2 ≠ 3 ∧ x ≠ 0 := by
  constructor
  · rw [← field_field (lo := 18) (w := 6) x 4 2 (by omega), hop]
    clear hop
    revert op
    decide
  · rintro rfl
    rw [field_zero] at hop
    subst hop
    exact absurd hlow (by decide)

theorem decodeAlu_of_aluRegCode {x : BitVec 24} {r : AluReg} (hop : field x 18 6 = aluRegCode r) :
    decodeAlu x =
      if field x 0 4 = 0 ∧ aluRegFieldsOk r (field x 12 4) (field x 8 4) (field x 4 4) = true
      then some (.reg r (flag x 17) (flag x 16) (field x 12 4) (field x 8 4) (field x 4 4)) else none := by
  obtain ⟨hlow, hhigh, hmask⟩ : 1 ≤ (aluRegCode r).toNat ∧ (aluRegCode r).toNat ≤ 0x2F ∧ aluRegCode r ≠ 0x2F := by
    cases r <;> decide
  obtain ⟨hconst, hzero⟩ := not_const_of_aluOp hop hlow hhigh
  rw [decodeAlu, if_neg hconst, if_neg hzero, hop, if_neg hmask]
  simp only [aluRegOf_aluRegCode]

theorem decodeAlu_of_aluImmCode {x : BitVec 24} {i : AluImm} (hop : field x 18 6 = aluImmCode i) :
    decodeAlu x =
      if aluImmFieldsOk i (flag x 17) (flag x 16) (field x 12 4) (field x 8 4) (field x 0 8) = true
      then some (.imm i (flag x 17) (flag x 16) (field x 12 4) (field x 8 4) (field x 0 8)) else none := by
  obtain ⟨hlow, hhigh, hmask⟩ : 1 ≤ (aluImmCode i).toNat ∧ (aluImmCode i).toNat ≤ 0x2F ∧ aluImmCode i ≠ 0x2F := by
    cases i <;> decide
  obtain ⟨hconst, hzero⟩ := not_const_of_aluOp hop hlow hhigh
  rw [decodeAlu, if_neg hconst, if_neg hzero, hop, if_neg hmask]
  simp only [aluRegOf_aluImmCode, aluImmOf_aluImmCode]

theorem decodeAlu_of_mask {x : BitVec 24} (hop : field x 18 6 = 0x2F) : decodeAlu x = some (.mask (field x 0 18)) := by
  obtain ⟨hconst, hzero⟩ := not_const_of_aluOp hop (by decide) (by decide)
  rw [decodeAlu, if_neg hconst, if_neg hzero, if_pos hop]

theorem decodeAlu_encodeAlu {op : AluOp} (h : op.legal = true) : decodeAlu (encodeAlu op) = some op := by
  cases op
  case nop => rfl
  case reg r u s d a b =>
    rw [decodeAlu_of_aluRegCode (r := r)]
    all_goals simp (disch := omega) only [encodeAlu, field_above, field_within, flag_above, flag_within,
      Nat.reduceSub, field_whole, flag_bit]
    exact if_pos ⟨trivial, h⟩
  case imm i u s d a n =>
    rw [decodeAlu_of_aluImmCode (i := i)]
    all_goals simp (disch := omega) only [encodeAlu, field_above, field_within, flag_above, flag_within,
      Nat.reduceSub, field_whole, flag_bit]
    exact if_pos h
  case mask m =>
    rw [decodeAlu_of_mask]
    all_goals simp (disch := omega) only [encodeAlu, field_above, field_within, Nat.reduceSub, field_whole]
  case const k d n =>
    simp (disch := omega) only [decodeAlu, encodeAlu, field_above, field_within, Nat.reduceSub, field_whole]
    cases k <;> rfl

theorem encodeAlu_of_decodeAlu {x : BitVec 24} {op : AluOp} (h : decodeAlu x = some op) :
    encodeAlu op = x ∧ op.legal = true := by
  simp only [decodeAlu] at h
  split_ifs at h with hconst hzero hmask
  · split at h
    case h_4 => cases h
    all_goals
      rename_i hkind
      obtain rfl := Option.some.inj h
      have hkind := eq_ofNat_of_toNat_eq hkind
      exact ⟨by simpa only [encodeAlu, aluConstCode, hconst, hkind, BitVec.ofNat_eq_ofNat] using aluConstant_layout x,
        rfl⟩
  · obtain rfl := Option.some.inj h
    exact ⟨hzero.symm, rfl⟩
  · obtain rfl := Option.some.inj h
    exact ⟨by simpa only [encodeAlu, hmask] using aluMask_layout x, rfl⟩
  · split at h
    case h_1 r hr =>
      have hop := aluRegCode_of_aluRegOf _ r hr
      obtain ⟨⟨hlow, hfields⟩, rfl⟩ := Option.ite_some_none_eq_some.mp h
      exact ⟨by simpa only [encodeAlu, hop, hlow] using aluRegister_layout x, hfields⟩
    case h_2 =>
      split at h
      case h_1 i hi =>
        have hop := aluImmCode_of_aluImmOf _ i hi
        obtain ⟨hfields, rfl⟩ := Option.ite_some_none_eq_some.mp h
        exact ⟨by simpa only [encodeAlu, hop] using aluImmediate_layout x, hfields⟩
      case h_2 => cases h

end Sys2Proof

end

section
/-!
The memory slot (04 R155, R156): the fields of each form fill its 20 bits, and decoding and encoding are inverse.
-/

namespace Sys2Proof

theorem memAccess_layout (x : BitVec 20) :
    field x 16 4 ++ bit (flag x 15) ++ field x 13 2 ++ field x 9 4 ++ bit (flag x 8) ++ field x 0 8 = x := by
  simp (disch := rfl) only [bit_flag, field_append_field, field_whole]

theorem memPair_layout (x : BitVec 20) :
    field x 16 4 ++ field x 12 4 ++ field x 8 4 ++ bit (flag x 7) ++ bit (flag x 6) ++ field x 0 6 = x := by
  simp (disch := rfl) only [bit_flag, field_append_field, field_whole]

theorem memOffset_layout (x : BitVec 20) : field x 16 4 ++ field x 12 4 ++ field x 8 4 ++ field x 0 8 = x := by
  simp (disch := rfl) only [field_append_field, field_whole]

theorem memAmod_layout (x : BitVec 20) :
    field x 16 4 ++ bit (flag x 15) ++ field x 12 3 ++ field x 8 4 ++ field x 0 8 = x := by
  simp (disch := rfl) only [bit_flag, field_append_field, field_whole]

theorem memMultiple_layout (x : BitVec 20) :
    field x 16 4 ++ bit (flag x 15) ++ field x 11 4 ++ bit (flag x 10) ++ field x 0 10 = x := by
  simp (disch := rfl) only [bit_flag, field_append_field, field_whole]

theorem memFence_layout (x : BitVec 20) : field x 16 4 ++ field x 0 16 = x := by
  simp (disch := rfl) only [field_append_field, field_whole]

theorem memSizeCode_of_memSizeOf : ∀ c : BitVec 2, ∀ sz ∈ memSizeOf c, memSizeCode sz = c := by decide

@[simp] theorem memSizeOf_memSizeCode (sz : MemSize) : memSizeOf (memSizeCode sz) = some sz := by cases sz <;> rfl

theorem decodeMem_encodeMem {op : MemOp} (h : op.legal = true) : decodeMem (encodeMem op) = some op := by
  cases op
  all_goals simp (disch := omega) only [decodeMem, encodeMem, field_above, field_within, flag_above, flag_within,
    Nat.reduceSub, field_whole, flag_bit, field_zero]
  case nop => rfl
  case ld | st | ld2 | ldr | str | mfence => simp
  case amod ag sub a =>
    cases sub
    case step =>
      obtain rfl : a = 0 := by simpa [MemOp.legal] using h
      simp [amodCode]
    all_goals simp [amodCode]
  case stm bk base pm | ldm bk base pm => simpa [MemOp.legal, or_iff_not_imp_left] using h

theorem encodeMem_of_decodeMem {x : BitVec 20} {op : MemOp} (h : decodeMem x = some op) :
    encodeMem op = x ∧ op.legal = true := by
  simp only [decodeMem] at h
  split at h
  case h_11 => cases h
  all_goals
    rename_i hcode
    have hop := eq_ofNat_of_toNat_eq hcode
  case h_1 => -- NOP
    obtain ⟨rfl, rfl⟩ := Option.ite_some_none_eq_some.mp h
    exact ⟨rfl, rfl⟩
  case h_2 | h_3 => -- LD, ST
    split at h
    case h_1 sz hsz =>
      obtain ⟨hzero, rfl⟩ := Option.ite_some_none_eq_some.mp h
      have hsize := memSizeCode_of_memSizeOf _ sz hsz
      exact ⟨by simpa only [encodeMem, hop, hsize, hzero, BitVec.ofNat_eq_ofNat] using memAccess_layout x, rfl⟩
    case h_2 => cases h
  case h_4 => -- LD2
    obtain ⟨hzero, rfl⟩ := Option.ite_some_none_eq_some.mp h
    exact ⟨by simpa only [encodeMem, hop, hzero, BitVec.ofNat_eq_ofNat] using memPair_layout x, rfl⟩
  case h_5 | h_6 => -- LDR, STR
    obtain rfl := Option.some.inj h
    exact ⟨by simpa only [encodeMem, hop, BitVec.ofNat_eq_ofNat] using memOffset_layout x, rfl⟩
  case h_7 => -- AMOD
    obtain ⟨hzero, h⟩ := Option.ite_none_right_eq_some.mp h
    generalize hsub : field x 12 3 = sub at h
    split at h
    case h_5 => cases h
    all_goals
      rename_i hcode
      obtain rfl := eq_ofNat_of_toNat_eq hcode
    case h_1 =>
      obtain ⟨ha, rfl⟩ := Option.ite_some_none_eq_some.mp h
      exact ⟨by simpa only [encodeMem, amodCode, hop, hsub, ha, hzero, BitVec.ofNat_eq_ofNat] using memAmod_layout x,
        rfl⟩
    all_goals
      obtain rfl := Option.some.inj h
      exact ⟨by simpa only [encodeMem, amodCode, hop, hsub, hzero, BitVec.ofNat_eq_ofNat] using memAmod_layout x,
        rfl⟩
  case h_8 | h_9 => -- STM, LDM
    obtain ⟨⟨hzero, hbase⟩, rfl⟩ := Option.ite_some_none_eq_some.mp h
    refine ⟨by simpa only [encodeMem, hop, hzero, BitVec.ofNat_eq_ofNat] using memMultiple_layout x, ?_⟩
    simpa [MemOp.legal, field_field, or_iff_not_imp_left] using hbase
  case h_10 => -- MFENCE
    obtain ⟨hzero, rfl⟩ := Option.ite_some_none_eq_some.mp h
    exact ⟨by simpa only [encodeMem, hop, hzero, BitVec.ofNat_eq_ofNat] using memFence_layout x, rfl⟩

end Sys2Proof

end

section
/-!
The flow/switch slot (04 R154, R157, R159): the fields of each form fill its 24 bits, and decoding and encoding are
inverse.
-/

namespace Sys2Proof

theorem flowSwitch_layout (x : BitVec 24) :
    field x 20 4 ++ bit (flag x 19) ++ field x 16 3 ++ field x 12 4 ++ bit (flag x 11) ++ field x 8 3 ++ field x 4 4 ++
      field x 0 4 = x := by
  simp (disch := rfl) only [bit_flag, field_append_field, field_whole]

theorem flowAlu2Register_layout (x : BitVec 24) :
    field x 20 4 ++ field x 14 6 ++ bit (flag x 13) ++ field x 9 4 ++ field x 5 4 ++ field x 1 4 ++ bit (flag x 0) =
      x := by
  simp (disch := rfl) only [bit_flag, field_append_field, field_whole]

theorem flowAlu2Shift_layout (x : BitVec 24) :
    field x 20 4 ++ field x 14 6 ++ bit (flag x 13) ++ field x 9 4 ++ field x 5 4 ++ field x 0 5 = x := by
  simp (disch := rfl) only [bit_flag, field_append_field, field_whole]

theorem flowJump_layout (x : BitVec 24) :
    field x 20 4 ++ field x 17 3 ++ bit (flag x 16) ++ field x 12 4 ++ field x 9 3 ++ field x 0 9 = x := by
  simp (disch := rfl) only [bit_flag, field_append_field, field_whole]

theorem flowCall_layout (x : BitVec 24) :
    field x 20 4 ++ field x 14 6 ++ field x 10 4 ++ bit (flag x 9) ++ field x 0 9 = x := by
  simp (disch := rfl) only [bit_flag, field_append_field, field_whole]

theorem flowPlain_layout (x : BitVec 24) : field x 20 4 ++ field x 0 20 = x := by
  simp (disch := rfl) only [field_append_field, field_whole]

theorem flowReps_layout (x : BitVec 24) : field x 20 4 ++ field x 16 4 ++ field x 0 16 = x := by
  simp (disch := rfl) only [field_append_field, field_whole]

theorem flowRepr_layout (x : BitVec 24) :
    field x 20 4 ++ field x 16 4 ++ field x 12 4 ++ field x 9 3 ++ field x 0 9 = x := by
  simp (disch := rfl) only [field_append_field, field_whole]

theorem flowCtx_layout (x : BitVec 24) : field x 20 4 ++ field x 4 16 ++ field x 0 4 = x := by
  simp (disch := rfl) only [field_append_field, field_whole]

theorem flowTrap_layout (x : BitVec 24) : field x 20 4 ++ field x 8 12 ++ field x 0 8 = x := by
  simp (disch := rfl) only [field_append_field, field_whole]

/-- An SW that moves no token is the all-zero slot (04 R157, R159). -/
theorem eq_zero_of_no_direction {x : BitVec 24} (hop : field x 20 4 = 0) (hlow : field x 0 4 = 0)
    (hrx : flag x 19 = false) (hrxFields : field x 16 3 = 0 ∧ field x 12 4 = 0) (htx : flag x 11 = false)
    (htxFields : field x 8 3 = 0 ∧ field x 4 4 = 0) : x = 0 := by
  rw [← flowSwitch_layout x, hop, hlow, hrx, hrxFields.1, hrxFields.2, htx, htxFields.1, htxFields.2]
  rfl

theorem encodeFlow_sw_ne_zero {rx tx : Bool} (rxp : BitVec 3) (rxd : Reg) (txp : BitVec 3) (txs : Reg)
    (h : rx = true ∨ tx = true) : encodeFlow (.sw rx rxp rxd tx txp txs) ≠ 0 := by
  intro hz
  have hrx : flag (encodeFlow (.sw rx rxp rxd tx txp txs)) 19 = rx := by
    simp (disch := omega) only [encodeFlow, flag_above, flag_within, Nat.reduceSub, flag_bit]
  have htx : flag (encodeFlow (.sw rx rxp rxd tx txp txs)) 11 = tx := by
    simp (disch := omega) only [encodeFlow, flag_above, flag_within, Nat.reduceSub, flag_bit]
  rw [hz, flag_zero] at hrx htx
  simp [← hrx, ← htx] at h

/-- ALU2's shifts by an amount are the OPs from 0x24 to 0x27 (04 R154). -/
theorem alu2Imm_legal_iff (i : AluImm) (s : Bool) (d a : Reg) (n : BitVec 5) :
    (Alu2Op.imm i s d a n).legal = true ↔ 0x24 ≤ (aluImmCode i).toNat ∧ (aluImmCode i).toNat ≤ 0x27 := by
  cases i <;> simp [Alu2Op.legal, aluImmCode]

theorem decodeFlow_of_sw {x : BitVec 24} (hop : field x 20 4 = 0) (hne : x ≠ 0) :
    decodeFlow x =
      if field x 0 4 = 0 ∧ (flag x 19 = false → field x 16 3 = 0 ∧ field x 12 4 = 0)
        ∧ (flag x 11 = false → field x 8 3 = 0 ∧ field x 4 4 = 0)
      then some (.sw (flag x 19) (field x 16 3) (field x 12 4) (flag x 11) (field x 8 3) (field x 4 4)) else none := by
  rw [decodeFlow, hop]
  exact if_neg hne

theorem sw_legal_iff {rx tx : Bool} {rxp txp : BitVec 3} {rxd txs : Reg} :
    (FlowOp.sw rx rxp rxd tx txp txs).legal = true ↔
      (rx = true ∨ tx = true) ∧ (rx = false → rxp = 0 ∧ rxd = 0) ∧ (tx = false → txp = 0 ∧ txs = 0) := by
  cases rx <;> cases tx <;> simp [FlowOp.legal]

theorem jmp_legal_iff {u : Bool} {cond : BitVec 4} {target : BitVec 9} :
    (FlowOp.jmp u cond target).legal = true ↔ (cond = 0 ∨ cond = 15 → u = false) := by
  cases u <;> simp [FlowOp.legal]

theorem call_legal_iff {ind : Bool} {a : Reg} {target : BitVec 9} :
    (FlowOp.call ind a target).legal = true ↔ (ind = true → target = 0) ∧ (ind = false → a = 0) := by
  cases ind <;> simp [FlowOp.legal]

theorem decodeFlow_encodeFlow {op : FlowOp} (h : op.legal = true) : decodeFlow (encodeFlow op) = some op := by
  cases op
  case sw rx rxp rxd tx txp txs =>
    obtain ⟨hdir, hfields⟩ := sw_legal_iff.mp h
    rw [decodeFlow_of_sw ?_ (encodeFlow_sw_ne_zero rxp rxd txp txs hdir)]
    all_goals simp (disch := omega) only [encodeFlow, field_above, field_within, flag_above, flag_within,
      Nat.reduceSub, field_whole, flag_bit]
    exact if_pos ⟨trivial, hfields⟩
  all_goals simp (disch := omega) only [decodeFlow, decodeAlu2, encodeFlow, field_above, field_within, flag_above,
    flag_within, Nat.reduceSub, field_whole, flag_bit, field_zero, flag_zero]
  case nop => rfl
  case ret | reps | repr | brk | ctx | trap => simp
  case alu2Reg r s d a b => simpa [FlowOp.legal, Alu2Op.legal] using h
  case alu2Imm i s d a n => simpa [FlowOp.legal, alu2Imm_legal_iff] using h
  case jmp => simpa using jmp_legal_iff.mp h
  case call => simpa using call_legal_iff.mp h

theorem encodeFlow_of_decodeAlu2 {x : BitVec 24} {op : FlowOp} (hop : field x 20 4 = 1) (h : decodeAlu2 x = some op) :
    encodeFlow op = x ∧ op.legal = true := by
  simp only [decodeAlu2] at h
  split at h
  case h_1 r hr =>
    have hcode := aluRegCode_of_aluRegOf _ r hr
    obtain ⟨⟨hzero, hfields⟩, rfl⟩ := Option.ite_some_none_eq_some.mp h
    exact ⟨by simpa only [encodeFlow, hop, hcode, hzero, bit_false] using flowAlu2Register_layout x, hfields⟩
  case h_2 =>
    split at h
    case h_1 i hi =>
      have hcode := aluImmCode_of_aluImmOf _ i hi
      obtain ⟨hshift, rfl⟩ := Option.ite_some_none_eq_some.mp h
      exact ⟨by simpa only [encodeFlow, hop, hcode] using flowAlu2Shift_layout x,
        (alu2Imm_legal_iff i (flag x 13) (field x 9 4) (field x 5 4) (field x 0 5)).mpr (hcode ▸ hshift)⟩
    case h_2 => cases h

theorem encodeFlow_of_decodeFlow {x : BitVec 24} {op : FlowOp} (h : decodeFlow x = some op) :
    encodeFlow op = x ∧ op.legal = true := by
  simp only [decodeFlow] at h
  generalize hop : field x 20 4 = o at h
  split at h
  case h_11 => cases h
  all_goals
    rename_i hcode
    obtain rfl := eq_ofNat_of_toNat_eq hcode
  case h_2 => exact encodeFlow_of_decodeAlu2 hop h
  case h_1 => -- NOP, SW
    split_ifs at h with hzero hfields
    · obtain rfl := Option.some.inj h
      exact ⟨hzero.symm, rfl⟩
    · obtain rfl := Option.some.inj h
      obtain ⟨hlow, hrx, htx⟩ := hfields
      refine ⟨by simpa only [encodeFlow, hop, hlow, BitVec.ofNat_eq_ofNat] using flowSwitch_layout x, ?_⟩
      refine sw_legal_iff.mpr ⟨?_, hrx, htx⟩
      by_contra hnone
      simp only [not_or, Bool.not_eq_true] at hnone
      exact hzero (eq_zero_of_no_direction hop hlow hnone.1 (hrx hnone.1) hnone.2 (htx hnone.2))
  case h_3 => -- JMP
    obtain ⟨⟨hhigh, hlow, hu⟩, rfl⟩ := Option.ite_some_none_eq_some.mp h
    exact ⟨by simpa only [encodeFlow, hop, hhigh, hlow, BitVec.ofNat_eq_ofNat] using flowJump_layout x,
      jmp_legal_iff.mpr hu⟩
  case h_4 => -- CALL
    obtain ⟨⟨hhigh, hind, hdirect⟩, rfl⟩ := Option.ite_some_none_eq_some.mp h
    exact ⟨by simpa only [encodeFlow, hop, hhigh, BitVec.ofNat_eq_ofNat] using flowCall_layout x,
      call_legal_iff.mpr ⟨hind, hdirect⟩⟩
  case h_5 | h_8 => -- RET, BREAK
    obtain ⟨hzero, rfl⟩ := Option.ite_some_none_eq_some.mp h
    exact ⟨by simpa only [encodeFlow, hop, hzero, BitVec.ofNat_eq_ofNat] using flowPlain_layout x, rfl⟩
  case h_6 => -- REPS
    obtain rfl := Option.some.inj h
    exact ⟨by simpa only [encodeFlow, hop, BitVec.ofNat_eq_ofNat] using flowReps_layout x, rfl⟩
  case h_7 => -- REPR
    obtain ⟨⟨hhigh, hlow⟩, rfl⟩ := Option.ite_some_none_eq_some.mp h
    exact ⟨by simpa only [encodeFlow, hop, hhigh, hlow, BitVec.ofNat_eq_ofNat] using flowRepr_layout x, rfl⟩
  case h_9 => -- CTX
    obtain ⟨hzero, rfl⟩ := Option.ite_some_none_eq_some.mp h
    exact ⟨by simpa only [encodeFlow, hop, hzero, BitVec.ofNat_eq_ofNat] using flowCtx_layout x, rfl⟩
  case h_10 => -- TRAP
    obtain ⟨hzero, rfl⟩ := Option.ite_some_none_eq_some.mp h
    exact ⟨by simpa only [encodeFlow, hop, hzero, BitVec.ofNat_eq_ofNat] using flowTrap_layout x, rfl⟩

end Sys2Proof

end

section
/-!
The instruction word (04 R142): its four slots fill its 96 bits, and decoding and encoding are inverse.
-/

namespace Sys2Proof

theorem joinWord_layout (x : BitVec 96) :
    joinWord (field x 68 28) (field x 44 24) (field x 24 20) (field x 0 24) = x := by
  simp (disch := rfl) only [joinWord, field_append_field, field_whole]

theorem decodeWord_eq_some_iff {x : BitVec 96} {w : TileWord} :
    decodeWord x = some w ↔
      decodeMac (field x 68 28) = some w.mac ∧ decodeAlu (field x 44 24) = some w.alu ∧
        decodeMem (field x 24 20) = some w.mem ∧ decodeFlow (field x 0 24) = some w.flow := by
  unfold decodeWord
  constructor
  · intro h
    split at h
    case h_1 hm ha hd hf =>
      obtain rfl := Option.some.inj h
      exact ⟨hm, ha, hd, hf⟩
    case h_2 => cases h
  · rintro ⟨hm, ha, hd, hf⟩
    rw [hm, ha, hd, hf]

theorem TileWord.legal_iff (w : TileWord) :
    w.legal = true ↔ w.mac.legal = true ∧ w.alu.legal = true ∧ w.mem.legal = true ∧ w.flow.legal = true := by
  simp [TileWord.legal, and_assoc]

theorem decodeWord_encodeWord {w : TileWord} (h : w.legal = true) : decodeWord (encodeWord w) = some w := by
  obtain ⟨hmac, halu, hmem, hflow⟩ := w.legal_iff.mp h
  rw [encodeWord, decodeWord_join, decodeMac_encodeMac hmac, decodeAlu_encodeAlu halu, decodeMem_encodeMem hmem,
    decodeFlow_encodeFlow hflow]

theorem encodeWord_of_decodeWord {x : BitVec 96} {w : TileWord} (h : decodeWord x = some w) :
    encodeWord w = x ∧ w.legal = true := by
  obtain ⟨hm, ha, hd, hf⟩ := decodeWord_eq_some_iff.mp h
  obtain ⟨hmac, hmacLegal⟩ := encodeMac_of_decodeMac hm
  obtain ⟨halu, haluLegal⟩ := encodeAlu_of_decodeAlu ha
  obtain ⟨hmem, hmemLegal⟩ := encodeMem_of_decodeMem hd
  obtain ⟨hflow, hflowLegal⟩ := encodeFlow_of_decodeFlow hf
  refine ⟨?_, w.legal_iff.mpr ⟨hmacLegal, haluLegal, hmemLegal, hflowLegal⟩⟩
  rw [encodeWord, hmac, halu, hmem, hflow, joinWord_layout]

end Sys2Proof

open Sys2Proof

/-- Settles O59, slot by slot: a legal slot decodes from its encoding, and what a slot decodes to names each of its
bits, since the fields of its form fill the slot and those that the form does not name are checked. -/
theorem slotsDecodeAsTheyEncode : Obligations.SlotsDecodeAsTheyEncode :=
  ⟨fun _ => decodeWord_encodeWord, fun _ _ => encodeWord_of_decodeWord⟩

end

section
/-!
The all-zero instruction (04 R144): four empty slots, which land no write, store nothing and move no frame.
-/

namespace Sys2Proof.Machine

theorem exec_nop (t : Fin 1024) (s : State) : exec (.nop t) s = .next (s.issue t 0) := rfl

theorem decodeWord_zero : decodeWord 0 = some ⟨.nop, .nop, .nop, .nop⟩ :=
  decodeWord_encodeWord (w := ⟨.nop, .nop, .nop, .nop⟩) rfl

theorem forbidden_nops (x : Tile) : forbidden x ⟨.nop, .nop, .nop, .nop⟩ = false := by
  have hend (e : RepEntry) : (e.stop == x.pc && movesPc .nop) = false := Bool.and_false _
  unfold forbidden
  dsimp only
  cases x.topRep with
  | none => rfl
  | some e =>
    dsimp only
    rw [hend]
    rfl

@[simp] theorem bankStall_nil (x : Tile) : bankStall x [] = 0 := by
  unfold bankStall
  cases x.busyBank <;> rfl

@[simp] theorem statusAfter_empty (st : TileStatus) : statusAfter st {} {} {} = st := by
  simp [statusAfter, TileStatus.putFlags]

theorem landWrites_empty_window (x : Tile) (w : Nat) : (landWrites x {} {} {} {} []).window w = x.window w := by
  rw [landWrites_win, Tile.window_modWindow]
  split
  · next hw => subst hw; rfl
  · rfl

theorem execute_nops (s : State) (t : Nat) :
    s.execute t ⟨.nop, .nop, .nop, .nop⟩ false 0 =
      s.modTile t (fun _ => { (landWrites (s.tile t) {} {} {} {} []).advance with cyc := (s.tile t).cyc + 1 }) := by
  have hcyc : (s.tile t).cyc + 1 = (s.tile t).cyc + BitVec.ofNat 32 (1 + bankStall (s.tile t) [] + 0 + 0) := by
    rw [bankStall_nil]; rfl
  rw [hcyc]
  rfl

theorem issue_zero {s : State} {t : Nat} (h : s.ready t) :
    s.issue t 0 =
      s.modTile t (fun _ => { (landWrites (s.tile t) {} {} {} {} []).advance with cyc := (s.tile t).cyc + 1 }) := by
  rw [issue_ready h decodeWord_zero (forbidden_nops _) rfl rfl rfl rfl rfl rfl, execute_nops]

end Sys2Proof.Machine

open Sys2Proof Sys2Proof.Machine

/-- Settles O56: each zero slot is the encoding of its NOP, and the issue of four of them lands no write. -/
theorem zeroSlotsAreNops : Obligations.ZeroSlotsAreNops := by
  unfold Obligations.ZeroSlotsAreNops
  refine ⟨⟨decodeMac_encodeMac (op := .nop) rfl, decodeAlu_encodeAlu (op := .nop) rfl,
    decodeMem_encodeMem (op := .nop) rfl, decodeFlow_encodeFlow (op := .nop) rfl, decodeWord_zero, rfl⟩,
    fun s t h => ?_⟩
  have hrest := landWrites_rest (s.tile t) {} {} {} {} [] rfl
  rw [statusAfter_empty] at hrest
  refine ⟨exec_nop t s, ?_, fun w => ?_, ?_⟩
  all_goals rw [issue_zero h]
  · exact onlyTile_modTile _ _ _
  · rw [tile_modTile_self]
    exact landWrites_empty_window (s.tile t) w
  · rw [tile_modTile_self]
    exact advance_rest (s.tile t) _ ((s.tile t).cyc + 1) _ _ _ hrest

end

section
/-!
Tokens that move through the lanes, and tiles that stop: settling changes the tokens of tiles, the flush counters of
tasks and the comparator queues alone, and a stop leaves its tiles free, in context 15 where no window trap held them
back (05 R162 to R170, R188, 03 R133, R134).
-/

namespace Sys2Proof.Machine

/-! ### Reads after a fold -/

/-- What each step of a fold leaves alone, the fold leaves alone. -/
theorem foldl_keeps {α β : Type} {step : State → α → State} {g : State → β} (h : ∀ s a, g (step s a) = g s)
    (l : List α) (s : State) : g (l.foldl step s) = g s := by
  induction l generalizing s with
  | nil => rfl
  | cons a l ih => exact (ih _).trans (h s a)

/-- A read after a fold whose steps each change one numbered unit, the same way however often. -/
theorem read_foldl {β : Type} {step : State → Nat → State} {read : State → Nat → β} {f : β → β}
    (hstep : ∀ s n m, read (step s n) m = if n = m then f (read s n) else read s m) (hf : ∀ x, f (f x) = f x)
    (l : List Nat) (s : State) (m : Nat) :
    read (l.foldl step s) m = if m ∈ l then f (read s m) else read s m := by
  induction l generalizing s with
  | nil => rfl
  | cons n l ih =>
    rw [List.foldl_cons, ih, hstep]
    by_cases hn : n = m
    · subst hn
      simp [hf]
    · simp [hn, Ne.symm hn]

/-- A tile after a fold of changes of single tiles. -/
theorem tile_foldl_modTile {f : Tile → Tile} (hf : ∀ x, f (f x) = f x) (l : List Nat) (s : State) (t : Nat) :
    (l.foldl (fun u k => u.modTile k f) s).tile t = if t ∈ l then f (s.tile t) else s.tile t :=
  read_foldl (read := State.tile) (fun s k t => tile_modTile s k f t) hf l s t

/-! ### Tokens (05 R162, R165, 10 R384) -/

/-- `u` is `s` after tokens have moved: of its tiles, tasks and Quench unit, what holds or counts tokens differs. -/
structure State.tokensMoved (s u : State) : Prop where
  tile : ∀ t, u.tile t = { s.tile t with
    inbuf := (u.tile t).inbuf, parityPort := (u.tile t).parityPort, parityHit := (u.tile t).parityHit }
  task : ∀ n, u.task n = { s.task n with flushed := (u.task n).flushed }
  quench : u.quench = { s.quench with cmp := u.quench.cmp }

theorem State.tokensMoved_refl (s : State) : s.tokensMoved s := ⟨fun _ => rfl, fun _ => rfl, rfl⟩

theorem State.tokensMoved.trans {s u v : State} (h : s.tokensMoved u) (g : u.tokensMoved v) : s.tokensMoved v where
  tile t := by
    rw [g.tile t, h.tile t]
  task n := by
    rw [g.task n, h.task n]
  quench := by
    rw [g.quench, h.quench]

theorem tokensMoved_ite {s u v : State} (c : Prop) [Decidable c] (hu : s.tokensMoved u) (hv : s.tokensMoved v) :
    s.tokensMoved (if c then u else v) := by
  split
  · exact hu
  · exact hv

theorem tokensMoved_foldl {α : Type} {f : State → α → State} (hf : ∀ t a, State.tokensMoved t (f t a)) (l : List α)
    (s : State) : s.tokensMoved (l.foldl f s) := by
  induction l generalizing s with
  | nil => exact s.tokensMoved_refl
  | cons a l ih => exact (hf s a).trans (ih _)

/-- A change of one tile's tokens. -/
theorem modTile_tokensMoved (s : State) (t : Nat) {f : Tile → Tile}
    (hf : ∀ x, f x = { x with
      inbuf := (f x).inbuf, parityPort := (f x).parityPort, parityHit := (f x).parityHit }) :
    s.tokensMoved (s.modTile t f) where
  tile k := by
    rw [tile_modTile]
    split
    next h => subst h; exact hf _
    next => rfl
  task _ := rfl
  quench := rfl

theorem arrive_tokensMoved (s : State) (t q : Nat) (v : Word) : s.tokensMoved (s.arrive t q v) := by
  unfold State.arrive
  refine tokensMoved_ite _ (modTile_tokensMoved s t fun _ => rfl)
    (tokensMoved_ite _ ?_ (modTile_tokensMoved s t fun _ => rfl))
  split
  case h_1 n _ =>
    refine ⟨fun _ => rfl, fun m => ?_, rfl⟩
    rw [task_modTask]
    split
    next h => subst h; rfl
    next => rfl
  case h_2 => exact s.tokensMoved_refl

theorem toComparator_tokensMoved (s : State) (t p : Nat) (v : Word) : s.tokensMoved (s.toComparator t p v) := by
  unfold State.toComparator
  split <;> exact ⟨fun _ => rfl, fun _ => rfl, rfl⟩

theorem sendLane_tokensMoved (s : State) (t p : Nat) (v : Word) : s.tokensMoved (s.sendLane t p v) := by
  unfold State.sendLane
  split
  · exact arrive_tokensMoved ..
  · exact ⟨fun _ => rfl, fun _ => rfl, rfl⟩
  · exact s.tokensMoved_refl

theorem leave_tokensMoved (s : State) (t p : Nat) (v : Word) : s.tokensMoved (s.leave t p v) := by
  have compared (c : Prop) [Decidable c] : s.tokensMoved (if c then s.toComparator t p v else s) :=
    tokensMoved_ite _ (toComparator_tokensMoved ..) s.tokensMoved_refl
  unfold State.leave
  exact tokensMoved_ite _ (compared _) ((compared _).trans (sendLane_tokensMoved ..))

theorem passOne_tokensMoved (s : State) (t q : Nat) : s.tokensMoved (s.passOne t q) := by
  unfold State.passOne
  split
  · exact s.tokensMoved_refl
  · exact (modTile_tokensMoved s t fun _ => rfl).trans
      (tokensMoved_ite _ (arrive_tokensMoved ..) (tokensMoved_foldl (fun u p => leave_tokensMoved u t p _) _ _))

theorem pinToLane_tokensMoved (s : State) (t : Nat) : s.tokensMoved (s.pinToLane t) := by
  unfold State.pinToLane
  split
  · exact s.tokensMoved_refl
  · exact State.tokensMoved.trans (u := s.modPin _ _) ⟨fun _ => rfl, fun _ => rfl, rfl⟩ (arrive_tokensMoved ..)

/-- Settling moves tokens and does nothing else. -/
theorem settle_tokensMoved (n : Nat) (l : List Nat) (s : State) : s.tokensMoved (settle n l s) := by
  fun_induction settle n l s with
  | case1 => exact State.tokensMoved_refl _
  | case2 => exact State.tokensMoved_refl _
  | case3 n t w s q _ ih => exact (passOne_tokensMoved s t q).trans ih
  | case4 n t w s _ _ ih => exact (pinToLane_tokensMoved s t).trans ih
  | case5 n t w s _ _ ih => exact ih

/-! ### Stopped tiles (03 R133, R134, 05 R188) -/

/-- `u` is `s` with the listed tiles stopped and freed and with tokens moved: a listed tile that no window trap holds
back stands in context 15 for the reason, and no trap holds it there. -/
structure State.stops (s u : State) (ts : List Nat) (r : CtxReason) : Prop where
  listed : ∀ t, t ∈ ts → (u.tile t).owner = none ∧
    ((s.tile t).trapping = none → (u.tile t).ctx = 15 ∧ (u.tile t).reason = r ∧ (u.tile t).trapping = none)
  other : ∀ t, t ∉ ts → u.tile t = { s.tile t with
    inbuf := (u.tile t).inbuf, parityPort := (u.tile t).parityPort, parityHit := (u.tile t).parityHit }
  task : ∀ n, u.task n = { s.task n with flushed := (u.task n).flushed }
  quench : u.quench = { s.quench with cmp := u.quench.cmp }

theorem State.stops_nil (s : State) (r : CtxReason) : s.stops s [] r :=
  ⟨fun _ ht => absurd ht List.not_mem_nil, fun _ _ => rfl, fun _ => rfl, rfl⟩

/-- A tile stopped, then a list of tiles. -/
theorem State.stops.cons {s u v : State} {t : Nat} {ts : List Nat} {r : CtxReason} (h : s.stops u [t] r)
    (g : u.stops v ts r) : s.stops v (t :: ts) r where
  listed k hk := by
    by_cases hts : k ∈ ts
    · obtain ⟨hfree, hstop⟩ := g.listed k hts
      refine ⟨hfree, fun hs => hstop ?_⟩
      by_cases hkt : k ∈ [t]
      · exact ((h.listed k hkt).2 hs).2.2
      · rw [h.other k hkt]; exact hs
    · obtain ⟨hfree, hstop⟩ := h.listed k (by simpa [hts] using hk)
      rw [g.other k hts]
      exact ⟨hfree, hstop⟩
  other k hk := by
    obtain ⟨hkt, hts⟩ := not_or.1 (mt List.mem_cons.2 hk)
    rw [g.other k hts, h.other k (by simpa using hkt)]
  task n := by rw [g.task n, h.task n]
  quench := by rw [g.quench, h.quench]

/-- A tile sent to context 15 and freed. -/
theorem freeTile_stops (s : State) (t : Nat) (r : CtxReason) :
    s.stops ((s.stopTile t r).modTile t (fun x => { x with owner := none })) [t] r := by
  unfold State.stopTile
  dsimp only
  split
  case isTrue htrap =>
    refine ⟨fun k hk => ?_, fun k hk => ?_, fun _ => rfl, rfl⟩
    · obtain rfl := List.mem_singleton.1 hk
      rw [tile_modTile_self]
      exact ⟨rfl, fun hs => by simp [hs] at htrap⟩
    · have hkt : ¬ t = k := fun h => hk (by simp [h])
      rw [tile_modTile, if_neg hkt, tile_modTile, if_neg hkt]
  case isFalse =>
    have moved := settle_tokensMoved settleBound (t :: laneNeighbours t) (s.modTile t (fun y => y.enter 15 r))
    rw [← State.settleAt] at moved
    refine ⟨fun k hk => ?_, fun k hk => ?_, moved.task, moved.quench⟩
    · obtain rfl := List.mem_singleton.1 hk
      rw [tile_modTile_self, moved.tile k, tile_modTile_self]
      exact ⟨rfl, fun _ => ⟨rfl, rfl, rfl⟩⟩
    · have hkt : ¬ t = k := fun h => hk (by simp [h])
      rw [tile_modTile, if_neg hkt, moved.tile k, tile_modTile, if_neg hkt]

/-- What a stop of a list of tiles leaves. -/
theorem stopTiles_stops (s : State) (ts : List Nat) (r : CtxReason) : s.stops (s.stopTiles ts r false) ts r := by
  induction ts generalizing s with
  | nil => exact s.stops_nil r
  | cons t ts ih => exact (freeTile_stops s t r).cons (ih _)

/-- A stop of tiles, as the statements speak of it. -/
theorem State.stops.tilesStopped {s u : State} {ts : List Nat} {r : CtxReason} (h : s.stops u ts r) :
    s.tilesStopped u ts r := by
  refine ⟨fun t ht => ?_, fun t ht => ?_⟩
  · obtain ⟨hfree, hstop⟩ := h.listed t ht
    refine ⟨hfree, fun hs => ?_⟩
    obtain ⟨hctx, hreason, -⟩ := hstop hs
    exact ⟨hctx, hreason⟩
  · rw [h.other t (by simpa using ht)]
    exact ⟨rfl, rfl⟩

/-- A running or draining task that is stopped: its tiles in the named clusters are free, and a flush is due. -/
theorem stopTask_stops {s : State} {n : Nat} (h : (s.task n).owning = true) (cs : List Nat) (r : TaskReason)
    (q : CtxReason) :
    let u := s.stopTask n cs r q
    (u.task n).state = .stopped ∧ (u.task n).reason = r ∧ (u.task n).flushDue = true ∧ (u.task n).pending = false ∧
      s.tilesStopped u (s.ownedIn n cs) q := by
  unfold State.stopTask
  dsimp only
  rw [if_pos h, task_modTask_self]
  exact ⟨rfl, rfl, rfl, rfl, (stopTiles_stops s _ q).tilesStopped⟩

/-- A task that owns no tile is stopped alone. -/
theorem stopTask_of_not_owning {s : State} {n : Nat} (h : (s.task n).owning = false) (cs : List Nat) (r : TaskReason)
    (q : CtxReason) : s.stopTask n cs r q = s.modTask n (fun k => k.stopped .stopped r) := by
  unfold State.stopTask
  rw [h]
  rfl

end Sys2Proof.Machine

end

section
/-!
The commands of a task: what a request that is heard and admitted leaves of its task, and how it is answered
(05 R178 to R180, R184, R187, R188, R194).
-/

namespace Sys2Proof.Machine

/-! ### The dispatch of the task commands -/

theorem exec_taskArm (q : Req) (n : Fin 256) (s : State) :
    exec (.taskArm q n) s = .next (s.taskCommand q n (armCheck n) (fun t => t.armOrWake n)) := rfl

theorem exec_taskCancel (q : Req) (n : Fin 256) (s : State) :
    exec (.taskCancel q n) s = .next (s.taskCommand q n
      (fun t _ => firstFail [(!t.taskIn n [.armed, .ready, .running, .draining], .wrongState, 0)])
      (fun t => t.cancelTask n)) := rfl

theorem exec_taskDrain (q : Req) (n : Fin 256) (s : State) :
    exec (.taskDrain q n) s = .next (s.taskCommand q n
      (fun t _ => firstFail [(!t.taskIn n [.running], .wrongState, 0)]) (fun t => t.drainTask n t.now)) := rfl

theorem exec_taskAckFault (q : Req) (n : Fin 256) (s : State) :
    exec (.taskAckFault q n) s = .next (s.taskCommand q n
      (fun t _ => firstFail [(!t.taskIn n [.faulted], .wrongState, 0)])
      (fun t => t.modTask n (fun k => { k with state := .loaded, reason := .none }))) := rfl

theorem exec_taskUnload (q : Req) (n : Fin 256) (s : State) :
    exec (.taskUnload q n) s = .next (s.taskCommand q n
      (fun t _ => firstFail [(!t.taskIn n [.loaded, .stopped, .faulted], .wrongState, 0)])
      (fun t => t.unloadTask n)) := rfl

theorem exec_taskFire (q : Req) (n : Fin 256) (s : State) :
    exec (.taskFire q n) s = .next (s.taskCommand q n
      (fun t _ => firstFail [(t.op.state != .run || !(t.task n).live || (t.task n).kind != .host, .wrongState, 0)])
      (fun t => t.fireTrigger n)) := rfl

/-! ### Serving a write (11 R421) -/

/-- A write that is heard and admitted and whose own checks pass is carried out and answered OK. -/
theorem serveWrite_of_admitted {s : State} {q : Req} {ss : Session} {key d : Nat}
    {check : State → Session → Abort × Nat} {effect : State → Session → Served} {u : State} (h : s.hears q ss)
    (ha : s.admitted q ss key) (hs : s.op.state ≠ .sleep) (hc : check (s.noted q) ss = (.ok, d))
    (hrun : effect (s.noted q) ss = { state := u }) :
    s.serveWrite q key check effect = u.reply q.session { rid := q.rid, code := .ok } := by
  obtain ⟨e, hgate⟩ : ∃ e, s.gate q.session ss.role key q.epoch = (.ok, e) := ⟨_, Prod.ext ha rfl⟩
  have hawake : ¬ ((s.noted q).op.state = .sleep ∧ sleepGated key) := fun ⟨hsleep, _⟩ => hs hsleep
  unfold State.serveWrite
  rw [serve_of_hears h] <;> simp only [gate_noted, hgate, hc, if_neg hawake, hrun]

@[simp] theorem noted_task (s : State) (q : Req) (n : Nat) : (s.noted q).task n = s.task n := rfl

/-- A task's command that is heard and admitted and whose check passes acts and is answered OK. -/
theorem command_of_admitted {s : State} {q : Req} {ss : Session} {n : Nat} {c : Instr}
    {check : State → Session → Abort × Nat} {effect : State → State}
    (hexec : exec c s = .next (s.taskCommand q n check effect)) (h : s.hears q ss)
    (ha : s.admitted q ss (okey (0x3100 + n) 8)) (hs : s.op.state ≠ .sleep) (hc : check (s.noted q) ss = (.ok, 0)) :
    exec c s = .next ((effect (s.noted q)).reply q.session { rid := q.rid, code := .ok }) :=
  hexec.trans (congrArg _ (serveWrite_of_admitted h ha hs hc rfl))

/-- One check that does not fail. -/
theorem firstFail_one {bad : Bool} (h : bad = false) (e : Abort × Nat) : firstFail [(bad, e)] = (.ok, 0) := by
  subst h
  rfl

/-! ### Changes of one task -/

theorem modTask_onlyTask (s : State) (n : Nat) (f : Task → Task) : s.onlyTask (s.modTask n f) n (f (s.task n)) :=
  ⟨rfl, task_modTask_self .., fun m hm => by rw [task_modTask, if_neg hm.symm]⟩

theorem State.onlyTask.trans {s u v : State} {n : Nat} {j k : Task} (h : s.onlyTask u n j) (g : u.onlyTask v n k) :
    s.onlyTask v n k := by
  obtain ⟨hu, -, hother⟩ := h
  obtain ⟨hv, hk, gother⟩ := g
  refine ⟨?_, hk, fun m hm => (gother m hm).trans (hother m hm)⟩
  calc v = { u with array := { u.array with tasks := v.array.tasks } } := hv
    _ = { s with array := { s.array with tasks := v.array.tasks } } := by rw [hu]

/-- A request that changed one task, once it is answered OK. -/
theorem State.onlyTask.told {s u : State} {q : Req} {n : Nat} {k : Task} (h : (s.noted q).onlyTask u n k) :
    s.taskTold (u.reply q.session { rid := q.rid, code := .ok }) q n k := by
  obtain ⟨hu, hk, hother⟩ := h
  refine ⟨reply_answers u q .ok, ?_, hk, hother⟩
  rw [hu]
  rfl

/-! ### Triggers and ends (05 R178 to R180, R184, R188) -/

/-- The trigger of a live task that starts no round fires. -/
theorem fireTrigger_fires {s : State} {n : Nat} (hlive : (s.task n).live = true)
    (hround : (s.task n).multi = false ∨ (s.task n).state ≠ .armed) :
    s.onlyTask (s.fireTrigger n) n ((s.task n).fired s.now) := by
  have counted := modTask_onlyTask s n (fun x => { x with triggers := inc32 x.triggers })
  unfold State.fireTrigger Task.fired
  dsimp only
  rw [if_pos hlive]
  split
  case isTrue harmed =>
    have hsingle : (s.task n).multi = false := hround.resolve_right (not_not_intro harmed)
    unfold State.becomeReady
    dsimp only
    rw [if_neg (by rw [task_modTask_self]; exact fun h => Bool.false_ne_true (hsingle.symm.trans h))]
    have ready := counted.trans
      (modTask_onlyTask _ n (fun k => { k with state := .ready, readyAt := s.now, start := none }))
    rwa [task_modTask_self] at ready
  case isFalse =>
    split
    · have overrun := counted.trans (modTask_onlyTask _ n (fun x => { x with overruns := inc32 x.overruns }))
      rwa [task_modTask_self] at overrun
    · have kept := counted.trans (modTask_onlyTask _ n (fun x => { x with pending := true }))
      rwa [task_modTask_self] at kept

/-- Arming a task whose trigger is not IMMEDIATE. -/
theorem armTask_arms {s : State} {n : Nat} (h : (s.task n).kind ≠ .immediate) :
    s.onlyTask (s.armTask n) n { s.task n with state := .armed, reason := .none, waking := [], pending := false } := by
  unfold State.armTask
  dsimp only
  rw [if_neg (by rw [task_modTask_self]; exact h)]
  exact modTask_onlyTask s n _

/-- A cancel of an ARMED task. -/
theorem cancelTask_of_armed {s : State} {n : Nat} (h : (s.task n).state = .armed) :
    s.onlyTask (s.cancelTask n) n
      { (s.task n).stopped .stopped .cancelledPre with cancelledPre := inc32 (s.task n).cancelledPre } := by
  have howning : (s.task n).owning = false := by simp [Task.owning, h]
  have cancelled := (modTask_onlyTask s n (fun k => k.stopped .stopped .cancelledPre)).trans
    (modTask_onlyTask _ n (fun k => { k with cancelledPre := inc32 k.cancelledPre }))
  rw [task_modTask_self] at cancelled
  simp only [State.cancelTask, h, State.cancelPre, stopTask_of_not_owning howning]
  exact cancelled

/-- RUNNING and DRAINING are the states in which a task owns its tiles (05 R177). -/
theorem owning_iff (k : Task) : k.owning = true ↔ k.state = .running ∨ k.state = .draining := by
  simp [Task.owning]

/-- A cancel of a RUNNING or DRAINING task stops its tiles at home. -/
theorem cancelTask_of_owning {s : State} {n : Nat} (h : (s.task n).state = .running ∨ (s.task n).state = .draining) :
    let u := s.cancelTask n
    (u.task n).state = .stopped ∧ (u.task n).reason = .cancelled ∧ (u.task n).flushDue = true ∧
      (u.task n).pending = false ∧ s.tilesStopped u (s.ownedIn n (s.homeClusters n)) .cancel := by
  have hstop : s.cancelTask n = s.stopTask n (s.homeClusters n) .cancelled .cancel := by
    rcases h with h | h <;> simp only [State.cancelTask, h]
  rw [hstop]
  exact stopTask_stops ((owning_iff _).2 h) _ _ _

/-- A state that the list of a command's states holds. -/
theorem taskIn_of_mem {s : State} {n : Nat} {l : List TaskState} (h : (s.task n).state ∈ l) :
    (!s.taskIn n l) = false := by
  rw [State.taskIn, List.contains_iff_mem.2 h]
  rfl

/-- ARM passes its check. -/
theorem armCheck_of_ready {s : State} {ss : Session} {n : Nat} (hrun : s.op.state = .run)
    (hrole : (s.task n).zone ≠ 0 ∨ ss.role = .safety) (hst : (s.task n).state = .loaded ∨ (s.task n).state = .stopped) :
    armCheck n s ss = (.ok, 0) := by
  have hin := taskIn_of_mem (s := s) (n := n) (l := [.loaded, .stopped]) (by simpa using hst)
  have hzone : ((s.task n).zone == 0 && ss.role != .safety) = false := by
    rcases hrole with h | h <;> simp [h]
  simp [armCheck, firstFail, hzone, hrun, hin]

end Sys2Proof.Machine

open Sys2Proof Sys2Proof.Machine

/-- Settles O24: each command passes its check in the states of R178, acts, and is answered OK; what it does to the task
is the change of the one task, and for a task that owns its tiles the stop of those at home. -/
theorem taskCommandResults : Obligations.TaskCommandResults := by
  unfold Obligations.TaskCommandResults
  refine ⟨?arm, ?wait, ?cancelPre, ?cancel, ?drain, ?ackFault, ?unload, ?fire⟩
  case arm =>
    intro s q ss n h ha hs hrun hrole hst hgated hkind
    refine ⟨_, command_of_admitted (exec_taskArm q n s) h ha hs (armCheck_of_ready hrun hrole hst), ?_⟩
    have hpowered : ((s.noted q).gatedOf n).isEmpty = true := List.isEmpty_iff.2 hgated
    rw [State.armOrWake, if_pos hpowered]
    exact (armTask_arms (s := s.noted q) hkind).told
  case wait =>
    intro s q ss n h ha hs hrun hrole hst hgated
    refine ⟨_, command_of_admitted (exec_taskArm q n s) h ha hs (armCheck_of_ready hrun hrole hst), ?_⟩
    have hwaits : ¬ ((s.noted q).gatedOf n).isEmpty = true := fun hempty => hgated (List.isEmpty_iff.1 hempty)
    rw [State.armOrWake, if_neg hwaits]
    exact (modTask_onlyTask (s.noted q) n _).told
  case cancelPre =>
    intro s q ss n h ha hs hst
    have hin := taskIn_of_mem (s := s.noted q) (n := n) (l := [.armed, .ready, .running, .draining]) (by simp [hst])
    exact ⟨_, command_of_admitted (exec_taskCancel q n s) h ha hs (firstFail_one hin _),
      (cancelTask_of_armed (s := s.noted q) hst).told⟩
  case cancel =>
    intro s q ss n h ha hs hst
    have hin := taskIn_of_mem (s := s.noted q) (n := n) (l := [.armed, .ready, .running, .draining])
      (by rcases hst with hst | hst <;> simp [hst])
    obtain ⟨hstate, hreason, hflush, hpending, hstopped⟩ :=
      cancelTask_of_owning (s := s.noted q) (n := n) (by simpa using hst)
    refine ⟨_, command_of_admitted (exec_taskCancel q n s) h ha hs (firstFail_one hin _), reply_answers _ q .ok, ?_⟩
    generalize (s.noted q).cancelTask n = u at *
    exact ⟨hstate, hreason, hflush, hpending, hstopped⟩
  case drain =>
    intro s q ss n h ha hs hst
    have hin := taskIn_of_mem (s := s.noted q) (n := n) (l := [.running]) (by simp [hst])
    exact ⟨_, command_of_admitted (exec_taskDrain q n s) h ha hs (firstFail_one hin _),
      (modTask_onlyTask (s.noted q) n _).told⟩
  case ackFault =>
    intro s q ss n h ha hs hst
    have hin := taskIn_of_mem (s := s.noted q) (n := n) (l := [.faulted]) (by simp [hst])
    exact ⟨_, command_of_admitted (exec_taskAckFault q n s) h ha hs (firstFail_one hin _),
      (modTask_onlyTask (s.noted q) n _).told⟩
  case unload =>
    intro s q ss n h ha hs hst
    have hin := taskIn_of_mem (s := s.noted q) (n := n) (l := [.loaded, .stopped, .faulted]) (by simpa using hst)
    exact ⟨_, command_of_admitted (exec_taskUnload q n s) h ha hs (firstFail_one hin _),
      (modTask_onlyTask (s.noted q) n _).told⟩
  case fire =>
    intro s q ss n h ha hs hrun hlive hkind hround
    have hmay : ((s.noted q).op.state != .run || !((s.noted q).task n).live || ((s.noted q).task n).kind != .host) =
        false := by simp [hrun, hlive, hkind]
    exact ⟨_, command_of_admitted (exec_taskFire q n s) h ha hs (firstFail_one hmay _),
      (fireTrigger_fires (s := s.noted q) hlive hround).told⟩

end

section
/-!
Triggers, dispatch and the start rounds: what a trigger fires, what a round's packets leave alone, and how the tiles of
a task enter their slots where no lane holds a token (05 R179 to R185).
-/

namespace Sys2Proof.Machine

/-! ### The dispatch of the triggers and starts -/

theorem exec_triggerTime (n : Fin 256) (s : State) : exec (.triggerTime n) s = execTriggerTime n s := rfl

theorem exec_triggerPeriod (n : Fin 256) (s : State) : exec (.triggerPeriod n) s = execTriggerPeriod n s := rfl

theorem exec_triggerAngle (n : Fin 256) (s : State) : exec (.triggerAngle n) s = execTriggerAngle n s := rfl

theorem exec_taskDispatch (c : Fin 64) (s : State) : exec (.taskDispatch c) s = execTaskDispatch c s := rfl

theorem exec_startDecision (n : Fin 256) (s : State) : exec (.startDecision n) s = .next (s.decisionDue n) := rfl

theorem exec_startTick (n : Fin 256) (s : State) : exec (.startTick n) s = .next (s.startDue n) := rfl

/-! ### Triggers (05 R179) -/

/-- The trigger of a live task, noted as fired for an instant or a value, fires. -/
theorem fireFor_fires {s : State} {n : Nat} (a : Nat) (hlive : (s.task n).live = true)
    (hround : (s.task n).multi = false ∨ (s.task n).state ≠ .armed) :
    s.onlyTask ((s.modTask n (fun x => { x with firedAt := some a })).fireTrigger n) n
      ({ s.task n with firedAt := some a }.fired s.now) := by
  have noted := modTask_onlyTask s n (fun x => { x with firedAt := some a })
  have hself : (s.modTask n (fun x => { x with firedAt := some a })).task n = { s.task n with firedAt := some a } :=
    task_modTask_self ..
  have fired := fireTrigger_fires (s := s.modTask n (fun x => { x with firedAt := some a })) (n := n)
    (by rw [hself]; exact hlive) (by rw [hself]; exact hround)
  rw [hself] at fired
  exact noted.trans fired

/-- The last instant of a PERIOD trigger whose phase has come. -/
theorem periodInstant_of_le {param t : Nat} (hp : 1000 ≤ param % 2 ^ 32) (ht : param / 2 ^ 32 ≤ t) :
    periodInstant param t = t - (t - param / 2 ^ 32) % (param % 2 ^ 32) := by
  have hmax : max 1 (param % 2 ^ 32) = param % 2 ^ 32 := by omega
  unfold periodInstant
  dsimp only
  rw [hmax, ← Int.ofNat_sub ht]
  rfl

/-! ### The packets of a start round (05 R183, 06 R233 to R235) -/

/-- Packets sent one after another leave the block and change nothing else. -/
theorem foldl_emit_rest {α : Type} (f : α → Output) (l : List α) (s : State) :
    l.foldl (fun t a => t.emit (f a)) s = { s with out := (l.foldl (fun t a => t.emit (f a)) s).out } := by
  induction l generalizing s with
  | nil => rfl
  | cons a l ih => exact ih (s.emit (f a))

/-- A STAGE takes a tag and leaves the block. -/
theorem sendStage_rest (s : State) (n : Nat) (members : List Nat) (use : TagUse) (msg : StagedMsg) (hold ofs : Nat)
    (onCommit : Bool) :
    (s.sendStage n members use msg hold ofs onCommit).2 =
      { s with net := (s.sendStage n members use msg hold ofs onCommit).2.net
               out := (s.sendStage n members use msg hold ofs onCommit).2.out } := by
  unfold State.sendStage
  split
  · rfl
  · dsimp only
    rw [foldl_emit_rest]
    rfl

/-- A decision notes its tag and leaves the block. -/
theorem sendDecision_rest (s : State) (n tag zone : Nat) (members : List Nat) (commit : Bool) :
    s.sendDecision n tag zone members commit =
      { s with net := (s.sendDecision n tag zone members commit).net
               out := (s.sendDecision n tag zone members commit).out } := by
  unfold State.sendDecision
  split
  · rfl
  · dsimp only
    rw [foldl_emit_rest]
    rfl

/-- The decision of a start round changes the leader's tags alone, with the packets of it. -/
theorem decideStart_rest (s : State) (n : Nat) (commit : Bool) :
    s.decideStart n commit = { s with net := (s.decideStart n commit).net, out := (s.decideStart n commit).out } := by
  unfold State.decideStart
  dsimp only
  split
  · exact sendDecision_rest ..
  · rfl

@[simp] theorem decideStart_array (s : State) (n : Nat) (commit : Bool) : (s.decideStart n commit).array = s.array := by
  rw [decideStart_rest]

@[simp] theorem decideStart_task (s : State) (n : Nat) (commit : Bool) (m : Nat) :
    (s.decideStart n commit).task m = s.task m := by
  rw [decideStart_rest]
  rfl

/-- A round begins: the leader sends STAGE and notes the start tick. -/
theorem stageStart_begins (s : State) (n : Nat) :
    ∃ tag, let u := s.stageStart n
      u.array.tiles = s.array.tiles ∧
      u.task n = { s.task n with
        start := some ⟨s.now + (s.task n).startLead, tag, [], false, [], false⟩ } := by
  unfold State.stageStart
  dsimp only
  rw [task_modTask_self, sendStage_rest]
  exact ⟨_, rfl, rfl⟩

/-- The trigger of an ARMED task of several clusters fires: the task is READY and its round begins. -/
theorem fireTrigger_begins {s : State} {n : Nat} (harmed : (s.task n).state = .armed)
    (hmulti : (s.task n).multi = true) :
    ∃ tag, let u := s.fireTrigger n
      u.array.tiles = s.array.tiles ∧
      u.task n = { s.task n with
        state := .ready, readyAt := s.now, triggers := inc32 (s.task n).triggers
        start := some ⟨s.now + (s.task n).startLead, tag, [], false, [], false⟩ } := by
  have hlive : (s.task n).live = true := by simp [Task.live, harmed]
  let v := s.modTask n (fun x => { x with triggers := inc32 x.triggers })
  have hcounted : (v.task n).multi = true := by rw [task_modTask_self]; exact hmulti
  have hround : s.fireTrigger n =
      (v.modTask n (fun k => { k with state := .ready, readyAt := s.now, start := none })).stageStart n := by
    unfold State.fireTrigger State.becomeReady
    dsimp only
    rw [if_pos hlive, if_pos harmed, if_pos hcounted]
    rfl
  obtain ⟨tag, htiles, htask⟩ := stageStart_begins
    (v.modTask n (fun k => { k with state := .ready, readyAt := s.now, start := none })) n
  simp only [v, task_modTask_self] at htask
  rw [hround]
  exact ⟨tag, htiles, htask⟩

/-! ### Quiet lanes (05 R162) -/

/-- No input buffer holds a token and no pin has one. -/
def State.quiet (s : State) : Prop := (∀ t, (s.tile t).inbuf = []) ∧ ∀ y, (s.pin y).tokens = []

/-- What holds of every listed value and of the default holds of every read. -/
theorem tget_of_all {α : Type} {d : α} {t : Tab α} {p : α → Prop} (hd : p d) (h : ∀ e, e ∈ t → p e.2) (k : Nat) :
    p (tget d t k) := by
  induction t with
  | nil => exact hd
  | cons e t ih =>
    unfold tget
    split
    · exact h _ List.mem_cons_self
    · exact ih fun e he => h e (List.mem_cons_of_mem _ he)

theorem quiet_of_lanesEmpty {s : State} (h : s.lanesEmpty = true) : s.quiet := by
  obtain ⟨htiles, hpins⟩ := Bool.and_eq_true_iff.1 h
  constructor
  · exact tget_of_all (p := fun x : Tile => x.inbuf = []) rfl fun e he =>
      List.isEmpty_iff.1 (List.all_eq_true.1 htiles e he)
  · exact tget_of_all (p := fun x : DioPin => x.tokens = []) rfl fun e he =>
      List.isEmpty_iff.1 (List.all_eq_true.1 hpins e he)

/-- Where no token stands none moves. -/
theorem settle_of_quiet {s : State} (h : s.quiet) (n : Nat) (l : List Nat) : settle n l s = s := by
  have hmovable (t : Nat) : s.movable t = none := if_pos (.inr (h.1 t))
  have hpin (t : Nat) : s.pinReady t = false := by
    have hnone : (tget {} s.io.dio (t / 32)).tokens = [] := h.2 (t / 32)
    simp [State.pinReady, hnone]
  fun_induction settle n l s with
  | case1 => rfl
  | case2 => rfl
  | case3 n t w s q hq _ => simp [hmovable] at hq
  | case4 n t w s _ hp _ => simp [hpin] at hp
  | case5 n t w s _ _ ih => exact ih h hmovable hpin

/-- A change of a tile that moves no token keeps the lanes quiet. -/
theorem State.quiet.modTile {s : State} (h : s.quiet) (t : Nat) {f : Tile → Tile} (hf : ∀ x, (f x).inbuf = x.inbuf) :
    (s.modTile t f).quiet := by
  refine ⟨fun k => ?_, h.2⟩
  rw [tile_modTile]
  split
  · rw [hf, h.1]
  · exact h.1 k

/-! ### Tiles that enter their slots (03 R131, R133, 05 R182) -/

theorem enter_inbuf (x : Tile) (k : Nat) (r : CtxReason) : (x.enter k r).inbuf = x.inbuf := by
  unfold Tile.enter
  dsimp only
  split <;> rfl

theorem enter_owner (x : Tile) (k : Nat) (r : CtxReason) : (x.enter k r).owner = x.owner := by
  unfold Tile.enter
  dsimp only
  split <;> rfl

/-- A tile that enters a slot, as the statements speak of it. -/
theorem enter_enteredFrom (x : Tile) {k : Nat} (hk : k < 15) (r : CtxReason) : (x.enter k r).enteredFrom x k r := by
  unfold Tile.enter
  dsimp only
  rw [if_neg (by omega)]
  exact ⟨rfl, rfl, rfl, rfl, rfl, rfl, rfl, rfl, rfl, rfl, rfl, rfl, rfl, rfl, rfl, rfl, fun _ => rfl, rfl, rfl, rfl⟩

/-- A tile that can enter a slot now: no window trap holds it, and the slot is valid. -/
def Tile.mayEnter (x : Tile) (k : Nat) : Prop := x.trapping = none ∧ k < 15 ∧ x.slotValid k = true

/-- With quiet lanes a tile that may enter a slot enters it. -/
theorem switchTile_enters {s : State} {t k : Nat} (hq : s.quiet) (h : (s.tile t).mayEnter k) :
    s.switchTile t k .dispatch = s.modTile t (fun x => x.enter k .dispatch) := by
  obtain ⟨htrap, hk, hvalid⟩ := h
  have hsettled : (s.modTile t (fun x => x.enter k .dispatch)).settleAt t =
      s.modTile t (fun x => x.enter k .dispatch) :=
    settle_of_quiet (hq.modTile t fun x => enter_inbuf x k .dispatch) _ _
  unfold State.switchTile
  simp [htrap, hvalid, hsettled]

/-- The tiles of a list, each named once, enter their slots: those tiles alone change. -/
theorem foldl_switchTile_enters {l : List (Nat × Nat)} (hl : (l.map (·.1)).Nodup) {s : State} (hq : s.quiet)
    (h : ∀ p, p ∈ l → (s.tile p.1).mayEnter p.2) :
    let u := l.foldl (fun u p => u.switchTile p.1 p.2 .dispatch) s
    (∀ p, p ∈ l → u.tile p.1 = (s.tile p.1).enter p.2 .dispatch) ∧
      (∀ t, t ∉ l.map (·.1) → u.tile t = s.tile t) ∧ u.array.tasks = s.array.tasks := by
  induction l generalizing s with
  | nil => exact ⟨fun _ hp => absurd hp List.not_mem_nil, fun _ _ => rfl, rfl⟩
  | cons e l ih =>
    obtain ⟨he, hl⟩ := List.nodup_cons.1 hl
    have hother (t : Nat) (ht : t ≠ e.1) : (s.modTile e.1 (fun x => x.enter e.2 .dispatch)).tile t = s.tile t := by
      rw [tile_modTile, if_neg ht.symm]
    have hne {p : Nat × Nat} (hp : p ∈ l) : p.1 ≠ e.1 :=
      fun heq => he (List.mem_map.2 ⟨p, hp, heq⟩)
    obtain ⟨hlisted, hrest, htasks⟩ := ih hl (s := s.modTile e.1 (fun x => x.enter e.2 .dispatch))
      (hq.modTile _ fun x => enter_inbuf x _ _)
      (fun p hp => by rw [hother _ (hne hp)]; exact h p (List.mem_cons_of_mem _ hp))
    dsimp only
    rw [List.foldl_cons, switchTile_enters hq (h e List.mem_cons_self)]
    refine ⟨fun p hp => ?_, fun t ht => ?_, htasks⟩
    · rcases List.mem_cons.1 hp with rfl | hp
      · rw [hrest _ he, tile_modTile_self]
      · rw [hlisted p hp, hother _ (hne hp)]
    · obtain ⟨hte, htl⟩ := not_or.1 (mt List.mem_cons.2 ht)
      rw [hrest t htl, hother t hte]

/-! ### Starts (05 R182, R183) -/

/-- Task `n` as it starts at a time. -/
def Task.started (k : Task) (at_ : T64) : Task :=
  { k with state := .running, reason := .none, lastStart := at_, ended := [], start := none, aborts := 0 }

/-- Task `n` is RUNNING from `at_` and owns the listed tiles. -/
def State.claim (s : State) (n : Nat) (at_ : T64) (l : List (Nat × Nat)) : State :=
  l.foldl (fun u p => u.modTile p.1 (fun x => { x with owner := some n })) (s.modTask n (fun k => k.started at_))

/-- Task `n` is RUNNING from `at_`, and each of the listed tiles enters its slot. -/
def State.runTask (s : State) (n : Nat) (at_ : T64) (l : List (Nat × Nat)) : State :=
  l.foldl (fun u p => u.switchTile p.1 p.2 .dispatch) (s.claim n at_ l)

theorem startTask_eq (s : State) (n : Nat) : s.startTask n = s.runTask n s.time.t64 (s.task n).tiles := rfl

theorem claim_tile (s : State) (n : Nat) (at_ : T64) (l : List (Nat × Nat)) (t : Nat) :
    (s.claim n at_ l).tile t = if t ∈ l.map (·.1) then { s.tile t with owner := some n } else s.tile t := by
  rw [State.claim, ← List.foldl_map (f := fun p : Nat × Nat => p.1)
    (g := fun u t => State.modTile u t (fun x => { x with owner := some n })),
    tile_foldl_modTile (f := fun x => { x with owner := some n }) fun _ => rfl]
  rfl

theorem claim_task (s : State) (n : Nat) (at_ : T64) (l : List (Nat × Nat)) (m : Nat) :
    (s.claim n at_ l).task m = if n = m then (s.task n).started at_ else s.task m := by
  rw [← task_modTask s n (fun k => k.started at_)]
  exact foldl_keeps (g := fun u => u.task m)
    (step := fun u p => State.modTile u p.1 (fun x => { x with owner := some n })) (fun _ _ => rfl) l _

theorem claim_quiet {s : State} (h : s.quiet) (n : Nat) (at_ : T64) (l : List (Nat × Nat)) :
    (s.claim n at_ l).quiet := by
  refine ⟨fun t => ?_, ?_⟩
  · rw [claim_tile]
    split <;> exact h.1 t
  · rw [State.claim]
    have hio := foldl_keeps (g := State.io)
      (step := fun u p => State.modTile u p.1 (fun x => { x with owner := some n })) (fun _ _ => rfl) l
      (s.modTask n (fun k => k.started at_))
    unfold State.pin
    rw [hio]
    exact h.2

/-- The tiles of a task that can start, one by one. -/
theorem mayEnter_of_canStart {s : State} {n : Nat} (h : s.canStart n) {p : Nat × Nat} (hp : p ∈ (s.task n).tiles) :
    p.1 < 1024 ∧ (s.tile p.1).mayEnter p.2 := by
  obtain ⟨-, -, hall⟩ := h
  have hone := List.all_eq_true.1 hall p hp
  simp only [Bool.and_eq_true, decide_eq_true_eq, Option.isNone_iff_eq_none] at hone
  obtain ⟨⟨⟨hid, htrap⟩, hslot⟩, hvalid⟩ := hone
  exact ⟨hid, htrap, hslot, hvalid⟩

/-- A task that can start starts, whatever has changed beside the tiles, the tasks and the pins. -/
theorem runTask_hasStarted {s v : State} {n : Nat} (h : s.canStart n) (harray : v.array = s.array)
    (hio : v.io = s.io) : s.hasStarted (v.runTask n s.time.t64 (s.task n).tiles) n := by
  have htile (t : Nat) : v.tile t = s.tile t := by rw [State.tile, harray]; rfl
  have htask (m : Nat) : v.task m = s.task m := by rw [State.task, harray]; rfl
  have hquiet : v.quiet := by
    obtain ⟨hbuf, htokens⟩ := quiet_of_lanesEmpty h.1
    refine ⟨fun t => by rw [htile, hbuf], ?_⟩
    unfold State.pin
    rw [hio]
    exact htokens
  have hkeys (p : Nat × Nat) (hp : p ∈ (s.task n).tiles) : p.1 ∈ (s.task n).tiles.map (·.1) :=
    List.mem_map_of_mem hp
  have howned (p : Nat × Nat) (hp : p ∈ (s.task n).tiles) :
      (v.claim n s.time.t64 (s.task n).tiles).tile p.1 = { s.tile p.1 with owner := some n } := by
    rw [claim_tile, if_pos (hkeys p hp), htile]
  obtain ⟨hlisted, hrest, htasks⟩ := foldl_switchTile_enters h.2.1 (claim_quiet hquiet n s.time.t64 (s.task n).tiles)
    (fun p hp => by rw [howned p hp]; exact (mayEnter_of_canStart h hp).2)
  have hrun (m : Nat) : (v.runTask n s.time.t64 (s.task n).tiles).task m =
      if n = m then (s.task n).started s.time.t64 else s.task m := by
    rw [← htask m, ← congrArg (Task.started · s.time.t64) (htask n), ← claim_task v n _ (s.task n).tiles m]
    exact congrArg (fun t => tget {} t m) htasks
  have hself := (hrun n).trans (if_pos rfl)
  refine ⟨?_, ?_, ?_, ?_, fun p hp => ?_, fun t ht => ?_, fun m hm => (hrun m).trans (if_neg hm.symm)⟩
  iterate 4 rw [hself]; rfl
  · obtain ⟨-, -, hslot, -⟩ := mayEnter_of_canStart h hp
    rw [State.runTask, hlisted p hp, howned p hp]
    exact ⟨enter_owner .., enter_enteredFrom _ hslot _⟩
  · have hfree : t ∉ (s.task n).tiles.map (·.1) := by simpa using ht
    exact (hrest t hfree).trans (by rw [claim_tile, if_neg hfree, htile])

/-- The clusters of a task hold its tiles. -/
theorem tileCluster_mem_clusters {k : Task} {p : Nat × Nat} (hp : p ∈ k.tiles) (hid : p.1 < 1024) :
    tileCluster p.1 ∈ k.clusters := by
  have hcluster : tileCluster p.1 < 64 := by
    unfold tileCluster
    omega
  refine List.mem_filter.2 ⟨List.mem_range.2 hcluster, List.any_eq_true.2 ⟨p, hp, ?_⟩⟩
  exact beq_self_eq_true _

/-- Where a start tick finds COMMIT in every cluster of the task, the task starts. -/
theorem startIn_hasStarted {s : State} {n : Nat} (h : s.canStart n) :
    s.hasStarted (s.startIn n (s.task n).clusters) n := by
  have hall : (s.task n).tiles.filter (fun p => (s.task n).clusters.contains (tileCluster p.1)) = (s.task n).tiles :=
    List.filter_eq_self.2 fun p hp =>
      List.contains_iff_mem.2 (tileCluster_mem_clusters hp (mayEnter_of_canStart h hp).1)
  unfold State.startIn
  dsimp only
  rw [hall]
  refine runTask_hasStarted h ?_ ?_
  · exact foldl_keeps (g := State.array) (step := fun u c => u.unstage c _) (fun _ _ => rfl) _ s
  · exact foldl_keeps (g := State.io) (step := fun u c => u.unstage c _) (fun _ _ => rfl) _ s

/-! ### The decision edge (05 R183) -/

/-- A start failure of a task that runs nowhere yet. -/
theorem startFail_faults {s : State} {n : Nat} (h : (s.task n).owning = false) (code c : Nat) :
    let u := s.startFail n code c
    (u.task n).state = .faulted ∧ (u.task n).faultCause = code ∧ (u.task n).start = none ∧
      u.lastCode = 0x0200 + code := by
  let z := (s.leader (s.task n).zone).getD 0
  have hlogs := record_logsOver s .general .fault z (0x0200 + code) [n, z, c] 0
  have hcode := record_lastCode s .fault z (0x0200 + code) [n, z, c] 0
  have hidle : ¬ ((s.record .general .fault z (0x0200 + code) [n, z, c]).task n).owning = true := by
    rw [State.task, hlogs.array]
    exact fun howning => Bool.false_ne_true (h.symm.trans howning)
  unfold State.startFail
  dsimp only
  rw [if_neg hidle]
  unfold State.faultTask
  rw [task_modTask_self]
  exact ⟨rfl, rfl, rfl, hcode⟩

section
variable {s : State} {n : Nat} {r : StartRound} (hst : (s.task n).state = .ready) (hr : (s.task n).start = some r)
include hst hr

/-- With every ACK the round commits at its decision edge. -/
theorem decisionDue_commits (hopen : r.committed = false) (hdue : r.tick ≤ s.now + 32)
    (hacks : ((s.task n).clusters.all (fun c => r.acks.contains c)) = true) :
    s.decisionDue n =
      (s.decideStart n true).modTask n (fun x => { x with start := some { r with committed := true } }) := by
  have hall : (s.task n).clusters.find? (fun c => !r.acks.contains c) = none := by
    simpa only [List.find?_eq_none, Bool.not_eq_true', Bool.not_eq_false] using List.all_eq_true.1 hacks
  have hcomes : ¬ ((s.task n).state ≠ .ready ∨ r.committed = true ∨ s.now + 32 < r.tick) := by simp [hst, hopen, hdue]
  simp only [State.decisionDue, hr, if_neg hcomes, hall]

/-- Without every ACK the round aborts at its decision edge, for a cluster that sent none. -/
theorem decisionDue_aborts (hopen : r.committed = false) (hdue : r.tick ≤ s.now + 32)
    (hacks : ((s.task n).clusters.all (fun c => r.acks.contains c)) = false) :
    ∃ c, s.decisionDue n = s.abortStart n c := by
  obtain ⟨c, hc⟩ : ∃ c, (s.task n).clusters.find? (fun c => !r.acks.contains c) = some c := by
    rw [← Option.isSome_iff_exists, List.find?_isSome]
    simpa using hacks
  have hcomes : ¬ ((s.task n).state ≠ .ready ∨ r.committed = true ∨ s.now + 32 < r.tick) := by simp [hst, hopen, hdue]
  exact ⟨c, by simp only [State.decisionDue, hr, if_neg hcomes, hc]⟩

/-- At the start tick, with COMMIT held everywhere and no cancel accepted, every cluster dispatches. -/
theorem startDue_starts (hcommitted : r.committed = true) (hdue : r.tick ≤ s.now)
    (hholders : ((s.task n).clusters.all (fun c => r.holders.contains c)) = true) (hdrain : r.drainAtStart = false) :
    s.startDue n = s.startIn n (s.task n).clusters := by
  have hall : (s.task n).clusters.find? (fun c => !r.holders.contains c) = none := by
    simpa only [List.find?_eq_none, Bool.not_eq_true', Bool.not_eq_false] using List.all_eq_true.1 hholders
  have hcomes : ¬ ((s.task n).state ≠ .ready ∨ ¬ r.committed = true ∨ s.now < r.tick) := by
    simp [hst, hcommitted, hdue]
  have hruns : ¬ (r.drainAtStart = true ∧ ((s.startIn n (s.task n).clusters).task n).state = .running) := by
    simp [hdrain]
  simp only [State.startDue, hr, if_neg hcomes, hall, if_neg hruns]

end

/-- A third ABORT in a row is a start failure. -/
theorem abortStart_fails {s : State} {n : Nat} (h : 2 ≤ (s.task n).aborts) (c : Nat) :
    s.abortStart n c = (s.decideStart n false).startFail n 0x80 c :=
  if_pos (Nat.succ_le_succ h)

end Sys2Proof.Machine

open Sys2Proof Sys2Proof.Machine

/-- Settles O25: a trigger that is live and due fires once, a round of several clusters begins with its STAGE and ends
with COMMIT or with the third ABORT, and with quiet lanes the tiles of a started task enter their slots and no token
moves. -/
theorem triggersDispatchAndStarts : Obligations.TriggersDispatchAndStarts := by
  unfold Obligations.TriggersDispatchAndStarts
  refine ⟨?time, ?period, ?angle, ?round, ?dispatch, ?commit, ?abort, ?tick⟩
  case time =>
    intro s n hkind hlive hdue hfired hround
    refine ⟨_, ?_, fireFor_fires _ hlive hround⟩
    rw [exec_triggerTime, execTriggerTime]
    exact congrArg _ (if_pos ⟨hkind, hlive, hdue, hfired⟩)
  case period =>
    intro s n hkind hlive hperiod hphase hround
    have hinstant := periodInstant_of_le hperiod hphase
    dsimp only
    rw [exec_triggerPeriod, execTriggerPeriod, ← hinstant]
    refine ⟨_, rfl, fun hfired => ?_, fun hfired => ?_⟩
    · dsimp only
      rw [if_pos ⟨hkind, hlive, hperiod, hfired⟩]
      exact fireFor_fires _ hlive hround
    · exact if_neg fun ⟨_, _, _, hne⟩ => hne hfired
  case angle =>
    intro s n hkind hlive hreached hfired hround
    refine ⟨_, ?_, fireFor_fires _ hlive hround⟩
    rw [exec_triggerAngle, execTriggerAngle]
    exact congrArg _ (if_pos ⟨hkind, hlive, hreached, hfired⟩)
  case round =>
    intro s n hkind harmed hdue hfired hmulti
    have hlive : (s.task n).live = true := by simp [Task.live, harmed]
    let v := s.modTask n (fun x => { x with firedAt := some (s.task n).param })
    have hself : v.task n = { s.task n with firedAt := some (s.task n).param } := task_modTask_self ..
    obtain ⟨tag, htiles, htask⟩ := fireTrigger_begins (s := v) (n := n) (by rw [hself]; exact harmed)
      (by rw [hself]; exact hmulti)
    rw [hself] at htask
    refine ⟨v.fireTrigger n, ?_, ?_, ?_, ?_, htiles, ?_⟩
    · rw [exec_triggerTime, execTriggerTime]
      exact congrArg _ (if_pos ⟨hkind, hlive, hdue, hfired⟩)
    all_goals rw [htask] <;> rfl
  case dispatch =>
    intro s c n hnext hstart
    refine ⟨s.startTask n, ?_, runTask_hasStarted hstart rfl rfl⟩
    rw [exec_taskDispatch, execTaskDispatch, hnext]
  case commit =>
    intro s n r hst hr hopen hdue hacks
    obtain ⟨-, htask, hother⟩ := modTask_onlyTask (s.decideStart n true) n
      (fun x => { x with start := some { r with committed := true } })
    rw [exec_startDecision, decisionDue_commits hst hr hopen hdue hacks]
    refine ⟨_, rfl, ?_, ?_, fun m hm => ?_⟩
    · rw [htask, decideStart_task]
    · exact (congrArg ArrayUnit.tiles (decideStart_array s n true) :)
    · rw [hother m hm, decideStart_task]
  case abort =>
    intro s n r hst hr hopen hdue hacks haborts
    obtain ⟨c, hc⟩ := decisionDue_aborts hst hr hopen hdue hacks
    have hidle : ((s.decideStart n false).task n).owning = false := by
      simp [Task.owning, hst]
    rw [exec_startDecision, hc, abortStart_fails haborts]
    exact ⟨_, rfl, startFail_faults hidle 0x80 c⟩
  case tick =>
    intro s n r hst hr hcommitted hdue hholders hdrain hstart
    rw [exec_startTick, startDue_starts hst hr hcommitted hdue hholders hdrain]
    exact ⟨_, rfl, startIn_hasStarted hstart⟩

end

section
/-!
Drains, flushes, stops in other clusters, the quench stop and the bridges: what each leaves of tiles, tasks and bridge
records (05 R173, R174, R187, R188, R190, R192, 10 R369).
-/

namespace Sys2Proof.Machine

/-! ### The dispatch of the stops and the bridges -/

theorem exec_drainComplete (n : Fin 256) (s : State) : exec (.drainComplete n) s = execDrainComplete n s := rfl

theorem exec_drainTimeout (n : Fin 256) (s : State) : exec (.drainTimeout n) s = execDrainTimeout n s := rfl

theorem exec_inputFlush (n : Fin 256) (s : State) : exec (.inputFlush n) s = execInputFlush n s := rfl

theorem exec_cancelMessage (n : Fin 256) (c : Fin 64) (s : State) :
    exec (.cancelMessage n c) s = execCancelMessage n c s := rfl

theorem exec_quenchStop (s : State) : exec .quenchStop s = execQuenchStop s := rfl

theorem exec_bridgeOpen (q : Req) (k : Fin 32) (s : State) :
    exec (.bridgeOpen q k) s = .next (s.serveWrite q (okey (0x3010 + k) 4) (bridgeOpenCheck q k)
      (fun t _ => { state := t.modBridge k (fun b => { b with opened := true }) })) := rfl

theorem exec_bridgeClose (q : Req) (k : Fin 32) (s : State) :
    exec (.bridgeClose q k) s = .next (s.serveWrite q (okey (0x3010 + k) 4)
      (fun t _ => firstFail [(t.bridgeUsed k && (t.bridge k).opened, .bridgeInUse, 0)])
      (fun t _ => { state := t.modBridge k (fun b => { b with opened := false }) })) := rfl

/-! ### Flushes (05 R192) -/

/-- The words that a flush discards, where no other task owns a tile of the task. -/
def State.flushable (s : State) (n : Nat) : Nat :=
  ((s.task n).tiles.map (fun p => ((s.tile p.1).inbuf.map (fun e => e.2.length)).sum)).sum + (s.task n).queue.length

/-- A flush of a task whose tiles no other task owns. -/
theorem flushTask_flushes {s : State} {n : Nat}
    (h : ((s.task n).tiles.all (fun p => (s.tile p.1).owner.all (· == n))) = true) :
    let u := s.flushTask n
    u.task n = { s.task n with
      queue := [], flushed := ((s.task n).flushed + s.flushable n) % 2 ^ 32, flushDue := false } ∧
      ∀ t, u.tile t = if t ∈ (s.task n).tiles.map (·.1) then { s.tile t with inbuf := [] } else s.tile t := by
  have hown : ((s.task n).tiles.map (·.1)).filter (fun t => (s.tile t).owner.all (· == n)) =
      (s.task n).tiles.map (·.1) := by
    rw [List.filter_eq_self]
    intro t ht
    obtain ⟨p, hp, rfl⟩ := List.mem_map.1 ht
    exact List.all_eq_true.1 h p hp
  have htask := foldl_keeps (g := fun u => u.task n)
    (step := fun u t => State.modTile u t (fun x => { x with inbuf := [] })) (fun _ _ => rfl)
    ((s.task n).tiles.map (·.1)) s
  have htile := tile_foldl_modTile (f := fun x => { x with inbuf := [] }) (fun _ => rfl)
    ((s.task n).tiles.map (·.1)) s
  unfold State.flushTask
  dsimp only
  rw [hown, task_modTask_self, htask, List.map_map]
  exact ⟨rfl, htile⟩

/-! ### The quench stop (05 R190, 10 R369) -/

/-- A task as the quench stop leaves it. -/
def Task.quenched (k : Task) : Task := if k.zone = 0 ∧ k.live then k.stopped .stopped .quench else k

theorem Task.quenched_quenched (k : Task) : k.quenched.quenched = k.quenched := by
  by_cases h : k.zone = 0 ∧ k.live = true
  · have hq : k.quenched = k.stopped .stopped .quench := if_pos h
    rw [hq]
    exact if_neg fun ⟨_, hlive⟩ => Bool.false_ne_true hlive
  · have hq : k.quenched = k := if_neg h
    rw [hq, hq]

theorem task_quenchTask (s : State) (n m : Nat) :
    (s.quenchTask n).task m = if n = m then (s.task n).quenched else s.task m := by
  unfold State.quenchTask Task.quenched
  split
  · rw [task_modTask]
  · split
    next h => rw [h]
    next => rfl

theorem quenchTask_keeps (s : State) (n : Nat) :
    (s.quenchTask n).array.tiles = s.array.tiles ∧ (s.quenchTask n).quench = s.quench := by
  unfold State.quenchTask
  split <;> exact ⟨rfl, rfl⟩

/-- A key that a table does not list reads as the default. -/
theorem tget_of_not_mem {α : Type} {d : α} {t : Tab α} {k : Nat} (h : k ∉ t.map (·.1)) : tget d t k = d := by
  induction t with
  | nil => rfl
  | cons e t ih =>
    obtain ⟨he, ht⟩ := not_or.1 (mt List.mem_cons.2 h)
    exact (if_neg fun heq => he heq.symm).trans (ih ht)

/-- A quench stop that has reached the tiles of Z0 reaches the tasks, and is due no more. -/
def State.quenchTasks (s : State) : State :=
  let u := s.taskList.foldl State.quenchTask s
  { u with quench := { u.quench with stopDue := false } }

theorem quenchStop_eq (s : State) :
    s.quenchStop = (s.stopTiles ((s.zoneClusters 0).flatMap clusterTiles) .quench false).quenchTasks := by
  unfold State.quenchStop State.quenchTasks State.stopTiles
  simp only [Bool.false_eq_true, if_false]

theorem quenchTasks_tile (s : State) (t : Nat) : s.quenchTasks.tile t = s.tile t :=
  foldl_keeps (g := fun u => u.tile t)
    (fun u n => congrArg (fun l => tget ({} : Tile) l t) (quenchTask_keeps u n).1) s.taskList s

/-- The quench stop of the listed tasks reaches every task: one that is not listed is ABSENT. -/
theorem quenchTasks_task (s : State) (m : Nat) : s.quenchTasks.task m = (s.task m).quenched := by
  refine (read_foldl (read := State.task) task_quenchTask Task.quenched_quenched s.taskList s m).trans ?_
  split
  next => rfl
  next h =>
    have habsent : s.task m = {} := tget_of_not_mem h
    rw [habsent]
    rfl

theorem quenchTasks_quench (s : State) : s.quenchTasks.quench = { s.quench with stopDue := false } :=
  congrArg (fun q : QuenchUnit => { q with stopDue := false })
    (foldl_keeps (g := State.quench) (fun u n => (quenchTask_keeps u n).2) s.taskList s)

/-- What a quench stop leaves, once its tiles are stopped. -/
theorem State.stops.quenchTasks {s v : State} {ts : List Nat} (h : s.stops v ts .quench) :
    let u := v.quenchTasks
    u.quench.stopDue = false ∧ u.armed = s.armed ∧
      (∀ t, t ∈ ts → (u.tile t).owner = none ∧
        ((s.tile t).trapping = none → (u.tile t).ctx = 15 ∧ (u.tile t).reason = .quench)) ∧
      (∀ m, (s.task m).zone = 0 → (s.task m).live = true → (u.task m).state = .stopped ∧ (u.task m).reason = .quench) ∧
      ∀ m, (s.task m).zone ≠ 0 → (u.task m).state = (s.task m).state := by
  refine ⟨?_, ?_, fun t ht => ?_, fun m hzone hlive => ?_, fun m hzone => ?_⟩
  · rw [quenchTasks_quench]
  · unfold State.armed
    rw [quenchTasks_quench, h.quench]
  · obtain ⟨hfree, hstop⟩ := h.listed t ht
    rw [quenchTasks_tile]
    refine ⟨hfree, fun htrap => ?_⟩
    obtain ⟨hctx, hreason, -⟩ := hstop htrap
    exact ⟨hctx, hreason⟩
  · rw [quenchTasks_task, h.task m, Task.quenched, if_pos ⟨hzone, hlive⟩]
    exact ⟨rfl, rfl⟩
  · rw [quenchTasks_task, h.task m, Task.quenched, if_neg fun hz => hzone hz.1]

/-! ### Bridges (05 R173, R174) -/

@[simp] theorem noted_bridge (s : State) (q : Req) (k : Nat) : (s.noted q).bridge k = s.bridge k := rfl
@[simp] theorem noted_zoneOfCluster (s : State) (q : Req) (c : Nat) :
    (s.noted q).zoneOfCluster c = s.zoneOfCluster c := rfl
@[simp] theorem noted_holdsZone (s : State) (q : Req) (n : SessionNo) (z : Nat) :
    (s.noted q).holdsZone n z = s.holdsZone n z := rfl
@[simp] theorem noted_bridgeUsed (s : State) (q : Req) (k : Nat) : (s.noted q).bridgeUsed k = s.bridgeUsed k := rfl

/-- `u` is a request's answer OK, with bridge `k` changed alone. -/
theorem modBridge_told (s : State) (q : Req) (k : Nat) (f : Bridge → Bridge) :
    let u := ((s.noted q).modBridge k f).reply q.session { rid := q.rid, code := .ok }
    u.answers q .ok ∧ u.bridge k = f (s.bridge k) ∧ (∀ j, j ≠ k → u.bridge j = s.bridge j) ∧
      u.array.tiles = s.array.tiles ∧ u.array.tasks = s.array.tasks := by
  refine ⟨reply_answers _ q .ok, bridge_modBridge_self (s.noted q) k f, fun j hj => ?_, rfl, rfl⟩
  exact (bridge_modBridge (s.noted q) k f j).trans (if_neg hj.symm)

/-- Both leases held, adjacent clusters of two zones other than Z0: a bridge may open. The check is unfolded as a
function: at its arguments the kernel would evaluate the zones' cluster maps to compare the two sides. -/
theorem bridgeOpenCheck_passes {s : State} {q : Req} {ss : Session} {k a b : Nat}
    (ha : s.zoneOfCluster (s.bridge k).a = some a) (hb : s.zoneOfCluster (s.bridge k).b = some b)
    (hadj : adjacent (s.bridge k).a (s.bridge k).b = true) (hne : a ≠ b) (hha : s.holdsZone q.session a = true)
    (hhb : s.holdsZone q.session b = true) (ha0 : a ≠ 0) (hb0 : b ≠ 0) : bridgeOpenCheck q k s ss = (.ok, 0) := by
  obtain ⟨check, hcheck⟩ : ∃ check, check = bridgeOpenCheck := ⟨_, rfl⟩
  rw [← hcheck]
  delta bridgeOpenCheck at hcheck
  subst hcheck
  simp [ha, hb, hadj, hne, hha, hhb, ha0, hb0, firstFail]

end Sys2Proof.Machine

open Sys2Proof Sys2Proof.Machine

/-- Settles O26: a drain's end and a cancel stop the tiles that the task owns, a flush empties the buffers of its tiles,
the quench stop is a stop of every tile of Z0 and of its live tasks, and a bridge's write changes its record. -/
theorem drainsFlushesStopsAndBridges : Obligations.DrainsFlushesStopsAndBridges := by
  unfold Obligations.DrainsFlushesStopsAndBridges
  refine ⟨?drained, ?timeout, ?flush, ?message, ?quench, ?opened, ?closed⟩
  case drained =>
    intro s n hst hdrained
    obtain ⟨hstate, hreason, hflush, -, hstopped⟩ :=
      stopTask_stops ((owning_iff _).2 (.inr hst)) (s.task n).clusters .drained .cancel
    refine ⟨_, ?_, hstate, hreason, hflush, hstopped⟩
    rw [exec_drainComplete, execDrainComplete, if_pos ⟨hst, hdrained⟩]
  case timeout =>
    intro s n hst hdue
    obtain ⟨hstate, hreason, hflush, -, hstopped⟩ :=
      stopTask_stops ((owning_iff _).2 (.inr hst)) (s.task n).clusters .drainTimeout .cancel
    refine ⟨_, ?_, hstate, hreason, hflush, hstopped⟩
    rw [exec_drainTimeout, execDrainTimeout]
    exact congrArg _ (if_pos ⟨hst, hdue⟩)
  case flush =>
    intro s n hdue _ hown
    obtain ⟨htask, htile⟩ := flushTask_flushes hown
    rw [exec_inputFlush, execInputFlush, if_pos hdue]
    refine ⟨_, rfl, ?_, ?_, ?_, ?_, fun p hp => ?_, fun t ht => ?_⟩
    · rw [htask]
    · rw [htask]
    · rw [htask]
    · rw [htask, State.flushable, Nat.add_assoc]
    · exact (htile p.1).trans (if_pos (List.mem_map_of_mem hp))
    · exact (htile t).trans (if_neg (by simpa using ht))
  case message =>
    intro s n c hst
    have hstops := stopTiles_stops s (s.ownedIn n [c.val]) .cancel
    have hpeer : ((s.task n).state == .faulted) = false := by rw [hst]; rfl
    refine ⟨_, ?_, hstops.tilesStopped, ?_, ?_⟩
    · rw [exec_cancelMessage, execCancelMessage]
      dsimp only
      rw [if_pos (.inl hst), hpeer]
    · rw [hstops.task n]; exact hst
    · rw [hstops.task n]
  case quench =>
    intro s hdue
    obtain ⟨hdone, harmed, htiles, htasks, hothers⟩ :=
      (stopTiles_stops s ((s.zoneClusters 0).flatMap clusterTiles) .quench).quenchTasks
    rw [exec_quenchStop, execQuenchStop, if_pos hdue, quenchStop_eq]
    exact ⟨_, rfl, hdone, harmed, fun c hc t ht => htiles t (List.mem_flatMap.2 ⟨c, hc, ht⟩), htasks, hothers⟩
  case opened =>
    intro s q ss k a b h ha hs hza hzb hadj hne hha hhb ha0 hb0
    have hcheck : bridgeOpenCheck q k (s.noted q) ss = (.ok, 0) :=
      bridgeOpenCheck_passes (by simpa using hza) (by simpa using hzb) hadj hne (by simpa using hha)
        (by simpa using hhb) ha0 hb0
    exact ⟨_, (exec_bridgeOpen q k s).trans (congrArg _ (serveWrite_of_admitted h ha hs hcheck rfl)),
      modBridge_told s q k _⟩
  case closed =>
    intro s q ss k h ha hs hused
    have hfree : ((s.noted q).bridgeUsed k && ((s.noted q).bridge k).opened) = false :=
      by simp [hused]
    exact ⟨_, (exec_bridgeClose q k s).trans
      (congrArg _ (serveWrite_of_admitted h ha hs (firstFail_one hfree _) rfl)), modBridge_told s q k _⟩

end

section
/-!
Requests at a target of the packet network: the arrival, and what an answer changes (06 R204, R231, R238, R239).
-/

namespace Sys2Proof.Machine

/-! ### Steps that change the network alone -/

theorem State.netOnly.trans {s u v : State} (h : s.netOnly u) (g : u.netOnly v) : s.netOnly v := by
  calc v = { u with array := { u.array with clusters := v.array.clusters }, net := v.net, out := v.out
                    free := v.free } := g
    _ = { s with array := { s.array with clusters := v.array.clusters }, net := v.net, out := v.out
                 free := v.free } := by rw [h]

theorem modNi_netOnly (s : State) (n : Nat) (f : Ni → Ni) : s.netOnly (s.modNi n f) := rfl

theorem modFlow_netOnly (s : State) (n : Nat) (f : Flow → Flow) : s.netOnly (s.modFlow n f) := rfl

theorem modCluster_netOnly (s : State) (c : Nat) (f : Cluster → Cluster) : s.netOnly (s.modCluster c f) := rfl

theorem respond_netOnly (s : State) (n : Nat) (p : Packet) (st : NetStatus) (data : List Nat) :
    s.netOnly (s.respond n p st data) := rfl

/-! ### Answers (06 R204, R239) -/

section
variable (s : State) (n : Nat) (p : Packet) (st : NetStatus) (data : List Nat)

@[simp] theorem respond_task (k : Nat) : (s.respond n p st data).task k = s.task k := rfl

theorem respond_out_head : (s.respond n p st data).out.head? = some (.packet n (response n p st data)) := rfl

theorem respond_ni (k : Nat) :
    (s.respond n p st data).ni k =
      if n = k ∧ st = .zoneDenied then { s.ni n with denied := inc32 (s.ni n).denied } else s.ni k := by
  refine (ni_modNi s n _ k).trans ?_
  by_cases hk : n = k
  · subst hk
    by_cases hst : st = .zoneDenied <;> simp [hst]
  · simp [hk]

@[simp] theorem respond_ok_ni (k : Nat) : (s.respond n p .ok data).ni k = s.ni k :=
  (respond_ni s n p .ok data k).trans (if_neg (by simp))

end

/-! ### Arrival (06 R231, R238) -/

/-- `u` is `s` after probes have seen a packet. -/
def State.probed (s u : State) : Prop := u = { s with net := { s.net with probes := u.net.probes }, free := u.free }

theorem State.probed.trans {s u v : State} (h : s.probed u) (g : u.probed v) : s.probed v := by
  calc v = { u with net := { u.net with probes := v.net.probes }, free := v.free } := g
    _ = { s with net := { s.net with probes := v.net.probes }, free := v.free } := by rw [h]

theorem observe_probed (s : State) (p : Packet) : s.probed (s.observe p) := by
  unfold State.observe
  split
  · rfl
  · refine List.foldlRecOn (motive := s.probed) _ _ rfl fun t ht k _ => ht.trans ?_
    dsimp only
    split
    · rfl
    · split <;> rfl

theorem State.probed.netOnly {s u : State} (h : s.probed u) : s.netOnly u := by
  rw [h]

/-- `v` is `s` when a request has come to target `n`: probes have seen it, and the idle time of `n`'s cluster starts
anew. -/
structure State.reached (s v : State) (n : Nat) : Prop where
  netOnly : s.netOnly v
  net : v.net = { s.net with probes := v.net.probes }
  here : v.cluster n = { s.cluster n with idleSince := (v.cluster n).idleSince }
  others : ∀ k, k ≠ n → v.cluster k = s.cluster k

theorem niBusy_reached {s t : State} (h : s.probed t) (n : Nat) : s.reached (t.niBusy n) n := by
  have hcluster : t.cluster = s.cluster := by unfold State.cluster; rw [h]
  have hnet : t.net = { s.net with probes := t.net.probes } := by rw [h]
  unfold State.niBusy
  split
  · refine ⟨h.netOnly.trans (modCluster_netOnly ..), hnet, ?_, fun k hk => ?_⟩
    · rw [cluster_modCluster_self, hcluster]
    · rw [cluster_modCluster, if_neg hk.symm, hcluster]
  · exact ⟨h.netOnly, hnet, by rw [hcluster], fun k _ => by rw [hcluster]⟩

/-! ### What an arrival leaves as it was -/

section
variable {s v : State} {n : Nat} (h : s.reached v n)
include h

theorem State.reached.mem (k : Nat) : (v.cluster k).mem = (s.cluster k).mem := by
  by_cases hk : k = n
  · rw [hk, h.here]
  · rw [h.others k hk]

theorem State.reached.upsets : (v.cluster n).upsets = (s.cluster n).upsets := by rw [h.here]

theorem State.reached.niGated : v.niGated n = s.niGated n := by
  have hgated : (v.cluster n).gated = (s.cluster n).gated := by rw [h.here]
  exact congrArg (decide (n < 64) && ·) hgated

theorem State.reached.wordAt : v.wordAt = s.wordAt := by
  unfold State.wordAt
  simp only [h.mem]

theorem State.reached.ni : v.ni = s.ni := by unfold State.ni; rw [h.net]
theorem State.reached.flows : v.net.flows = s.net.flows := by rw [h.net]
theorem State.reached.op : v.op = s.op := by rw [h.netOnly]
theorem State.reached.angle : v.angle = s.angle := by rw [h.netOnly]
theorem State.reached.sess : v.sess = s.sess := by rw [h.netOnly]
theorem State.reached.blank : v.blank = s.blank := by rw [h.netOnly]
theorem State.reached.energy : v.energy = s.energy := by rw [h.netOnly]
theorem State.reached.quench : v.quench = s.quench := by rw [h.netOnly]
theorem State.reached.time : v.time = s.time := by rw [h.netOnly]
theorem State.reached.tiles : v.array.tiles = s.array.tiles := by rw [h.netOnly]
theorem State.reached.tasks : v.array.tasks = s.array.tasks := by rw [h.netOnly]
theorem State.reached.bridges : v.array.bridges = s.array.bridges := by rw [h.netOnly]
theorem State.reached.task : v.task = s.task := by unfold State.task; rw [h.tasks]

theorem State.reached.num : v.num = s.num := by
  unfold State.num State.setting
  rw [h.sess]

theorem State.reached.zoneMap : v.zoneMap = s.zoneMap := by
  unfold State.zoneMap State.z0Map
  rw [h.quench, h.num]

theorem State.reached.zoneOfCluster : v.zoneOfCluster = s.zoneOfCluster := by
  unfold State.zoneOfCluster
  rw [h.zoneMap]

theorem State.reached.niAdmits : v.niAdmits = s.niAdmits := by
  unfold State.niAdmits
  rw [h.zoneOfCluster, h.num, h.ni]

theorem State.reached.queueTask : v.queueTask = s.queueTask := by
  unfold State.queueTask State.taskList
  rw [h.tasks, h.task]

theorem State.reached.stagePacket : v.stagePacket = s.stagePacket := by
  unfold State.stagePacket State.niZone
  rw [h.quench, h.num]

theorem State.reached.nextIn : v.nextIn = s.nextIn := by
  unfold State.nextIn State.val
  rw [h.sess]

theorem State.reached.mapCheck : v.mapCheck = s.mapCheck := by
  unfold State.mapCheck State.mapChanges State.mapClash State.clusterBusy State.z0Map
  rw [h.zoneMap, h.tasks, h.bridges, h.quench, h.nextIn]

theorem State.reached.stateCheck : v.stateCheck = s.stateCheck := by
  unfold State.stateCheck State.angleCh State.armed State.mostReserved State.pinRouted State.laidEntries
  rw [h.mapCheck, h.angle, h.quench, h.flows, h.blank]

theorem State.reached.memberFailure : v.memberFailure = s.memberFailure := by
  unfold State.memberFailure State.applyOf? State.applyFailure State.applyCheck State.tariffBeyond
  rw [h.stateCheck, h.nextIn, h.sess, h.op, h.energy]

end

/-! ### Requests that are served on arrival -/

/-- A request that comes to a powered target is served there (06 R231). -/
theorem reach_serves {s : State} {n : Nat} (hgated : s.niGated n = false) (p : Packet) (r : NetReq) :
    ∃ v, s.reached v n ∧ (s.observe p).reach n r = v.serveHeld n r := by
  have hv := niBusy_reached (observe_probed s p) n
  refine ⟨_, hv, ?_⟩
  rw [State.reach, hv.niGated, hgated]
  rfl

/-- The packet that `State.request` brings to target `n`. -/
abbrev requestOf (n opc : Nat) (p : Packet) : Packet := { wirePacket p with opc := opc, dst := n }

theorem requestOf_addr {p : Packet} (h : p.addr < 2 ^ 24) (n opc : Nat) : (requestOf n opc p).addr = p.addr :=
  Nat.mod_eq_of_lt h

theorem requestOf_data {p : Packet} (h : ∀ x ∈ p.data, x < 2 ^ 64) (n opc : Nat) :
    (requestOf n opc p).data = p.data :=
  (List.map_congr_left fun x hx => Nat.mod_eq_of_lt (h x hx)).trans (List.map_id _)

theorem requestOf_length (n opc : Nat) (p : Packet) : (requestOf n opc p).data.length = p.data.length :=
  List.length_map _

theorem request_serves {s : State} {n : Nat} (hgated : s.niGated n = false) (opc : Nat) (p : Packet) :
    ∃ v, s.reached v n ∧ s.request n opc p = v.serveHeld n (.packet (requestOf n opc p)) :=
  reach_serves hgated _ _

/-- Opcodes up to MSG go to the unit that the target is. -/
theorem request_serveAt {s : State} {n opc : Nat} (hgated : s.niGated n = false) (hopc : opc ≤ 8) (p : Packet) :
    ∃ v, s.reached v n ∧ ∀ st data u, v.serveAt n (requestOf n opc p) = (st, data, u) →
      s.request n opc p = u.respond n (requestOf n opc p) st data := by
  obtain ⟨v, hv, hreq⟩ := request_serves hgated opc p
  refine ⟨v, hv, fun st data u hserve => hreq.trans ?_⟩
  unfold State.serveHeld
  dsimp only
  split
  · omega
  · omega
  · omega
  · rw [hserve]

end Sys2Proof.Machine
end

section
/-!
Word requests at a cluster: the operations on a map of words, the bytes of a word, and the checks of a cluster's NI
(06 R203 to R205, R219, R239).
-/

namespace Sys2Proof.Machine

/-! ### The dispatch of the word requests -/

theorem exec_rd (n : Fin 78) (p : Packet) (s : State) : exec (.rd n p) s = .next (s.request n 0x01 p) := rfl

theorem exec_wr (n : Fin 78) (p : Packet) (s : State) : exec (.wr n p) s = .next (s.request n 0x02 p) := rfl

theorem exec_wrm (n : Fin 78) (p : Packet) (s : State) : exec (.wrm n p) s = .next (s.request n 0x03 p) := rfl

theorem exec_swap (n : Fin 78) (p : Packet) (s : State) : exec (.swap n p) s = .next (s.request n 0x04 p) := rfl

theorem exec_fadd (n : Fin 78) (p : Packet) (s : State) : exec (.fadd n p) s = .next (s.request n 0x05 p) := rfl

theorem exec_cas (n : Fin 78) (p : Packet) (s : State) : exec (.cas n p) s = .next (s.request n 0x06 p) := rfl

/-! ### The bytes of a word (00 R12) -/

theorem ofBytesLE_lt {l : List Nat} (h : ∀ b ∈ l, b < 256) : ofBytesLE l < 256 ^ l.length := by
  induction l with
  | nil => decide
  | cons b l ih =>
    have hb := h b List.mem_cons_self
    have hl := ih fun x hx => h x (List.mem_cons_of_mem _ hx)
    rw [ofBytesLE, List.length_cons, Nat.pow_succ]
    omega

theorem ofBytesLE_digit {l : List Nat} (h : ∀ b ∈ l, b < 256) {i : Nat} (hi : i < l.length) :
    ofBytesLE l / 256 ^ i % 256 = l[i] := by
  induction l generalizing i with
  | nil => simp at hi
  | cons b l ih =>
    have hb := h b List.mem_cons_self
    cases i with
    | zero => simp [ofBytesLE, Nat.mod_eq_of_lt hb]
    | succ i =>
      have hrest : (b + 256 * ofBytesLE l) / 256 = ofBytesLE l := by omega
      rw [ofBytesLE, Nat.pow_succ', ← Nat.div_div_eq_div_mul, hrest]
      exact ih (fun x hx => h x (List.mem_cons_of_mem _ hx)) (Nat.lt_of_succ_lt_succ hi)

@[simp] theorem length_bytesLE (n v : Nat) : (bytesLE n v).length = n := by
  induction n generalizing v with
  | zero => rfl
  | succ n ih => rw [bytesLE, List.length_cons, ih]

theorem getElem_bytesLE {n v i : Nat} (hi : i < (bytesLE n v).length) : (bytesLE n v)[i] = v / 256 ^ i % 256 := by
  induction n generalizing v i with
  | zero => simp at hi
  | succ n ih =>
    cases i with
    | zero => simp [bytesLE]
    | succ i => simp [bytesLE, ih, Nat.pow_succ', Nat.div_div_eq_div_mul]

/-- The bytes of a masked word. -/
def maskedBytes (old new mask : Nat) : List Nat :=
  ((bytesLE 8 old).zip (bytesLE 8 new)).zipIdx.map (fun p => if mask.testBit p.2 then p.1.2 else p.1.1)

@[simp] theorem length_maskedBytes (old new mask : Nat) : (maskedBytes old new mask).length = 8 := by
  simp [maskedBytes]

theorem getElem_maskedBytes {old new mask i : Nat} (hi : i < (maskedBytes old new mask).length) :
    (maskedBytes old new mask)[i] = (if mask.testBit i then new else old) / 256 ^ i % 256 := by
  simp only [maskedBytes, List.getElem_map, List.getElem_zipIdx, List.getElem_zip, getElem_bytesLE, Nat.zero_add]
  split <;> rfl

theorem maskedBytes_lt {old new mask b : Nat} (hb : b ∈ maskedBytes old new mask) : b < 256 := by
  obtain ⟨i, hi, rfl⟩ := List.getElem_of_mem hb
  rw [getElem_maskedBytes]
  exact Nat.mod_lt _ (by decide)

theorem maskedWord_lt (old new mask : Nat) : maskedWord old new mask < 2 ^ 64 := by
  have h := ofBytesLE_lt (l := maskedBytes old new mask) fun b hb => maskedBytes_lt hb
  rwa [length_maskedBytes] at h

theorem maskedWord_digit (old new mask : Nat) {i : Nat} (hi : i < 8) :
    maskedWord old new mask / 256 ^ i % 256 = (if mask.testBit i then new else old) / 256 ^ i % 256 := by
  have hlen : i < (maskedBytes old new mask).length := by rwa [length_maskedBytes]
  exact (ofBytesLE_digit (fun b hb => maskedBytes_lt hb) hlen).trans (getElem_maskedBytes hlen)

/-! ### Operations on a map of words (06 R203, R204) -/

/-- The word that a WRM of mask byte `mask` leaves: all its bytes need no read. -/
def wrmWord (old new mask : Nat) : Nat := if mask = 255 then new else maskedWord old new mask

theorem wrmWord_lt (old : Nat) {new : Nat} (h : new < 2 ^ 64) (mask : Nat) : wrmWord old new mask < 2 ^ 64 := by
  unfold wrmWord
  split
  · exact h
  · exact maskedWord_lt ..

theorem wrmWord_digit (old new mask : Nat) {i : Nat} (hi : i < 8) :
    wrmWord old new mask / 256 ^ i % 256 = (if mask.testBit i then new else old) / 256 ^ i % 256 := by
  unfold wrmWord
  split
  · next hmask =>
    have hbit : (255 : Nat).testBit i = true := (Nat.testBit_two_pow_sub_one 8 i).trans (decide_eq_true hi)
    rw [hmask, hbit]
    rfl
  · exact maskedWord_digit _ _ _ hi

section
variable {s : State} {m : WordMap} {q : Packet} {a : Nat} (haddr : q.addr = a)
include haddr

theorem wordOp_rd {f : Nat → Nat} (hread : ∀ w, m.read s w = some (f w)) (hopc : q.opc = 0x01) :
    s.wordOp m q = (.ok, (List.range q.len).map (fun i => f (a + i)), s) := by
  have hwords : (List.range q.len).mapM (fun i => m.read s (q.addr + i)) =
      some ((List.range q.len).map (fun i => f (a + i))) := by
    simp only [hread, haddr]
    exact List.mapM_pure
  simp [State.wordOp, hopc, hwords]

theorem wordOp_wr {x : Nat} (hopc : q.opc = 0x02) (hdata : q.data = [x]) :
    s.wordOp m q = (.ok, [], m.write s a x) := by
  simp [State.wordOp, hopc, hdata, haddr]

variable {old : Nat} (hread : m.read s a = some old)
include hread

theorem wordOp_wrm {mask x : Nat} (hopc : q.opc = 0x03) (hdata : q.data = [mask, x]) (hmask : mask < 256) :
    s.wordOp m q = (.ok, [], m.write s a (wrmWord old x mask)) := by
  have hbyte : mask % 256 = mask := Nat.mod_eq_of_lt hmask
  by_cases hfull : mask = 255 <;> simp [State.wordOp, hopc, hdata, haddr, hread, wrmWord, hbyte, hfull]

theorem wordOp_swap {x : Nat} (hopc : q.opc = 0x04) (hdata : q.data = [x]) :
    s.wordOp m q = (.ok, [old], m.write s a x) := by
  simp [State.wordOp, hopc, hdata, haddr, hread]

theorem wordOp_fadd {x : Nat} (hopc : q.opc = 0x05) (hdata : q.data = [x]) :
    s.wordOp m q = (.ok, [old], m.write s a ((old + x) % 2 ^ 64)) := by
  simp [State.wordOp, hopc, hdata, haddr, hread]

theorem wordOp_cas {x y : Nat} (hopc : q.opc = 0x06) (hdata : q.data = [x, y]) :
    s.wordOp m q = (.ok, [old], if old = x then m.write s a y else s) := by
  simp [State.wordOp, hopc, hdata, haddr, hread]

end

/-! ### The words of cluster memory (06 R205) -/

theorem State.onlyWord.respond {s u : State} {c w x : Nat} (h : s.onlyWord u c w x) (n : Nat) (p : Packet)
    (st : NetStatus) (data : List Nat) : s.onlyWord (u.respond n p st data) c w x := by
  obtain ⟨hnet, hword, hbytes, hothers⟩ := h
  exact ⟨hnet.trans (respond_netOnly ..), hword, hbytes, hothers⟩

section
variable {s v : State} {n : Nat} (h : s.reached v n)
include h

theorem State.reached.read_word (hup : (s.cluster n).upsets = []) (w : Nat) :
    (clusterWords n).read v w = some (s.wordAt n w) := by
  have hclean : (upsetsIn (v.cluster n).upsets w 1).1 = false := by rw [h.upsets, hup]; rfl
  simp only [clusterWords, hclean, Bool.false_eq_true, if_false, h.mem, State.wordAt]

theorem State.reached.onlyWord_self (w : Nat) : s.onlyWord v n w (s.wordAt n w) :=
  ⟨h.netOnly, by rw [h.wordAt], fun a _ => by rw [h.mem], h.others⟩

theorem State.reached.onlyWord_write (w : Nat) {x : Nat} (hx : x < 2 ^ 64) :
    s.onlyWord ((clusterWords n).write v w x) n w x := by
  have hmem : (((clusterWords n).write v w x).cluster n).mem = writeBytes (s.cluster n).mem (8 * w) 8 x := by
    rw [← h.mem n]
    exact congrArg Cluster.mem (cluster_modCluster_self ..)
  refine ⟨h.netOnly.trans (modCluster_netOnly ..), ?_, fun a ha => ?_, fun k hk => ?_⟩
  · rw [State.wordAt, hmem, readBytes_writeBytes]
    exact Nat.mod_eq_of_lt hx
  · rw [hmem, tget_writeBytes, if_neg (by omega)]
  · exact (cluster_modCluster v n _ k).trans ((if_neg hk.symm).trans (h.others k hk))

end

/-! ### The checks of a cluster's NI (06 R205, R219) -/

section
variable {v : State} {n : Nat} {q : Packet}

theorem serveCluster_word (hadmits : v.niAdmits n q.zone q.opc = true) (hopc : q.opc < 7) (haddr : q.addr < 0x8000)
    (hend : q.addr + packetSpan q ≤ 0x8000)
    (hspill : q.zone = zoneSys ∨ ∀ i < packetSpan q, spillWord (q.addr + i) = false) :
    v.serveCluster n q = v.wordOp (clusterWords n) q := by
  have hplain : ¬(q.opc = 0x07 ∨ q.addr + packetSpan q > 0x8000 ∨
      (q.zone ≠ zoneSys ∧ (List.range (packetSpan q)).any (fun i => spillWord (q.addr + i)))) := by
    rintro (h7 | hlong | ⟨hzone, hany⟩)
    · omega
    · omega
    · obtain ⟨i, hi, hbad⟩ := List.any_eq_true.1 hany
      simp [hspill.resolve_left hzone i (List.mem_range.1 hi)] at hbad
  rw [State.serveCluster, if_neg (by omega), if_pos haddr, hadmits, if_neg (by decide), if_neg hplain]

theorem serveCluster_denied (hadmits : v.niAdmits n q.zone q.opc = false) (hopc : q.opc ≠ 8) (haddr : q.addr < 0x8000) :
    v.serveCluster n q = (.zoneDenied, [], v) := by
  rw [State.serveCluster, if_neg hopc, if_pos haddr, hadmits, if_pos (by decide)]

end

theorem niGated_of_powered {s : State} {n : Nat} (h : (s.cluster n).gated = false) : s.niGated n = false :=
  (congrArg (decide (n < 64) && ·) h).trans (Bool.and_false _)

theorem serveAt_cluster {n : Nat} (hn : n < 64) (v : State) (q : Packet) : v.serveAt n q = v.serveCluster n q :=
  if_pos hn

section
variable {s : State} {n opc : Nat} {p : Packet} (h : s.takes n p opc)
include h

theorem requestOf_addr_of_takes : (requestOf n opc p).addr = p.addr := by
  obtain ⟨-, -, -, haddr, -⟩ := h
  exact requestOf_addr (by omega) n opc

/-- A request for words of cluster memory is its operation on the cluster's words, and its answer. -/
theorem request_wordOp (hopc : opc < 7) (hend : p.addr + packetSpan (requestOf n opc p) ≤ 0x8000)
    (hspan : p.zone % 16 = zoneSys ∨ packetSpan (requestOf n opc p) = 1) :
    ∃ v, s.reached v n ∧ ∀ {st data u}, v.wordOp (clusterWords n) (requestOf n opc p) = (st, data, u) →
      s.request n opc p = u.respond n (requestOf n opc p) st data := by
  have ha := requestOf_addr_of_takes h
  have ⟨hn, hpower, hadmits, haddr, hspill, _⟩ := h
  obtain ⟨v, hv, hreq⟩ := request_serveAt (niGated_of_powered hpower) (by omega : opc ≤ 8) p
  refine ⟨v, hv, fun hop => hreq _ _ _ ?_⟩
  rw [serveAt_cluster hn, serveCluster_word (hv.niAdmits ▸ hadmits) hopc (by omega) (by omega), hop]
  by_cases hzone : p.zone % 16 = zoneSys
  · exact .inl hzone
  · have hfirst := hspill.resolve_right hzone
    have hone := hspan.resolve_left hzone
    refine .inr fun i hi => ?_
    rwa [ha, show i = 0 by omega]

/-- A request for one word whose operation leaves `x` there changes no other byte, and is answered OK. -/
theorem request_oneWord (hopc : opc < 7) (hspan : packetSpan (requestOf n opc p) = 1) {x : Nat} {data : List Nat}
    (hop : ∀ v, s.reached v n → (clusterWords n).read v p.addr = some (s.wordAt n p.addr) →
      ∃ u, v.wordOp (clusterWords n) (requestOf n opc p) = (.ok, data, u) ∧ s.onlyWord u n p.addr x) :
    s.onlyWord (s.request n opc p) n p.addr x ∧ (s.request n opc p).responds n p opc .ok data := by
  have ⟨_, _, _, haddr, _, hup⟩ := h
  obtain ⟨v, hv, hreq⟩ := request_wordOp h hopc (by omega) (.inr hspan)
  obtain ⟨u, hu, honly⟩ := hop v hv (hv.read_word hup p.addr)
  rw [hreq hu]
  exact ⟨honly.respond .., respond_out_head ..⟩

end

end Sys2Proof.Machine

open Sys2Proof Sys2Proof.Machine

/-- Settles O27: a request that is admitted is its operation on the cluster's words, of which it writes the one at its
address at most, and its answer. -/
theorem wordRequestsAtClusters : Obligations.WordRequestsAtClusters := by
  unfold Obligations.WordRequestsAtClusters
  refine ⟨?rd, ?wr, ?wrm, ?swap, ?fadd, ?cas, ?denied⟩
  case rd =>
    intro s n p h hend hzone
    have ⟨_, _, _, _, _, hup⟩ := h
    obtain ⟨v, hv, hreq⟩ := request_wordOp h (by decide) hend (.inl hzone)
    have hop := wordOp_rd (requestOf_addr_of_takes h) (hv.read_word hup) rfl
    exact ⟨_, (exec_rd n p s).trans (congrArg _ (hreq hop)), hv.netOnly.trans (respond_netOnly ..), hv.mem,
      respond_out_head ..⟩
  case wr =>
    intro s n p v h hdata
    have hwords : (requestOf n 2 p).data = [v.val] := (requestOf_data (by simp [hdata]) n 2).trans hdata
    exact ⟨_, exec_wr n p s, request_oneWord h (by decide) (congrArg List.length hwords) fun t ht _ =>
      ⟨_, wordOp_wr (requestOf_addr_of_takes h) rfl hwords, ht.onlyWord_write p.addr v.isLt⟩⟩
  case wrm =>
    intro s n p m v h hdata
    have hwords : (requestOf n 3 p).data = [m.val, v.val] := (requestOf_data (by simp [hdata]; omega) n 3).trans hdata
    have ⟨honly, hresponds⟩ := request_oneWord h (by decide) (congrArg (List.length · - 1) hwords) fun t ht hread =>
      ⟨_, wordOp_wrm (requestOf_addr_of_takes h) hread rfl hwords m.isLt,
        ht.onlyWord_write p.addr (wrmWord_lt (s.wordAt n p.addr) v.isLt m)⟩
    have ⟨_, hword, _⟩ := honly
    refine ⟨_, exec_wrm n p s, ?_, hresponds, fun i hi => ?_⟩
    · rwa [hword]
    · rw [hword, Nat.pow_mul]
      exact wrmWord_digit _ _ _ hi
  case swap =>
    intro s n p v h hdata
    have hwords : (requestOf n 4 p).data = [v.val] := (requestOf_data (by simp [hdata]) n 4).trans hdata
    exact ⟨_, exec_swap n p s, request_oneWord h (by decide) rfl fun t ht hread =>
      ⟨_, wordOp_swap (requestOf_addr_of_takes h) hread rfl hwords, ht.onlyWord_write p.addr v.isLt⟩⟩
  case fadd =>
    intro s n p v h hdata
    have hwords : (requestOf n 5 p).data = [v.val] := (requestOf_data (by simp [hdata]) n 5).trans hdata
    exact ⟨_, exec_fadd n p s, request_oneWord h (by decide) rfl fun t ht hread =>
      ⟨_, wordOp_fadd (requestOf_addr_of_takes h) hread rfl hwords,
        ht.onlyWord_write p.addr (Nat.mod_lt _ (by decide))⟩⟩
  case cas =>
    intro s n p a b h hdata
    have hwords : (requestOf n 6 p).data = [a.val, b.val] := (requestOf_data (by simp [hdata]) n 6).trans hdata
    refine ⟨_, exec_cas n p s, request_oneWord h (by decide) rfl fun t ht hread =>
      ⟨_, wordOp_cas (requestOf_addr_of_takes h) hread rfl hwords, ?_⟩⟩
    split
    · exact ht.onlyWord_write p.addr b.isLt
    · exact ht.onlyWord_self p.addr
  case denied =>
    intro s n p hn hpower haddr hadmits
    obtain ⟨v, hv, hreq⟩ := request_serveAt (niGated_of_powered hpower) (by decide : 2 ≤ 8) p
    have hserve : v.serveAt n (requestOf n 2 p) = (.zoneDenied, [], v) := by
      rw [serveAt_cluster hn, serveCluster_denied (hv.niAdmits ▸ hadmits) (by decide : 2 ≠ 8)]
      exact (requestOf_addr (by omega) n 2).trans_lt haddr
    refine ⟨_, (exec_wr n p s).trans (congrArg _ (hreq _ _ _ hserve)), respond_out_head .., ?_, hv.mem⟩
    rw [respond_ni, if_pos ⟨rfl, rfl⟩, hv.ni]
    rfl

end

section
/-!
Queues, messages, the members of ATOMIC multicasts, the revival of down entries, and guaranteed packets (06 R203, R205,
R224, R225, R230, R235, R236).
-/

namespace Sys2Proof.Machine

/-! ### The dispatch -/

theorem exec_qpush (n : Fin 78) (p : Packet) (s : State) : exec (.qpush n p) s = .next (s.request n 0x07 p) := rfl

theorem exec_msg (n : Fin 78) (p : Packet) (s : State) : exec (.msg n p none) s = .next (s.request n 0x08 p) := rfl

theorem exec_msg_staged (n : Fin 78) (p : Packet) (m : StagedMsg) (s : State) :
    exec (.msg n p (some m)) s =
      .next (((s.observe (requestOf n 0x08 p)).niBusy n).respond n (requestOf n 0x08 p) .unsupported []) := rfl

theorem exec_atomicStage (n : Fin 78) (q : StageReq) (s : State) :
    exec (.atomicStage n q) s = .next ((s.observe (s.stagePacket n q)).reach n (.stage q)) := rfl

theorem exec_atomicCommit (n : Fin 78) (p : Packet) (s : State) :
    exec (.atomicCommit n p) s = .next (s.request n 0x0A p) := rfl

theorem exec_atomicAbort (n : Fin 78) (p : Packet) (s : State) :
    exec (.atomicAbort n p) s = .next (s.request n 0x0B p) := rfl

theorem exec_csync (n : Fin 78) (p : Packet) (s : State) : exec (.csync n p) s = .next (s.request n 0x0C p) := rfl

/-- The packet that brings words of a flow (06 R224). -/
def State.flowPacket (s : State) (x : Flow) (words : List Nat) : Packet :=
  { opc := 0x10, len := words.length % 16, zone := (s.niZone x.source).getD 0, dst := x.target, src := x.source
    tag := 0, epo := 0, addr := x.addr, data := words }

theorem exec_gwr {f : Fin 64} {s : State} (h : (s.flow f).runs ≠ 0) (w : List (Fin 18446744073709551616)) :
    exec (.gwr f w) s =
      .next ((s.observe (s.flowPacket (s.flow f) (w.map Fin.val))).flowArrives f (w.map Fin.val)) :=
  congrArg Host.Outcome.next (if_neg h)

/-! ### Input queues and messages (06 R203, R205, R236) -/

theorem queueTask_present {s : State} {c q t : Nat} (h : s.queueTask c q = some t) : (s.task t).state ≠ .absent := by
  have hfound := List.find?_some h
  simp only [Bool.and_eq_true, bne_iff_ne] at hfound
  obtain ⟨⟨hpresent, -⟩, -⟩ := hfound
  exact hpresent

/-- A task with words appended to its input queue. -/
def Task.queued (k : Task) (words : List Nat) : Task := { k with queue := k.queue ++ words }

/-- Words that fit enter the queue of a task whose trigger is not QUEUE (05 R175, R187). -/
theorem pushQueue_appends {s : State} {n : Nat} {words : List Nat} (hpresent : (s.task n).state ≠ .absent)
    (hdrain : (s.task n).state ≠ .draining) (hroom : (s.task n).queue.length + words.length ≤ (s.task n).queueSize)
    (hkind : (s.task n).kind ≠ .queue) :
    s.pushQueue n words = some (s.modTask n (fun x => x.queued words)) := by
  have hfits : ¬((s.task n).state = .absent ∨ (s.task n).state = .draining ∨
      (s.task n).queue.length + words.length > (s.task n).queueSize) := by
    simp [hpresent, hdrain, hroom]
  exact (if_neg hfits).trans (if_neg fun h => hkind h.1)

section
variable {v : State} {n : Nat} {q : Packet}

theorem serveCluster_qpush {t : Nat} {u : State} (hopc : q.opc = 0x07) (hadmits : v.niAdmits n q.zone q.opc = true)
    (hlow : 0x110000 ≤ q.addr) (hhigh : q.addr < 0x110100) (htask : v.queueTask n (q.addr - 0x110000) = some t)
    (hpush : v.pushQueue t q.data = some u) : v.serveCluster n q = (.ok, [], u) := by
  have hnotMsg : q.opc ≠ 0x08 := by omega
  rw [State.serveCluster, if_neg hnotMsg, if_neg (by omega), if_neg (by omega), if_pos ⟨hlow, hhigh⟩, hadmits,
    if_neg (by decide), if_neg (not_not.2 hopc), htask]
  simp only [hpush]

theorem serveAt_msg (hopc : q.opc = 0x08) (h : 64 ≤ n ∨ v.niAdmits n q.zone q.opc = true) :
    v.serveAt n q = (.ok, [], v) := by
  by_cases hn : n < 64
  · rw [serveAt_cluster hn, State.serveCluster, if_pos hopc, if_pos (h.resolve_left (by omega))]
  · exact (if_neg hn).trans (if_pos hopc)

end

/-! ### Members of ATOMIC multicasts (06 R235) -/

/-- The staging entry that a STAGE makes. -/
def State.stagedBy (s : State) (q : StageReq) : StagedEntry :=
  let hold := nearestT64 s.time.t64 (q.hold % 2 ^ 32)
  { src := q.src, tag := q.tag, msg := q.msg, hold := hold, applyAt := hold + q.applyOfs, onCommit := q.onCommit
    committed := false }

/-- What COMMIT leaves of a member's staging entries: `e` is committed, or gone when it applies at once. -/
def committedIn (l : List StagedEntry) (e : StagedEntry) : List StagedEntry :=
  if e.onCommit then l.filter (fun x => x != e) else l.map (fun y => if y = e then { y with committed := true } else y)

theorem holdStart_net (s : State) (n : Nat) (m : StagedMsg) : (s.holdStart n m).net = s.net := by cases m <;> rfl

theorem holdStart_tiles (s : State) (n : Nat) (m : StagedMsg) : (s.holdStart n m).array.tiles = s.array.tiles := by
  cases m <;> rfl

theorem holdStart_ni (s : State) (n : Nat) (m : StagedMsg) (k : Nat) : (s.holdStart n m).ni k = s.ni k :=
  congrArg (fun x : NetUnit => tget ({} : Ni) x.nis k) (holdStart_net s n m)

section
variable {v : State} {n : Nat}

theorem takeStage_keeps {q : StageReq} (hpass : v.memberFailure n q.msg = none) (hroom : (v.ni n).staged.length < 4) :
    v.takeStage n q =
      (v.modNi n (fun x => { x with staged := x.staged ++ [v.stagedBy q] })).respond n (v.stagePacket n q) .ok [] := by
  unfold State.takeStage
  simp only [hpass]
  exact if_pos hroom

variable {p : Packet} {e : StagedEntry} (hstaged : (v.ni n).stagedOf p.src p.tag = some e)
include hstaged

theorem takeAbort_drops : v.takeAbort n p = (v.unstage n (fun x => x == e)).respond n p .ok [] := by
  unfold State.takeAbort
  rw [hstaged]

theorem takeCommit_commits (hhold : v.time.t64 ≤ e.hold) :
    v.takeCommit n p =
      ((v.modNi n (fun x => { x with staged := committedIn x.staged e })).holdStart n e.msg).respond n p .ok [] := by
  have hmember : (if e.onCommit then v.unstage n (fun x => x == e)
      else v.modNi n (fun x => { x with
        staged := x.staged.map (fun y => if y = e then { y with committed := true } else y) })) =
      v.modNi n (fun x => { x with staged := committedIn x.staged e }) := by
    unfold committedIn
    split <;> rfl
  unfold State.takeCommit
  rw [hstaged]
  dsimp only
  rw [if_neg (Nat.not_lt.2 hhold), hmember]

end

/-! ### Revival (06 R230) -/

/-- An initiator whose entries to a target that were down are usable again. -/
def Ni.revived (x : Ni) (target : Nat) : Ni :=
  { x with
    entries := x.entries.map (fun e =>
      if e.2.target = target ∧ e.2.down then
        (e.1, { e.2 with credits := e.2.allot, down := false, timeouts := 0 })
      else e)
    unresolved := x.unresolved.filter (fun u => u.2.2.2 ≠ target) }

theorem headD_map_mod (l : List Nat) (m : Nat) : (l.map (· % m)).headD 0 = l.headD 0 % m := by
  cases l with
  | nil => exact (Nat.zero_mod m).symm
  | cons => rfl

theorem issueHeld_of_none_held {s : State} {c : Nat} (h : (s.ni c).held = []) :
    s.issueHeld c = s.modNi c (fun x => { x with held := [] }) := by
  unfold State.issueHeld
  rw [h]
  rfl

theorem revive_of_none_held {s : State} {i : Nat} (target : Nat) (h : (s.ni i).held = []) :
    s.revive i target = (s.modNi i (fun x => x.revived target)).modNi i (fun x => { x with held := [] }) :=
  issueHeld_of_none_held (by rw [ni_modNi_self]; exact h)

/-! ### Guaranteed packets (06 R224, R225) -/

/-- A flow to whose queue words have come: they enter it when they fit, and are counted when they do not. -/
def Flow.given (x : Flow) (words : List Nat) : Flow :=
  if x.queue.length + words.length ≤ x.size then { x with queue := x.queue ++ words }
  else { x with overruns := inc32 x.overruns }

theorem modFlow_congr {s : State} {f : Nat} {g k : Flow → Flow} (h : g (s.flow f) = k (s.flow f)) :
    s.modFlow f g = s.modFlow f k := by
  have hread : g (tget {} s.net.flows f) = k (tget {} s.net.flows f) := h
  rw [State.modFlow, tmod, hread]
  rfl

theorem flowArrives_of_no_task {s : State} {f : Nat} (hpower : s.niGated (s.flow f).target = false)
    (htask : s.flowTask (s.flow f) = none) (words : List Nat) :
    s.flowArrives f words = s.modFlow f (fun x => x.given words) := by
  unfold State.flowArrives
  dsimp only
  rw [hpower, htask, if_neg (by decide)]
  dsimp only
  split
  · next hfits => exact modFlow_congr (if_pos hfits).symm
  · next hlong => exact modFlow_congr (if_neg hlong).symm

section
variable {s t : State} (h : s.probed t)
include h

theorem State.probed.array : t.array = s.array := by rw [h]

theorem State.probed.flow : t.flow = s.flow := by
  have hflows : t.net.flows = s.net.flows := by rw [h]
  unfold State.flow
  rw [hflows]

theorem State.probed.niGated : t.niGated = s.niGated := by
  unfold State.niGated
  rw [h.array]

theorem State.probed.flowTask : t.flowTask = s.flowTask := by
  unfold State.flowTask State.queueTask State.taskList State.task
  rw [h.array]

end

end Sys2Proof.Machine

open Sys2Proof Sys2Proof.Machine

/-- Settles O28: a request to a powered target is served on arrival; QPUSH appends to one task's queue, MSG changes
nothing, STAGE, COMMIT and ABORT change the member's staging entries, CSYNC the initiator's, and a guaranteed packet its
flow. -/
theorem queuesMessagesAndAtomicMembers : Obligations.QueuesMessagesAndAtomicMembers := by
  unfold Obligations.QueuesMessagesAndAtomicMembers
  refine ⟨?qpush, ?msg, ?stage, ?commit, ?abort, ?csync, ?gwr⟩
  case qpush =>
    intro s n p t hn hpower hadmits haddr htask hdrain hroom hkind
    obtain ⟨hlow, hhigh⟩ := haddr
    obtain ⟨v, hv, hreq⟩ := request_serveAt (niGated_of_powered hpower) (by decide : 7 ≤ 8) p
    have ha : (requestOf n 7 p).addr = p.addr := requestOf_addr (by omega) n 7
    have hfits : (v.task t).queue.length + (requestOf n 7 p).data.length ≤ (v.task t).queueSize := by
      rw [hv.task, requestOf_length]
      exact hroom
    have hpush : v.pushQueue t (requestOf n 7 p).data = some _ :=
      pushQueue_appends (hv.task ▸ queueTask_present htask) (hv.task ▸ hdrain) hfits (hv.task ▸ hkind)
    have hserve : v.serveAt n (requestOf n 7 p) = (.ok, [], _) :=
      (serveAt_cluster hn v _).trans (serveCluster_qpush rfl (hv.niAdmits ▸ hadmits) (ha ▸ hlow) (ha ▸ hhigh)
        (ha.symm ▸ hv.queueTask ▸ htask) hpush)
    obtain ⟨-, hself, hothers⟩ := modTask_onlyTask v t (fun x => x.queued (requestOf n 7 p).data)
    refine ⟨_, (exec_qpush n p s).trans (congrArg _ (hreq _ _ _ hserve)), respond_out_head .., ?_, fun m hm => ?_,
      hv.tiles⟩
    · rw [respond_task, hself, hv.task]
      rfl
    · rw [respond_task, hothers m hm, hv.task]
  case msg =>
    intro s n p hpower hadmits
    refine ⟨?_, fun m => ?_⟩
    · obtain ⟨v, hv, hreq⟩ := request_serveAt hpower (by decide : 8 ≤ 8) p
      have hserve := serveAt_msg (v := v) (q := requestOf n 8 p) rfl (hv.niAdmits ▸ hadmits)
      exact ⟨_, (exec_msg n p s).trans (congrArg _ (hreq _ _ _ hserve)), hv.netOnly.trans (respond_netOnly ..),
        respond_out_head ..⟩
    · have hv := niBusy_reached (observe_probed s (requestOf n 8 p)) n
      exact ⟨_, exec_msg_staged n p m s, hv.netOnly.trans (respond_netOnly ..), respond_out_head ..⟩
  case stage =>
    intro s n q hpower hpass hroom
    obtain ⟨v, hv, hreq⟩ := reach_serves hpower (s.stagePacket n q) (.stage q)
    have hkeeps : v.serveHeld n (.stage q) = _ :=
      takeStage_keeps (hv.memberFailure ▸ hpass) (hv.ni ▸ hroom)
    refine ⟨_, (exec_atomicStage n q s).trans (congrArg _ (hreq.trans hkeeps)),
      (hv.netOnly.trans (modNi_netOnly ..)).trans (respond_netOnly ..), ?_, ?_⟩
    · rw [respond_out_head, hv.stagePacket]
    · rw [respond_ok_ni, ni_modNi_self, hv.ni, State.stagedBy, hv.time]
  case commit =>
    intro s n p e hpower hstaged hhold
    obtain ⟨v, hv, hreq⟩ := request_serves hpower 10 p
    have hcommits : v.serveHeld n (.packet (requestOf n 10 p)) = _ :=
      takeCommit_commits (hv.ni ▸ hstaged) (hv.time ▸ hhold)
    have hni (k : Nat) := holdStart_ni (v.modNi n (fun x => { x with staged := committedIn x.staged e })) n e.msg k
    refine ⟨_, (exec_atomicCommit n p s).trans (congrArg _ (hreq.trans hcommits)), respond_out_head .., ?_,
      fun k hk => ?_, (holdStart_tiles ..).trans hv.tiles⟩
    · rw [respond_ok_ni, hni, ni_modNi_self, hv.ni]
      rfl
    · rw [respond_ok_ni, hni, ni_modNi, if_neg hk.symm, hv.ni]
  case abort =>
    intro s n p e hpower hstaged
    obtain ⟨v, hv, hreq⟩ := request_serves hpower 11 p
    have hdrops : v.serveHeld n (.packet (requestOf n 11 p)) = _ := takeAbort_drops (hv.ni ▸ hstaged)
    refine ⟨_, (exec_atomicAbort n p s).trans (congrArg _ (hreq.trans hdrops)),
      (hv.netOnly.trans (modNi_netOnly ..)).trans (respond_netOnly ..), respond_out_head .., ?_, fun k hk => ?_⟩
    · rw [respond_ok_ni, State.unstage, ni_modNi_self, hv.ni]
      rfl
    · rw [respond_ok_ni, State.unstage, ni_modNi, if_neg hk.symm, hv.ni]
  case csync =>
    intro s n p hpower hheld i
    obtain ⟨v, hv, hreq⟩ := request_serves hpower 12 p
    have hdata : (requestOf n 12 p).data.headD 0 % 128 = i := congrArg (· % 128) (headD_map_mod p.data _)
    have hni (k : Nat) : (v.respond n (requestOf n 12 p) .ok []).ni k = s.ni k := by
      rw [respond_ok_ni, hv.ni]
    have hrevive : v.serveHeld n (.packet (requestOf n 12 p)) = _ :=
      (congrArg (State.revive _ · n) hdata).trans (revive_of_none_held n.val (by rw [hni]; exact hheld))
    refine ⟨_, (exec_csync n p s).trans (congrArg _ (hreq.trans hrevive)),
      ((hv.netOnly.trans (respond_netOnly ..)).trans (modNi_netOnly ..)).trans (modNi_netOnly ..), respond_out_head ..,
      ?_, ?_⟩
    · rw [ni_modNi_self, ni_modNi_self, hni]
      rfl
    · rw [ni_modNi_self, ni_modNi_self, hni]
      rfl
  case gwr =>
    intro s f w hruns hpower htask
    have ht := observe_probed s (s.flowPacket (s.flow f) (w.map Fin.val))
    have harrives := flowArrives_of_no_task (by rw [ht.niGated, ht.flow]; exact hpower)
      (by rw [ht.flowTask, ht.flow]; exact htask) (w.map Fin.val)
    refine ⟨_, (exec_gwr hruns w).trans (congrArg _ harrives), ht.netOnly.trans (modFlow_netOnly ..),
      fun k hk => ?_, ?_⟩
    · rw [flow_modFlow, if_neg hk.symm, ht.flow]
    · rw [flow_modFlow_self, ht.flow, Flow.given, List.length_map]
      rfl

end

section
/-!
Requests that are served in order: what a write or a segment leaves of the state and how it is answered (11 R419 to R424);
and what the operations on staging slots, library entries and staging leases leave alone (07 R254, R255, 11 R432).
-/

namespace Sys2Proof.Machine

/-! ### Serving a write with a value (11 R421) -/

/-- A write that is heard and admitted, whose checks pass and whose object no sleeping unit holds: its effect stands, and
the answer bears the effect's code. -/
theorem serveWrite_of_served {s : State} {q : Req} {ss : Session} {key d : Nat}
    {check : State → Session → Abort × Nat} {effect : State → Session → Served} {c : Abort} {u : State} (h : s.hears q ss)
    (ha : s.admitted q ss key) (hlit : sleepGated key = false) (hc : check (s.noted q) ss = (.ok, d))
    (hrun : effect (s.noted q) ss = { code := c, state := u }) :
    s.serveWrite q key check effect = u.reply q.session { rid := q.rid, code := c } := by
  obtain ⟨e, hgate⟩ : ∃ e, s.gate q.session ss.role key q.epoch = (.ok, e) := ⟨_, Prod.ext ha rfl⟩
  have hawake : ¬ ((s.noted q).op.state = .sleep ∧ sleepGated key = true) := by simp [hlit]
  unfold State.serveWrite
  rw [serve_of_hears h] <;> simp only [gate_noted, hgate, hc, if_neg hawake, hrun]

/-- The same for a write whose bytes spell a legal value of the object's row. -/
theorem serveBytes_of_served {s : State} {q : Req} {ss : Session} {key d : Nat} {b : List Nat} {r : ObjRow}
    {check : State → Session → Val → Abort × Nat} {effect : State → Session → Val → Served} {c : Abort} {u : State}
    (h : s.hears q ss) (ha : s.admitted q ss key) (hlit : sleepGated key = false) (hr : objRow key = some r)
    (hb : bytesCheck key r b = (.ok, 0)) (hc : check (s.noted q) ss (r.ty.decode b) = (.ok, d))
    (hrun : effect (s.noted q) ss (r.ty.decode b) = { code := c, state := u }) :
    s.serveBytes q key b check effect = u.reply q.session { rid := q.rid, code := c } := by
  unfold State.serveBytes
  rw [hr]
  refine serveWrite_of_served (d := d) h ha hlit ?_ hrun
  simpa only [hb] using hc

/-! ### Serving a segment (11 R424) -/

/-- `s` as a segment in order is carried out on it: the request is noted, and the session's transfer goes on or ends. -/
def State.segmented (s : State) (q : Req) (key off : Nat) (last : Bool) (data keep : List Nat) : State :=
  (s.noted q).modSession q.session (fun x =>
    { x with segWrite := if last then none else some { key := key, next := off + data.length, data := keep } })

/-- A segment in order that is heard and admitted is carried out, and the answer names the next offset. -/
theorem serveSegment_of_served {s : State} {q : Req} {ss : Session} {key off : Nat} {last : Bool} {data keep : List Nat}
    {run : State → Session → Served} {u : State} (h : s.hears q ss) (ha : s.admitted q ss key)
    (horder : ss.inOrder key off = true) (hlen : 0 < data.length ∧ data.length ≤ 1020)
    (hrun : run (s.segmented q key off last data keep) ss = { state := u }) :
    s.serveSegment q key off last data keep run =
      u.reply q.session { rid := q.rid, code := .ok, value := some (.num (off + data.length)) } := by
  obtain ⟨e, hgate⟩ : ∃ e, s.gate q.session ss.role key q.epoch = (.ok, e) := ⟨_, Prod.ext ha rfl⟩
  have hfits : ¬ (data.length = 0 ∨ 1020 < data.length) := by omega
  have hnext : ¬ (!ss.inOrder key off) = true := by simp [horder]
  unfold State.segmented at hrun
  unfold State.serveSegment
  rw [serve_of_hears h] <;>
    simp only [if_neg hfits, if_neg hnext, gate_noted, hgate, hrun, if_true]

/-! ### What an answer and a note leave alone -/

@[simp] theorem reply_slot (s : State) (n : SessionNo) (a : Answer) (k : Nat) : (s.reply n a).slot k = s.slot k := rfl
@[simp] theorem reply_lib (s : State) (n : SessionNo) (a : Answer) (e : Nat) : (s.reply n a).lib e = s.lib e := rfl
@[simp] theorem reply_lease (s : State) (n : SessionNo) (a : Answer) (l : Nat) : (s.reply n a).lease l = s.lease l := rfl
@[simp] theorem reply_tile (s : State) (n : SessionNo) (a : Answer) (t : Nat) : (s.reply n a).tile t = s.tile t := rfl
@[simp] theorem reply_fw (s : State) (n : SessionNo) (a : Answer) (k : FwSlot) : (s.reply n a).fw k = s.fw k := by
  cases k <;> rfl

@[simp] theorem noted_slot (s : State) (q : Req) (k : Nat) : (s.noted q).slot k = s.slot k := rfl
@[simp] theorem noted_lib (s : State) (q : Req) (e : Nat) : (s.noted q).lib e = s.lib e := rfl
@[simp] theorem noted_lease (s : State) (q : Req) (l : Nat) : (s.noted q).lease l = s.lease l := rfl
@[simp] theorem noted_tile (s : State) (q : Req) (t : Nat) : (s.noted q).tile t = s.tile t := rfl
@[simp] theorem noted_array (s : State) (q : Req) : (s.noted q).array = s.array := rfl
@[simp] theorem noted_blank (s : State) (q : Req) : (s.noted q).blank = s.blank := rfl

/-! ### Slots beside entries beside leases -/

@[simp] theorem lib_modSlot (s : State) (k : Nat) (f : StageSlot → StageSlot) (e : Nat) :
    (s.modSlot k f).lib e = s.lib e := rfl
@[simp] theorem slot_modLib (s : State) (e : Nat) (f : LibEntry → LibEntry) (k : Nat) :
    (s.modLib e f).slot k = s.slot k := rfl
@[simp] theorem slot_changeHolder (s : State) (l : Nat) (n : SessionNo) (k : Nat) :
    (s.changeHolder l n).slot k = s.slot k := rfl
@[simp] theorem lib_changeHolder (s : State) (l : Nat) (n : SessionNo) (e : Nat) :
    (s.changeHolder l n).lib e = s.lib e := rfl

theorem slot_modSlot_ne (s : State) {k j : Nat} (h : j ≠ k) (f : StageSlot → StageSlot) :
    (s.modSlot k f).slot j = s.slot j := by
  rw [slot_modSlot, if_neg h.symm]

theorem lib_modLib_ne (s : State) {e j : Nat} (h : j ≠ e) (f : LibEntry → LibEntry) :
    (s.modLib e f).lib j = s.lib j := by
  rw [lib_modLib, if_neg h.symm]

theorem changeHolder_holder (s : State) (l : Nat) (n : SessionNo) : ((s.changeHolder l n).lease l).holder = n := by
  rw [State.changeHolder, lease_modLease_self]

/-! ### A staging takes a slot and leaves it (07 R254, R255) -/

theorem takeSlot_slot_self (s : State) (k : Nat) (n : SessionNo) (st : StageState) (e total : Nat) :
    (s.takeSlot k n st e total).slot k = { state := st, owner := n, entry := e, total := total } := by
  rw [State.takeSlot, slot_changeHolder, slot_modSlot_self]

theorem takeSlot_slot_ne (s : State) {k j : Nat} (h : j ≠ k) (n : SessionNo) (st : StageState) (e total : Nat) :
    (s.takeSlot k n st e total).slot j = s.slot j := by
  rw [State.takeSlot, slot_changeHolder, slot_modSlot_ne _ h]

@[simp] theorem takeSlot_lib (s : State) (k : Nat) (n : SessionNo) (st : StageState) (e total j : Nat) :
    (s.takeSlot k n st e total).lib j = s.lib j := rfl

theorem takeSlot_holder (s : State) (k : Nat) (n : SessionNo) (st : StageState) (e total : Nat) :
    ((s.takeSlot k n st e total).lease (0x40 + k)).holder = n := changeHolder_holder ..

/-- A freed slot's lease has no holder; beside the slot and the lease nothing differs. -/
theorem freeSlot_frees (s : State) (k : Nat) :
    (s.freeSlot k).slot k = (s.slot k).freed ∧ (∀ j, j ≠ k → (s.freeSlot k).slot j = s.slot j) ∧
      (∀ e, (s.freeSlot k).lib e = s.lib e) ∧ ((s.freeSlot k).lease (0x40 + k)).holder = 0 ∧
      (s.freeSlot k).array = s.array ∧ (s.freeSlot k).blank = (s.modSlot k StageSlot.freed).blank := by
  have hself : (s.modSlot k StageSlot.freed).slot k = (s.slot k).freed := slot_modSlot_self ..
  have hother (j : Nat) (h : j ≠ k) : (s.modSlot k StageSlot.freed).slot j = s.slot j := slot_modSlot_ne _ h _
  unfold State.freeSlot
  dsimp only
  split
  case isTrue hnone => exact ⟨hself, hother, fun _ => rfl, hnone, rfl, rfl⟩
  case isFalse => exact ⟨hself, hother, fun _ => rfl, changeHolder_holder .., rfl, rfl⟩

/-- The slot and its entry are VERIFYING, and no other slot or entry differs. -/
theorem startVerifying_verifies (s : State) (k : Nat) :
    (s.startVerifying k).slot k = { s.slot k with state := .verifying } ∧
      (∀ j, j ≠ k → (s.startVerifying k).slot j = s.slot j) ∧
      (s.startVerifying k).lib (s.slot k).entry = { s.lib (s.slot k).entry with state := .verifying } ∧
      ∀ j, j ≠ (s.slot k).entry → (s.startVerifying k).lib j = s.lib j := by
  unfold State.startVerifying
  refine ⟨?_, fun j hj => ?_, ?_, fun j hj => ?_⟩
  · rw [slot_modLib, slot_modSlot_self]
  · rw [slot_modLib, slot_modSlot_ne _ hj]
  · rw [lib_modLib_self, lib_modSlot]
  · rw [lib_modLib_ne _ hj, lib_modSlot]

@[simp] theorem startVerifying_lease (s : State) (k l : Nat) : (s.startVerifying k).lease l = s.lease l := rfl

/-! ### The objects of a staging slot (07 R276) -/

/-- No object of a staging slot is held by a unit that SLEEP gates. -/
theorem sleepGated_slotKey (k : Fin 2) {sub : Nat} (h : sub < 256) : sleepGated (slotKey k sub) = false := by
  have hindex : slotKey k sub / 256 = 0x8410 + k := by unfold slotKey okey; omega
  have hk := k.isLt
  unfold sleepGated
  rw [hindex, decide_eq_false_iff_not]
  omega

end Sys2Proof.Machine
end

section
/-!
What the array, the packet network and the Quench unit do leaves the blank unit alone: staging slots, library, firmware
slots and the Assay (05 R162 to R195, 06 R204 to R237, 10 R366).
-/

namespace Sys2Proof.Machine

/-! ### Causes (10 R366) -/

@[simp] theorem driveQLevels_blank (s : State) : s.driveQLevels.blank = s.blank := by
  refine foldl_keeps (g := State.blank) (fun t y => ?_) _ s
  dsimp only
  split
  · split <;> rfl
  · rfl

@[simp] theorem enterQuenched_blank (s : State) (code : Nat) : (s.enterQuenched code).blank = s.blank :=
  driveQLevels_blank _

@[simp] theorem quenchCause_blank (s : State) (code : Nat) (n : SessionNo) : (s.quenchCause code n).blank = s.blank := by
  have recorded (u : State) (d : List Nat) : (u.record .quench .safety 0x80 (0x0100 + code) d n).blank = u.blank :=
    (record_logsOver ..).blank
  unfold State.quenchCause
  dsimp only
  split
  · rfl
  · split
    · rw [enterQuenched_blank, recorded]; rfl
    · rw [recorded]; rfl

@[simp] theorem standFault_blank (s : State) (code : Nat) : (s.standFault code).blank = s.blank :=
  quenchCause_blank ..

@[simp] theorem endFault_blank (s : State) (code : Nat) : (s.endFault code).blank = s.blank := rfl

/-! ### Lanes and stopped tiles (05 R162 to R170, 03 R134) -/

@[simp] theorem toComparator_blank (s : State) (t p : Nat) (v : Word) : (s.toComparator t p v).blank = s.blank := by
  unfold State.toComparator
  split <;> rfl

@[simp] theorem arrive_blank (s : State) (t q : Nat) (v : Word) : (s.arrive t q v).blank = s.blank := by
  unfold State.arrive
  dsimp only
  split
  · rfl
  · split
    · split <;> rfl
    · rfl

@[simp] theorem sendLane_blank (s : State) (t p : Nat) (v : Word) : (s.sendLane t p v).blank = s.blank := by
  unfold State.sendLane
  split
  · exact arrive_blank ..
  · rfl
  · rfl

@[simp] theorem leave_blank (s : State) (t p : Nat) (v : Word) : (s.leave t p v).blank = s.blank := by
  have compared (c : Prop) [Decidable c] : (if c then s.toComparator t p v else s).blank = s.blank := by
    split
    · exact toComparator_blank ..
    · rfl
  unfold State.leave
  dsimp only
  split
  · exact compared _
  · rw [sendLane_blank, compared]

@[simp] theorem passOne_blank (s : State) (t q : Nat) : (s.passOne t q).blank = s.blank := by
  unfold State.passOne
  split
  · rfl
  · dsimp only
    split
    · rw [arrive_blank]; rfl
    · exact foldl_keeps (g := State.blank) (fun u p => leave_blank u t p _) _ _

@[simp] theorem pinToLane_blank (s : State) (t : Nat) : (s.pinToLane t).blank = s.blank := by
  unfold State.pinToLane
  split
  · rfl
  · rw [arrive_blank]; rfl

@[simp] theorem settle_blank (n : Nat) (l : List Nat) (s : State) : (settle n l s).blank = s.blank := by
  fun_induction settle n l s with
  | case1 => rfl
  | case2 => rfl
  | case3 n t w s q _ ih => rw [ih, passOne_blank]
  | case4 n t w s _ _ ih => rw [ih, pinToLane_blank]
  | case5 n t w s _ _ ih => exact ih

@[simp] theorem stopTile_blank (s : State) (t : Nat) (r : CtxReason) : (s.stopTile t r).blank = s.blank := by
  unfold State.stopTile
  dsimp only
  split
  · rfl
  · exact settle_blank ..

@[simp] theorem stopTiles_blank (s : State) (ts : List Nat) (r : CtxReason) :
    (s.stopTiles ts r false).blank = s.blank := by
  refine foldl_keeps (g := State.blank) (fun u t => ?_) _ _
  exact stopTile_blank u t r

/-! ### Tasks (05 R178 to R194) -/

@[simp] theorem sendStage_blank (s : State) (n : Nat) (members : List Nat) (use : TagUse) (msg : StagedMsg)
    (hold ofs : Nat) (onCommit : Bool) : (s.sendStage n members use msg hold ofs onCommit).2.blank = s.blank := by
  rw [sendStage_rest]

@[simp] theorem decideStart_blank (s : State) (n : Nat) (commit : Bool) : (s.decideStart n commit).blank = s.blank := by
  rw [decideStart_rest]

@[simp] theorem becomeReady_blank (s : State) (n : Nat) : (s.becomeReady n).blank = s.blank := by
  unfold State.becomeReady State.stageStart
  dsimp only
  split
  · rw [modTask_blank, sendStage_blank]; rfl
  · rfl

@[simp] theorem fireTrigger_blank (s : State) (n : Nat) : (s.fireTrigger n).blank = s.blank := by
  unfold State.fireTrigger
  dsimp only
  split
  · split
    · rw [becomeReady_blank]; rfl
    · split <;> rfl
  · rfl

@[simp] theorem armTask_blank (s : State) (n : Nat) : (s.armTask n).blank = s.blank := by
  unfold State.armTask
  dsimp only
  split
  · rw [fireTrigger_blank]; rfl
  · rfl

@[simp] theorem armOrWake_blank (s : State) (n : Nat) : (s.armOrWake n).blank = s.blank := by
  unfold State.armOrWake
  split
  · exact armTask_blank ..
  · rfl

@[simp] theorem flushTask_blank (s : State) (n : Nat) : (s.flushTask n).blank = s.blank := by
  unfold State.flushTask
  dsimp only
  rw [modTask_blank, foldl_keeps (g := State.blank) (fun u t => modTile_blank u t _)]

@[simp] theorem dismissTask_blank (s : State) (n : Nat) : (s.dismissTask n).blank = s.blank := by
  have decided : (if (s.task n).start.isSome then s.decideStart n false else s).blank = s.blank := by
    split
    · exact decideStart_blank ..
    · rfl
  unfold State.dismissTask
  dsimp only
  rw [modTask_blank, stopTiles_blank, flushTask_blank, decided]

/-! ### Requests at a cluster (06 R203, R205) -/

theorem pushQueue_blank {s u : State} {n : Nat} {words : List Nat} (h : s.pushQueue n words = some u) :
    u.blank = s.blank := by
  unfold State.pushQueue at h
  dsimp only at h
  split at h
  · cases h
  · split at h
    · obtain rfl := Option.some.inj h
      exact fireTrigger_blank ..
    · obtain rfl := Option.some.inj h
      rfl

@[simp] theorem writeDesc_blank (s : State) (t k j : Nat) (v : Word) : (s.writeDesc t k j v).blank = s.blank := by
  unfold State.writeDesc
  split <;> rfl

@[simp] theorem writeImem_blank (s : State) (t i j : Nat) (v : Word) : (s.writeImem t i j v).blank = s.blank := by
  unfold State.writeImem
  split <;> rfl

@[simp] theorem writeSpace_blank (s : State) (t : Nat) (sp : DataSpace) (n v : Nat) :
    (s.writeSpace t sp n v).blank = s.blank := by
  cases sp <;> rfl

theorem writeTileReg_blank {s u : State} {t off : Nat} {v : Word} (h : s.writeTileReg t off v = some u) :
    u.blank = s.blank := by
  unfold State.writeTileReg at h
  dsimp only at h
  split_ifs at h
  all_goals
    obtain rfl := Option.some.inj h
    simp only [modTile_blank, writeDesc_blank, writeImem_blank, writeSpace_blank]

/-- An operation on a map of words whose writes leave the blank unit alone does so too. -/
theorem wordOp_blank (s : State) {m : WordMap} (hm : ∀ u w v, (m.write u w v).blank = u.blank) (p : Packet) :
    (s.wordOp m p).2.2.blank = s.blank := by
  unfold State.wordOp
  split
  · split <;> rfl
  · exact foldl_keeps (g := State.blank) (fun u e => hm u _ _) _ _
  · dsimp only
    split
    · exact foldl_keeps (g := State.blank) (fun u e => hm u _ _) _ _
    · rfl
  · split
    · rfl
    · dsimp only
      split
      · exact hm ..
      · exact hm ..
      · dsimp only
        split
        · exact hm ..
        · rfl
      · rfl

/-- Writes of a list that may each be refused leave alone what every one of them does. -/
theorem foldlM_keeps {α β : Type} {step : State → α → Option State} {g : State → β}
    (h : ∀ s a u, step s a = some u → g u = g s) (l : List α) {s u : State} (hl : l.foldlM step s = some u) :
    g u = g s := by
  induction l generalizing s with
  | nil => obtain rfl := Option.some.inj hl; rfl
  | cons a l ih =>
    rw [List.foldlM_cons, Option.bind_eq_bind, Option.bind_eq_some_iff] at hl
    obtain ⟨v, hv, hrest⟩ := hl
    exact (ih hrest).trans (h s a v hv)

@[simp] theorem serveCluster_blank (s : State) (c : Nat) (p : Packet) : (s.serveCluster c p).2.2.blank = s.blank := by
  unfold State.serveCluster
  split
  · split <;> rfl
  split
  · split
    · rfl
    split
    · rfl
    · exact wordOp_blank s (fun _ _ _ => rfl) p
  split
  · split
    · rfl
    dsimp only
    split
    · rfl
    · split
      next hwritten => exact foldlM_keeps (g := State.blank) (fun _ _ _ => writeTileReg_blank) _ hwritten
      next => rfl
    · rfl
  split
  · split
    · rfl
    split
    · rfl
    split
    · rfl
    · split
      next hpushed => exact pushQueue_blank hpushed
      next => rfl
  · rfl

/-! ### Transfer descriptors (06 R209 to R212, R237) -/

@[simp] theorem respond_blank (s : State) (n : Nat) (p : Packet) (st : NetStatus) (data : List Nat) :
    (s.respond n p st data).blank = s.blank := rfl

@[simp] theorem modEntry_blank (s : State) (n e : Nat) (f : NetEntry → NetEntry) :
    (s.modEntry n e f).blank = s.blank := by
  unfold State.modEntry
  split <;> rfl

@[simp] theorem descDone_blank (s : State) (c k : Nat) (st : NetStatus) (data : List Nat) (mask : Option (List Nat)) :
    (s.descDone c k st data mask).blank = s.blank := by
  have filled (f : Nat × Nat → Nat) : (data.zipIdx.foldl (fun t e => t.putWord c (f e) e.1) s).blank = s.blank :=
    foldl_keeps (g := State.blank) (fun t e => show (t.putWord c (f e) e.1).blank = t.blank from rfl) _ _
  unfold State.descDone
  split
  · rfl
  · cases mask <;> exact filled _

theorem sendUnicast_blank {s u : State} {c k zone : Nat} (h : s.sendUnicast c k zone = some u) : u.blank = s.blank := by
  unfold State.sendUnicast at h
  dsimp only at h
  split at h
  · obtain rfl := Option.some.inj h; exact descDone_blank ..
  split at h
  · obtain rfl := Option.some.inj h; exact descDone_blank ..
  split at h
  · cases h
  split at h
  · cases h
  · obtain rfl := Option.some.inj h
    exact modEntry_blank ..

theorem sendMulticast_blank {s u : State} {c k zone : Nat} (h : s.sendMulticast c k zone = some u) :
    u.blank = s.blank := by
  unfold State.sendMulticast at h
  dsimp only at h
  split at h
  · obtain rfl := Option.some.inj h; exact descDone_blank ..
  split at h
  · obtain rfl := Option.some.inj h; exact descDone_blank ..
  split at h
  · obtain rfl := Option.some.inj h; exact descDone_blank ..
  split at h
  · cases h
  split at h
  · cases h
  · obtain rfl := Option.some.inj h
    refine foldl_keeps (g := State.blank) (fun t p => ?_) _ _
    exact modEntry_blank ..

theorem issue1_blank {s u : State} {c k : Nat} (h : s.issue1 c k = some u) : u.blank = s.blank := by
  unfold State.issue1 at h
  dsimp only at h
  split at h
  · cases h
  split at h
  · obtain rfl := Option.some.inj h; exact descDone_blank ..
  split at h
  · exact sendMulticast_blank h
  · exact sendUnicast_blank h

@[simp] theorem issueHeld_blank (s : State) (c : Nat) : (s.issueHeld c).blank = s.blank := by
  unfold State.issueHeld
  dsimp only
  rw [modNi_blank]
  refine List.foldlRecOn (motive := fun a : State × List Nat × List Nat => a.1.blank = s.blank) _ _ rfl
    fun a ha k _ => ?_
  split
  · exact ha
  · split
    next hissued => exact (issue1_blank hissued).trans ha
    next => exact ha

/-! ### Requests held at a gated cluster (06 R230 to R235) -/

@[simp] theorem noteRefusal_blank (s : State) (m : StagedMsg) (f : Nat × Abort) : (s.noteRefusal m f).blank = s.blank := by
  cases m <;> rfl

@[simp] theorem holdStart_blank (s : State) (n : Nat) (m : StagedMsg) : (s.holdStart n m).blank = s.blank := by
  cases m <;> rfl

@[simp] theorem takeStage_blank (s : State) (n : Nat) (q : StageReq) : (s.takeStage n q).blank = s.blank := by
  unfold State.takeStage
  dsimp only
  split
  · rw [respond_blank, noteRefusal_blank]
  · split <;> rfl

@[simp] theorem takeCommit_blank (s : State) (n : Nat) (p : Packet) : (s.takeCommit n p).blank = s.blank := by
  unfold State.takeCommit
  split
  · rfl
  · split
    · rfl
    · dsimp only
      rw [respond_blank, holdStart_blank]
      split <;> rfl

@[simp] theorem takeAbort_blank (s : State) (n : Nat) (p : Packet) : (s.takeAbort n p).blank = s.blank := by
  unfold State.takeAbort
  split <;> rfl

/-- A request held at a cluster is served. -/
theorem serveHeld_blank (s : State) {n : Nat} (hn : n < 64) (r : NetReq) : (s.serveHeld n r).blank = s.blank := by
  unfold State.serveHeld
  split
  · exact takeStage_blank ..
  · split
    · exact takeCommit_blank ..
    · exact takeAbort_blank ..
    · exact issueHeld_blank ..
    · rw [respond_blank, serveAt_cluster hn, serveCluster_blank]

@[simp] theorem wokenFor_blank (s : State) (c n : Nat) : (s.wokenFor c n).blank = s.blank := by
  unfold State.wokenFor
  dsimp only
  split
  · split
    · exact armTask_blank ..
    · rfl
  · rfl

theorem wakeCluster_blank (s : State) {c : Nat} (hc : c < 64) : (s.wakeCluster c).blank = s.blank := by
  unfold State.wakeCluster
  dsimp only
  split
  · rw [foldl_keeps (g := State.blank) (fun u n => wokenFor_blank u c n),
      foldl_keeps (g := State.blank) (fun u r => serveHeld_blank u hc r)]
    rfl
  · rfl

/-! ### Flows, firewalls and the journal (06 R219, R221, 12 R478) -/

@[simp] theorem dropFlows_blank (s : State) (es : List Nat) : (s.dropFlows es).blank = s.blank := rfl

@[simp] theorem declareFlows_blank (s : State) (e : Nat) (b : List Nat) : (s.declareFlows e b).blank = s.blank := by
  unfold State.declareFlows
  split <;> rfl

@[simp] theorem recomputeAllow_blank (s : State) : s.recomputeAllow.blank = s.blank := rfl

@[simp] theorem commit_blank (s : State) (b : JBody) : (s.commit b).blank = s.blank := by rw [commit_rest]

@[simp] theorem judgeRedundant_blank (s : State) : s.judgeRedundant.blank = s.blank := by
  unfold State.judgeRedundant
  split
  · split
    · rfl
    · exact (alarm_logsOver ..).blank
  · rfl

end Sys2Proof.Machine
end

section
/-!
Staging and verification of blanks: what *Header*, *Body*, *FromLibrary* and *Delete* and the end of a verification leave
of the slot and of its library entry (07 R254 to R258, R266).
-/

namespace Sys2Proof.Machine

/-! ### The dispatch of the staging commands -/

theorem exec_stagingHeader (q : Req) (k : Fin 2) (b : List Nat) (s : State) :
    exec (.stagingHeader q k b) s = execStagingHeader q k b s := rfl

theorem exec_stagingBody (q : Req) (k : Fin 2) (off : Fin 4294967296) (last : Bool) (data : List Nat) (s : State) :
    exec (.stagingBody q k off last data) s = execStagingBody q k off last data s := rfl

theorem exec_verificationComplete (k : Fin 2) (s : State) :
    exec (.verificationComplete k) s = execVerificationComplete k s := rfl

theorem exec_fromLibrary (q : Req) (k : Fin 2) (b : List Nat) (s : State) :
    exec (.fromLibrary q k b) s = execFromLibrary q k b s := rfl

theorem exec_libraryDelete (q : Req) (e : Fin 32) (b : List Nat) (s : State) :
    exec (.libraryDelete q e b) s = execLibraryDelete q e b s := rfl

/-! ### The objects of a staging slot (07 R276) -/

/-- No byte of a staging slot's objects is reserved. -/
theorem reservedByte_slotKey (k : Fin 2) {sub : Nat} (h : sub < 256) (b : List Nat) :
    reservedByte (slotKey k sub) b = none := by
  have hindex : slotKey k sub / 256 = 0x8410 + k := by unfold slotKey okey; omega
  have hkey : slotKey k sub = 256 * (0x8410 + k) + sub := by unfold slotKey okey; omega
  have hk := k.isLt
  unfold reservedByte
  rw [if_neg, if_neg, if_neg] <;> rw [hkey] <;> unfold okey <;> omega

/-- The row of *Header*. -/
def stagingHeaderRow : ObjRow := oWO 0x8410 0x8411 4 4 (.oct 64) rStage

/-- The row of *FromLibrary*. -/
def fromLibraryRow : ObjRow := oWO 0x8410 0x8411 6 6 .u8 rStage

theorem objRow_stagingHeader (k : Fin 2) : objRow (slotKey k 4) = some stagingHeaderRow := by
  revert k
  decide

theorem objRow_fromLibrary (k : Fin 2) : objRow (slotKey k 6) = some fromLibraryRow := by
  revert k
  decide

theorem bytesCheck_stagingHeader (k : Fin 2) {b : List Nat} (h : b.length = 64) :
    bytesCheck (slotKey k 4) stagingHeaderRow b = (.ok, 0) := by
  have hsize : ¬ stagingHeaderRow.ty.size ≠ some b.length := by rw [h]; decide
  unfold bytesCheck
  rw [reservedByte_slotKey k (by decide), if_neg hsize]
  rfl

theorem bytesCheck_fromLibrary (k : Fin 2) (e : Nat) : bytesCheck (slotKey k 6) fromLibraryRow [e] = (.ok, 0) := by
  unfold bytesCheck
  rw [reservedByte_slotKey k (by decide)]
  rfl

theorem valNat_u8 (n : Nat) : valNat (VType.u8.decode [n]) = n := by
  simp [VType.decode, valNat, ofBytesBE, ofBytesLE]

/-! ### Priming leaves the stagings alone but for its own (07 R258) -/

/-- `u` has the staging slots, the library, the active blanks and the firmware of `s`. -/
def State.keepsStagings (s u : State) : Prop :=
  u.blank = { s.blank with assay := u.blank.assay, secondBank := u.blank.secondBank }

theorem keepsStagings_of_blank {s u : State} (h : u.blank = s.blank) : s.keepsStagings u := by
  rw [State.keepsStagings, h]

theorem State.keepsStagings.trans {s u v : State} (h : s.keepsStagings u) (g : u.keepsStagings v) :
    s.keepsStagings v := by
  unfold State.keepsStagings at *
  rw [g, h]

theorem keepsStagings_foldl {α : Type} {f : State → α → State} {l : List α}
    (hf : ∀ t, ∀ a ∈ l, State.keepsStagings t (f t a)) (s : State) : s.keepsStagings (l.foldl f s) := by
  induction l generalizing s with
  | nil => exact keepsStagings_of_blank rfl
  | cons a l ih =>
    exact (hf s a List.mem_cons_self).trans (ih (fun t b hb => hf t b (List.mem_cons_of_mem a hb)) _)

section
variable {s u : State} (h : s.keepsStagings u)
include h

theorem State.keepsStagings.slot (k : Nat) : u.slot k = s.slot k := by rw [State.slot, h]; rfl
theorem State.keepsStagings.lib (e : Nat) : u.lib e = s.lib e := by rw [State.lib, h]; rfl
theorem State.keepsStagings.active : u.blank.active = s.blank.active := by rw [h]

end

theorem modAssay_keepsStagings (s : State) (f : AssayUnit → AssayUnit) : s.keepsStagings (s.modAssay f) := rfl

@[simp] theorem putConst_blank (s : State) (c : Nat) (r : ConstRec) : (s.putConst c r).blank = s.blank := by
  unfold State.putConst
  dsimp only
  split <;> rfl

/-- One cluster is primed: the second program bank is the only part of the blank unit that changes. -/
theorem primeCluster_keepsStagings (s : State) (k e : Nat) {c : Nat} (hc : c < 64) (b : List Nat) :
    s.keepsStagings (s.primeCluster k e c b) := by
  have unchanged {α : Type} {f : State → α → State} (hf : ∀ t a, (f t a).blank = t.blank) (l : List α) (t : State) :
      t.keepsStagings (l.foldl f t) := keepsStagings_of_blank (foldl_keeps (g := State.blank) hf l t)
  have banked (t : State) (w : Tab (Tab Nat)) : t.keepsStagings { t with blank := { t.blank with secondBank := w } } := rfl
  have written (t : State) (i : Nat) (l : List (Nat × List Word)) : (l.foldl (fun v x =>
      (v.putCode (tileOf c i) b x.2).putDescriptor (tileOf c i) x.1 (primedWords e false x.2)) t).blank = t.blank := by
    refine foldl_keeps (g := State.blank) ?_ _ _
    exact fun _ _ => rfl
  unfold State.primeCluster
  dsimp only
  refine State.keepsStagings.trans ?_ (unchanged (fun t r => modNi_blank ..) _ _)
  refine State.keepsStagings.trans ?_ (banked _ _)
  refine State.keepsStagings.trans ?_ (unchanged (fun t i => written t i _) _ _)
  refine State.keepsStagings.trans ?_ (unchanged (fun t r => modTile_blank ..) _ _)
  exact (keepsStagings_of_blank (wakeCluster_blank s hc)).trans (unchanged (fun t r => putConst_blank ..) _ _)

theorem mem_imageClusters_lt {b : List Nat} {c : Nat} (h : c ∈ imageClusters b) : c < 64 :=
  List.mem_range.1 (List.mem_filter.1 h).1

/-- Priming begins: the slot and its entry are PRIMING. -/
theorem beginPriming_primes (s : State) (k : Nat) :
    ((s.beginPriming k).slot k).state = .priming ∧
      (s.beginPriming k).lib (s.slot k).entry = { s.lib (s.slot k).entry with state := .priming } := by
  let e := (s.slot k).entry
  let b := s.image e
  let s1 := (s.modSlot k (fun x => { x with state := .priming, taskNos := s.freeTasks.take (imageTasks b).length })).modLib e
    (fun x => { x with state := .priming })
  have hkeeps : s1.keepsStagings (s.beginPriming k) :=
    ((keepsStagings_foldl (fun t c hc => primeCluster_keepsStagings t k e (mem_imageClusters_lt hc) b) s1).trans
      (modAssay_keepsStagings _ _)).trans (keepsStagings_of_blank (declareFlows_blank _ e b))
  constructor
  · rw [hkeeps.slot, slot_modLib, slot_modSlot_self]
  · rw [hkeeps.lib, lib_modLib_self, lib_modSlot]

/-! ### The end of a verification (07 R254, R257) -/

/-- A refused staging: its code stands in the slot, which is free, and its entry is what the refusal leaves of it. -/
theorem refuseStaging_refuses (s : State) (k : Nat) (c : Abort) (l : LibEntry → LibEntry) :
    (s.refuseStaging k c l).slot k = { (s.slot k).freed with refusal := c } ∧
      (∀ j, j ≠ k → (s.refuseStaging k c l).slot j = s.slot j) ∧
      (s.refuseStaging k c l).lib (s.slot k).entry = l (s.lib (s.slot k).entry) ∧
      (∀ j, j ≠ (s.slot k).entry → (s.refuseStaging k c l).lib j = s.lib j) ∧
      ((s.refuseStaging k c l).lease (0x40 + k)).holder = 0 := by
  obtain ⟨hslot, hslots, hlib, hlease, -, -⟩ :=
    freeSlot_frees ((s.modSlot k (fun x => { x with refusal := c })).modLib (s.slot k).entry l) k
  unfold State.refuseStaging
  refine ⟨?_, fun j hj => ?_, ?_, fun j hj => ?_, hlease⟩
  · rw [hslot, slot_modLib, slot_modSlot_self]; rfl
  · rw [hslots j hj, slot_modLib, slot_modSlot_ne _ hj]
  · rw [hlib, lib_modLib_self, lib_modSlot]
  · rw [hlib, lib_modLib_ne _ hj, lib_modSlot]

/-- The entry of a slot whose image verifies: VERIFIED, with its golden signatures. -/
def State.verifiedIn (s : State) (k : Nat) : State :=
  s.modLib (s.slot k).entry (fun l => { l with state := .verified, golden := imageGolden (s.image (s.slot k).entry) })

section
variable {s : State} {k : Fin 2} {c : Abort} {d : Nat} (hst : (s.slot k).state = .verifying)
include hst

/-- An image that fails its verification is refused, and nothing of it is kept. -/
theorem verificationComplete_refused (hv : s.verifyBlank (s.image (s.slot k).entry) = (c, d)) (hc : c ≠ .ok) :
    exec (.verificationComplete k) s = .next (s.refuseStaging k c (fun _ => {})) := by
  rw [exec_verificationComplete, execVerificationComplete]
  dsimp only
  rw [if_neg (not_not.2 hst), hv]
  split
  next heq => cases heq; exact absurd rfl hc
  next heq => cases heq; rfl

variable (hv : s.verifyBlank (s.image (s.slot k).entry) = (.ok, d))
include hv

/-- An image that verifies leaves its slot, where no prime was requested. -/
theorem verificationComplete_verified (hprime : (s.slot k).primeWanted = false) :
    exec (.verificationComplete k) s = .next ((s.verifiedIn k).freeSlot k) := by
  rw [exec_verificationComplete, execVerificationComplete]
  dsimp only
  rw [if_neg (not_not.2 hst), hv, hprime]
  rfl

variable (hprime : (s.slot k).primeWanted = true)
include hprime

/-- A prime that was requested and passes its checks begins. -/
theorem verificationComplete_primes {e : Nat} (hcheck : (s.verifiedIn k).primeCheck k = (.ok, e)) :
    exec (.verificationComplete k) s = .next ((s.verifiedIn k).beginPriming k) := by
  unfold State.verifiedIn at hcheck
  rw [exec_verificationComplete, execVerificationComplete]
  dsimp only
  rw [if_neg (not_not.2 hst), hv, hprime]
  dsimp only
  rw [if_pos rfl, hcheck]
  rfl

/-- A prime that was requested and fails its checks is refused; the entry stays VERIFIED. -/
theorem verificationComplete_prime_refused {e : Nat} (hcheck : (s.verifiedIn k).primeCheck k = (c, e)) (hc : c ≠ .ok) :
    exec (.verificationComplete k) s = .next ((s.verifiedIn k).refuseStaging k c id) := by
  unfold State.verifiedIn at hcheck
  rw [exec_verificationComplete, execVerificationComplete]
  dsimp only
  rw [if_neg (not_not.2 hst), hv, hprime]
  dsimp only
  rw [if_pos rfl, hcheck]
  split
  next heq => cases heq; exact absurd rfl hc
  next heq => cases heq; rfl

end

/-! ### The commands (07 R254 to R256, R266) -/

/-- A header is taken: its entry and its slot are RECEIVING. -/
def State.receives (s : State) (q : Req) (k e : Nat) (b : List Nat) : State :=
  (s.modLib e (fun _ => { state := .receiving, image := b, reserved := imageTotal b })).takeSlot k q.session .receiving e
    (imageTotal b)

/-- The header's entry and slot, with the slot's lease held by the session. -/
theorem receives_takes (s : State) (q : Req) (k e : Nat) (b : List Nat) :
    (s.receives q k e b).slot k = { state := .receiving, owner := q.session, entry := e, total := imageTotal b } ∧
      (∀ j, j ≠ k → (s.receives q k e b).slot j = s.slot j) ∧
      (s.receives q k e b).lib e = { state := .receiving, image := b, reserved := imageTotal b } ∧
      (∀ j, j ≠ e → (s.receives q k e b).lib j = s.lib j) ∧
      ((s.receives q k e b).lease (0x40 + k)).holder = q.session := by
  refine ⟨takeSlot_slot_self .., fun j hj => takeSlot_slot_ne _ hj .., ?_, fun j hj => ?_, takeSlot_holder ..⟩
  · rw [State.receives, takeSlot_lib, lib_modLib_self]
  · rw [State.receives, takeSlot_lib, lib_modLib_ne _ hj]

/-- A good *Header* takes the lowest free entry; an image that is a header alone is whole. -/
theorem stagingHeader_receives {s : State} {q : Req} {ss : Session} {k : Fin 2} {b : List Nat} {e : Nat}
    (h : s.hears q ss) (ha : s.admitted q ss (slotKey k 4)) (hlen : b.length = 64) (hcheck : headerCheck b = (.ok, 0))
    (hempty : (s.slot k).state = .empty) (hfree : imageTotal b ≤ s.libraryFree) (he : s.freeEntry = some e)
    (hbusy : s.leaseBusy (0x40 + k) = false) :
    exec (.stagingHeader q k b) s = .next
      ((if imageTotal b = 64 then ((s.noted q).receives q k e b).startVerifying k else (s.noted q).receives q k e b).reply
        q.session { rid := q.rid, code := .ok }) := by
  have hentry : (s.noted q).freeEntry = some e := he
  have hspace : ¬ (s.noted q).libraryFree < imageTotal b := Nat.not_lt.2 hfree
  have hlease : (s.noted q).leaseBusy (stagingLease k) = false := hbusy
  have hbytes : valBytes (stagingHeaderRow.ty.decode b) = b := rfl
  rw [exec_stagingHeader, execStagingHeader]
  refine congrArg _ (serveBytes_of_served h ha (sleepGated_slotKey k (by decide)) (objRow_stagingHeader k)
    (bytesCheck_stagingHeader k hlen) (d := 0) ?_ ?_)
  · simp [hbytes, firstFail, hempty, hcheck, hspace, hentry, hlease]
  · dsimp only
    rw [hbytes, hentry]
    rfl

/-- A segment of *Body* is taken: its octets stand at the end of the entry's image. -/
def State.appends (s : State) (q : Req) (k off : Nat) (last : Bool) (data : List Nat) : State :=
  (s.segmented q (slotKey k 5) off last data []).modLib (s.slot k).entry
    (fun y => { y with image := y.image ++ data.map (· % 256) })

/-- A segment of *Body* at the next offset: its octets are appended, and the last begins the verification. -/
theorem stagingBody_appends {s : State} {q : Req} {ss : Session} {k : Fin 2} {off : Fin 4294967296} {last : Bool}
    {data : List Nat} (h : s.hears q ss) (ha : s.admitted q ss (slotKey k 5))
    (horder : ss.inOrder (slotKey k 5) off = true) (hlen : 0 < data.length ∧ data.length ≤ 1020)
    (hst : (s.slot k).state = .receiving) (hoff : 64 + off.val = (s.lib (s.slot k).entry).image.length)
    (hfits : 64 + off.val + data.length ≤ (s.slot k).total)
    (hlast : last = decide (64 + off.val + data.length = (s.slot k).total)) :
    let v := s.appends q k off last data
    exec (.stagingBody q k off last data) s = .next ((if last then v.startVerifying k else v).reply q.session
      { rid := q.rid, code := .ok, value := some (.num (off.val + data.length)) }) := by
  have hstream : streamCheck (s.lib (s.slot k).entry).image.length (s.slot k).total off last data.length = (.ok, 0) := by
    simp [streamCheck, firstFail, hoff, hlast, Nat.not_lt.2 (hoff ▸ hfits)]
  rw [exec_stagingBody, execStagingBody]
  refine congrArg _ (serveSegment_of_served h ha horder hlen ?_)
  have hslot : (s.segmented q (slotKey k 5) off last data []).slot k = s.slot k := rfl
  have hlib (e : Nat) : (s.segmented q (slotKey k 5) off last data []).lib e = s.lib e := rfl
  dsimp only
  rw [hslot, hlib, hst, hstream]
  rfl

/-- *FromLibrary* of a VERIFIED or RETIRED entry into an EMPTY slot. -/
theorem fromLibrary_stages {s : State} {q : Req} {ss : Session} {k : Fin 2} {e : Fin 32} (h : s.hears q ss)
    (ha : s.admitted q ss (slotKey k 6)) (hst : (s.lib e).state = .verified ∨ (s.lib e).state = .retired)
    (hempty : (s.slot k).state = .empty) (hbusy : s.leaseBusy (0x40 + k) = false) :
    exec (.fromLibrary q k [e.val]) s = .next
      ((((s.noted q).modLib e (fun l => { l with state := .verifying })).takeSlot k q.session .verifying e
        (imageTotal (s.lib e).image)).reply q.session { rid := q.rid, code := .ok }) := by
  have hlease : (s.noted q).leaseBusy (stagingLease k) = false := hbusy
  have hnum : valNat (fromLibraryRow.ty.decode [e.val]) = e.val := valNat_u8 e
  rw [exec_fromLibrary, execFromLibrary]
  refine congrArg _ (serveBytes_of_served h ha (sleepGated_slotKey k (by decide)) (objRow_fromLibrary k)
    (bytesCheck_fromLibrary k e) (d := 0) ?_ ?_)
  · rcases hst with hst | hst <;> simp [hnum, firstFail, hst, hempty, hlease]
  · dsimp only
    rw [hnum]
    rfl

/-- *Delete* by a MAINTENANCE session with EPOCH 0. -/
theorem libraryDelete_empties {s : State} {q : Req} {ss : Session} {e : Fin 32} (h : s.hears q ss)
    (hhalt : s.op.state ≠ .halt) (hrole : ss.role = .maintenance) (hepoch : q.epoch = 0)
    (hst : (s.lib e).state = .verified ∨ (s.lib e).state = .retired) :
    exec (.libraryDelete q e [1]) s = .next
      (((s.noted q).modLib e (fun _ => {})).reply q.session { rid := q.rid, code := .ok }) := by
  have hgate (zones : List Nat) : (s.noted q).deleteGate q.session ss.role q.epoch zones = (.ok, 0) := by
    simp [State.deleteGate, hrole, hepoch, rStage]
  rw [exec_libraryDelete, execLibraryDelete, serve_of_hears h]
  all_goals
    dsimp only
    rw [noted_op, if_neg hhalt, hgate]
    rcases hst with hst | hst <;> simp [firstFail, hst]

end Sys2Proof.Machine

open Sys2Proof Sys2Proof.Machine

/-- Settles O30: each command of a staging is served at once and its slot and entry are written out; the end of a
verification refuses the image, frees the slot with a VERIFIED entry, or goes on to priming. -/
theorem stagingAndVerification : Obligations.StagingAndVerification := by
  unfold Obligations.StagingAndVerification
  refine ⟨?header, ?body, ?verify, ?prime, ?library, ?delete⟩
  case header =>
    intro s q ss k b e h ha hlen hcheck hempty hfree he hbusy
    obtain ⟨hslot, hslots, hlib, hlibs, hholder⟩ := receives_takes (s.noted q) q k e b
    obtain ⟨hvslot, hvslots, hvlib, hvlibs⟩ := startVerifying_verifies ((s.noted q).receives q k e b) k
    rw [hslot] at hvslot hvlib hvlibs
    rw [hlib] at hvlib
    refine ⟨_, stagingHeader_receives h ha hlen hcheck hempty hfree he hbusy, reply_answers _ q .ok, ?_⟩
    simp only [reply_slot, reply_lib, reply_lease]
    by_cases hwhole : imageTotal b = 64
    · simp only [if_pos hwhole]
      exact ⟨hvslot, hvlib, hholder, fun j hj => (hvslots j hj).trans (hslots j hj),
        fun j hj => (hvlibs j hj).trans (hlibs j hj)⟩
    · simp only [if_neg hwhole]
      exact ⟨hslot, hlib, hholder, hslots, hlibs⟩
  case body =>
    intro s q ss k off last data h ha horder hlen hst hoff hfits hlast
    have hslot (j : Nat) : (s.appends q k off last data).slot j = s.slot j := rfl
    have hlib : (s.appends q k off last data).lib (s.slot k).entry = _ := lib_modLib_self ..
    have hlibs (j : Nat) (hj : j ≠ (s.slot k).entry) : (s.appends q k off last data).lib j = s.lib j :=
      lib_modLib_ne _ hj _
    obtain ⟨hvslot, hvslots, hvlib, hvlibs⟩ := startVerifying_verifies (s.appends q k off last data) k
    rw [hslot] at hvslot hvlib hvlibs
    rw [hlib] at hvlib
    refine ⟨_, stagingBody_appends h ha horder hlen hst hoff hfits hlast, rfl, ?_⟩
    simp only [reply_slot, reply_lib]
    cases last with
    | true => exact ⟨hvlib, hvslot, hvslots, fun j hj => (hvlibs j hj).trans (hlibs j hj)⟩
    | false => exact ⟨hlib, by simp only [← hst]; rfl, fun _ _ => rfl, hlibs⟩
  case verify =>
    intro s k hst hprime
    dsimp only
    obtain ⟨⟨c, d⟩, hv⟩ : ∃ r, s.verifyBlank (s.lib (s.slot k).entry).image = r := ⟨_, rfl⟩
    rw [hv]
    by_cases hc : c = .ok
    · subst hc
      obtain ⟨hslot, hslots, hlib, hholder, -, -⟩ := freeSlot_frees (s.verifiedIn k) k
      refine ⟨_, verificationComplete_verified hst hv hprime, hslot, hholder, ?_, hslots, fun j hj => ?_⟩
      · rw [hlib, State.verifiedIn, lib_modLib_self]; rfl
      · rw [hlib, State.verifiedIn, lib_modLib_ne _ hj]
    · obtain ⟨hslot, hslots, hlib, hlibs, hholder⟩ := refuseStaging_refuses s k c (fun _ => {})
      simp only [if_neg hc]
      exact ⟨_, verificationComplete_refused hst hv hc, hslot, hholder, hlib, hslots, hlibs⟩
  case prime =>
    intro s k hst hprime
    dsimp only
    obtain ⟨⟨c, d⟩, hv⟩ : ∃ r, s.verifyBlank (s.lib (s.slot k).entry).image = r := ⟨_, rfl⟩
    obtain ⟨⟨c', d'⟩, hcheck⟩ : ∃ r, (s.verifiedIn k).primeCheck k = r := ⟨_, rfl⟩
    have hcode : (State.primeCheck (s.modLib (s.slot k).entry (fun l =>
        { l with state := .verified, golden := imageGolden (s.lib (s.slot k).entry).image })) k).1 = c' :=
      congrArg Prod.fst hcheck
    rw [hv, hcode]
    by_cases hc : c = .ok
    · subst hc
      by_cases hc' : c' = .ok
      · subst hc'
        obtain ⟨hslot, hlib⟩ := beginPriming_primes (s.verifiedIn k) k
        exact ⟨_, verificationComplete_primes hst hv hprime hcheck, fun hne => absurd rfl hne,
          fun _ hne => absurd rfl hne, fun _ _ => ⟨hslot, hlib⟩⟩
      · obtain ⟨hslot, -, hlib, -, -⟩ := refuseStaging_refuses (s.verifiedIn k) k c' id
        exact ⟨_, verificationComplete_prime_refused hst hv hprime hcheck hc', fun hne => absurd rfl hne,
          fun _ _ => ⟨hslot, hlib⟩, fun _ h => absurd h hc'⟩
    · obtain ⟨hslot, -, hlib, -, -⟩ := refuseStaging_refuses s k c (fun _ => {})
      exact ⟨_, verificationComplete_refused hst hv hc, fun _ => ⟨hslot, hlib⟩, fun h => absurd h hc,
        fun h => absurd h hc⟩
  case library =>
    intro s q ss k e h ha hst hempty hbusy
    refine ⟨_, fromLibrary_stages h ha hst hempty hbusy, reply_answers _ q .ok, takeSlot_slot_self .., ?_,
      takeSlot_holder .., fun j hj => ?_⟩
    · rw [reply_lib, takeSlot_lib, lib_modLib_self]; rfl
    · rw [reply_lib, takeSlot_lib, lib_modLib_ne _ hj]; rfl
  case delete =>
    intro s q ss e h hhalt hrole hepoch hst
    refine ⟨_, libraryDelete_empties h hhalt hrole hepoch hst, reply_answers _ q .ok, ?_, fun j hj => ?_, rfl⟩
    · rw [reply_lib, lib_modLib_self]
    · rw [reply_lib, lib_modLib_ne _ hj]; rfl

end

section
/-!
Priming, activation and withdrawal of blanks: what *Prime*, *Go* and *Withdraw* leave of the slot and of its library entry,
the round of an activation and its edge, and the wait for a mark (07 R258 to R265, 11 R408).
-/

namespace Sys2Proof.Machine

/-! ### The dispatch of the activation commands -/

theorem exec_prime (q : Req) (k : Fin 2) (b : List Nat) (s : State) : exec (.prime q k b) s = execPrime q k b s := rfl

theorem exec_primingComplete (k : Fin 2) (s : State) : exec (.primingComplete k) s = execPrimingComplete k s := rfl

theorem exec_withdraw (q : Req) (k : Fin 2) (b : List Nat) (s : State) :
    exec (.withdraw q k b) s = execWithdraw q k b s := rfl

theorem exec_go (q : Req) (k : Fin 2) (b : List Nat) (s : State) : exec (.go q k b) s = execGo q k b s := rfl

theorem exec_activationRound (k : Fin 2) (s : State) : exec (.activationRound k) s = execActivationRound k s := rfl

theorem exec_activationEdge (k : Fin 2) (s : State) : exec (.activationEdge k) s = .next (s.activationDue k) := rfl

theorem exec_markWaitExpiry_slot (k : Fin 2) (j : Nat) (s : State) :
    exec (.markWaitExpiry (some k) j) s = .next (s.slotWaited k) := rfl

theorem exec_markWaitExpiry_apply (j : Nat) (s : State) :
    exec (.markWaitExpiry none j) s = .next (s.applyWaited j) := rfl

/-! ### The commands of a staging slot (07 R276) -/

/-- The row of *Prime*. -/
def primeRow : ObjRow := { oWO 0x8410 0x8411 7 7 .bool rStage with who := .staging }

/-- The row of *Go* and of *Withdraw*. -/
def slotCommandRow : ObjRow := { oWO 0x8410 0x8411 12 13 .bool rStage with who := .staging }

theorem objRow_prime (k : Fin 2) : objRow (slotKey k 7) = some primeRow := by
  revert k
  decide

theorem objRow_go (k : Fin 2) : objRow (slotKey k 12) = some slotCommandRow := by
  revert k
  decide

theorem objRow_withdraw (k : Fin 2) : objRow (slotKey k 13) = some slotCommandRow := by
  revert k
  decide

/-- A write of 1 to a command of a staging slot that is heard and admitted and passes its checks. -/
theorem slotCommand_of_served {s : State} {q : Req} {ss : Session} {k : Fin 2} {sub d : Nat} {r : ObjRow}
    {check : State → Session → Val → Abort × Nat} {effect : State → Session → Val → Served} {c : Abort} {u : State}
    (h : s.hears q ss) (ha : s.admitted q ss (slotKey k sub)) (hsub : sub < 256) (hr : objRow (slotKey k sub) = some r)
    (hty : r.ty = .bool) (hc : check (s.noted q) ss (.num 1) = (.ok, d))
    (hrun : effect (s.noted q) ss (.num 1) = { code := c, state := u }) :
    s.serveBytes q (slotKey k sub) [1] check effect = u.reply q.session { rid := q.rid, code := c } := by
  have hone : r.ty.decode [1] = .num 1 := by rw [hty]; rfl
  have hrange : r.inRange (.num 1) = true := by simp only [ObjRow.inRange, hty]; rfl
  refine serveBytes_of_served h ha (sleepGated_slotKey k hsub) hr ?_ (by rw [hone]; exact hc) (by rw [hone]; exact hrun)
  unfold bytesCheck
  rw [reservedByte_slotKey k hsub, hone, hrange, hty]
  rfl

/-! ### Prime and PRIMED (07 R258) -/

theorem prime_wants {s : State} {q : Req} {ss : Session} {k : Fin 2} (h : s.hears q ss)
    (ha : s.admitted q ss (slotKey k 7)) (hst : (s.slot k).state = .receiving ∨ (s.slot k).state = .verifying)
    (hheld : s.zoneNotHeld q.session (imageZones (s.image (s.slot k).entry)) = none) :
    exec (.prime q k [1]) s = .next (((s.noted q).modSlot k (fun x => { x with primeWanted := true })).reply q.session
      { rid := q.rid, code := .ok }) := by
  have hzones : (s.noted q).zoneNotHeld q.session (imageZones ((s.noted q).image (s.slot k).entry)) = none := hheld
  rw [exec_prime, execPrime]
  refine congrArg _ (slotCommand_of_served h ha (by decide) (objRow_prime k) rfl (d := 0) ?_ rfl)
  dsimp only
  rw [noted_slot, hzones]
  rcases hst with hst | hst <;> simp [firstFail, hst]

/-- The Assay's acts on tiles leave the stagings alone. -/
theorem clearValid_blank (s : State) (key : Nat) : (s.clearValid key).blank = s.blank := rfl

theorem record_keepsStagings (s : State) (area : AreaName) (cls : LogClass) (source code : Nat) (detail : List Nat)
    (session : Nat) : s.keepsStagings (s.record area cls source code detail session) :=
  keepsStagings_of_blank (record_logsOver ..).blank

theorem settleAssayLine_blank (s : State) : s.settleAssayLine.blank = s.blank := by
  unfold State.settleAssayLine
  split <;> rfl

theorem failTile_keepsStagings (s : State) (t : Nat) : s.keepsStagings (s.failTile t) := by
  have cleared (l : List Nat) : s.keepsStagings (l.foldl (fun u k => u.clearValid (16 * t + k)) s) := by
    refine keepsStagings_foldl (fun u k _ => ?_) s
    rfl
  unfold State.failTile
  exact ((cleared _).trans (modAssay_keepsStagings _ _)).trans (record_keepsStagings ..)

theorem repairDone_keepsStagings (s : State) (key e : Nat) : s.keepsStagings (s.repairDone key e) := by
  unfold State.repairDone
  dsimp only
  have valid (u : State) (c : Prop) [Decidable c] : u.keepsStagings (if c then u.setValid key else u) := by
    split <;> rfl
  split
  · exact ((modAssay_keepsStagings _ _).trans (valid _ _)).trans (failTile_keepsStagings ..)
  · exact (modAssay_keepsStagings _ _).trans (valid _ _)

theorem repairFailed_keepsStagings (s : State) (key : Nat) : s.keepsStagings (s.repairFailed key) := by
  unfold State.repairFailed
  exact (State.keepsStagings.trans (u := s.clearValid key) rfl (modAssay_keepsStagings _ _)).trans
    (record_keepsStagings ..)

theorem repairSlot_keepsStagings (s : State) (key : Nat) : s.keepsStagings (s.repairSlot key) := by
  unfold State.repairSlot
  dsimp only
  refine State.keepsStagings.trans ?_ (keepsStagings_of_blank (settleAssayLine_blank _))
  split
  · exact repairFailed_keepsStagings ..
  split
  · exact repairFailed_keepsStagings ..
  split
  · exact repairFailed_keepsStagings ..
  have written (e : Nat) (x : Nat × List Word) : s.keepsStagings
      ((s.putCode (key / 16) (s.image e) x.2).putDescriptor (key / 16) x.1 (primedWords e false x.2)) := rfl
  split
  · exact (written _ _).trans (repairDone_keepsStagings ..)
  · exact (written _ _).trans (repairFailed_keepsStagings ..)

/-- Priming ends: whatever its Assay pass found, the slot and its entry are PRIMED. -/
theorem primingComplete_primes {s : State} {k : Fin 2} (hst : (s.slot k).state = .priming) :
    ∃ v : State, s.keepsStagings v ∧ exec (.primingComplete k) s = .next
      ((v.modSlot k (fun y => { y with state := .primed })).modLib (s.slot k).entry (fun l => { l with state := .primed })) := by
  rw [exec_primingComplete, execPrimingComplete]
  dsimp only
  rw [if_neg (not_not.2 hst)]
  refine ⟨_, keepsStagings_foldl (fun u key _ => ?_) s, rfl⟩
  exact ((modAssay_keepsStagings _ _).trans (record_keepsStagings ..)).trans (repairSlot_keepsStagings ..)

/-! ### Withdrawal (07 R254, R259) -/

/-- A descriptor's first word after the first word of one is set. -/
theorem descWord_setDesc (x : Tile) (k j : Nat) (v : Word) :
    { x with desc := tset 0 x.desc (8 * k) v }.descWord j 0 = if j ≠ 15 ∧ j = k then v else x.descWord j 0 := by
  have hplace : 8 * k = 8 * j + 0 ↔ j = k := by omega
  unfold Tile.descWord
  rw [tget_tset]
  by_cases hlast : j = 15
  · simp [hlast]
  · simp only [hplace, hlast, ne_eq, not_false_eq_true, true_and, if_false]

/-- VALID after VALID of one slot is cleared. -/
theorem slotValid_clearValid (s : State) (key t j : Nat) :
    ((s.clearValid key).tile t).slotValid j =
      ((s.tile t).slotValid j && !(key / 16 == t && key % 16 == j)) := by
  have hbit (w : Word) : (w &&& 0xDFFFFFFF).getLsbD 29 = false := by simp
  have hnone : (0 : Word).getLsbD 29 = false := rfl
  rw [State.clearValid, tile_modTile]
  by_cases ht : key / 16 = t
  · subst ht
    rw [if_pos rfl, Tile.slotValid, descWord_setDesc, Tile.slotValid]
    by_cases hj : j = key % 16
    · by_cases hlast : j = 15
      · simp only [hlast, Tile.descWord, if_true, hnone, Bool.false_and, ne_eq, not_true_eq_false, false_and, if_false]
      · rw [if_pos ⟨hlast, hj⟩, hbit, hj]
        simp
    · rw [if_neg (fun h => hj h.2)]
      simp [Ne.symm hj]
  · simp [ht]

theorem slotValid_clearValids (keys : List Nat) (s : State) (t j : Nat) :
    ((keys.foldl State.clearValid s).tile t).slotValid j =
      ((s.tile t).slotValid j && !keys.any (fun key => key / 16 == t && key % 16 == j)) := by
  induction keys generalizing s with
  | nil => simp
  | cons key keys ih => rw [List.foldl_cons, ih, slotValid_clearValid, List.any_cons, Bool.not_or, Bool.and_assoc]

theorem unprime_keepsStagings (s : State) (k : Nat) : s.keepsStagings (s.unprime k) := by
  have cleared (l : List Nat) : s.keepsStagings (l.foldl State.clearValid s) :=
    keepsStagings_foldl (fun u key _ => keepsStagings_of_blank (clearValid_blank u key)) s
  have forgotten (u : State) (w : Tab (Tab Nat)) (n : NetUnit) :
      u.keepsStagings { u with blank := { u.blank with secondBank := w }, net := n } := rfl
  unfold State.unprime
  exact (((cleared _).trans (forgotten _ _ _)).trans (modAssay_keepsStagings _ _)).trans
    (keepsStagings_of_blank (dropFlows_blank _ _))

/-- What was primed is VALID no more. -/
theorem unprime_slotValid (s : State) {k key : Nat} (h : key ∈ s.slotKeys (s.slot k).entry) :
    ((s.unprime k).tile (key / 16)).slotValid (key % 16) = false := by
  have hany : (s.slotKeys (s.slot k).entry).any (fun x => x / 16 == key / 16 && x % 16 == key % 16) = true :=
    List.any_eq_true.2 ⟨key, h, by simp⟩
  have hcleared := slotValid_clearValids (s.slotKeys (s.slot k).entry) s (key / 16) (key % 16)
  rw [hany, Bool.not_true, Bool.and_false] at hcleared
  exact hcleared

/-- A staging in one of its first four states may be withdrawn. -/
theorem withdraw_withdraws {s : State} {q : Req} {ss : Session} {k : Fin 2} (h : s.hears q ss)
    (ha : s.admitted q ss (slotKey k 13))
    (hst : (s.slot k).state ∈ [StageState.receiving, .verifying, .priming, .primed]) :
    exec (.withdraw q k [1]) s = .next (((s.noted q).withdraw k).reply q.session { rid := q.rid, code := .ok }) := by
  rw [exec_withdraw, execWithdraw]
  refine congrArg _ (slotCommand_of_served h ha (by decide) (objRow_withdraw k) rfl (d := 0) ?_ rfl)
  simp only [List.mem_cons, List.not_mem_nil, or_false] at hst
  rcases hst with hst | hst | hst | hst <;> simp [firstFail, hst]

theorem withdraw_unverified {s : State} {k : Nat} (hst : (s.slot k).state = .receiving ∨ (s.slot k).state = .verifying) :
    s.withdraw k = (s.modLib (s.slot k).entry (fun _ => {})).freeSlot k := by
  unfold State.withdraw
  rcases hst with hst | hst <;> simp only [hst]

theorem withdraw_primed {s : State} {k : Nat} (hst : (s.slot k).state = .priming ∨ (s.slot k).state = .primed) :
    s.withdraw k = ((s.unprime k).modLib (s.slot k).entry (fun l => { l with state := .verified })).freeSlot k := by
  unfold State.withdraw
  rcases hst with hst | hst <;> simp only [hst]

/-! ### Go (07 R261, 10 R387, 14 R519) -/

theorem alook_map {α : Type} (g : Nat → α → α) (l : List (Nat × α)) (m : Nat) :
    alook (l.map (fun p => (p.1, g p.1 p.2))) m = (alook l m).map (g m) := by
  induction l with
  | nil => rfl
  | cons p l ih =>
    rw [List.map_cons, alook, alook, ih]
    split
    next h => rw [h]; rfl
    next => rfl

theorem session?_modSession (s : State) (n : SessionNo) (f : Session → Session) (m : SessionNo) :
    (s.modSession n f).session? m = (s.session? m).map (fun x => if m = n then f x else x) := by
  rw [State.session?, State.session?, ← alook_map (fun j x => if j = n then f x else x)]
  refine congrArg (alook · m) (List.map_congr_left fun p _ => ?_)
  split <;> rfl

/-- A note of a request leaves every session's role. -/
theorem z0MayGo_noted (s : State) (q : Req) (n : SessionNo) : (s.noted q).z0MayGo n = s.z0MayGo n := by
  unfold State.z0MayGo
  rw [State.noted, session?_modSession]
  cases s.session? n with
  | none => rfl
  | some x =>
    dsimp only [Option.map_some]
    split <;> rfl

theorem goCheck_noted (s : State) (q : Req) (k n : Nat) : (s.noted q).goCheck k n = s.goCheck k n := by
  unfold State.goCheck
  rw [z0MayGo_noted]
  rfl

section
variable {s : State} {q : Req} {ss : Session} {k : Fin 2} (h : s.hears q ss) (ha : s.admitted q ss (slotKey k 12))
  (hcheck : s.goCheck k q.session = (.ok, 0))
include h ha hcheck

/-- A *Go* that the governor refuses is logged, and nothing else of the blank changes. -/
theorem go_refused (hover : s.overBudget (s.image (s.slot k).entry) = true) :
    exec (.go q k [1]) s = .next (((s.noted q).record .general .power niGaffer 0x0804 [] q.session).reply q.session
      { rid := q.rid, code := .wrongState }) := by
  have hnoted : (s.noted q).overBudget ((s.noted q).image ((s.noted q).slot k).entry) = true := hover
  rw [exec_go, execGo]
  refine congrArg _ (slotCommand_of_served h ha (by decide) (objRow_go k) rfl (d := 0) ?_ ?_)
  · exact (goCheck_noted s q k q.session).trans hcheck
  · rw [hnoted]
    rfl

/-- A *Go* that the governor admits begins the activation. -/
theorem go_begins (hover : s.overBudget (s.image (s.slot k).entry) = false) :
    exec (.go q k [1]) s = .next (((s.noted q).beginActivation k).reply q.session { rid := q.rid, code := .ok }) := by
  have hnoted : (s.noted q).overBudget ((s.noted q).image ((s.noted q).slot k).entry) = false := hover
  rw [exec_go, execGo]
  refine congrArg _ (slotCommand_of_served h ha (by decide) (objRow_go k) rfl (d := 0) ?_ ?_)
  · exact (goCheck_noted s q k q.session).trans hcheck
  · rw [hnoted]
    rfl

end

/-- The slot and the entry of an activation that begins: its mode and edge by *ActMode*. -/
theorem beginActivation_activates (s : State) (k : Nat) :
    let x := s.slot k
    (s.beginActivation k).lib x.entry = { s.lib x.entry with state := .activating } ∧
      (s.beginActivation k).slot k =
        { x with state := .activating, since := s.now, aborted := 0, committed := false, result := .none, failureMask := []
                 mode := if x.actMode = 0 then .atOnce else if x.actMode = 1 then .atTime else .atMark
                 edge := if x.actMode = 0 then some (s.time.t64 + s.activateLead)
                         else if x.actMode = 1 then some x.actTime else none } := by
  unfold State.beginActivation
  dsimp only
  rw [slot_modLib, slot_modSlot_self, lib_modLib_self, lib_modSlot]
  refine ⟨rfl, ?_⟩
  match hmode : (s.slot k).actMode with
  | 0 => rfl
  | 1 => rfl
  | n + 2 => rfl

/-! ### The round (06 R235, 07 R262) -/

theorem foldl_emit_out {α : Type} (f : α → Output) (l : List α) (s : State) :
    (l.foldl (fun t a => t.emit (f a)) s).out = (l.map f).reverse ++ s.out := by
  induction l generalizing s with
  | nil => rfl
  | cons a l ih =>
    rw [List.foldl_cons, ih, List.map_cons, List.reverse_cons, List.append_assoc]
    rfl

/-- A STAGE for which a tag is free: the tag is taken, and one STAGE goes to each member. -/
theorem sendStage_of_freeTag {s : State} {n t x : Nat} (h : (s.ni n).freeTag = some (t, x)) (members : List Nat)
    (use : TagUse) (msg : StagedMsg) (hold ofs : Nat) (onCommit : Bool) :
    (s.sendStage n members use msg hold ofs onCommit).1 = some t ∧
      (s.sendStage n members use msg hold ofs onCommit).2.out =
        (members.map (fun m => Output.stage n m { src := n, tag := t, epo := x, msg := msg, hold := hold % 2 ^ 32
                                                  applyOfs := ofs, onCommit := onCommit })).reverse ++ s.out ∧
      (s.sendStage n members use msg hold ofs onCommit).2.net.rounds = s.net.rounds := by
  unfold State.sendStage
  rw [h]
  dsimp only
  refine ⟨rfl, foldl_emit_out _ _ _, ?_⟩
  rw [foldl_emit_rest]
  rfl

theorem sendStage_array (s : State) (n : Nat) (members : List Nat) (use : TagUse) (msg : StagedMsg) (hold ofs : Nat)
    (onCommit : Bool) : (s.sendStage n members use msg hold ofs onCommit).2.array = s.array := by
  rw [sendStage_rest]

/-- The round of an activation with members goes as one STAGE to each, and is noted. -/
theorem startRound_stages {s : State} {k e t x : Nat} (hmembers : s.activationMembers (s.image (s.slot k).entry) ≠ [])
    (htag : (s.ni niGaffer).freeTag = some (t, x)) :
    let ms := s.activationMembers (s.image (s.slot k).entry)
    (s.startRound k e).net.rounds = s.net.rounds ++
        [{ kind := .activation k, tag := t, members := ms, oks := [], deadline := e - 4000, hold := e - 1000, edge := e }] ∧
      (s.startRound k e).out = (ms.map (fun m => Output.stage niGaffer m
        { src := niGaffer, tag := t, epo := x, msg := .activation k, hold := (e - 1000) % 2 ^ 32, applyOfs := 1000
          onCommit := false })).reverse ++ s.out ∧
      (s.startRound k e).blank = s.blank ∧ (s.startRound k e).array = s.array := by
  let ms := s.activationMembers (s.image (s.slot k).entry)
  obtain ⟨hsent, hout, hrounds⟩ :=
    sendStage_of_freeTag htag ms (.round 0 k false) (.activation k) (e - 1000) 1000 false
  unfold State.startRound
  dsimp only
  rw [if_neg hmembers, hsent]
  refine ⟨?_, hout, ?_, ?_⟩
  · exact congrArg (· ++ _) hrounds
  · exact sendStage_blank ..
  · exact sendStage_array ..

/-! ### The edge (07 R263) -/

theorem carryOut_blank (s : State) (c e : Nat) (r : SetupRec) : (s.carryOut c e r).blank = s.blank := by
  unfold State.carryOut
  split <;> rfl

theorem releaseTiles_blank (s : State) (c : Nat) (old : List Nat) : (s.releaseTiles c old).blank = s.blank := by
  refine foldl_keeps (g := State.blank) (fun u t => ?_) _ s
  split
  · split
    · exact stopTile_blank ..
    · rfl
  · rfl

theorem validateSlots_keepsStagings (s : State) (c e : Nat) : s.keepsStagings (s.validateSlots c e) := by
  refine keepsStagings_foldl (fun u key _ => ?_) s
  split
  · exact modAssay_keepsStagings ..
  · exact keepsStagings_of_blank rfl

theorem activateCluster_keepsStagings (s : State) (c e : Nat) (bank : Tab Nat) (old : List Nat) :
    s.keepsStagings (s.activateCluster c e bank old) := by
  have carried (l : List SetupRec) (u : State) : u.keepsStagings (l.foldl (fun v r => v.carryOut c e r) u) :=
    keepsStagings_of_blank (foldl_keeps (g := State.blank) (fun v r => carryOut_blank v c e r) l u)
  have cleared (u : State) : u.keepsStagings (u.invalidateSlots c old) :=
    keepsStagings_of_blank (foldl_keeps (g := State.blank) clearValid_blank _ _)
  have switched (u : State) (f : Cluster → Cluster) (g : Ni → Ni) : u.keepsStagings ((u.modCluster c f).modNi c g) := rfl
  have released (u : State) : u.keepsStagings ((u.releaseEntries c).issueHeld c) :=
    keepsStagings_of_blank (issueHeld_blank _ c)
  unfold State.activateCluster
  exact ((((keepsStagings_of_blank (releaseTiles_blank s c old)).trans (cleared _)).trans
    (validateSlots_keepsStagings ..)).trans ((switched _ _ _).trans (carried _ _))).trans (released _)

theorem loadTasks_blank (s : State) (e : Nat) (b : List Nat) (nos : List Nat) (arm : Bool) :
    (s.loadTasks e b nos arm).blank = s.blank := by
  have loaded (l : List (TaskRec × Nat)) (f : TaskRec × Nat → Task) :
      (l.foldl (fun u p => u.modTask p.2 (fun _ => f p)) s).blank = s.blank :=
    foldl_keeps (g := State.blank) (fun u p => modTask_blank u p.2 _) l s
  unfold State.loadTasks
  dsimp only
  split
  · refine (foldl_keeps (g := State.blank) (fun u p => ?_) _ _).trans (loaded _ _)
    split
    · exact armOrWake_blank ..
    · rfl
  · exact loaded _ _

theorem tget_foldl_tset {α : Type} [DecidableEq α] (d v : α) (l : List Nat) (t : Tab α) (k : Nat) :
    tget d (l.foldl (fun u j => tset d u j v) t) k = if k ∈ l then v else tget d t k := by
  induction l generalizing t with
  | nil => rfl
  | cons j l ih =>
    rw [List.foldl_cons, ih, tget_tset]
    by_cases hk : k = j <;> by_cases hl : k ∈ l <;> simp [hk, hl, Ne.symm]

/-- The blank is ACTIVE since the edge and the active one of its zones; no slot differs. -/
theorem installBlank_installs (s : State) (e : Nat) (zones old : List Nat) (edge : T64) :
    (∀ k, (s.installBlank e zones old edge).slot k = s.slot k) ∧
      ((s.installBlank e zones old edge).lib e).state = .active ∧
      ((s.installBlank e zones old edge).lib e).activeSince = edge ∧
      ∀ z, tget 0xFF (s.installBlank e zones old edge).blank.active z =
        if z ∈ zones then e else tget 0xFF s.blank.active z := by
  let retired := old.foldl (fun u o => u.modLib o (fun x => { x with state := .retired })) s
  have hslots : retired.blank.slots = s.blank.slots :=
    foldl_keeps (g := fun u => u.blank.slots) (fun u o => by rfl) _ _
  have hactive : retired.blank.active = s.blank.active :=
    foldl_keeps (g := fun u => u.blank.active) (fun u o => by rfl) _ _
  have hlib : (s.installBlank e zones old edge).lib e = _ :=
    lib_modLib_self retired e (fun x => { x with state := .active, activeSince := edge })
  refine ⟨fun k => congrArg (tget ({} : StageSlot) · k) hslots, by rw [hlib], by rw [hlib], fun z => ?_⟩
  exact (tget_foldl_tset 0xFF e zones retired.blank.active z).trans (by rw [hactive])

theorem installRest_keepsStagings (s : State) (e : Nat) (b : List Nat) (zones old : List Nat) (edge : T64) :
    s.keepsStagings (s.installRest e b zones old edge) := by
  have forgotten (u : State) (f : AssayUnit → AssayUnit) : u.keepsStagings ((u.modAssay f).dropFlows old) := rfl
  have sectioned (u : State) (r : RingUnit) : u.keepsStagings { u with ring := r } := rfl
  have compared (u : State) (c : Prop) [Decidable c] (f : QuenchUnit → QuenchUnit) :
      u.keepsStagings (if c then u.modQuench f else u) := by
    split <;> rfl
  have journalled (u : State) (r : JBody) : u.keepsStagings (u.recomputeAllow.commit r) :=
    keepsStagings_of_blank (commit_blank ..)
  have judged (u : State) : u.keepsStagings u.judgeHold.judgeRedundant :=
    keepsStagings_of_blank ((judgeRedundant_blank _).trans (judgeHold_blank u))
  unfold State.installRest
  exact (((((forgotten _ _).trans (sectioned _ _)).trans (compared _ _ _)).trans (journalled _ _)).trans
    (record_keepsStagings ..)).trans (judged _)

/-- An activation changes the stagings in two places: where the blank is installed, and where its slot is freed. -/
theorem activate_splits (s : State) (k : Nat) (holders : List Nat) (edge : T64) :
    let x := s.slot k
    let zones := imageZones (s.image x.entry)
    ∃ turned loaded : State, s.keepsStagings turned ∧
      (turned.installBlank x.entry zones (s.replaced zones) edge).keepsStagings loaded ∧
      ((loaded.modSlot k (fun y => { y with result := .active, activatedAt := edge, refusal := .ok })).freeSlot k).keepsStagings
        (s.activate k holders edge) := by
  have banked (u : State) (w : Tab (Tab Nat)) : u.keepsStagings { u with blank := { u.blank with secondBank := w } } := rfl
  unfold State.activate
  extract_lets x zones b zones' old s1 s2 s3 s4 s5 src
  have hover : s.keepsStagings s2 :=
    (keepsStagings_foldl (fun u c _ => activateCluster_keepsStagings u c _ _ _) s).trans
      (keepsStagings_foldl (fun u p _ => keepsStagings_of_blank (dismissTask_blank u p.1)) s1)
  exact ⟨s2, s3, hover, keepsStagings_of_blank (loadTasks_blank ..),
    (installRest_keepsStagings (s4.freeSlot k) x.entry b zones old edge).trans (banked s5 _)⟩

/-- At the edge the blank is active in its zones, and its slot is free. -/
theorem activate_activates (s : State) (k : Nat) (holders : List Nat) (edge : T64) :
    let x := s.slot k
    (s.activate k holders edge).slot k = { x.freed with result := .active, activatedAt := edge, refusal := .ok } ∧
      ((s.activate k holders edge).lib x.entry).state = .active ∧
      ((s.activate k holders edge).lib x.entry).activeSince = edge ∧
      ∀ z, tget 0xFF (s.activate k holders edge).blank.active z =
        if z ∈ imageZones (s.image x.entry) then x.entry else tget 0xFF s.blank.active z := by
  obtain ⟨turned, loaded, hover, hloaded, hrest⟩ := activate_splits s k holders edge
  generalize s.activate k holders edge = u at hrest
  obtain ⟨hslots, hstate, hsince, hactive⟩ := installBlank_installs turned (s.slot k).entry
    (imageZones (s.image (s.slot k).entry)) (s.replaced (imageZones (s.image (s.slot k).entry))) edge
  obtain ⟨hfreed, -, hlib, -, -, hblank⟩ := freeSlot_frees
    (loaded.modSlot k (fun y => { y with result := .active, activatedAt := edge, refusal := .ok })) k
  dsimp only
  rw [hrest.slot, hrest.lib, hrest.active, hfreed, hlib, hblank, slot_modSlot_self, lib_modSlot, hloaded.slot,
    hloaded.lib, hslots, hover.slot]
  refine ⟨rfl, hstate, hsince, fun z => ?_⟩
  rw [← hover.active, ← hactive, ← hloaded.active]
  rfl

/-- The sequencers that hold COMMIT of an activation hold its message no more. -/
def State.unstaged (s : State) (k : Nat) : State :=
  (s.activationHolders k).foldl (fun u c => u.unstage c (fun y => y.src == niGaffer && y.msg == .activation k)) s

theorem unstaged_blank (s : State) (k : Nat) : (s.unstaged k).blank = s.blank :=
  foldl_keeps (g := State.blank) (fun u c => modNi_blank u c _) _ _

section
variable {s : State} {k e : Nat} (hst : (s.slot k).state = .activating) (hcommitted : (s.slot k).committed = true)
  (hedge : (s.slot k).edge = some e) (hdue : e ≤ s.time.t64)
include hst hcommitted hedge hdue

theorem activationDue_of_committed : s.activationDue k = (s.unstaged k).activate k (s.activationHolders k) e := by
  unfold State.activationDue
  dsimp only
  rw [hedge]
  exact if_pos ⟨hst, hcommitted, hdue⟩

/-- The edge of a committed activation comes: the blank is active in its zones, and its slot is free. -/
theorem activationDue_activates :
    let x := s.slot k
    (s.activationDue k).slot k = { x.freed with result := .active, activatedAt := e, refusal := .ok } ∧
      ((s.activationDue k).lib x.entry).state = .active ∧ ((s.activationDue k).lib x.entry).activeSince = e ∧
      ∀ z, tget 0xFF (s.activationDue k).blank.active z =
        if z ∈ imageZones (s.image x.entry) then x.entry else tget 0xFF s.blank.active z := by
  have hblank := unstaged_blank s k
  have hactivates := activate_activates (s.unstaged k) k (s.activationHolders k) e
  rw [activationDue_of_committed hst hcommitted hedge hdue]
  generalize State.activate _ k _ e = u at hactivates ⊢
  unfold State.slot State.image at *
  rw [hblank] at hactivates
  exact hactivates

end

/-! ### The wait for a mark (07 R265, 11 R408) -/

/-- An activation that has waited *MarkWait* goes on at its fallback time, or fails with MARK_TIMEOUT. -/
theorem slotWaited_expires {s : State} {k : Nat} (hst : (s.slot k).state = .activating)
    (hmode : (s.slot k).mode = .atMark) (hedge : (s.slot k).edge = none) (hdue : (s.slot k).since + s.markWait ≤ s.now) :
    s.slotWaited k =
      if (s.slot k).actFallback = 1 then
        s.modSlot k (fun y => { y with mode := .atTime, edge := some (s.fallbackEdge (s.slot k).actFallbackTime) })
      else s.failActivation k .markTimeout [] := by
  have hwaits : ¬ ((s.slot k).state ≠ .activating ∨ (s.slot k).mode ≠ .atMark ∨ (s.slot k).edge.isSome = true ∨
      s.now < (s.slot k).since + s.markWait) := by
    simp [hst, hmode, hedge, Nat.not_lt.2 hdue]
  unfold State.slotWaited
  exact if_neg hwaits

/-- An activation fails: its slot and its entry are PRIMED again. -/
theorem failActivation_primes (s : State) (k : Nat) (r : ActResult) (mask : List Nat) :
    (s.failActivation k r mask).slot k = { s.slot k with
        state := .primed, result := r, failureMask := mask, edge := none, committed := false, aborted := 0 } ∧
      (s.failActivation k r mask).lib (s.slot k).entry = { s.lib (s.slot k).entry with state := .primed } := by
  unfold State.failActivation
  dsimp only
  rw [slot_modLib, slot_modSlot_self, lib_modLib_self, lib_modSlot]
  exact ⟨rfl, rfl⟩

/-- An apply that has waited *MarkWait*. -/
theorem applyWaited_expires {s : State} {j : Nat} {a : Apply} (ha : s.applyOf? j = some a) (hmode : a.mode = .atMark)
    (hedge : a.edge = none) (hdue : a.since + s.markWait ≤ s.now) :
    s.applyWaited j = match a.fallback with
      | some t => s.modApply j (fun y => { y with mode := .atTime, edge := some (s.fallbackEdge t) })
      | none =>
        let s1 : State := { s with sess := { s.sess with applies := s.sess.applies.filter (fun y => y.jseq != j) } }
        if a.session = 0 then s1 else s1.modSession a.session (fun y => { y with applyState := .markTimeout }) := by
  have hwaits : ¬ (a.mode ≠ .atMark ∨ a.edge.isSome = true ∨ s.now < a.since + s.markWait) := by
    simp [hmode, hedge, Nat.not_lt.2 hdue]
  unfold State.applyWaited
  rw [ha]
  dsimp only
  exact (if_neg hwaits).trans (by cases a.fallback <;> rfl)

end Sys2Proof.Machine

open Sys2Proof Sys2Proof.Machine

/-- Settles O31: each command of a primed blank is served at once, the round goes as one STAGE, the edge installs the blank
and frees its slot, and a wait for a mark ends in the fallback or in MARK_TIMEOUT. -/
theorem primingActivationAndWithdrawal : Obligations.PrimingActivationAndWithdrawal := by
  unfold Obligations.PrimingActivationAndWithdrawal
  refine ⟨?prime, ?primed, ?unverified, ?withdraw, ?go, ?round, ?edge, ?slotWait, ?applyWait⟩
  case prime =>
    intro s q ss k h ha hst hheld
    refine ⟨_, prime_wants h ha hst hheld, reply_answers _ q .ok, ?_, fun j hj => ?_, rfl⟩
    · rw [reply_slot, slot_modSlot_self, noted_slot]
    · rw [reply_slot, slot_modSlot_ne _ hj, noted_slot]
  case primed =>
    intro s k hst
    obtain ⟨v, hkeeps, hexec⟩ := primingComplete_primes hst
    refine ⟨_, hexec, ?_, ?_, fun j hj => ?_⟩
    · rw [slot_modLib, slot_modSlot_self, hkeeps.slot]
    · rw [lib_modLib_self, lib_modSlot, hkeeps.lib]
    · rw [slot_modLib, slot_modSlot_ne _ hj, hkeeps.slot]
  case unverified =>
    intro s q ss k h ha hst
    obtain ⟨hslot, -, hlib, hholder, harray, -⟩ :=
      freeSlot_frees ((s.noted q).modLib (s.slot k).entry (fun _ => {})) k
    have hone := withdraw_withdraws h ha (by simpa using hst.imp_right Or.inl)
    rw [withdraw_unverified (s := s.noted q) hst, noted_slot] at hone
    refine ⟨_, hone, reply_answers _ q .ok, hslot, ?_, hholder, harray⟩
    rw [reply_lib, hlib, lib_modLib_self]
  case withdraw =>
    intro s q ss k h ha hst
    dsimp only
    obtain ⟨hslot, -, hlib, hholder, harray, -⟩ :=
      freeSlot_frees (((s.noted q).unprime k).modLib (s.slot k).entry (fun l => { l with state := .verified })) k
    have hkeeps := unprime_keepsStagings (s.noted q) k
    have hone := withdraw_withdraws h ha (by simpa using .inr (.inr hst))
    rw [withdraw_primed (s := s.noted q) hst, noted_slot] at hone
    refine ⟨_, hone, reply_answers _ q .ok, ?_, ?_, hholder, fun key hkey => ?_⟩
    · rw [reply_slot, hslot, slot_modLib, hkeeps.slot, noted_slot]
    · rw [reply_lib, hlib, lib_modLib_self, hkeeps.lib, noted_lib]
    · rw [reply_tile, State.tile, harray]
      exact unprime_slotValid (s.noted q) hkey
  case go =>
    intro s q ss k h ha hcheck
    dsimp only
    cases hover : s.overBudget (s.image (s.slot k).entry) with
    | true =>
      have hlogs := record_logsOver (s.noted q) .general .power niGaffer 0x0804 [] q.session
      refine ⟨_, go_refused h ha hcheck hover, fun _ => ⟨reply_answers _ q .wrongState, ?_, ?_⟩, nofun⟩
      · rw [reply_slot, (keepsStagings_of_blank hlogs.blank).slot, noted_slot]
      · exact record_lastCode ..
    | false =>
      obtain ⟨hlib, hslot⟩ := beginActivation_activates (s.noted q) k
      exact ⟨_, go_begins h ha hcheck hover, nofun, fun _ => ⟨reply_answers _ q .ok, hlib, hslot⟩⟩
  case round =>
    intro s k e t x hedge hdue hmembers htag
    refine ⟨s.startRound k e, ?_, startRound_stages hmembers htag⟩
    rw [exec_activationRound, execActivationRound, hedge]
    exact congrArg _ (if_pos hdue)
  case edge =>
    intro s k e hst hcommitted hedge hdue
    obtain ⟨hslot, hstate, hsince, hactive⟩ := activationDue_activates hst hcommitted hedge hdue
    refine ⟨_, exec_activationEdge k s, hslot, hstate, hsince, fun z hz => ?_, fun z hz => ?_⟩
    · rw [hactive, if_pos hz]
    · rw [hactive, if_neg (by simpa using hz)]
  case slotWait =>
    intro s k j hst hmode hedge hdue
    refine ⟨_, exec_markWaitExpiry_slot k j s, fun hfallback => ?_, fun hnone => ?_⟩
    · rw [slotWaited_expires hst hmode hedge hdue, if_pos hfallback, slot_modSlot_self]
      rfl
    · rw [slotWaited_expires hst hmode hedge hdue, if_neg hnone]
      exact failActivation_primes ..
  case applyWait =>
    intro s j a ha hj hmode hedge hdue
    refine ⟨_, exec_markWaitExpiry_apply j s, ?_, fun hnone hsession hopen => ?_⟩
    · rw [applyWaited_expires ha hmode hedge hdue]
      cases a.fallback with
      | some t => rfl
      | none =>
        dsimp only
        split <;> rfl
    · obtain ⟨y, hy⟩ := Option.isSome_iff_exists.1 hopen
      rw [applyWaited_expires ha hmode hedge hdue, hnone]
      dsimp only
      rw [if_neg hsession, session?_modSession]
      change Option.map _ (Option.map _ (s.session? a.session)) = _
      rw [hy]
      simp

end

section
/-!
Firmware uploads and the Assay: what *FwHeader*, *FwBody* and *FwTrial* leave of the firmware slots and of the pending set,
and what a pass, a repair and a late pass leave of the Assay and of the tiles (07 R267 to R275, 11 R406).
-/

namespace Sys2Proof.Machine

/-! ### The dispatch of the firmware and Assay commands -/

theorem exec_fwHeader (q : Req) (b : List Nat) (s : State) : exec (.fwHeader q b) s = execFwHeader q b s := rfl

theorem exec_fwBody (q : Req) (off : Fin 4294967296) (last : Bool) (data : List Nat) (s : State) :
    exec (.fwBody q off last data) s = execFwBody q off last data s := rfl

theorem exec_fwTrial (q : Req) (b : List Nat) (s : State) : exec (.fwTrial q b) s = execFwTrial q b s := rfl

theorem exec_assayPass (us : Fin 151) (s : State) : exec (.assayPass us) s = execAssayPass us s := rfl

theorem exec_assayRepair (t : Fin 1024) (k : Fin 15) (s : State) :
    exec (.assayRepair t k) s = execAssayRepair t k s := rfl

theorem exec_assayLate (s : State) : exec .assayLate s = execAssayLate s := rfl

/-! ### Uploads (07 R267, R269) -/

/-- `s` with another firmware upload in progress. -/
def State.withUpload (s : State) (x : Option FwUpload) : State := { s with blank := { s.blank with upload := x } }

@[simp] theorem withUpload_fw (s : State) (x : Option FwUpload) (k : FwSlot) : (s.withUpload x).fw k = s.fw k := by
  cases k <;> rfl

@[simp] theorem segmented_fw (s : State) (q : Req) (key off : Nat) (last : Bool) (data keep : List Nat) (k : FwSlot) :
    (s.segmented q key off last data keep).fw k = s.fw k := by
  cases k <;> rfl

@[simp] theorem noted_fw (s : State) (q : Req) (k : FwSlot) : (s.noted q).fw k = s.fw k := by
  cases k <;> rfl

/-- An upload begins: its slot is INVALID and empty, the other stands. -/
theorem startUpload_starts (s : State) (h : List Nat) :
    (s.startUpload h).fw s.fwTarget = { mark := .invalid } ∧
      (s.startUpload h).fw s.fwTarget.other = s.fw s.fwTarget.other ∧
      (s.startUpload h).blank.upload = some { slot := s.fwTarget, total := imageTotal h, data := h } := by
  have heq : s.startUpload h = (s.modFw s.fwTarget (fun _ => { mark := .invalid })).withUpload
      (some { slot := s.fwTarget, total := imageTotal h, data := h }) := rfl
  rw [heq, withUpload_fw, withUpload_fw, fw_modFw_self, fw_modFw_other]
  exact ⟨rfl, rfl, rfl⟩

/-- An upload ends: its slot holds the whole image, marked by whether it verifies. -/
theorem endUpload_ends (s : State) (u : FwUpload) (data : List Nat) :
    (s.endUpload u data).fw u.slot =
        { mark := if s.firmwareOk data then .none else .invalid, image := data, verifies := s.firmwareOk data
          version := fwVersion data, svn := fwSvn data } ∧
      (s.endUpload u data).fw u.slot.other = s.fw u.slot.other ∧ (s.endUpload u data).blank.upload = none := by
  let x : FwImage := { mark := if s.firmwareOk data then .none else .invalid, image := data, verifies := s.firmwareOk data
                       version := fwVersion data, svn := fwSvn data }
  have heq : s.endUpload u data = (s.modFw u.slot (fun _ => x)).withUpload none := rfl
  rw [heq, withUpload_fw, withUpload_fw, fw_modFw_self, fw_modFw_other]
  exact ⟨rfl, rfl, rfl⟩

/-- A segment before the last leaves the upload in progress. -/
theorem growUpload_part (s : State) {x : FwUpload} {data : List Nat} (h : (x.data ++ data).length ≠ x.total) :
    s.growUpload x data = s.withUpload (some { x with data := x.data ++ data }) :=
  if_neg h

/-- The last byte ends the upload. -/
theorem growUpload_whole (s : State) {x : FwUpload} {data : List Nat} (h : (x.data ++ data).length = x.total) :
    s.growUpload x data = s.endUpload x (x.data ++ data) :=
  if_pos h

/-- A good *FwHeader* begins an upload. -/
theorem fwHeader_starts {s : State} {q : Req} {ss : Session} {b : List Nat} (h : s.hears q ss)
    (ha : s.admitted q ss (okey 0x8600 6)) (hlen : b.length = 64) (hcheck : fwHeaderCheck (octets b) = (.ok, 0)) :
    exec (.fwHeader q b) s = .next (((s.segmented q (okey 0x8600 6) 0 true b []).startUpload (octets b)).reply q.session
      { rid := q.rid, code := .ok, value := some (.num 64) }) := by
  have hserved := serveSegment_of_served (key := okey 0x8600 6) (off := 0) (last := true) (data := b) (keep := [])
    (run := fun t _ => match fwHeaderCheck (octets b) with
      | (.ok, _) => { state := t.startUpload (octets b) }
      | (c, d) => refuse t c d) h ha rfl (by omega) (by rw [hcheck])
  rw [hlen] at hserved
  rw [exec_fwHeader, execFwHeader]
  exact congrArg _ hserved

/-- A segment of *FwBody* at the next offset: its octets are appended, and the last byte ends the upload. -/
theorem fwBody_grows {s : State} {q : Req} {ss : Session} {off : Fin 4294967296} {last : Bool} {data : List Nat}
    {x : FwUpload} (h : s.hears q ss) (ha : s.admitted q ss (okey 0x8600 7))
    (horder : ss.inOrder (okey 0x8600 7) off = true) (hlen : 0 < data.length ∧ data.length ≤ 1020)
    (hup : s.blank.upload = some x) (hoff : 64 + off.val = x.data.length) (hfits : 64 + off.val + data.length ≤ x.total)
    (hlast : last = decide (64 + off.val + data.length = x.total)) :
    exec (.fwBody q off last data) s = .next (((s.segmented q (okey 0x8600 7) off last data []).growUpload x
      (octets data)).reply q.session { rid := q.rid, code := .ok, value := some (.num (off.val + data.length)) }) := by
  have hstream : streamCheck x.data.length x.total off last data.length = (.ok, 0) := by
    simp [streamCheck, firstFail, hoff, hlast, Nat.not_lt.2 (hoff ▸ hfits)]
  have hupload : (s.segmented q (okey 0x8600 7) off last data []).blank.upload = some x := hup
  rw [exec_fwBody, execFwBody]
  refine congrArg _ (serveSegment_of_served h ha horder hlen ?_)
  rw [hupload]
  dsimp only
  rw [hstream]

/-! ### FwTrial (07 R269, R270, 11 R406) -/

/-- The row of *FwTrial*. -/
def fwTrialRow : ObjRow := { oWO 0x8600 0x8600 8 8 .bool rM with commit := .restart }

theorem objRow_fwTrial : objRow (okey 0x8600 8) = some fwTrialRow := by decide

theorem bytesCheck_fwTrial : bytesCheck (okey 0x8600 8) fwTrialRow [1] = (.ok, 0) := by decide

/-- In HALT, *FwTrial* by a MAINTENANCE session with EPOCH 0 marks the verified image TRIAL. -/
theorem fwTrial_marks {s : State} {q : Req} {ss : Session} {f : FwSlot} (h : s.hears q ss) (hhalt : s.op.state = .halt)
    (hrole : ss.role = .maintenance) (hepoch : q.epoch = 0) (htrial : s.recoveryTrial = some f) :
    exec (.fwTrial q [1]) s = .next (((s.noted q).modFw f (fun x => { x with mark := .trial })).reply q.session
      { rid := q.rid, code := .ok }) := by
  have hnoted : (s.noted q).recoveryTrial = some f := htrial
  have hrole' : ¬ ss.role ≠ .maintenance := not_not.2 hrole
  have hepoch' : ¬ q.epoch ≠ 0 := not_not.2 hepoch
  have hone : ¬ valNat (fwTrialRow.ty.decode [1]) = 0 := by decide
  rw [exec_fwTrial, execFwTrial, if_pos hhalt, serve_of_hears h] <;>
    simp only [objRow_fwTrial, if_neg hrole', if_neg hepoch', bytesCheck_fwTrial, if_neg hone, hnoted]

/-- Of the checks of a pending write, *FwTrial* can fail only the one of the set's room. -/
theorem pendCheck_fwTrial (s : State) (n : SessionNo) (x : Session) :
    s.pendCheck n x (okey 0x8600 8) (.num 1) =
      if x.pendingSet.length ≥ 64 ∧ !x.pendingSet.any (fun y => y.key == okey 0x8600 8) then (.pendingFull, 0)
      else (.ok, 0) := by
  have hrange : s.rangeCheck x (okey 0x8600 8) (.num 1) = (.ok, 0) := rfl
  have hstate : s.stateCheck (x.withWrite (okey 0x8600 8) (.num 1)) (okey 0x8600 8) (.num 1) = (.ok, 0) := rfl
  have hgrant : s.grantLack n (okey 0x8600 8) (.num 1) = (.ok, 0) := rfl
  unfold State.pendCheck
  rw [hrange]
  dsimp only
  rw [hstate]
  dsimp only
  rw [hgrant]

/-- The session of a request after its answer. -/
theorem session?_reply_pendingSet (s : State) (n : SessionNo) (a : Answer) :
    ((s.reply n a).session? n).map (·.pendingSet) = (s.session? n).map (·.pendingSet) := by
  have hemit (u : State) (o : Output) : (u.emit o).session? n = u.session? n := rfl
  unfold State.reply
  rw [hemit, session?_modSession]
  cases s.session? n with
  | none => rfl
  | some x => simp

/-- A write that is heard and admitted and passes its checks enters the pending set and is answered OK. -/
theorem servePending_enters {s : State} {q : Req} {ss : Session} {key d : Nat} {b : List Nat} {r : ObjRow}
    {more : State → Session → Val → Abort × Nat} (h : s.hears q ss) (ha : s.admitted q ss key)
    (hlit : sleepGated key = false) (hr : objRow key = some r) (hb : bytesCheck key r b = (.ok, 0))
    (hp : (s.noted q).pendCheck q.session ss key (r.ty.decode b) = (.ok, 0))
    (hm : more (s.noted q) ss (r.ty.decode b) = (.ok, d)) :
    (s.servePending q key b more).answers q .ok ∧
      s.entersPending (s.servePending q key b more) q ss key (r.ty.decode b) := by
  let w : PendingWrite :=
    { key := key, value := r.ty.decode b, epoch := q.epoch
      lease := (objRow key).bind (fun r => s.governing q.session ss.role key r) }
  let v := (s.noted q).modSession q.session (fun y => y.enter w)
  have hserved : s.servePending q key b more = v.reply q.session { rid := q.rid, code := .ok } := by
    unfold State.servePending
    refine serveBytes_of_served (d := d) h ha hlit hr hb ?_ rfl
    rw [hp]
    exact hm
  obtain ⟨hopen, -, -, -⟩ := h
  rw [hserved]
  refine ⟨reply_answers _ q .ok, rfl, ?_⟩
  rw [session?_reply_pendingSet, session?_modSession, State.noted, session?_modSession, hopen]
  simp only [Option.map_some, if_true, Session.enter]
  split <;> rfl

/-! ### The Assay's line and alarm (07 R272, R273) -/

@[simp] theorem settleAssayLine_array (s : State) : s.settleAssayLine.array = s.array := by
  unfold State.settleAssayLine
  split <;> rfl

@[simp] theorem settleAssayLine_log (s : State) : s.settleAssayLine.log = s.log := by
  unfold State.settleAssayLine
  split <;> rfl

theorem settleAssayLine_tile (s : State) (t : Nat) : s.settleAssayLine.tile t = s.tile t := by
  rw [State.tile, settleAssayLine_array, State.tile]

theorem clearAlarm_alarmOn (s : State) (code idx : Nat) : (s.clearAlarm code idx).alarmOn code idx = false := by
  simp [State.alarmOn, State.clearAlarm]

/-! ### A pass (07 R271 to R273) -/

/-- A pass counts itself and its time, and the Assay is late no more. -/
def State.passed (s : State) (us : Nat) : State :=
  (s.modAssay (fun a => { a with passes := inc32 a.passes, lastPassUs := us, lastPassAt := s.now })).clearAlarm 0x0602 0

/-- Which program banks changed is read from the clusters alone. -/
theorem banksChanged_congr {s u : State} (h : u.array.clusters = s.array.clusters) : u.banksChanged = s.banksChanged := by
  unfold State.banksChanged State.cluster
  rw [h]

/-- What a pass that is due does where no program bank changed: it counts itself, taints the slots it finds, and settles its
quench line. -/
theorem assayPass_eq {s u : State} (us : Fin 151) (hrun : s.assayRuns = true)
    (hdue : s.blank.assay.lastPassAt + s.scrubPeriod ≤ s.now + 150000)
    (hfinds : s.assayFinds.foldl State.taint (s.passed us) = u) (hbanks : u.banksChanged = []) :
    exec (.assayPass us) s = .next u.settleAssayLine := by
  have hpass : (s.passed us).assayFinds.foldl State.taint (s.passed us) = u := hfinds
  rw [exec_assayPass, execAssayPass]
  refine congrArg _ ((if_pos ⟨hrun, hdue⟩).trans ?_)
  dsimp only
  rw [← State.passed, hpass, hbanks, List.foldl_nil]

/-- A slot outside Z0 that its tile does not run is tainted: counted, logged, and VALID no more. -/
theorem taint_clears {s : State} {key : Nat} (hzone : s.tileInZ0 (key / 16) = false)
    (hctx : (s.tile (key / 16)).ctx ≠ key % 16) :
    ∃ v : State, v.logsOver (s.modAssay (fun a => { a with taints := inc32 a.taints, tainted := key :: a.tainted })) ∧
      v.lastCode = 0x0601 ∧ s.taint key = v.clearValid key := by
  let u := s.modAssay (fun a => { a with taints := inc32 a.taints, tainted := key :: a.tainted })
  have hlogs := record_logsOver u .general .fault niGaffer 0x0601 (assayDetail key) 0
  refine ⟨_, hlogs, record_lastCode .., ?_⟩
  unfold State.taint
  generalize u.record .general .fault niGaffer 0x0601 (assayDetail key) = v at hlogs ⊢
  have hz : v.tileInZ0 (key / 16) = false := by
    unfold State.tileInZ0 State.z0Map
    rw [hlogs.quench]
    exact hzone
  have hc : (v.tile (key / 16)).ctx ≠ key % 16 := by
    unfold State.tile
    rw [hlogs.array]
    exact hctx
  unfold State.actOnTaint
  dsimp only
  rw [if_neg (by simp [hz]), if_pos hc]

/-! ### A late pass (07 R272) -/

theorem record_alarms (s : State) (area : AreaName) (cls : LogClass) (source code : Nat) (detail : List Nat)
    (session : Nat) : (s.record area cls source code detail session).log.alarms = s.log.alarms := by
  have hset (l : LogUnit) (a : LogArea) : (l.setArea area a).alarms = l.alarms := by cases area <;> rfl
  unfold State.record
  dsimp only
  split
  · exact hset _ _
  · rw [notify_log]; exact hset _ _

theorem driveQLevels_log (s : State) : s.driveQLevels.log = s.log := by
  refine foldl_keeps (g := State.log) (fun t y => ?_) _ s
  dsimp only
  split
  · split <;> rfl
  · rfl

theorem driveQLevels_quench (s : State) : s.driveQLevels.quench = s.quench := by
  refine foldl_keeps (g := State.quench) (fun t y => ?_) _ s
  dsimp only
  split
  · split <;> rfl
  · rfl

/-- A cause that becomes active changes no alarm and no condition that stands. -/
theorem quenchCause_alarms_standing (s : State) (code : Nat) (n : SessionNo) :
    (s.quenchCause code n).log.alarms = s.log.alarms ∧
      (s.quenchCause code n).quench.standing = s.quench.standing := by
  have entered (u : State) : (u.enterQuenched code).log = u.log ∧
      (u.enterQuenched code).quench.standing = u.quench.standing := by
    unfold State.enterQuenched
    exact ⟨driveQLevels_log _, by rw [driveQLevels_quench]; rfl⟩
  have recorded (u : State) (d : List Nat) :
      (u.record .quench .safety 0x80 (0x0100 + code) d n).log.alarms = u.log.alarms ∧
        (u.record .quench .safety 0x80 (0x0100 + code) d n).quench.standing = u.quench.standing :=
    ⟨record_alarms .., by rw [(record_logsOver ..).quench]⟩
  unfold State.quenchCause
  dsimp only
  split
  · exact ⟨rfl, rfl⟩
  split
  · rw [(entered _).1, (entered _).2, (recorded _ _).1, (recorded _ _).2]
    exact ⟨rfl, rfl⟩
  · rw [(recorded _ _).1, (recorded _ _).2]
    exact ⟨rfl, rfl⟩

/-- A FAULT cause whose condition stands. -/
theorem standFault_stands (s : State) (code : Nat) : code ∈ (s.standFault code).quench.standing := by
  unfold State.standFault
  rw [(quenchCause_alarms_standing ..).2]
  change code ∈ if code ∈ s.quench.standing then s.quench.standing else code :: s.quench.standing
  split
  next h => exact h
  next => exact List.mem_cons_self

/-- A standing condition raises and clears no alarm. -/
theorem standFault_alarmOn (s : State) (code c i : Nat) : (s.standFault code).alarmOn c i = s.alarmOn c i := by
  unfold State.alarmOn State.standFault
  rw [(quenchCause_alarms_standing ..).1]
  rfl

/-- Whether a tile of Z0 has VALID slots is read from the tiles and the zone maps alone. -/
theorem z0Valid_congr {s u : State} (ha : u.array = s.array) (hq : u.quench = s.quench) : u.z0Valid = s.z0Valid := by
  unfold State.z0Valid State.zoneClusters State.zoneMap State.z0Map State.tile
  rw [ha, hq, if_pos rfl, if_pos rfl]

theorem alarm_lastCode (s : State) (cls : LogClass) (code idx : Nat) (detail : List Nat) :
    (s.alarm cls code idx detail).lastCode = code :=
  record_lastCode s cls niGaffer code detail 0

/-- A pass two periods late raises ASSAY_LATE, and with VALID slots in Z0 its quench condition stands. -/
theorem assayLate_raises {s : State} (hrun : s.assayRuns = true)
    (hlate : s.blank.assay.lastPassAt + 2 * s.scrubPeriod < s.now) (halarm : s.alarmOn 0x0602 0 = false) :
    exec .assayLate s = .next (if s.z0Valid then (s.alarm .fault 0x0602 0 [0, 0, 0]).standFault 0x34
      else s.alarm .fault 0x0602 0 [0, 0, 0]) := by
  have hlogs := alarm_logsOver s .fault 0x0602 0 [0, 0, 0]
  rw [exec_assayLate, execAssayLate, ← z0Valid_congr hlogs.array hlogs.quench]
  exact congrArg _ (if_pos ⟨hrun, hlate, by simp [halarm]⟩)

/-! ### A repair (07 R274) -/

/-- A table's read after a run of keys was set, each to what a function gives for it. -/
theorem tget_setRange {α : Type} [DecidableEq α] (d : α) (m : Tab α) (lo n p : Nat) (g : Nat → α) :
    tget d ((List.range n).foldl (fun m i => tset d m (lo + i) (g (lo + i))) m) p =
      if lo ≤ p ∧ p < lo + n then g p else tget d m p := by
  induction n with
  | zero => simp
  | succ n ih =>
    rw [List.range_succ, List.foldl_append, List.foldl_cons, List.foldl_nil, tget_tset, ih]
    by_cases hp : lo + n = p
    · subst hp; simp
    · rw [if_neg hp]
      exact if_congr (by omega) rfl rfl

/-- A table's read after the values of a list were set one after another. -/
theorem tget_setList {α : Type} [DecidableEq α] (d : α) (m : Tab α) (lo j : Nat) (l : List α) (i : Nat) :
    tget d ((l.zipIdx i).foldl (fun m p => tset d m (lo + p.2) p.1) m) (lo + j) =
      if i ≤ j ∧ j < i + l.length then l.getD (j - i) d else tget d m (lo + j) := by
  induction l generalizing m i with
  | nil => simp
  | cons x l ih =>
    rw [List.zipIdx_cons, List.foldl_cons, ih, tget_tset, List.length_cons]
    by_cases hj : i = j
    · subst hj; simp
    · by_cases hlt : i + 1 ≤ j ∧ j < i + 1 + l.length
      · obtain ⟨m, rfl⟩ : ∃ m, j = i + 1 + m := ⟨j - (i + 1), by omega⟩
        rw [if_pos hlt, if_pos (by omega), show i + 1 + m - (i + 1) = m by omega, show i + 1 + m - i = m + 1 by omega,
          List.getD_cons_succ]
      · rw [if_neg hlt, if_neg (by omega), if_neg (by omega)]

/-- The words of a descriptor as a repair writes them. -/
theorem primedWords_getD (e : Nat) (valid : Bool) {w : List Word} {j : Nat} (hj : j < w.length) :
    (primedWords e valid w).getD j 0 =
      if j = 0 then (w.getD j 0 &&& 0x1FFFFFFF) ||| (if valid then 0x20000000 else 0)
      else if j = 1 then (w.getD j 0 &&& 0x100) ||| BitVec.ofNat 32 (genOf e % 256) else w.getD j 0 := by
  simp [primedWords, List.getD_eq_getElem?_getD, hj]

theorem primedWords_length (e : Nat) (valid : Bool) (w : List Word) : (primedWords e valid w).length = w.length := by
  simp [primedWords]

/-- The words with VALID are the words without it but for bit 29 of the first. -/
theorem primedWords_valid (e : Nat) {w : List Word} {j : Nat} (hj : j < w.length) :
    (primedWords e true w).getD j 0 =
      if j = 0 then (primedWords e false w).getD 0 0 ||| 0x20000000 else (primedWords e false w).getD j 0 := by
  rw [primedWords_getD e true hj, primedWords_getD e false hj, primedWords_getD e false (by omega)]
  by_cases hzero : j = 0
  · subst hzero; simp
  · simp [hzero]

/-- A descriptor reads the words it was given. -/
theorem descWord_putDescriptor (s : State) {t k j : Nat} {w : List Word} (hk : k ≠ 15) (hj : j < w.length) :
    ((s.putDescriptor t k w).tile t).descWord k j = w.getD j 0 := by
  unfold State.putDescriptor
  rw [tile_modTile_self, Tile.descWord, if_neg hk, tget_setList, if_pos ⟨Nat.zero_le j, by omega⟩, Nat.sub_zero]

/-- Instruction memory reads the image's words over the whole range of the descriptor. -/
theorem imem_putCode (s : State) (t p : Nat) (b : List Nat) (w : List Word)
    (hlo : ((w.headD 0).extractLsb' 9 9).toNat ≤ p) (hhi : p ≤ ((w.headD 0).extractLsb' 18 9).toNat) :
    tget 0 ((s.putCode t b w).tile t).imem p = imageWord b (tileCluster t) (localIndex t) p := by
  unfold State.putCode
  dsimp only
  rw [tile_modTile_self]
  exact (tget_setRange ..).trans (if_pos ⟨hlo, by omega⟩)

theorem imem_putDescriptor (s : State) (t k : Nat) (w : List Word) :
    ((s.putDescriptor t k w).tile t).imem = (s.tile t).imem := by
  unfold State.putDescriptor
  rw [tile_modTile_self]

theorem putCode_tile_ne (s : State) {t i : Nat} (b : List Nat) (w : List Word) (hi : i ≠ t) :
    (s.putCode t b w).tile i = s.tile i :=
  (onlyTile_modTile s t _).2 i hi

theorem putDescriptor_tile_ne (s : State) {t k i : Nat} (w : List Word) (hi : i ≠ t) :
    (s.putDescriptor t k w).tile i = s.tile i :=
  (onlyTile_modTile s t _).2 i hi

/-- VALID of a slot sets bit 29 of its first word and changes no other. -/
theorem descWord_setValid (s : State) {key j : Nat} (hk : key % 16 ≠ 15) (hj : j < 8) :
    ((s.setValid key).tile (key / 16)).descWord (key % 16) j =
      if j = 0 then (s.tile (key / 16)).descWord (key % 16) 0 ||| 0x20000000
      else (s.tile (key / 16)).descWord (key % 16) j := by
  unfold State.setValid
  rw [tile_modTile_self, Tile.descWord, if_neg hk, tget_tset]
  by_cases hzero : j = 0
  · subst hzero; simp
  · rw [if_neg (by omega), if_neg hzero, Tile.descWord, if_neg hk]

theorem imem_setValid (s : State) (key : Nat) :
    ((s.setValid key).tile (key / 16)).imem = (s.tile (key / 16)).imem := by
  unfold State.setValid
  rw [tile_modTile_self]

/-- A repair's books: it is counted, the slot is tainted no more, and its time joins the tile's history. -/
def State.bookRepair (s : State) (key : Nat) : State :=
  s.modAssay (fun a =>
    { a with repairs := inc32 a.repairs, tainted := a.tainted.filter (· ≠ key), deferred := a.deferred.filter (· ≠ key)
             validAfter := a.validAfter.filter (· ≠ key)
             history := tset [] a.history (key / 16)
               (s.now :: (tget [] s.blank.assay.history (key / 16)).filter (fun a => decide (s.now < a + 3600000000000))) })

/-- A repair of a tile with fewer than two in its history: the slot of an active blank becomes VALID, and the tile does
not fail. -/
theorem repairDone_eq {s : State} {key e : Nat} (hfew : (tget [] s.blank.assay.history (key / 16)).length < 2) :
    s.repairDone key e =
      if (s.lib e).state = .active then (s.bookRepair key).setValid key else s.bookRepair key := by
  have hrecent : ¬ 3 ≤ (s.now :: (tget [] s.blank.assay.history (key / 16)).filter
      (fun a => decide (s.now < a + 3600000000000))).length := by
    have hle := List.length_filter_le (fun a => decide (s.now < a + 3600000000000))
      (tget [] s.blank.assay.history (key / 16))
    rw [List.length_cons]
    omega
  unfold State.repairDone
  dsimp only
  rw [if_neg hrecent]
  exact if_congr beq_iff_eq rfl rfl

/-- What a repair leaves: its books, and the slot's words, VALID where the blank is active. -/
theorem repairDone_repairs {s : State} {key e : Nat} (hk : key % 16 ≠ 15)
    (hfew : (tget [] s.blank.assay.history (key / 16)).length < 2) :
    (s.repairDone key e).blank = (s.bookRepair key).blank ∧ (∀ i, i ≠ key / 16 → (s.repairDone key e).tile i = s.tile i) ∧
      ((s.repairDone key e).tile (key / 16)).imem = (s.tile (key / 16)).imem ∧
      ∀ j, j < 8 → ((s.repairDone key e).tile (key / 16)).descWord (key % 16) j =
        if (s.lib e).state = .active ∧ j = 0 then (s.tile (key / 16)).descWord (key % 16) 0 ||| 0x20000000
        else (s.tile (key / 16)).descWord (key % 16) j := by
  rw [repairDone_eq hfew]
  by_cases hactive : (s.lib e).state = .active
  · rw [if_pos hactive]
    refine ⟨rfl, (onlyTile_modTile (s.bookRepair key) _ _).2, imem_setValid .., fun j hj => ?_⟩
    exact (descWord_setValid _ hk hj).trans (if_congr (by simp [hactive]) rfl rfl)
  · rw [if_neg hactive]
    exact ⟨rfl, fun _ _ => rfl, rfl, fun j _ => (if_neg (fun h => hactive h.1)).symm⟩

/-- A repair from an intact source, whose words match the golden signature. -/
theorem repairSlot_repairs {s : State} {t k e : Nat} {w : List Word} (hk : k < 16)
    (hentry : s.entryOfSlot (16 * t + k) = some e)
    (hfind : (imageSlots (s.image e) (tileCluster t) (localIndex t)).find? (fun x => x.1 == k) = some (k, w))
    (hintact : sourceIntact (s.image e) (tileCluster t) = true)
    (hmatch : ((s.putCode t (s.image e) w).putDescriptor t k (primedWords e false w)).slotMatches (16 * t + k)
      (tget 0 s.blank.assay.golden (16 * t + k)) = true) :
    s.repairSlot (16 * t + k) = (((s.putCode t (s.image e) w).putDescriptor t k (primedWords e false w)).repairDone
      (16 * t + k) e).settleAssayLine := by
  have htile : (16 * t + k) / 16 = t := by omega
  have hslot : (16 * t + k) % 16 = k := by omega
  unfold State.repairSlot
  rw [htile, hslot, hentry]
  dsimp only
  rw [hfind]
  dsimp only
  rw [hintact]
  exact congrArg _ (if_pos hmatch)

end Sys2Proof.Machine

open Sys2Proof Sys2Proof.Machine

/-- Settles O32: uploads and *FwTrial* are served requests, a pass and a repair are the model's own equations, and a repaired
slot's words are read back from the tables they were written to. -/
theorem firmwareUploadAndAssay : Obligations.FirmwareUploadAndAssay := by
  unfold Obligations.FirmwareUploadAndAssay
  refine ⟨?header, ?body, ?marks, ?trial, ?clean, ?found, ?repair, ?late⟩
  case header =>
    intro s q ss b h ha hlen hcheck
    obtain ⟨hslot, hother, hupload⟩ := startUpload_starts (s.segmented q (okey 0x8600 6) 0 true b []) (Machine.octets b)
    refine ⟨_, fwHeader_starts h ha hlen hcheck, rfl, ?_, ?_, hupload⟩
    · rw [reply_fw]; exact hslot
    · rw [reply_fw]; exact hother.trans (segmented_fw ..)
  case body =>
    intro s q ss off last data x h ha horder hlen hup hoff hfits hlast
    refine ⟨_, fwBody_grows h ha horder hlen hup hoff hfits hlast, rfl, ?_⟩
    have hlength : (x.data ++ Machine.octets data).length = 64 + off.val + data.length := by
      rw [List.length_append, Machine.octets, List.length_map, hoff]
    cases last with
    | false =>
      have hpart : (x.data ++ Machine.octets data).length ≠ x.total := by simpa [hlength] using hlast
      rw [growUpload_part _ hpart]
      exact ⟨by simp, fun _ => ⟨rfl, by simp⟩, nofun⟩
    | true =>
      have hwhole : (x.data ++ Machine.octets data).length = x.total := by simpa [hlength] using hlast
      rw [growUpload_whole _ hwhole]
      obtain ⟨hslot, hother, hupload⟩ :=
        endUpload_ends (s.segmented q (okey 0x8600 7) off true data []) x (x.data ++ Machine.octets data)
      refine ⟨?_, nofun, fun _ => ⟨hupload, ?_⟩⟩
      · rw [reply_fw]; exact hother.trans (segmented_fw ..)
      · rw [reply_fw]; exact hslot
  case marks =>
    intro s q ss f h hhalt hrole hepoch htrial
    refine ⟨_, fwTrial_marks h hhalt hrole hepoch htrial, reply_answers _ q .ok, ?_, ?_⟩
    · rw [reply_fw, fw_modFw_self, noted_fw]
    · rw [reply_fw, fw_modFw_other, noted_fw]
  case trial =>
    intro s q ss h hrun ha hp hgood
    rw [exec_fwTrial, execFwTrial, if_neg hrun]
    have hnoted : (s.noted q).pendCheck q.session ss (okey 0x8600 8) (.num 1) = (.ok, 0) := by
      rw [pendCheck_fwTrial] at hp ⊢
      exact hp
    have hmore : trialCheck (s.noted q) ss (.num 1) = (.ok, 0) := by
      have hgood' : (s.noted q).fwGood (s.noted q).fwTarget = true := hgood
      simp [trialCheck, firstFail, hgood']
    exact ⟨_, rfl, servePending_enters h ha (by decide) objRow_fwTrial bytesCheck_fwTrial hnoted hmore⟩
  case clean =>
    intro s us hrun hdue hfinds hbanks
    have hfound : s.assayFinds.foldl State.taint (s.passed us) = s.passed us := by rw [hfinds, List.foldl_nil]
    refine ⟨_, assayPass_eq us hrun hdue hfound hbanks, ?_, ?_, ?_⟩
    · rw [settleAssayLine_array]; rfl
    · rw [State.alarmOn, settleAssayLine_log]
      exact clearAlarm_alarmOn _ 0x0602 0
    · rw [settleAssayLine_blank]; rfl
  case found =>
    intro s us key hrun hdue hfinds hbanks hzone hctx
    obtain ⟨v, hlogs, hcode, htaint⟩ := taint_clears (s := s.passed us) (key := key) hzone hctx
    have hblank : (v.clearValid key).blank = v.blank := rfl
    have harray : v.array = s.array := by rw [hlogs.array]; rfl
    have htile (t : Nat) : v.tile t = s.tile t := congrArg (fun a : ArrayUnit => tget ({} : Tile) a.tiles t) harray
    have hclusters : (v.clearValid key).array.clusters = s.array.clusters := congrArg (·.clusters) harray
    have hfound : s.assayFinds.foldl State.taint (s.passed us) = v.clearValid key := by
      rw [hfinds, List.foldl_cons, List.foldl_nil, htaint]
    refine ⟨_, assayPass_eq us hrun hdue hfound ((banksChanged_congr hclusters).trans hbanks), ?_, ?_, ?_, ?_, ?_, ?_⟩
    · rw [settleAssayLine_blank, hblank, hlogs.blank]; rfl
    · rw [settleAssayLine_blank, hblank, hlogs.blank]; rfl
    · rw [State.lastCode, settleAssayLine_log]; exact hcode
    · rw [settleAssayLine_tile, slotValid_clearValid]; simp
    · intro t ht
      rw [settleAssayLine_tile, ← htile]
      exact (onlyTile_modTile v _ _).2 t ht
    · rw [settleAssayLine_array]
      exact congrArg (fun a : ArrayUnit => { a with tiles := (v.clearValid key).array.tiles }) harray
  case repair =>
    intro s t k e w hrun hrep hentry hfind hlen hintact hmatch hfew
    have hkey : (16 * t.val + k.val) / 16 = t := by omega
    have hslot : (16 * t.val + k.val) % 16 = k := by omega
    have hk : k.val ≠ 15 := by omega
    let b := s.image e
    let v := (s.putCode t b w).putDescriptor t k (primedWords e false w)
    have hexec : exec (.assayRepair t k) s = .next (v.repairDone (16 * t.val + k.val) e).settleAssayLine := by
      rw [exec_assayRepair, execAssayRepair, ← repairSlot_repairs (by omega) hentry hfind hintact hmatch]
      exact congrArg _ (if_pos ⟨hrun, hrep⟩)
    obtain ⟨hblank, htiles, himem, hwords⟩ := repairDone_repairs (s := v) (e := e) (by rw [hslot]; exact hk)
      (by rw [hkey]; exact hfew)
    rw [hkey] at htiles himem hwords
    rw [hslot] at hwords
    refine ⟨_, hexec, ?_, ?_, fun j hj => ?_, fun p hlo hhi => ?_, fun j hj => ?_⟩
    · rw [settleAssayLine_blank, hblank]; rfl
    · rw [settleAssayLine_blank, hblank]
      simp [State.bookRepair, State.modAssay]
    · have hwrite (i : Nat) (hi : i < 8) : (v.tile t).descWord k i = (primedWords e false w).getD i 0 :=
        descWord_putDescriptor _ hk (by rw [primedWords_length, hlen]; exact hi)
      have hlib : v.lib e = s.lib e := rfl
      rw [settleAssayLine_tile, hwords j hj, hlib, hwrite 0 (by omega), hwrite j hj]
      by_cases hactive : (s.lib e).state = .active
      · rw [decide_eq_true hactive, primedWords_valid e (hlen ▸ hj)]
        exact if_congr (by simp [hactive]) rfl rfl
      · rw [decide_eq_false hactive, if_neg (fun h => hactive h.1)]
    · rw [settleAssayLine_tile, himem, imem_putDescriptor]
      exact imem_putCode s t p b w hlo hhi
    · rw [settleAssayLine_tile, htiles j hj, putDescriptor_tile_ne _ _ hj, putCode_tile_ne _ _ _ hj]
  case late =>
    intro s hrun hlate halarm
    have hlogs := alarm_logsOver s .fault 0x0602 0 [0, 0, 0]
    refine ⟨_, assayLate_raises hrun hlate halarm, ?_⟩
    cases hz0 : s.z0Valid with
    | true =>
      refine ⟨?_, ?_, fun _ => standFault_stands .., nofun⟩
      · exact (standFault_alarmOn ..).trans (alarm_alarmOn ..)
      · exact (standFault_blank ..).trans hlogs.blank
    | false => exact ⟨alarm_alarmOn .., hlogs.blank, nofun, fun _ => ⟨alarm_lastCode .., hlogs.quench⟩⟩
end

section
/-!
The noise histogram of a ring controller: what a decay leaves of it, and a state on which the decay is not a halving of
every bin (08 R314).
-/

namespace Sys2Proof.Machine

/-- The judgement of the noisy window raises or clears an alarm. -/
theorem noiseWide_logsOver (s : State) (m : Nat) : (s.noiseWide m).logsOver s := by
  unfold State.noiseWide
  split
  · exact clearAlarm_logsOver s _ _
  · split
    · exact s.logsOver_refl
    · exact alarm_logsOver s _ _ _ _

/-- A decay that is due leaves the histogram that `tmap` makes of the listed bins. -/
theorem histDecay_halves {s : State} {m : Fin 4} (hdue : (s.rc m).decayAt + s.num (0x4700 + m) 6 60 * 1000000000 ≤ s.now) :
    ∃ u, exec (.histDecay m) s = .next u ∧ (u.rc m).hist = tmap 0 (fun _ n => n / 2) (s.rc m).hist := by
  refine ⟨_, congrArg Host.Outcome.next (if_pos hdue), ?_⟩
  rw [State.rc, (noiseWide_logsOver _ _).ring]
  exact congrArg (·.hist) (rc_modRc_self s m _)

/-- A decay is due at controller 0, whose histogram is not canonical: it lists bin 1 with one burst, and again with
eight. -/
def binListedTwice : State :=
  { State.reset with now := 60000000000, ring := { rcs := [(0, { hist := [(1, 1), (1, 8)] })] } }

end Sys2Proof.Machine

open Sys2Proof Sys2Proof.Machine

/-- Refutes O43, at its first clause: the statement speaks of every state, with no hypothesis that the histogram has its
canonical form (`twf`). In `binListedTwice` bin 1 reads as 1 burst; the decay drops the first entry, whose half is 0, and
bin 1 then reads as 4, the half of the second entry, where the clause has 0. -/
theorem not_noiseHistogramPhaseAndHeldFrames : ¬ Obligations.NoiseHistogramPhaseAndHeldFrames := by
  unfold Obligations.NoiseHistogramPhaseAndHeldFrames
  rintro ⟨hdecay, -⟩
  have hdue : (binListedTwice.rc 0).decayAt + binListedTwice.num (0x4700 + 0) 6 60 * 1000000000 ≤ binListedTwice.now := by
    decide
  obtain ⟨v, hv, hmapped⟩ := histDecay_halves (m := 0) hdue
  obtain ⟨u, hu, -, -, -, -, hhalved, -⟩ := hdecay binListedTwice 0 hdue
  obtain rfl := Host.Outcome.next.inj (hv.symm.trans hu)
  have hbin : tget 0 (tmap 0 (fun _ n => n / 2) (binListedTwice.rc 0).hist) 1 = tget 0 (binListedTwice.rc 0).hist 1 / 2 :=
    (congrArg (tget 0 · 1) hmapped).symm.trans (hhalved 1)
  exact absurd hbin (by decide)

end

section
/-!
Heads: what a change of a head, a frame that reaches it and a frame it sends leave of the head, of the other heads and of
everything else (08 R287, R288).
-/

namespace Sys2Proof.Machine

/-! ### Changes of one head -/

/-- A state differs from itself in a head that stands. -/
theorem State.onlyHead_refl (s : State) (r p : Nat) : s.onlyHead s r p (s.headAt r p) [] := ⟨rfl, rfl, fun _ _ => rfl⟩

section
variable {s u : State} {r p : Nat} {h : Head} {sent : List Output} (hu : s.onlyHead u r p h sent)
include hu

/-- A further change of the same head. -/
theorem State.onlyHead.modHead (f : Head → Head) : s.onlyHead (u.modHead r p f) r p (f h) sent := by
  obtain ⟨hrest, hhead, hothers⟩ := hu
  refine ⟨?_, ?_, fun k hk => ?_⟩
  · rw [hrest]; rfl
  · rw [headAt_modHead_self, hhead]
  · exact (tget_tmod_ne _ _ hk.symm _).trans (hothers k hk)

/-- Something further leaves. -/
theorem State.onlyHead.emit (o : Output) : s.onlyHead (u.emit o) r p h (o :: sent) := by
  obtain ⟨hrest, hhead, hothers⟩ := hu
  exact ⟨by rw [hrest]; rfl, hhead, hothers⟩

/-- The head sends a frame of its own. -/
theorem State.onlyHead.sends (body : FrameBody) :
    s.onlyHead (u.headSends r p body) r p { h with fseq := (h.fseq + 1) % 65536 } (headFrameOf h r body :: sent) := by
  obtain rfl : u.headAt r p = h := hu.2.1
  exact (hu.modHead _).emit _

end

/-- A change of one head. -/
theorem modHead_onlyHead (s : State) (r p : Nat) (f : Head → Head) :
    s.onlyHead (s.modHead r p f) r p (f (s.headAt r p)) [] :=
  (s.onlyHead_refl r p).modHead f

/-! ### Frames that reach a head (08 R288, R306) -/

/-- A frame has begun to reach a head, which is not in IDLE. -/
def State.heard (s : State) (r p : Nat) : State := s.modHead r p (fun h => { h with idling := false })

theorem heard_onlyHead (s : State) (r p : Nat) :
    s.onlyHead (s.heard r p) r p { s.headAt r p with idling := false } [] :=
  modHead_onlyHead s r p _

/-- A frame that a head acts on by a change of itself. -/
theorem heard_becomes {s : State} {r p : Nat} {f : Head → Head} {k : Head} (hf : f { s.headAt r p with idling := false } = k) :
    s.onlyHead ((s.heard r p).modHead r p f) r p k [] :=
  hf ▸ (heard_onlyHead s r p).modHead f

@[simp] theorem heard_headAt (s : State) (r p : Nat) :
    (s.heard r p).headAt r p = { s.headAt r p with idling := false } :=
  (heard_onlyHead s r p).2.1

section
variable {s : State} {r p : Nat} (hpowered : (s.headAt r p).powered = true) (run : State → State)
include hpowered

/-- A good frame that is addressed to a powered head is acted on. -/
theorem headFrame_runs {dst : Nat} (hdst : dst = 0xFF ∨ ((s.headAt r p).pos ≠ 0 ∧ dst = (s.headAt r p).pos)) :
    s.headFrame r p dst true run = run (s.heard r p) := by
  simp only [State.headFrame, hpowered, hdst, Bool.not_true, Bool.false_eq_true, if_false, if_true]
  rfl

/-- A bad frame is counted and dropped. -/
theorem headFrame_drops (dst : Nat) :
    s.headFrame r p dst false run = (s.heard r p).modHead r p (fun h => h.count 0) := by
  simp only [State.headFrame, hpowered, Bool.not_true, Bool.not_false, Bool.false_eq_true, if_false, if_true]
  rfl

end

end Sys2Proof.Machine

end

section
/-!
Time and calibration at a head: the cases of a TIME frame that is paired with its TMARK, and what an error at a receiver
of the device leaves of its ring (08 R298 to R302, R314).
-/

namespace Sys2Proof.Machine

theorem exec_cmark (r : Fin 16) (at_ : CmarkAt) (s : State) : exec (.cmark r at_) s = execCmark r at_ s := rfl

/-- A TIME frame of an end whose TMARK came within 4 us and whose delay is known sets the local time; a jump within one
EPOCH is counted. -/
theorem takeTime_sets {h : Head} {b : Bool} {t d ttx epoch now : Nat} (hmark : (if b then h.tmarkD else h.tmarkU) = some t)
    (hnear : now ≤ t + 4000) (hdelay : (if b then h.dlyB else h.dlyA) = some d) :
    h.takeTime b ttx epoch now =
      { h with
        feed := if b then .d else .u, pairAt := now, coast := false, epoch := some epoch, timeValid := true
        localBase := ((ttx + d : Nat) : Int), localAt := t
        counters :=
          if h.timeValid && h.epoch == some epoch && decide (131072 < (((ttx + d : Nat) : Int) - h.localTime t).natAbs) then
            tset 0 h.counters 9 ((tget 0 h.counters 9 + 1) % 2 ^ 32)
          else h.counters } := by
  unfold Head.takeTime
  simp only [hmark, hdelay, if_neg (Nat.not_lt.2 hnear)]
  split <;> rfl

/-- A CMARK that comes within 20 us of the arming of its port is turned there. -/
theorem cmark_turns {s : State} {r : Fin 16} {p : Fin 65} {d : Bool} {t : Nat} (hpowered : (s.headAt r p).powered = true)
    (harm : (if d then (s.headAt r p).armD else (s.headAt r p).armU) = some t) (hnear : s.now ≤ t + 20000) :
    exec (.cmark r (.head p d)) s =
      .next ((s.modHead r p (fun h => if d then { h with armD := none } else { h with armU := none })).emit
        (.turned r p (if d then .d else .u))) := by
  rw [exec_cmark, execCmark]
  simp only [harm]
  exact congrArg _ (if_pos ⟨hpowered, hnear⟩)

/-- An error at a receiver changes no ring. -/
theorem ringError_ringAt (s : State) (m r : Nat) : (s.ringError m).ringAt r = s.ringAt r := by
  unfold State.ringError State.ringAt
  rw [(noiseWide_logsOver _ m).ring]
  rfl

/-- An error that is counted at ring `r` is counted there. -/
theorem ringError_counts (s : State) (r m : Nat) (f : Ring → Ring) :
    ((s.modRing r f).ringError m).ringAt r = f (s.ringAt r) := by
  rw [ringError_ringAt, ringAt_modRing_self]

end Sys2Proof.Machine

open Sys2Proof Sys2Proof.Machine

/-- Settles O37: each frame that a head hears changes the head alone, in the way that its body says; the device's own errors
change its ring in one counter. -/
theorem headsMarksTimeAndCalibration : Obligations.HeadsMarksTimeAndCalibration := by
  unfold Obligations.HeadsMarksTimeAndCalibration
  refine ⟨?tmark, ?time, ?turned, ?arm, ?set, ?bad, ?violation, ?device, ?abt, ?unknown⟩
  case tmark =>
    intro s r p d h
    refine ⟨_, congrArg Host.Outcome.next (if_pos h), ?_⟩
    exact modHead_onlyHead s r p _
  case time =>
    intro s r p b ttx ep t d h hmark hnear hdelay
    exact ⟨_, congrArg Host.Outcome.next (headFrame_runs h _ (.inl rfl)), heard_becomes (takeTime_sets hmark hnear hdelay)⟩
  case turned =>
    intro s r p d t h harm hnear
    exact ⟨_, cmark_turns h harm hnear, (modHead_onlyHead s r p _).emit _⟩
  case arm =>
    intro s r p dst h hdst
    exact ⟨⟨_, congrArg Host.Outcome.next (headFrame_runs h _ hdst), (heard_onlyHead s r p).modHead _⟩,
      ⟨_, congrArg Host.Outcome.next (headFrame_runs h _ hdst), (heard_onlyHead s r p).modHead _⟩⟩
  case set =>
    intro s r p dst a b h hdst
    exact ⟨_, congrArg Host.Outcome.next (headFrame_runs h _ hdst), ((heard_onlyHead s r p).modHead _).sends _⟩
  case bad =>
    intro s r p dst a b h
    have hcounted := (heard_onlyHead s r p).modHead (fun h => h.count 0)
    exact ⟨⟨_, congrArg Host.Outcome.next (headFrame_drops h _ _), hcounted⟩,
      ⟨_, congrArg Host.Outcome.next (headFrame_drops h _ _), hcounted⟩,
      ⟨_, congrArg Host.Outcome.next (headFrame_drops h _ _), hcounted⟩,
      ⟨_, congrArg Host.Outcome.next (headFrame_drops h _ _), hcounted⟩⟩
  case violation =>
    intro s r p hp h hidle
    have hends : (s.headAt r p).powered = true ∧ (!(s.headAt r p).idling) = true := ⟨h, by rw [hidle]; rfl⟩
    exact ⟨_, congrArg Host.Outcome.next ((if_neg hp).trans (if_pos hends)), (modHead_onlyHead s r p _).emit _⟩
  case device =>
    intro s r
    exact ⟨_, _, congrArg Host.Outcome.next (if_pos rfl), congrArg Host.Outcome.next (if_pos rfl),
      ringError_counts s r _ _, ringError_counts s r _ _⟩
  case abt =>
    intro s r p hp
    exact congrArg Host.Outcome.next (if_neg hp)
  case unknown =>
    intro s r p
    exact ⟨_, rfl, modHead_onlyHead s r p _⟩

end

section
/-!
Positions, ports and SAFE frames at a head: the head that a COUNT, a port's change and a SAFE frame each leave (08 R305 to
R311, 09 R352 to R354).
-/

namespace Sys2Proof.Machine

/-! ### Positions and ports (08 R305, R308, R309) -/

/-- A COUNT with fewer than 64 heads before gives a position, from the B end a provisional one. -/
theorem takeCount_places (h : Head) (b : Bool) {hops : Nat} (base : Nat) (hfew : hops < 64) :
    h.takeCount b hops base =
      { h with overfull := false, provisional := b, pos := if b then base - hops else hops + 1 } := by
  unfold Head.takeCount
  rw [if_neg (by omega)]
  cases b with
  | false => rfl
  | true => rw [if_pos rfl, if_pos rfl, Nat.add_sub_add_right]

theorem raisedHops_of_lt {hops : Nat} (hfew : hops < 64) : raisedHops hops = hops + 1 := Nat.min_eq_right hfew

/-- CLOSE ends a loopback whose ports are both up. -/
theorem closed_loopback (h : Head) :
    (if h.loopback ∧ !h.downU ∧ !h.downD then { h with loopback := false } else h) =
      { h with loopback := h.loopback && (h.downU || h.downD) } := by
  split
  next hopen =>
    obtain ⟨-, hu, hd⟩ := hopen
    simp only [Bool.not_eq_true'] at hu hd
    rw [hu, hd, Bool.or_false, Bool.and_false]
  next hshut =>
    have hstays : (h.loopback && (h.downU || h.downD)) = h.loopback :=
      Bool.and_eq_left_iff_imp.2 fun hl => by simpa [hl, or_iff_not_imp_left] using hshut
    rw [hstays]

section
variable {h : Head} {now : Nat} (hfeed : h.feed = .u)
include hfeed

/-- The feed port U goes down: loopback on port D, and COAST, which is counted. -/
theorem portDown_feed (hcoast : h.coast = false) :
    h.portDown false now =
      { h with
        downU := true, loopback := true, feed := .d, coast := true, coastAt := now
        counters := tset 0 h.counters 10 ((tget 0 h.counters 10 + 1) % 2 ^ 32) } := by
  simp [Head.portDown, hfeed, Head.startCoast, hcoast, Head.count, inc32]

/-- Port D goes down under feed port U: loopback, and no COAST. -/
theorem portDown_other : h.portDown true now = { h with downD := true, loopback := true } := by
  simp [Head.portDown, hfeed]

end

/-- A port of a powered head that was not declared down goes down: LFAULT, and PORT_DOWN out of the feed port. -/
theorem portDownDetect_reports {s : State} {r : Fin 16} {p : Fin 65} {d : Bool} {k : Head}
    (hpowered : (s.headAt r p).powered = true) (hup : (s.headAt r p).isDown d = false)
    (hdown : (s.headAt r p).portDown d s.now = k) :
    ∃ u, exec (.portDownDetect r p d) s = .next u ∧
      s.onlyHead u r p { k with fseq := (k.fseq + 1) % 65536 }
        [headFrameOf k r (.enumHead 6 (s.headAt r p).pos (s.headAt r p).provisional d (s.headAt r p).desc),
          .lfault r p (if d then .d else .u)] := by
  subst hdown
  exact ⟨_, congrArg Host.Outcome.next (if_neg (by simp [hpowered, hup])), ((modHead_onlyHead s r p _).emit _).sends _⟩

/-! ### SAFE frames (09 R352 to R354) -/

theorem takeSafe_rejects {h : Head} {r now : Nat} {f : SafeFields} (hrejects : h.acceptsSafe r f now = false) :
    h.takeSafe r f now = h.count 8 :=
  if_pos (by rw [hrejects]; rfl)

/-- An accepted frame with QUENCH = 1 quenches a head that is not quenched. -/
theorem takeSafe_quenches {h : Head} {r now : Nat} {f : SafeFields} (haccepts : h.acceptsSafe r f now = true)
    (hquench : f.qstate % 2 = 1) (hlive : h.quenched = false) :
    h.takeSafe r f now =
      { h with
        safeAt := some now, lastSseq := some f.sseq, jog := f.sfmode == 1, channels := [], held := [], staged := []
        committed := [], captures := [], quenched := true, cause := 1, quenchSeen := true, goodFrames := 0 } := by
  have hby : h.quenchedBy f = true := by simp [Head.quenchedBy, Nat.testBit_zero, hquench]
  simp [Head.takeSafe, haccepts, hby, Head.quench, hlive]

/-- An accepted frame with QUENCH = 0 counts toward the release of a quenched head that has seen QUENCH = 1, and the fourth
in a row releases it. -/
theorem takeSafe_counts {h : Head} {r now : Nat} {f : SafeFields} (haccepts : h.acceptsSafe r f now = true)
    (hquench : f.qstate % 2 = 0) (hmode : f.sfmode = 0) (hjog : h.jog = false) (hquenched : h.quenched = true)
    (hseen : h.quenchSeen = true) (hnext : h.lastSseq.map inc32 = some f.sseq) :
    h.takeSafe r f now =
      { h with
        safeAt := some now, lastSseq := some f.sseq, goodFrames := h.goodFrames + 1
        quenched := decide (h.goodFrames + 1 < 4), quenchSeen := decide (h.goodFrames + 1 < 4) } := by
  have hby : h.quenchedBy f = false := by simp [Head.quenchedBy, Nat.testBit_zero, hquench, hmode, hjog]
  have hrun : h.goodRun f = h.goodFrames + 1 := by
    unfold Head.goodRun
    split
    next => rfl
    next hfirst => simp only [hnext, and_true, Nat.not_lt, Nat.le_zero] at hfirst; rw [hfirst]
  simp [Head.takeSafe, haccepts, hby, hquenched, hseen, hrun, hmode, hjog]

end Sys2Proof.Machine

open Sys2Proof Sys2Proof.Machine

/-- Settles O38: a frame of ENUM or SAFE and a port's change leave the head that the lemmas above name, and what it then
sends is its own frame. -/
theorem headsPositionsPortsAndSafeFrames : Obligations.HeadsPositionsPortsAndSafeFrames := by
  unfold Obligations.HeadsPositionsPortsAndSafeFrames
  refine ⟨?count, ?describe, ?close, ?feedDown, ?otherDown, ?up, ?rejected, ?quenched, ?released⟩
  case count =>
    intro s r p b hops base h hfew
    refine ⟨_, congrArg Host.Outcome.next (headFrame_runs h _ (.inl rfl)), ?_⟩
    simp only [raisedHops_of_lt hfew]
    exact (heard_becomes (takeCount_places _ b base hfew)).emit _
  case describe =>
    intro s r p h hpos
    refine ⟨_, congrArg Host.Outcome.next (headFrame_runs h _ (.inl rfl)), ?_⟩
    have hplaced : ¬(((s.heard r p).headAt r p).pos = 0 ∧ (!((s.heard r p).headAt r p).overfull) = true) := by
      simp [hpos]
    simp only [if_neg hplaced]
    rw [heard_headAt]
    exact (heard_onlyHead s r p).sends _
  case close =>
    intro s r p h
    exact ⟨_, congrArg Host.Outcome.next (headFrame_runs h _ (.inl rfl)), heard_becomes (closed_loopback _)⟩
  case feedDown =>
    intro s r p h hfeed hup hcoast
    exact portDownDetect_reports (d := false) h hup (portDown_feed hfeed hcoast)
  case otherDown =>
    intro s r p h hfeed hup
    exact portDownDetect_reports (d := true) h hup (portDown_other hfeed)
  case up =>
    intro s r p d h hdown
    exact ⟨_, congrArg Host.Outcome.next (if_pos ⟨h, hdown⟩), (modHead_onlyHead s r p _).sends _⟩
  case rejected =>
    intro s r p f h hrejects
    exact ⟨_, congrArg Host.Outcome.next (headFrame_runs h _ (.inl rfl)), heard_becomes (takeSafe_rejects hrejects)⟩
  case quenched =>
    intro s r p f h haccepts hquench hlive
    exact ⟨_, congrArg Host.Outcome.next (headFrame_runs h _ (.inl rfl)),
      heard_becomes (takeSafe_quenches haccepts hquench hlive)⟩
  case released =>
    intro s r p f h haccepts hquench hmode hjog hquenched hseen hnext
    exact ⟨_, congrArg Host.Outcome.next (headFrame_runs h _ (.inl rfl)),
      heard_becomes (takeSafe_counts haccepts hquench hmode hjog hquenched hseen hnext)⟩

end

section
/-!
Registers, COAST, self-quench and reports of heads: what a head's registers answer, the head that each expiry leaves, and
what the answers and reports of a head leave of the device (08 R289, R290, 09 R346 to R356, 13 R488).
-/

namespace Sys2Proof.Machine

theorem exec_mgmtRdRsp (r : Fin 16) (p : Fin 65) (good : Bool) (tag addr : Fin 65536) (data : List (Fin 4294967296))
    (s : State) : exec (.mgmtRdRsp r p good tag addr data) s = execMgmtRdRsp r p good tag addr data s := rfl

theorem exec_safeTimeoutExpiry (r : Fin 16) (p : Fin 65) (s : State) :
    exec (.safeTimeoutExpiry r p) s = execSafeTimeoutExpiry r p s := rfl

/-! ### MGMT at a head (09 R355) -/

/-- The end of a frame's IDLE changes no register that is read. -/
theorem readRegs_idling (h : Head) (b : Bool) (a n : Nat) : ({ h with idling := b } : Head).readRegs a n = h.readRegs a n := rfl

theorem writeStatus_idling (h : Head) (b : Bool) (a v : Nat) :
    ({ h with idling := b } : Head).writeStatus a v = h.writeStatus a v := rfl

/-- A write of one word answers what its register answers. -/
theorem writesStatus_one (h : Head) (a v : Nat) : h.writesStatus a [v] = h.writeStatus a v := by
  unfold Head.writesStatus
  by_cases hok : h.writeStatus a v = 0 <;> simp [hok]

/-- A write of one word writes one register. -/
theorem writeRegs_one (h : Head) (a v : Nat) : h.writeRegs a [v] = h.writeReg a v := rfl

/-- A register's write changes registers alone: the same whether the head was in IDLE, and nothing that its frames carry. -/
theorem writeReg_keeps (h : Head) (a v : Nat) (b : Bool) :
    ({ h with idling := b } : Head).writeReg a v = { h.writeReg a v with idling := b } ∧
      (h.writeReg a v).feed = h.feed ∧ (h.writeReg a v).pos = h.pos ∧ (h.writeReg a v).fseq = h.fseq := by
  unfold Head.writeReg
  repeat' split
  all_goals exact ⟨rfl, rfl, rfl, rfl⟩

/-- A frame of a head depends on its feed port, its position and its FSEQ. -/
theorem headFrameOf_congr {h k : Head} (hfeed : k.feed = h.feed) (hpos : k.pos = h.pos) (hfseq : k.fseq = h.fseq) (r : Nat)
    (body : FrameBody) : headFrameOf k r body = headFrameOf h r body := by
  unfold headFrameOf Head.toward
  rw [hfeed, hpos, hfseq]

section
variable {s : State} {r : Fin 16} {p : Fin 65} {dst : Fin 256} {addr : Fin 65536} {v : Fin 4294967296}
  (hpowered : (s.headAt r p).powered = true)
  (hdst : dst.val = 0xFF ∨ ((s.headAt r p).pos ≠ 0 ∧ dst.val = (s.headAt r p).pos))
include hpowered hdst

/-- A MGMT write of one word that its register admits is carried out and confirmed. -/
theorem mgmtWr_confirms (hok : (s.headAt r p).writeStatus addr v = 0) (tag : Fin 65536) :
    exec (.mgmtWr r p dst true tag addr [v]) s =
      .next (((s.heard r p).modHead r p (fun h => h.writeReg addr v)).headSends r p (.mgmt 4 tag addr 0 [])) := by
  refine congrArg Host.Outcome.next ((headFrame_runs hpowered _ hdst).trans ?_)
  simp only [List.map_cons, List.map_nil, heard_headAt, writesStatus_one, writeStatus_idling, writeRegs_one, hok]

/-- Any other write of one word is answered with its status. -/
theorem mgmtWr_refuses (hbad : (s.headAt r p).writeStatus addr v ≠ 0) (tag : Fin 65536) :
    exec (.mgmtWr r p dst true tag addr [v]) s =
      .next ((s.heard r p).headSends r p (.mgmt 5 tag addr ((s.headAt r p).writeStatus addr v) [])) := by
  obtain ⟨c, hc⟩ := Nat.exists_eq_succ_of_ne_zero hbad
  refine congrArg Host.Outcome.next ((headFrame_runs hpowered _ hdst).trans ?_)
  simp only [List.map_cons, List.map_nil, heard_headAt, writesStatus_one, writeStatus_idling, hc]

end

/-! ### COAST, self-quench and reports (09 R351 to R356) -/

theorem startCoast_enters {h : Head} (hcoast : h.coast = false) (now : Nat) :
    h.startCoast now =
      { h with coast := true, coastAt := now, counters := tset 0 h.counters 10 ((tget 0 h.counters 10 + 1) % 2 ^ 32) } :=
  if_neg (by simp [hcoast])

/-- SAFE_TIMEOUT after the last accepted SAFE frame the head quenches itself. -/
theorem safeTimeoutExpiry_quenches {s : State} {r : Fin 16} {p : Fin 65} {t : Nat} (hpowered : (s.headAt r p).powered = true)
    (hsafe : (s.headAt r p).safeAt = some t) (hlate : t + 1000 * (s.headAt r p).safeTimeout ≤ s.now) :
    exec (.safeTimeoutExpiry r p) s = .next (s.modHead r p (fun h => h.selfQuench 2)) := by
  rw [exec_safeTimeoutExpiry, execSafeTimeoutExpiry]
  simp only [hsafe]
  exact congrArg _ (if_pos ⟨hpowered, hlate⟩)

/-- The channel registers of a head that powers up read as the list given. -/
theorem powerUp_channelRegs (l : List (Fin 4294967296)) (i : Nat) :
    tget 0 (l.zipIdx.foldl (fun t e => tset 0 t e.2 e.1.val) ([] : Tab Nat)) i = (l.map Fin.val).getD i 0 := by
  have hread := tget_setList 0 ([] : Tab Nat) 0 i (l.map Fin.val) 0
  simp only [List.zipIdx_map, List.foldl_map, Nat.zero_add, Nat.zero_le, true_and, Nat.sub_zero, tget_nil] at hread
  refine hread.trans ?_
  split
  next => rfl
  next hout => rw [List.getD_eq_default _ _ (Nat.not_lt.1 hout)]

/-! ### Answers and reports that reach the device (08 R289, 09 R346, 13 R488) -/

/-- A STATUS read back answers its request, and raises HEAD_SELF_QUENCHED where it shows a self-quench. -/
theorem mgmtRdRsp_status {s : State} {r : Fin 16} {p : Fin 65} {tag addr : Fin 65536} {v : Fin 4294967296}
    (haddr : addr.val = 2) :
    exec (.mgmtRdRsp r p true tag addr [v]) s = .next (
      if v.val.testBit 0 ∧ 2 ≤ v.val / 2 % 8 then
        (s.mgmtAnswered r p tag).alarm .alarm 0x0403 (64 * r + p) (ringDetail r p ((s.ringAt r).descOf p).serial 0)
      else (s.mgmtAnswered r p tag).clearAlarm 0x0403 (64 * r + p)) := by
  rw [exec_mgmtRdRsp, execMgmtRdRsp]
  simp [haddr]

/-- Energy of a source is accepted in the energy unit, and no ring's meter changes. -/
theorem acceptParts_rings (s : State) (k parts unit : Nat) : (s.acceptParts k parts unit).energy.rings = s.energy.rings := by
  unfold State.acceptParts State.accept
  dsimp only
  split
  · rfl
  · dsimp only
    split <;> rfl

/-- A report of a known head whose ECUM has not fallen adds what it has metered since to its ring. -/
theorem headEnergy_adds {s : State} {r serial e n : Nat} {k : HeadMeter} (hcounts : s.counting 2 = true)
    (hknown : tget none s.energy.heads serial = some k) (hrises : k.ecum ≤ e) :
    tget {} (s.headEnergy r serial e n).energy.rings r =
      (let y := tget {} s.energy.rings r
      { y with
        energy := y.energy + (y.carry + (e - k.ecum)) / 1000, carry := (y.carry + (e - k.ecum)) % 1000
        dropped := (y.dropped + (n + 65535 - k.rcount) % 65536) % 2 ^ 32
        reporting := if serial ∈ y.reporting then y.reporting else serial :: y.reporting }) := by
  unfold State.headEnergy
  simp only [hcounts, hknown, Bool.not_true, Bool.false_eq_true, if_false, if_pos hrises, Nat.not_lt.2 hrises, decide_false]
  simp only [acceptParts_rings, State.modSource, tget_tmod_self]

end Sys2Proof.Machine

open Sys2Proof Sys2Proof.Machine

/-- Settles O42: MGMT at a head is its registers and one frame, each expiry leaves the head that its rule names, and what a
head answers or reports changes one request, one alarm or one ring's meter at the device. -/
theorem headsRegistersCoastAndReports : Obligations.HeadsRegistersCoastAndReports := by
  unfold Obligations.HeadsRegistersCoastAndReports
  refine ⟨?read, ?write, ?status, ?answered, ?coast, ?coastMax, ?safeTimeout, ?energy, ?sense, ?powerUp, ?meter⟩
  case read =>
    intro s r p dst tag addr n l h hdst hread
    refine ⟨_, congrArg Host.Outcome.next (headFrame_runs h _ hdst), ?_⟩
    simp only [heard_headAt, readRegs_idling, hread]
    exact (heard_onlyHead s r p).sends _
  case write =>
    intro s r p dst tag addr v h hdst
    by_cases hok : (s.headAt r p).writeStatus addr v = 0
    · obtain ⟨hidling, hfeed, hpos, hfseq⟩ := writeReg_keeps (s.headAt r p) addr v false
      refine ⟨_, mgmtWr_confirms h hdst hok tag, ?_⟩
      have hwritten := (heard_becomes (f := fun h => h.writeReg addr v) hidling).sends (.mgmt 4 tag addr 0 [])
      simp only [hok, if_true]
      rw [← headFrameOf_congr hfeed hpos hfseq, ← hfseq]
      exact hwritten
    · refine ⟨_, mgmtWr_refuses h hdst hok tag, ?_⟩
      simp only [if_neg hok]
      exact (heard_onlyHead s r p).sends _
  case status =>
    intro s r p tag addr v haddr
    refine ⟨_, mgmtRdRsp_status haddr, ?_⟩
    split
    next hshown =>
      refine ⟨?_, ?_⟩
      · rw [alarm_alarmOn]; simp [hshown.1, hshown.2]
      · rw [State.ringAt, (alarm_logsOver ..).ring]
        exact congrArg (·.mgmtOpen) (ringAt_modRing_self ..)
    next hclear =>
      refine ⟨?_, congrArg (·.mgmtOpen) (ringAt_modRing_self ..)⟩
      rw [clearAlarm_alarmOn]
      symm
      simpa using hclear
  case answered =>
    intro s r p tag
    exact ⟨⟨_, rfl, ringAt_modRing_self .., rfl⟩, ⟨_, rfl, ringAt_modRing_self .., rfl⟩⟩
  case coast =>
    intro s r p h hcoast hlate
    refine ⟨_, congrArg Host.Outcome.next (if_pos ⟨h, .inr hlate⟩), ?_⟩
    exact startCoast_enters hcoast s.now ▸ modHead_onlyHead s r p (fun x => x.startCoast s.now)
  case coastMax =>
    intro s r p h hcoast hlive hlate
    refine ⟨_, congrArg Host.Outcome.next (if_pos ⟨h, hcoast, hlate, by simp [hlive]⟩), modHead_onlyHead s r p _⟩
  case safeTimeout =>
    intro s r p t h hsafe hlate
    exact ⟨_, safeTimeoutExpiry_quenches h hsafe hlate, modHead_onlyHead s r p _⟩
  case energy =>
    intro s r p e h hmeters hdue
    exact ⟨_, congrArg Host.Outcome.next (if_pos ⟨h, hmeters, hdue⟩), (modHead_onlyHead s r p _).sends _⟩
  case sense =>
    intro s r p st t l h hsense hon hst hl
    exact ⟨_, congrArg Host.Outcome.next (if_pos ⟨h, hsense, hon, hst, hl⟩), (modHead_onlyHead s r p _).sends _⟩
  case powerUp =>
    intro s r p d j l hp
    have honly := modHead_onlyHead s r p (fun _ =>
      { powered := true, desc := d, jogCapable := j, pairAt := s.now, energyAt := s.now, localAt := s.now
        channelRegs := l.zipIdx.foldl (fun t e => tset 0 t e.2 e.1.val) [] })
    refine ⟨_, congrArg Host.Outcome.next (if_neg hp), ?_⟩
    rw [honly.2.1]
    exact ⟨honly, powerUp_channelRegs l, rfl, rfl, rfl⟩
  case meter =>
    intro s r p e n k hcounts hknown hrises
    refine ⟨_, congrArg Host.Outcome.next (if_pos rfl), ?_⟩
    have hadds := headEnergy_adds (r := r) (n := n % 65536) hcounts hknown hrises
    simp only [Ring.descOf, hadds]
    exact ⟨by omega, Nat.mod_lt _ (by decide), trivial, trivial⟩

end

section
/-!
Rings: what a change of a ring and a frame sent on one of its ends leave, and when an ENUM frame goes out at once (08 R287,
R296, R315).
-/

namespace Sys2Proof.Machine

/-! ### Rings after a change and a frame -/

theorem ringAt_modRing_ne (s : State) {r k : Nat} (hk : k ≠ r) (f : Ring → Ring) : (s.modRing r f).ringAt k = s.ringAt k := by
  rw [ringAt_modRing, if_neg hk.symm]

@[simp] theorem ringAt_emit (s : State) (o : Output) (k : Nat) : (s.emit o).ringAt k = s.ringAt k := rfl
@[simp] theorem ringAt_modRc (s : State) (m : Nat) (f : RingController → RingController) (k : Nat) :
    (s.modRc m f).ringAt k = s.ringAt k := rfl
@[simp] theorem ringAt_clearAlarm (s : State) (code idx k : Nat) : (s.clearAlarm code idx).ringAt k = s.ringAt k := rfl
@[simp] theorem ringAt_alarm (s : State) (cls : LogClass) (code idx : Nat) (detail : List Nat) (k : Nat) :
    (s.alarm cls code idx detail).ringAt k = s.ringAt k := by
  rw [State.ringAt, (alarm_logsOver ..).ring]; rfl

/-- A ring after a frame has left one of its ends (08 R287). -/
def Ring.sentOn (x : Ring) (e : RingEnd) : Ring :=
  match e with
  | .a => { x with fseqA := (x.fseqA + 1) % 65536 }
  | .b => { x with fseqB := (x.fseqB + 1) % 65536 }

/-- A frame takes the next FSEQ of its end, and leaves. -/
theorem sendFrame_eq (s : State) (r : Nat) (e : RingEnd) (dst : Nat) (body : FrameBody) (echo : Bool) :
    s.sendFrame r e dst body echo = (s.modRing r (·.sentOn e)).emit
      (.frame { ring := r, end_ := e, echo := echo, dst := dst, fseq := (s.ringAt r).nextFseq e, body := body }) := by
  cases e <;> rfl

section
variable (s : State) (r : Nat) (e : RingEnd) (dst : Nat) (body : FrameBody) (echo : Bool)

@[simp] theorem ringAt_sendFrame_self : (s.sendFrame r e dst body echo).ringAt r = (s.ringAt r).sentOn e := by
  rw [sendFrame_eq, ringAt_emit, ringAt_modRing_self]

theorem ringAt_sendFrame_ne {k : Nat} (hk : k ≠ r) : (s.sendFrame r e dst body echo).ringAt k = s.ringAt k := by
  rw [sendFrame_eq, ringAt_emit, ringAt_modRing_ne s hk]

@[simp] theorem sendFrame_out : (s.sendFrame r e dst body echo).out =
    .frame { ring := r, end_ := e, echo := echo, dst := dst, fseq := (s.ringAt r).nextFseq e, body := body } :: s.out := by
  rw [sendFrame_eq]; rfl

theorem sendFrame_ringsOver : s.ringsOver (s.sendFrame r e dst body echo) := rfl

@[simp] theorem sendFrame_rcs : (s.sendFrame r e dst body echo).ring.rcs = s.ring.rcs := rfl
@[simp] theorem sendFrame_time : (s.sendFrame r e dst body echo).time = s.time := rfl
@[simp] theorem sendFrame_sess : (s.sendFrame r e dst body echo).sess = s.sess := rfl
@[simp] theorem sendFrame_log : (s.sendFrame r e dst body echo).log = s.log := rfl

end

/-- What goes to every head of a ring goes out of the A end alone where the device feeds no other. -/
theorem sendAll_of_fedA {s : State} {r : Nat} (hfed : (s.ringAt r).fedEnds = [.a]) (body : FrameBody) :
    s.sendAll r body = s.sendFrame r .a 0xFF body := by
  unfold State.sendAll
  rw [hfed]; rfl

/-- A ring that is not OFF and whose B end is not fed is fed from its A end alone. -/
theorem fedEnds_of_unfedB {x : Ring} (hoff : x.state ≠ .off) (hfedB : x.fedB = false) : x.fedEnds = [.a] := by
  have ha : x.feeds .a = true := by simp [Ring.feeds, hoff]
  have hb : x.feeds .b = false := by simp [Ring.feeds, hfedB]
  simp [Ring.fedEnds, ha, hb]

/-! ### Frames that need not wait for a gap (08 R315) -/

/-- When a frame may start depends on the time, the settings of the noise shaping, and the histogram and phase. -/
theorem mayDefer_congr {s u : State} {m : Nat} (htime : u.time = s.time)
    (hnum : ∀ sub d, u.num (0x4700 + m) sub d = s.num (0x4700 + m) sub d) (hhist : (u.rc m).hist = (s.rc m).hist)
    (hphase : (u.rc m).phase0 = (s.rc m).phase0) (hperiod : (u.rc m).period = (s.rc m).period) (len : Nat) :
    u.mayDefer m len = s.mayDefer m len := by
  unfold State.mayDefer State.inWindow State.shaping State.windowBins State.guardBins State.flagOn RingController.bin
    RingController.offset
  simp only [htime, hnum, hhist, hphase, hperiod]

/-- An ENUM frame of ring `r` goes out at once: no frame of the ring waits, and 8 bytes fit before the next noisy bin. -/
structure State.Gap (s : State) (r : Nat) : Prop where
  free : (s.rc (r / 4)).deferred.any (fun d => d.1 == r) = false
  fits : s.mayDefer (r / 4) 8 = true

/-- A gap lasts while time, settings and ring controllers stand. -/
theorem State.Gap.congr {s u : State} {r : Nat} (h : s.Gap r) (htime : u.time = s.time)
    (hforce : u.sess.inForce = s.sess.inForce) (hrcs : u.ring.rcs = s.ring.rcs) : u.Gap r := by
  have hrc : u.rc (r / 4) = s.rc (r / 4) := by rw [State.rc, hrcs]; rfl
  have hnum (sub d : Nat) : u.num (0x4700 + r / 4) sub d = s.num (0x4700 + r / 4) sub d := by
    unfold State.num State.setting
    rw [hforce]
  exact ⟨hrc ▸ h.free, by rw [mayDefer_congr htime hnum (by rw [hrc]) (by rw [hrc]) (by rw [hrc]), h.fits]⟩

theorem State.Gap.modRing {s : State} {r : Nat} (h : s.Gap r) (k : Nat) (f : Ring → Ring) : (s.modRing k f).Gap r :=
  h.congr rfl rfl rfl

theorem State.Gap.sendFrame {s : State} {r : Nat} (h : s.Gap r) (k : Nat) (e : RingEnd) (dst : Nat) (body : FrameBody) :
    (s.sendFrame k e dst body).Gap r :=
  h.congr rfl rfl rfl

theorem State.Gap.logsOver {s u : State} {r : Nat} (h : s.Gap r) (hlogs : u.logsOver s) : u.Gap r :=
  h.congr hlogs.time (by rw [hlogs.2.1]) (by rw [hlogs.ring])

theorem State.Gap.sends {s : State} {r : Nat} (h : s.Gap r) (b : Bool) (dst op hops base : Nat) :
    s.sendDeferrable r b dst (.enumOut op hops base) = s.sendFrame r (ringEnd b) dst (.enumOut op hops base) := by
  have hlen : (FrameBody.enumOut op hops base).len = 8 := rfl
  exact if_neg (by rw [hlen, h.fits, h.free]; simp)

/-- In a gap COUNT leaves at once. -/
theorem State.Gap.sendCount {s : State} {r : Nat} (h : s.Gap r) (b : Bool) :
    s.sendCount r b =
      s.sendFrame r (ringEnd b) 0xFF (.enumOut 1 0 (if b then (s.ringAt r).lastCount else 0)) :=
  h.sends b 0xFF 1 0 _

end Sys2Proof.Machine

end

section
/-!
Ring states at the device: TRAINING and OFF as *RingEnable* comes into force, the marks and SAFE frames of a ring that is
fed from its A end, and the beginning and end of a calibration (08 R297 to R313, 10 R370).
-/

namespace Sys2Proof.Machine

theorem exec_tmarkSend (r : Fin 16) (s : State) : exec (.tmarkSend r) s = execTmarkSend r s := rfl

/-! ### *RingEnable* (08 R305, R313) -/

theorem alook_tput_ne {α : Type} {k j : Nat} (h : k ≠ j) (v : α) (t : Tab α) : alook (tput k v t) j = alook t j := by
  induction t with
  | nil => simp [tput, alook, h]
  | cons e t ih =>
    obtain ⟨i, u⟩ := e
    unfold tput
    split
    · simp [alook, h]
    · split
      next hk => subst hk; simp [alook, h]
      next => simp only [alook, ih]

theorem alook_tdel_ne {α : Type} {k j : Nat} (h : k ≠ j) (t : Tab α) : alook (tdel k t) j = alook t j := by
  induction t with
  | nil => rfl
  | cons e t ih =>
    obtain ⟨i, u⟩ := e
    simp only [tdel, ne_eq, decide_not] at ih ⊢
    by_cases hi : i = k
    · subst hi; simp [alook, h, ih]
    · simp [hi, alook, ih]

/-- A value that comes into force changes no other object. -/
theorem alook_force {key k : Nat} (h : key ≠ k) (u : SessionUnit) (v : Val) :
    alook (u.force key v).inForce k = alook u.inForce k := by
  unfold SessionUnit.force
  dsimp only
  split
  · unfold tset
    split
    · exact alook_tdel_ne h _
    · exact alook_tput_ne h v _
  · exact alook_tput_ne h v _

/-- `s` with *RingEnable* of ring `r` in force. -/
def State.withRingEnable (s : State) (r : Fin 16) (on : Bool) : State :=
  { s with sess := s.sess.force (okey (0x4000 + r) 1) (.num (if on then 1 else 0)) }

/-- *RingEnable* is no setting of the noise shaping. -/
theorem withRingEnable_mayDefer (s : State) (r : Fin 16) (on : Bool) (m len : Nat) :
    (s.withRingEnable r on).mayDefer m len = s.mayDefer m len := by
  refine mayDefer_congr (s := s) (u := s.withRingEnable r on) rfl (fun sub d => ?_) rfl rfl rfl len
  have hkey : okey (0x4000 + r) 1 ≠ okey (0x4700 + m) sub := by unfold okey; omega
  unfold State.num State.setting State.withRingEnable
  rw [alook_force hkey]

theorem ringEnabled_off {s : State} {r : Nat} (hon : (s.ringAt r).state ≠ .off) : s.ringEnabled r false = s.ringOff r :=
  if_neg hon

theorem ringEnabled_trains {s : State} {r : Nat} (hop : s.op.state = .service ∨ s.op.state = .run)
    (hring : (s.ringAt r).state = .off ∨ (s.ringAt r).state = .fault) : s.ringEnabled r true = s.startTraining r :=
  if_pos ⟨hop, hring⟩

/-- A ring that has gone OFF. -/
def Ring.wentOff (x : Ring) : Ring :=
  { x with state := .off, fedB := false, breaks := [], closing := false, calBusy := false, countA := none, countB := none
           described := [], reported := [], mgmtOpen := [] }

/-- A controller that holds no frame of ring `r` any more. -/
def RingController.without (c : RingController) (r : Nat) : RingController :=
  { c with deferred := c.deferred.filter (fun d => d.1 != r) }

theorem ringOff_eq (s : State) (r : Nat) :
    s.ringOff r = ((s.modRing r Ring.wentOff).modRc (r / 4) (·.without r)).clearAlarm 0x0401 r := rfl

@[simp] theorem ringAt_ringOff_self (s : State) (r : Nat) : (s.ringOff r).ringAt r = (s.ringAt r).wentOff := by
  rw [ringOff_eq, ringAt_clearAlarm, ringAt_modRc, ringAt_modRing_self]

theorem ringAt_ringOff_ne (s : State) {r k : Nat} (hk : k ≠ r) : (s.ringOff r).ringAt k = s.ringAt k := by
  rw [ringOff_eq, ringAt_clearAlarm, ringAt_modRc, ringAt_modRing_ne s hk]

@[simp] theorem ringOff_out (s : State) (r : Nat) : (s.ringOff r).out = s.out := by
  rw [ringOff_eq, clearAlarm_out, modRc_out, modRing_out]

@[simp] theorem ringOff_time (s : State) (r : Nat) : (s.ringOff r).time = s.time := by
  rw [ringOff_eq, clearAlarm_time, modRc_time, modRing_time]

@[simp] theorem ringOff_sess (s : State) (r : Nat) : (s.ringOff r).sess = s.sess := by
  rw [ringOff_eq, clearAlarm_sess, modRc_sess, modRing_sess]

@[simp] theorem ringOff_rc (s : State) (r : Nat) : (s.ringOff r).rc (r / 4) = (s.rc (r / 4)).without r :=
  rc_modRc_self (s.modRing r Ring.wentOff) (r / 4) _

/-- A ring that has entered TRAINING. -/
def Ring.inTraining (x : Ring) (now : Nat) : Ring :=
  { x with state := .training, trainAt := now, faultCause := 0, headCount := 0, segAEnd := 0, segBStart := 0, island := []
           safeAtA := now, safeAtB := now
           recs := tmap {} (fun _ h => { h with present := false, confirmed := false }) x.recs }

theorem startTraining_eq (s : State) (r : Nat) :
    s.startTraining r = ((s.ringOff r).modRing r (·.inTraining s.now)).sendCount r false := rfl

/-- No frame is held for a ring that has gone OFF. -/
theorem ringOff_gap {s : State} {r : Nat} (hfits : s.mayDefer (r / 4) 8 = true) : (s.ringOff r).Gap r := by
  constructor
  · rw [ringOff_rc]; simp [RingController.without]
  · rw [← hfits]
    exact mayDefer_congr (ringOff_time s r) (fun _ _ => by simp only [State.num, State.setting, ringOff_sess])
      (by rw [ringOff_rc]; rfl) (by rw [ringOff_rc]; rfl) (by rw [ringOff_rc]; rfl) 8

/-- A ring that enters TRAINING is counted from its A end. -/
theorem startTraining_trains {s : State} {r : Nat} (hfits : s.mayDefer (r / 4) 8 = true) :
    (s.startTraining r).ringAt r = ((s.ringAt r).wentOff.inTraining s.now).sentOn .a ∧
      (s.startTraining r).out =
        .frame { ring := r, end_ := .a, dst := 0xFF, fseq := ((s.ringAt r).fseqA + 1) % 65536, body := .enumOut 1 0 0 } ::
          s.out ∧
      ∀ k, k ≠ r → (s.startTraining r).ringAt k = s.ringAt k := by
  have hgap : ((s.ringOff r).modRing r (·.inTraining s.now)).Gap r := (ringOff_gap hfits).modRing r _
  rw [startTraining_eq, hgap.sendCount]
  refine ⟨?_, ?_, fun k hk => ?_⟩
  · exact (ringAt_sendFrame_self ..).trans (by rw [ringAt_modRing_self, ringAt_ringOff_self]; rfl)
  · rw [sendFrame_out, modRing_out, ringOff_out, ringAt_modRing_self, ringAt_ringOff_self]; rfl
  · rw [ringAt_sendFrame_ne _ _ _ _ _ _ hk, ringAt_modRing_ne _ hk, ringAt_ringOff_ne s hk]

/-! ### Marks and SAFE frames (08 R297, 10 R370) -/

/-- The TMARK of `t` leaves an end, and its TIME frame. -/
theorem sendPair_eq (s : State) (r : Nat) (b : Bool) (t : T64) :
    s.sendPair r b t = (s.emit (.mark r (ringEnd b) false)).sendFrame r (ringEnd b) 0xFF
      (.time (t * 65536) s.time.state.code s.time.quality.code s.ring.epoch (s.rc (r / 4)).phase0
        ((s.rc (r / 4)).period * 1000) (s.noiseMap (r / 4))) := rfl

/-- A ring that sends on the mark of `t`. -/
def Ring.markedAt (x : Ring) (t : T64) : Ring := { x with tmarkAt := t }

/-- A new multiple of *TimePeriod* goes out of the A end of a ring that is fed there alone. -/
theorem tmarkSend_sends {s : State} {r : Fin 16} {t : T64} (hon : (s.ringAt r).state ≠ .off)
    (hfedB : (s.ringAt r).fedB = false) (hperiod : 1 ≤ s.timePeriod) (ht : s.time.t64 / s.timePeriod * s.timePeriod = t)
    (hnew : (s.ringAt r).tmarkAt ≠ t) :
    exec (.tmarkSend r) s = .next ((s.modRing r (·.markedAt t)).sendPair r false t) := by
  rw [exec_tmarkSend, execTmarkSend]
  simp only [Nat.max_eq_right hperiod, ht]
  rw [if_neg (by simp [hon, hnew.symm]), hfedB]
  rfl

/-- The fields of a SAFE frame (08 R290). -/
theorem safeBody_eq (s : State) (r n : Nat) :
    s.safeBody r n = .safe n s.time.t64 (!s.armed) s.offTesting (if s.quench.jog then 1 else 0)
      (if s.armed then 0 else s.quench.cause)
      (safeCrc r n s.time.t64 ((if s.armed then 0 else 1) + (if s.offTesting then 2 else 0)) (if s.quench.jog then 1 else 0)
        (if s.armed then 0 else s.quench.cause) 0) := by
  unfold State.safeBody
  cases s.armed <;> rfl

/-- A ring after its SAFE frame `n`, on every end that the device feeds (10 R372). -/
def Ring.safeSent (x : Ring) (n now : Nat) (armed : Bool) : Ring :=
  { x with sseq := n, safeAtA := now, goodSafeA := if armed then min 4 (x.goodSafeA + 1) else 0
           safeAtB := if x.fedB then now else x.safeAtB
           goodSafeB := if x.fedB then (if armed then min 4 (x.goodSafeB + 1) else 0) else x.goodSafeB }

theorem safeSent_of_unfedB {x : Ring} (hfedB : x.fedB = false) (n now : Nat) (armed : Bool) :
    x.safeSent n now armed =
      { x with sseq := n, safeAtA := now, goodSafeA := if armed then min 4 (x.goodSafeA + 1) else 0 } := by
  simp [Ring.safeSent, hfedB]

/-- The SAFE frame of a ring that is fed from its A end alone. -/
theorem safeFrameGenerate_sends {s : State} {r : Fin 16} {n : Nat} (hon : (s.ringAt r).state ≠ .off)
    (hfedB : (s.ringAt r).fedB = false) (hdue : (s.ringAt r).safeAtA + 250000 ≤ s.now) (hn : inc32 (s.ringAt r).sseq = n) :
    exec (.safeFrameGenerate r) s =
      .next ((s.modRing r (·.safeSent n s.now s.armed)).sendFrame r .a 0xFF (s.safeBody r n)) := by
  subst hn
  rw [← sendAll_of_fedA]
  · exact congrArg Host.Outcome.next (if_neg (by simp [hon, Nat.not_lt.2 hdue]))
  · rw [ringAt_modRing_self]; exact fedEnds_of_unfedB hon hfedB

/-! ### Calibration (08 R302, R304) -/

/-- Two rings that differ in their FSEQ alone. -/
def Ring.sameBut (x y : Ring) : Prop := y = { x with fseqA := y.fseqA, fseqB := y.fseqB }

theorem Ring.sameBut.trans {x y z : Ring} (h : x.sameBut y) (g : y.sameBut z) : x.sameBut z :=
  calc z = { y with fseqA := z.fseqA, fseqB := z.fseqB } := g
    _ = { x with fseqA := z.fseqA, fseqB := z.fseqB } := by rw [h]

theorem sentOn_sameBut (x : Ring) (e : RingEnd) : x.sameBut (x.sentOn e) := by cases e <;> rfl

/-- A frame sent or held for a gap changes no more of its ring than an FSEQ. -/
theorem sendDeferrable_sameBut (s : State) (r : Nat) (b : Bool) (dst : Nat) (body : FrameBody) :
    (s.ringAt r).sameBut ((s.sendDeferrable r b dst body).ringAt r) := by
  unfold State.sendDeferrable
  split
  · rfl
  · rw [ringAt_sendFrame_self]; exact sentOn_sameBut _ _

/-- The arming of a list of heads and their marks change no more of the ring than its FSEQ. -/
theorem armHeads_sameBut (r : Nat) (e : RingEnd) (op : Nat) (l : List Nat) (s : State) :
    (s.ringAt r).sameBut ((l.foldl (fun u p => (u.sendSlow r p (.cal op 0 0)).emit (.mark r e true)) s).ringAt r) := by
  induction l generalizing s with
  | nil => rfl
  | cons p l ih => exact (sendDeferrable_sameBut s r _ _ _).trans (ih _)

/-- A ring whose calibration has begun. -/
def Ring.calBegun (x : Ring) (now : Nat) : Ring :=
  { x with calBusy := true, calAt := now, rttA := [], rttB := [], calF := none, calV := none }

/-- A calibration begins with no time measured; on a whole ring its last marks are those of F and V. -/
theorem beginCal_begins (s : State) (r : Nat) :
    ((s.ringAt r).calBegun s.now).sameBut ((s.beginCal r).ringAt r) ∧
      ((s.ringAt r).state ≠ .wrap → (s.beginCal r).out.take 2 = [.mark r .b true, .mark r .a true]) := by
  have harmed := (armHeads_sameBut r .a 1 (s.ringAt r).calA (s.modRing r (·.calBegun s.now))).trans
    (armHeads_sameBut r .b 2 (s.ringAt r).calB _)
  rw [ringAt_modRing_self] at harmed
  unfold State.beginCal
  dsimp only
  split
  next hwrap => exact ⟨harmed, fun h => absurd hwrap h⟩
  next => exact ⟨harmed, fun _ => rfl⟩

theorem measured_of_more {s : State} {r : Nat} {f : Ring → Ring} (hbusy : (s.ringAt r).calBusy = true)
    (hmore : (f (s.ringAt r)).calDone = false) : s.measured r f = s.modRing r f := by
  unfold State.measured
  rw [if_pos hbusy]
  exact if_neg (by rw [ringAt_modRing_self, hmore]; decide)

theorem measured_of_done {s : State} {r : Nat} {f : Ring → Ring} (hbusy : (s.ringAt r).calBusy = true)
    (hdone : (f (s.ringAt r)).calDone = true) : s.measured r f = (s.modRing r f).finishCal r := by
  unfold State.measured
  rw [if_pos hbusy]
  exact if_pos (by rw [ringAt_modRing_self, hdone])

/-- A ring without heads that has F and V measured has no more to measure. -/
theorem calDone_of_no_heads {x : Ring} {f v : Nat} (hnone : x.headCount = 0) (hstate : x.state = .training)
    (hf : x.calF = some f) (hv : x.calV = some v) : x.calDone = true := by
  have hheads : positions 1 0 = [] := by decide
  simp [Ring.calDone, Ring.calA, Ring.calB, hnone, hstate, hf, hv, hheads]

/-- The ring that a closing leaves (08 R307, R311). -/
def Ring.closedUp (x : Ring) : Ring :=
  { x with state := .closed, fedB := false, breaks := [], lastCount := x.headCount, segAEnd := x.headCount, segBStart := 0
           island := [], serials := (positions 1 x.headCount).foldl (fun t p => tset 0 t p (x.descOf p).serial) [] }

@[simp] theorem ringAt_closeRing_self (s : State) (r : Nat) : (s.closeRing r).ringAt r = (s.ringAt r).closedUp :=
  ringAt_modRing_self s r Ring.closedUp

/-- In TRAINING and RENUMBER the last REPORT closes the ring. -/
theorem tryClose_closes {s : State} {r : Nat} (hstate : (s.ringAt r).state = .training ∨ (s.ringAt r).state = .renumber)
    (hall : (positions 1 (s.ringAt r).headCount).all (fun p => (s.ringAt r).reported.contains p) = true) :
    s.tryClose r = s.closeRing r :=
  if_pos ⟨hstate, hall⟩

/-- The calibration of a ring without heads ends with F and V, and the ring is CLOSED. -/
theorem finishCal_closes {s : State} {r : Nat} (hnone : (s.ringAt r).headCount = 0)
    (hstate : (s.ringAt r).state = .training) :
    let u := (s.finishCal r).ringAt r
    u.state = .closed ∧ u.calBusy = false ∧ u.fTotal = (s.ringAt r).calF.getD 0 ∧ u.vTotal = (s.ringAt r).calV.getD 0 ∧
      u.lastCount = 0 := by
  have hheads : positions 1 0 = [] := by decide
  unfold State.finishCal State.finishWhole
  rw [if_neg (by rw [hstate]; decide), if_pos hnone, tryClose_closes]
  · rw [ringAt_closeRing_self, ringAt_modRing_self]
    exact ⟨rfl, rfl, rfl, rfl, hnone⟩
  · rw [ringAt_modRing_self]; exact .inl hstate
  · rw [ringAt_modRing_self]; simp [hnone, hheads]

end Sys2Proof.Machine

open Sys2Proof Sys2Proof.Machine

/-- Settles O35: each command leaves the ring that its lemma names, and what leaves the block is one frame, a mark with its
TIME frame, or the marks of a calibration. -/
theorem ringStatesMarksAndSafeFrames : Obligations.RingStatesMarksAndSafeFrames := by
  unfold Obligations.RingStatesMarksAndSafeFrames
  refine ⟨?training, ?off, ?fault, ?marks, ?safe, ?begins, ?round, ?closed⟩
  case training =>
    intro s r hop hring hfits
    obtain ⟨hself, hout, hothers⟩ := startTraining_trains ((withRingEnable_mayDefer s r true (r / 4) 8).trans hfits)
    refine ⟨(s.withRingEnable r true).startTraining r,
      congrArg Host.Outcome.next (ringEnabled_trains hop hring), ?_, ?_, ?_, ?_, hout, hothers⟩
    all_goals rw [hself]; rfl
  case off =>
    intro s r hon
    refine ⟨(s.withRingEnable r false).ringOff r,
      congrArg Host.Outcome.next (ringEnabled_off hon), ?_, rfl, fun k hk => ?_⟩
    · rw [ringAt_ringOff_self]; rfl
    · exact ringAt_ringOff_ne (s.withRingEnable r false) hk
  case fault =>
    intro s r hstate hlate
    refine ⟨s.ringFault r 1, congrArg Host.Outcome.next (if_pos ⟨hstate, hlate⟩), ?_, ?_, ?_, rfl⟩
    all_goals rw [State.ringFault, ringAt_modRing_self]
  case marks =>
    intro s r hon hfedB hperiod hnew
    refine ⟨_, tmarkSend_sends hon hfedB hperiod rfl hnew, ?_, ?_⟩
    · rw [sendPair_eq, ringAt_sendFrame_self, ringAt_emit, ringAt_modRing_self]; rfl
    · rw [sendPair_eq, sendFrame_out, ringAt_emit, ringAt_modRing_self]; rfl
  case safe =>
    intro s r hon hfedB hdue
    refine ⟨_, safeFrameGenerate_sends hon hfedB hdue rfl, ?_, ?_⟩
    · rw [ringAt_sendFrame_self, ringAt_modRing_self, safeSent_of_unfedB hfedB]; rfl
    · rw [sendFrame_out, ringAt_modRing_self, safeBody_eq]; rfl
  case begins =>
    intro s r hdue
    obtain ⟨hsame, hmarks⟩ := beginCal_begins s r
    refine ⟨s.beginCal r, congrArg Host.Outcome.next (if_pos hdue), ?_, ?_, ?_, ?_, ?_, ?_, ?_, hmarks⟩
    all_goals rw [hsame]; rfl
  case round =>
    intro s r k ps hbusy hmore
    exact ⟨_, congrArg Host.Outcome.next (measured_of_more hbusy hmore), ringAt_modRing_self .., rfl,
      fun j hj => ringAt_modRing_ne s hj _⟩
  case closed =>
    intro s r f v hbusy hnone hstate hf
    have hdone : ({ s.ringAt r with calV := some v } : Ring).calDone = true := calDone_of_no_heads hnone hstate hf rfl
    refine ⟨_, congrArg Host.Outcome.next (measured_of_done hbusy hdone), ?_⟩
    have hcloses := finishCal_closes (s := s.modRing r (fun x => { x with calV := some v })) (r := r)
    rw [ringAt_modRing_self] at hcloses
    obtain ⟨hclosed, hbusy', hfTotal, hvTotal, hlast⟩ := hcloses hnone hstate
    exact ⟨hclosed, hbusy', hfTotal.trans (by rw [hf]; rfl), hvTotal, hlast⟩

end

section
/-!
Enumeration, breaks and heals at the device: what a COUNT that has come back, a DESC and a REPORT leave, the WRAP that every
kind of break makes of a CLOSED ring, and the RENUMBER that its heal makes (08 R288, R305 to R311).
-/

namespace Sys2Proof.Machine

/-! ### Enumeration (08 R305 to R307, R311) -/

/-- A ring whose heads nobody has described yet. -/
def Ring.undescribed (x : Ring) : Ring := { x with described := [] }

/-- DESCRIBE goes out at once from the A end of a ring that is fed there alone. -/
theorem sendDescribe_of_fedA {s : State} {r : Nat} (hfed : (s.ringAt r).fedEnds = [.a]) (hgap : s.Gap r) :
    s.sendDescribe r = (s.modRing r Ring.undescribed).sendFrame r .a 0xFF (.enumOut 2 0 0) := by
  have hfed' : ((s.modRing r Ring.undescribed).ringAt r).fedEnds = [.a] := by rw [ringAt_modRing_self]; exact hfed
  refine Eq.trans ?_ ((hgap.modRing r Ring.undescribed).sends false 0xFF 2 0 0)
  unfold State.sendDescribe
  exact congrArg (List.foldl _ _) hfed'

/-- A ring whose heads a whole count has numbered. -/
def Ring.countedWhole (x : Ring) (n : Nat) : Ring :=
  { x with headCount := n, fedB := false, countA := none, countB := none, closing := false, reported := []
           recs := tmap {} (fun p h => { h with present := decide (p ≤ n) && h.present }) x.recs }

/-- A whole count that finds heads has them described from the A end. -/
theorem countWhole_describes {s : State} {r n : Nat}
    (hstate : (s.ringAt r).state = .training ∨ (s.ringAt r).state = .renumber) (hn : n ≠ 0) (hgap : s.Gap r) :
    s.countWhole r n =
      ((s.modRing r (·.countedWhole n)).modRing r Ring.undescribed).sendFrame r .a 0xFF (.enumOut 2 0 0) := by
  have hon : (s.ringAt r).state ≠ .off := by rcases hstate with h | h <;> rw [h] <;> decide
  rw [← sendDescribe_of_fedA (s := s.modRing r (·.countedWhole n)) _ (hgap.modRing r _)]
  · unfold State.countWhole
    rcases hstate with h | h <;> simp only [h] <;> exact if_neg hn
  · rw [ringAt_modRing_self]; exact fedEnds_of_unfedB hon rfl

/-- In WRAP a descriptor is recorded, and nothing follows. -/
theorem descArrives_of_wrap {s : State} {r p : Nat} (hp : p ≠ 0) (hwrap : (s.ringAt r).state = .wrap) (prov : Bool)
    (d : HeadDesc) : s.descArrives r p prov d = s.modRing r (·.recordDesc p prov d) := by
  unfold State.descArrives
  simp only [if_neg hp, hwrap]

/-- A descriptor is recorded for its position and for no other. -/
theorem recordDesc_records (x : Ring) (p : Nat) (prov : Bool) (d : HeadDesc) :
    ((x.recordDesc p prov d).headRec p).desc = d ∧ ((x.recordDesc p prov d).headRec p).present = true ∧
      ((x.recordDesc p prov d).headRec p).provisional = prov ∧ p ∈ (x.recordDesc p prov d).described ∧
      ∀ k, k ≠ p → (x.recordDesc p prov d).headRec k = x.headRec k := by
  unfold Ring.recordDesc Ring.headRec Ring.modRec
  simp only [tget_tmod_self]
  refine ⟨trivial, trivial, trivial, ?_, fun k hk => tget_tmod_ne _ _ hk.symm _⟩
  split
  next h => exact h
  next => simp

/-- A ring with a REPORT of a position. -/
def Ring.reportOf (x : Ring) (p a b : Nat) : Ring :=
  { x.modRec p (fun h => { h with delayA := a, delayB := b, confirmed := true }) with
    reported := if p ∈ x.reported then x.reported else x.reported ++ [p] }

theorem reportOf_headRec (x : Ring) (p a b : Nat) :
    (x.reportOf p a b).headRec p = { x.headRec p with delayA := a, delayB := b, confirmed := true } := by
  unfold Ring.reportOf Ring.headRec Ring.modRec
  rw [tget_tmod_self]

theorem reportOf_reported (x : Ring) (p a b k : Nat) :
    (x.reportOf p a b).reported.contains k = (k == p || x.reported.contains k) := by
  unfold Ring.reportOf
  rw [Bool.eq_iff_iff]
  dsimp only
  split
  next h => simp only [List.contains_iff_mem, Bool.or_eq_true, beq_iff_eq, iff_or_self]; rintro rfl; exact h
  next => simp [or_comm]

theorem reportArrives_eq (s : State) (r p a b : Nat) :
    s.reportArrives r p a b = (s.modRing r (·.reportOf p a b)).tryClose r := rfl

/-- The REPORT of the last head closes the ring. -/
theorem reportArrives_closes {s : State} {r p a b : Nat}
    (hstate : (s.ringAt r).state = .training ∨ (s.ringAt r).state = .renumber)
    (hall : (positions 1 (s.ringAt r).headCount).all (fun k => k == p || (s.ringAt r).reported.contains k) = true) :
    s.reportArrives r p a b = (s.modRing r (·.reportOf p a b)).closeRing r := by
  rw [reportArrives_eq, tryClose_closes]
  · rw [ringAt_modRing_self]; exact hstate
  · rw [ringAt_modRing_self]
    simp only [reportOf_reported]
    exact hall

/-! ### Breaks (08 R310) -/

/-- A ring with a further side of a break. -/
def Ring.brokenAt (x : Ring) (side : BreakSide) : Ring :=
  { x with breaks := if side ∈ x.breaks then x.breaks else x.breaks ++ [side] }

/-- A ring whose segment A is all of it until the counts come back. -/
def Ring.oneSegment (x : Ring) : Ring := { x with segAEnd := x.lastCount, segBStart := 0, island := [] }

theorem ringBreak_of_closed {s : State} {r : Nat} (hclosed : (s.ringAt r).state = .closed) (side : BreakSide) :
    s.ringBreak r side = (((s.modRing r (·.brokenAt side)).modRing r Ring.oneSegment).enterWrap r).countBoth r := by
  unfold State.ringBreak
  simp only [hclosed]
  rfl

/-- A ring that has entered WRAP. -/
def Ring.inWrap (x : Ring) : Ring := { x with state := .wrap, wraps := inc32 x.wraps }

@[simp] theorem ringAt_enterWrap_self (s : State) (r : Nat) : (s.enterWrap r).ringAt r = (s.ringAt r).inWrap := by
  unfold State.enterWrap
  rw [ringAt_alarm, ringAt_modRing_self]; rfl

theorem enterWrap_alarmOn (s : State) (r : Nat) : (s.enterWrap r).alarmOn 0x0401 r = true := alarm_alarmOn ..

theorem State.Gap.enterWrap {s : State} {r : Nat} (h : s.Gap r) (k : Nat) : (s.enterWrap k).Gap r :=
  (h.modRing k _).logsOver (alarm_logsOver ..)

theorem State.Gap.sendPair {s : State} {r : Nat} (h : s.Gap r) (k : Nat) (b : Bool) (t : T64) : (s.sendPair k b t).Gap r := by
  rw [sendPair_eq]
  have hmark : (s.emit (.mark k (ringEnd b) false)).Gap r := h.congr rfl rfl rfl
  exact hmark.sendFrame ..

/-- A ring whose B end is fed as well, and whose heads are to be counted again from both ends. -/
def Ring.bothFed (x : Ring) (quiet : Bool) (now : Nat) : Ring :=
  { x with fedB := true, countA := none, countB := none, described := [], calBusy := false
           goodSafeB := if x.fedB then x.goodSafeB else if quiet then 0 else 4, safeAtB := if x.fedB then x.safeAtB else now }

theorem countBoth_of_unfedB {s : State} {r : Nat} (hfedB : (s.ringAt r).fedB = false) :
    s.countBoth r =
      (((s.modRing r (·.bothFed (s.ringQuenched r) s.now)).sendPair r true s.time.t64).sendCount r false).sendCount r true := by
  unfold State.countBoth
  simp only [hfedB]
  rfl

/-- The B end is fed with TIME, and a COUNT goes out on each end. -/
theorem countBoth_counts {s : State} {r : Nat} (hfedB : (s.ringAt r).fedB = false) (hgap : s.Gap r) :
    (s.countBoth r).ringAt r =
        ((((s.ringAt r).bothFed (s.ringQuenched r) s.now).sentOn .b).sentOn .a).sentOn .b ∧
      (s.countBoth r).log = s.log ∧
      (s.countBoth r).out.take 2 =
        [.frame { ring := r, end_ := .b, dst := 0xFF, fseq := ((s.ringAt r).fseqB + 1 + 1) % 65536
                  body := .enumOut 1 0 (s.ringAt r).lastCount },
          .frame { ring := r, end_ := .a, dst := 0xFF, fseq := ((s.ringAt r).fseqA + 1) % 65536, body := .enumOut 1 0 0 }] := by
  have hfed := (hgap.modRing r (·.bothFed (s.ringQuenched r) s.now)).sendPair r true s.time.t64
  rw [countBoth_of_unfedB hfedB, hfed.sendCount, (hfed.sendFrame r _ _ _).sendCount]
  simp only [ringAt_sendFrame_self, sendPair_eq, sendFrame_log, sendFrame_out, ringAt_emit, ringAt_modRing_self,
    List.take_succ_cons, List.take_zero]
  refine ⟨rfl, rfl, ?_⟩
  simp [Ring.sentOn, ringEnd, Ring.nextFseq, Ring.bothFed]

/-- A break of a CLOSED ring takes it to WRAP, with its alarm, both ends fed and the heads counted from each. -/
theorem ringBreak_wraps {s : State} {r : Nat} (side : BreakSide) (hclosed : (s.ringAt r).state = .closed)
    (hnone : (s.ringAt r).breaks = []) (hfedB : (s.ringAt r).fedB = false) (hgap : s.Gap r) :
    let x := s.ringAt r
    let u := s.ringBreak r side
    (u.ringAt r).state = .wrap ∧ (u.ringAt r).breaks = [side] ∧ (u.ringAt r).fedB = true ∧
      (u.ringAt r).wraps = (x.wraps + 1) % 2 ^ 32 ∧ (u.ringAt r).segAEnd = x.lastCount ∧ (u.ringAt r).segBStart = 0 ∧
      u.alarmOn 0x0401 r = true ∧
      u.out.take 2 =
        [.frame { ring := r, end_ := .b, dst := 0xFF, fseq := (x.fseqB + 1 + 1) % 65536, body := .enumOut 1 0 x.lastCount },
          .frame { ring := r, end_ := .a, dst := 0xFF, fseq := (x.fseqA + 1) % 65536, body := .enumOut 1 0 0 }] := by
  let v := ((s.modRing r (·.brokenAt side)).modRing r Ring.oneSegment).enterWrap r
  have hring : v.ringAt r = ((s.ringAt r).brokenAt side).oneSegment.inWrap := by
    rw [ringAt_enterWrap_self, ringAt_modRing_self, ringAt_modRing_self]
  have hbreaks : ((s.ringAt r).brokenAt side).breaks = [side] := by simp [Ring.brokenAt, hnone]
  obtain ⟨hself, hlog, hout⟩ := countBoth_counts (s := v) (r := r) (by rw [hring]; exact hfedB)
    (((hgap.modRing r _).modRing r _).enterWrap r)
  rw [hring] at hself hout
  intro x u
  have hu : u = v.countBoth r := ringBreak_of_closed hclosed side
  rw [hu, hself]
  refine ⟨rfl, hbreaks, rfl, rfl, rfl, rfl, ?_, hout⟩
  rw [State.alarmOn, hlog]
  exact enterWrap_alarmOn _ r

/-! ### Heals (08 R311) -/

/-- A property of the default and of every value that `f` makes holds of every read after `tmap`. -/
theorem tget_tmap_of {α : Type} [DecidableEq α] {d : α} {f : Nat → α → α} {P : α → Prop} (hd : P d)
    (hf : ∀ k v, P (f k v)) (t : Tab α) (k : Nat) : P (tget d (tmap d f t) k) := by
  induction t with
  | nil => exact hd
  | cons e t ih =>
    obtain ⟨j, v⟩ := e
    simp only [tmap]
    split
    · exact ih
    · simp only [tget]
      split
      · exact hf j v
      · exact ih

/-- A ring whose breaks have all healed. -/
def Ring.healed (x : Ring) : Ring :=
  { x with state := .renumber, fedB := false, closing := true, countA := none, countB := none, described := [], reported := []
           calBusy := false, segAEnd := x.lastCount, segBStart := 0, island := []
           recs := tmap {} (fun _ h => { h with confirmed := false }) x.recs }

theorem healed_confirmed (x : Ring) (k : Nat) : (x.healed.headRec k).confirmed = false :=
  tget_tmap_of (P := fun h : HeadRec => h.confirmed = false) rfl (fun _ _ => rfl) x.recs k

/-- CLOSE from both ends, TIME from the A end, and the count of a ring that has healed. -/
theorem heal_of_gap {s : State} {r : Nat} (hgap : s.Gap r) :
    s.heal r = (((((s.sendFrame r .a 0xFF (.enumOut 4 0 0)).sendFrame r .b 0xFF (.enumOut 4 0 0)).modRing r
      Ring.healed).sendPair r false s.time.t64).sendFrame r .a 0xFF (.enumOut 1 0 0)) := by
  have hclose := hgap.sendFrame r .a 0xFF (.enumOut 4 0 0)
  have hcounted := ((hclose.sendFrame r .b 0xFF (.enumOut 4 0 0)).modRing r Ring.healed).sendPair r false s.time.t64
  unfold State.heal
  rw [hgap.sends, show ringEnd false = .a from rfl, hclose.sends]
  exact hcounted.sendCount false

/-- A ring that has healed is RENUMBER, and CLOSE has gone out on both ends. -/
theorem heal_heals {s : State} {r : Nat} (hgap : s.Gap r) :
    (s.heal r).ringAt r = ((((s.ringAt r).sentOn .a).sentOn .b).healed.sentOn .a).sentOn .a ∧
      Output.frame { ring := r, end_ := .a, dst := 0xFF, fseq := ((s.ringAt r).fseqA + 1) % 65536, body := .enumOut 4 0 0 } ∈
        (s.heal r).out ∧
      Output.frame { ring := r, end_ := .b, dst := 0xFF, fseq := ((s.ringAt r).fseqB + 1) % 65536, body := .enumOut 4 0 0 } ∈
        (s.heal r).out := by
  rw [heal_of_gap hgap]
  refine ⟨?_, ?_, ?_⟩
  · simp only [ringAt_sendFrame_self, sendPair_eq, ringAt_emit, ringAt_modRing_self]
    rfl
  · simp [sendPair_eq, State.emit, State.modRing, Ring.nextFseq]
  · simp [sendPair_eq, State.emit, State.modRing, Ring.nextFseq, Ring.sentOn]

/-- The last side of a break is up again. -/
theorem sideUp_heals {s : State} {r : Nat} {side : BreakSide} (hwrap : (s.ringAt r).state = .wrap)
    (hlast : (s.ringAt r).breaks = [side]) : s.sideUp r side = (s.modRing r (fun x => { x with breaks := [] })).heal r := by
  have hleft : (s.ringAt r).breaks.filter (fun b => b != side && b != .tmark) = [] := by simp [hlast]
  unfold State.sideUp
  simp only [hleft]
  exact if_pos ⟨hwrap, by rw [hlast]; simp, trivial⟩

/-- A frame with an error is counted at its ring (08 R288). -/
theorem badFrame_counts (s : State) (r : Nat) :
    (s.badFrame r).ringAt r = { s.ringAt r with fcsErrors := ((s.ringAt r).fcsErrors + 1) % 2 ^ 32 } :=
  ringError_counts s r _ _

end Sys2Proof.Machine

open Sys2Proof Sys2Proof.Machine

/-- Settles O36: each frame from the heads leaves the ring that its lemma names; the three kinds of break are one break with
its side; a frame with an error is counted at its ring. -/
theorem enumerationBreaksAndHeals : Obligations.EnumerationBreaksAndHeals := by
  unfold Obligations.EnumerationBreaksAndHeals
  refine ⟨?count, ?desc, ?report, ?portDown, ?endDown, ?tmarkLoss, ?heal, ?bad⟩
  case count =>
    intro s r n base hstate hn hfits hfree
    refine ⟨_, congrArg Host.Outcome.next (countWhole_describes hstate hn ⟨hfree, hfits⟩), ?_⟩
    rw [ringAt_sendFrame_self, ringAt_modRing_self, ringAt_modRing_self, sendFrame_out, ringAt_modRing_self,
      ringAt_modRing_self]
    exact ⟨rfl, rfl, rfl, rfl, rfl⟩
  case desc =>
    intro s r p prov d hp hwrap
    obtain ⟨hdesc, hpresent, hprov, hdescribed, hothers⟩ := recordDesc_records (s.ringAt r) p prov d
    refine ⟨_, congrArg Host.Outcome.next (descArrives_of_wrap hp hwrap prov d), ?_⟩
    rw [ringAt_modRing_self]
    exact ⟨hdesc, hpresent, hprov, hdescribed, hothers, rfl⟩
  case report =>
    intro s r p a b hstate hall
    refine ⟨_, congrArg Host.Outcome.next (reportArrives_closes hstate hall), ?_⟩
    have hrec : ((s.ringAt r).reportOf p a b).closedUp.headRec p = _ := reportOf_headRec (s.ringAt r) p a b
    rw [ringAt_closeRing_self, ringAt_modRing_self, hrec]
    exact ⟨rfl, rfl, rfl, rfl, rfl, clearAlarm_alarmOn ..⟩
  case portDown =>
    intro s r p d hclosed hnone hfedB hfits hfree
    exact ⟨_, rfl, ringBreak_wraps _ hclosed hnone hfedB ⟨hfree, hfits⟩⟩
  case endDown =>
    intro s r b hclosed hnone hfedB hfits hfree
    exact ⟨_, rfl, ringBreak_wraps _ hclosed hnone hfedB ⟨hfree, hfits⟩⟩
  case tmarkLoss =>
    intro s r hclosed hnone hfedB hfits hfree
    exact ⟨_, rfl, ringBreak_wraps _ hclosed hnone hfedB ⟨hfree, hfits⟩⟩
  case heal =>
    intro s r p d hp hwrap hlast hfits hfree
    have hgap : (s.modRing r (fun x => { x with breaks := [] })).Gap r := State.Gap.modRing ⟨hfree, hfits⟩ r _
    obtain ⟨hself, houtA, houtB⟩ := heal_heals hgap
    rw [ringAt_modRing_self] at hself houtA houtB
    refine ⟨_, congrArg Host.Outcome.next ((if_neg hp).trans (sideUp_heals hwrap hlast)), ?_⟩
    rw [hself]
    exact ⟨rfl, rfl, rfl, rfl, healed_confirmed _, houtA, houtB⟩
  case bad =>
    intro s r p a b d port
    exact ⟨⟨_, rfl, badFrame_counts s r⟩, ⟨_, rfl, badFrame_counts s r⟩, ⟨_, rfl, badFrame_counts s r⟩,
      ⟨_, rfl, badFrame_counts s r⟩⟩

end

section
/-!
Firing groups at the device from GROUP_OPEN to their end, the heads' ACKs, and SENSE frames (09 R338 to R345).
-/

namespace Sys2Proof.Machine

/-! ### Groups of a ring -/

/-- A ring with one group changed. -/
def Ring.withGroup (x : Ring) (g : Nat) (f : Group → Group) : Ring :=
  { x with groups := x.groups.map (fun p => if p.1 = g then (p.1, f p.2) else p) }

theorem modGroup_eq (s : State) (r g : Nat) (f : Group → Group) : s.modGroup r g f = s.modRing r (·.withGroup g f) := rfl

theorem group?_withGroup (x : Ring) (g : Nat) (f : Group → Group) : (x.withGroup g f).group? g = (x.group? g).map f := by
  have hmap : (x.withGroup g f).groups = x.groups.map (fun p => (p.1, (if p.1 = g then f else id) p.2)) :=
    List.map_congr_left fun p _ => by split <;> rfl
  rw [Ring.group?, hmap, alook_map (fun k => if k = g then f else id), if_pos rfl]
  rfl

/-- The group that a change leaves in its slot. -/
theorem group?_modGroup {s : State} {r g : Nat} {y : Group} (hg : (s.ringAt r).group? g = some y) (f : Group → Group) :
    ((s.modGroup r g f).ringAt r).group? g = some (f y) := by
  rw [modGroup_eq, ringAt_modRing_self, group?_withGroup, hg]; rfl

theorem sentOn_group? (x : Ring) (e : RingEnd) (g : Nat) : (x.sentOn e).group? g = x.group? g := by cases e <;> rfl
theorem sentOn_events (x : Ring) (e : RingEnd) : (x.sentOn e).events = x.events := by cases e <;> rfl
theorem sentOn_atomicCommitted (x : Ring) (e : RingEnd) : (x.sentOn e).atomicCommitted = x.atomicCommitted := by
  cases e <;> rfl

theorem sentOn_atomicAborted (x : Ring) (e : RingEnd) : (x.sentOn e).atomicAborted = x.atomicAborted := by cases e <;> rfl

/-- A ring whose group slot is free, its members no longer a group's. -/
def Ring.withoutGroup (x : Ring) (g : Nat) : Ring :=
  { x with groups := x.groups.filter (fun p => p.1 ≠ g)
           events := x.events.map (fun e => if e.group = some g then { e with group := none } else e) }

theorem group?_withoutGroup (x : Ring) (g : Nat) : (x.withoutGroup g).group? g = none := by
  show alook (x.groups.filter (fun p => p.1 ≠ g)) g = none
  induction x.groups with
  | nil => rfl
  | cons p l ih =>
    by_cases hp : p.1 = g
    · rwa [List.filter_cons_of_neg (by simpa using hp)]
    · rw [List.filter_cons_of_pos (by simpa using hp), alook, if_neg hp, ih]

/-- A ring that has discarded the members of a group. -/
def Ring.dropMembers (x : Ring) (g : Nat) : Ring := { x with events := x.events.filter (fun e => e.group ≠ some g) }

/-- A group whose members are discarded leaves no other event changed. -/
theorem dropMembers_withoutGroup_events (x : Ring) (g : Nat) :
    ((x.dropMembers g).withoutGroup g).events = x.events.filter (fun e => e.group ≠ some g) := by
  refine (List.map_congr_left fun e he => if_neg ?_).trans (List.map_id _)
  simpa using (List.mem_filter.1 he).2

/-! ### Tokens and the end of a group (09 R324, R338) -/

theorem pushToken_of_room {s : State} {n : Nat} (hroom : s.tokenRoom n) (r : Nat) (c : Completion) (t : TokenOf) (w : Nat) :
    s.pushToken r n c t w = s.modTask n (·.queued [tokenWord r c t, w]) := by
  obtain ⟨hpresent, hdrain, hfits, hkind⟩ := hroom
  unfold State.pushToken
  rw [pushQueue_appends (words := [_, _]) hpresent hdrain hfits hkind]

@[simp] theorem ringAt_modTask (s : State) (n : Nat) (f : Task → Task) (k : Nat) : (s.modTask n f).ringAt k = s.ringAt k := rfl

/-- The end of a group frees its slot and sends GROUP_DONE. -/
theorem endGroup_ends {s : State} {r g : Nat} {y : Group} (hg : (s.ringAt r).group? g = some y)
    (hroom : s.tokenRoom y.task) (mask : Nat) :
    (s.endGroup r g mask).ringAt r = (s.ringAt r).withoutGroup g ∧ (s.endGroup r g mask).out = s.out ∧
      ((s.endGroup r g mask).task y.task).queue =
        (s.task y.task).queue ++ [tokenWord r .groupDone { eid := g, tag := y.tag }, mask] := by
  have hroom' : (s.modRing r (·.withoutGroup g)).tokenRoom y.task := hroom
  have hu : s.endGroup r g mask = (s.modRing r (·.withoutGroup g)).modTask y.task
      (·.queued [tokenWord r .groupDone { eid := g, tag := y.tag }, mask]) := by
    rw [← pushToken_of_room hroom']
    unfold State.endGroup
    simp only [hg]
    rfl
  rw [hu, ringAt_modTask, ringAt_modRing_self, task_modTask_self]
  exact ⟨rfl, rfl, rfl⟩

/-- A group that is discarded whole leaves its slot free and the other events; every member has failed. -/
theorem failGroup_fails {s : State} {r g : Nat} {y : Group} (hg : (s.ringAt r).group? g = some y)
    (hroom : s.tokenRoom y.task) :
    (s.failGroup r g).ringAt r = ((s.ringAt r).dropMembers g).withoutGroup g ∧
      ((s.failGroup r g).task y.task).queue = (s.task y.task).queue ++
        [tokenWord r .groupDone { eid := g, tag := y.tag }, positionMask (if y.atomic then y.mask else y.delivered)] := by
  have hg' : ((s.modRing r (·.dropMembers g)).ringAt r).group? g = some y := by rw [ringAt_modRing_self]; exact hg
  have hu : s.failGroup r g = (s.modRing r (·.dropMembers g)).endGroup r g
      (positionMask (if y.atomic then y.mask else y.delivered)) := by
    unfold State.failGroup
    simp only [hg]
    rfl
  obtain ⟨hring, -, hqueue⟩ := endGroup_ends hg' hroom (positionMask (if y.atomic then y.mask else y.delivered))
  rw [ringAt_modRing_self] at hring
  rw [hu]
  exact ⟨hring, hqueue⟩

/-! ### Acceptance (09 R319, R338) -/

/-- An event record whose fields name a head and a defined action is accepted, before its ring has numbered it. -/
theorem judgeRecord_of_plain {s : State} {r zone tag : Nat} {w k : BitVec 64} {group : Option Nat} (hplain : plainRecord w)
    (hplaced : (s.ringAt r).unplaced (fieldOf w 4 6 + 1) = false) :
    s.judgeRecord r zone w k tag group = (.done, { s.plainEvent r zone tag w k group with uid := 0 }) := by
  obtain ⟨hangle, hch, htemplate, hact⟩ := hplain
  unfold State.judgeRecord State.recordTarget recordKey State.keyOff
  simp only [htemplate, hangle, hch, Bool.false_eq_true, if_false, hact, hplaced, Bool.not_true, or_self]
  rfl

/-- A member with room in the queue joins its group. -/
theorem takeMember_joins {s : State} {r zone entry : Nat} {w k : BitVec 64} {y : Group}
    (hclean : s.memberRefused r (fieldOf w 60 4) entry = false)
    (hg : (s.ringAt r).group? (fieldOf w 60 4) = some y) (hstage : y.stage = .assembling) (hentry : y.entry = entry)
    (hnew : y.mask.contains (fieldOf w 4 6 + 1) = false) (hplain : plainRecord w)
    (hplaced : (s.ringAt r).unplaced (fieldOf w 4 6 + 1) = false) (hroom : (s.ringAt r).events.length < 4096) :
    s.takeMember r zone entry w k =
      (s.modRing r (·.enqueue { s.plainEvent r zone (fieldOf w 48 12) w k (some (fieldOf w 60 4)) with uid := 0 })).modGroup r
        (fieldOf w 60 4) (·.join (s.ringAt r).nextUid (fieldOf w 4 6 + 1)) := by
  unfold State.takeMember
  simp only [judgeRecord_of_plain hplain hplaced, hclean, hg]
  rw [if_neg (by simp), if_neg, if_neg (by simp), if_neg (by omega)]
  · rfl
  · rintro (h | h | h)
    · exact h hstage
    · exact h hentry
    · exact absurd (hnew.symm.trans h) (by simp)

/-- GROUP_OPEN with a free slot and 1 to 28 members opens its group, and clears what its entry was refused before. -/
theorem takeOpen_opens {s : State} {r zone entry : Nat} {w k : BitVec 64} (hfree : (s.ringAt r).group? (fieldOf w 0 4) = none)
    (hn : 1 ≤ fieldOf w 5 5 ∧ fieldOf w 5 5 ≤ 28) :
    s.takeOpen r zone entry w k = (s.modRing r (fun x =>
      { x with refusedOpens := x.refusedOpens.filter (fun p => !(p.1 == fieldOf w 0 4 && p.2.1 == entry)) })).modRing r (fun x =>
        { x with groups := x.groups ++ [(fieldOf w 0 4,
          { atomic := w.getLsbD 4, n := fieldOf w 5 5, ackWindow := fieldOf k 0 32, task := fieldOf w 40 8
            tag := fieldOf w 48 16, zone := zone, entry := entry, openedAt := s.now })] }) := by
  unfold State.takeOpen
  simp only [hfree]
  exact (if_neg (by simp)).trans (if_neg (by omega))

/-! ### Frames to a group's members (09 R340) -/

/-- A frame to every head of a ring fed from its A end leaves the groups and the events. -/
theorem sendAll_frameAll {s : State} {r : Nat} (hfed : (s.ringAt r).fedEnds = [.a]) (body : FrameBody) :
    (s.sendAll r body).ringAt r = (s.ringAt r).sentOn .a ∧ (s.sendAll r body).out = (s.ringAt r).frameAll r body :: s.out := by
  rw [sendAll_of_fedA hfed, ringAt_sendFrame_self, sendFrame_out]
  exact ⟨rfl, rfl⟩

theorem task_sendAll {s : State} {r : Nat} (hfed : (s.ringAt r).fedEnds = [.a]) (body : FrameBody) (n : Nat) :
    (s.sendAll r body).task n = s.task n := by
  rw [sendAll_of_fedA hfed, sendFrame_eq]; rfl

/-! ### Staging (09 R340) -/

/-- `u` is `s` with other events on ring `r`, and another last EID. -/
def State.numberedAs (s : State) (r : Nat) (u : State) : Prop :=
  u = { s with ring := { s.ring with rings := u.ring.rings } } ∧
    u.ringAt r = { s.ringAt r with events := (u.ringAt r).events, nextEid := (u.ringAt r).nextEid }

theorem State.numberedAs.trans {s u v : State} {r : Nat} (h : s.numberedAs r u) (g : u.numberedAs r v) : s.numberedAs r v := by
  obtain ⟨hu, hring⟩ := h
  obtain ⟨hv, gring⟩ := g
  refine ⟨?_, ?_⟩
  · calc v = { u with ring := { u.ring with rings := v.ring.rings } } := hv
      _ = { s with ring := { s.ring with rings := v.ring.rings } } := by rw [hu]
  · calc v.ringAt r = { u.ringAt r with events := (v.ringAt r).events, nextEid := (v.ringAt r).nextEid } := gring
      _ = { s.ringAt r with events := (v.ringAt r).events, nextEid := (v.ringAt r).nextEid } := by rw [hring]

theorem stageMembers_numberedAs (r : Nat) (ms : List (QEvent × T80)) (s : State) :
    s.numberedAs r (s.stageMembers r ms) := by
  induction ms generalizing s with
  | nil => exact ⟨rfl, rfl⟩
  | cons m ms ih =>
    have hfirst (f : QEvent → QEvent) :
        s.numberedAs r ((s.modRing r (fun x => { x with nextEid := s.newEid r })).modEvent r m.1.uid f) :=
      ⟨rfl, by rw [State.modEvent, ringAt_modRing_self, ringAt_modRing_self]⟩
    exact (hfirst _).trans (ih _)

/-- What staging makes of the record `z` of a group `y` whose first WHEN is `w0`. -/
def State.stagingOf (s : State) (r : Nat) (y : Group) (w0 : T80) (z : Group) : Group :=
  { z with stage := .staged, gid := ((s.ringAt r).nextGid + 1) % 65536, hold := (w0 - lockLead) / 65536
           deadline := min (s.time.t64 + s.ackWindow y) ((w0 - lockLead) / 65536 - 10000), stagedAt := s.now, retried := false
           oks := [], commits := [] }

/-- Group `g` of ring `r`, staged as `f` says with a new GID, its members numbered. -/
def State.staged (s : State) (r g : Nat) (ms : List (QEvent × T80)) (f : Group → Group) : State :=
  ((s.modRing r (fun x => { x with nextGid := ((s.ringAt r).nextGid + 1) % 65536 })).stageMembers r ms).modGroup r g f

section
variable (s : State) (r g : Nat) (ms : List (QEvent × T80)) (f : Group → Group)

/-- Staging changes rings alone, and of ring `r` its events, numbers and groups. -/
theorem staged_eq : ∃ x, s.staged r g ms f = { s with ring := { s.ring with rings := x } } := by
  obtain ⟨hv, -⟩ :=
    stageMembers_numberedAs r ms (s.modRing r (fun x => { x with nextGid := ((s.ringAt r).nextGid + 1) % 65536 }))
  unfold State.staged
  rw [hv]
  exact ⟨_, rfl⟩

theorem staged_ringAt : ∃ es n, (s.staged r g ms f).ringAt r = Ring.withGroup
    { s.ringAt r with nextGid := ((s.ringAt r).nextGid + 1) % 65536, events := es, nextEid := n } g f := by
  obtain ⟨-, hring⟩ :=
    stageMembers_numberedAs r ms (s.modRing r (fun x => { x with nextGid := ((s.ringAt r).nextGid + 1) % 65536 }))
  unfold State.staged
  rw [modGroup_eq, ringAt_modRing_self, hring, ringAt_modRing_self]
  exact ⟨_, _, rfl⟩

theorem staged_entryOf (e : QEvent) : (s.staged r g ms f).entryOf e = s.entryOf e := by
  obtain ⟨x, hx⟩ := staged_eq s r g ms f
  rw [hx]; rfl

end

/-- The send instant of a group whose members can all be sent has come. -/
theorem sendGroup_stages {s : State} {r g : Nat} {y : Group} {ms : List (QEvent × T80)} {w0 : T80}
    (hg : (s.ringAt r).group? g = some y) (hpassed : s.groupPassed r g = false) (htimes : s.groupTimes r g = some ms)
    (hw0 : ms.foldl (fun m p => min m p.2) ((ms.head?.map (·.2)).getD 0) = w0) (hdue : w0 ≤ s.t80 + s.sendAhead)
    (hquench : s.ringQuenched r = false) (hahead : s.time.t64 + 30000 ≤ (w0 - lockLead) / 65536)
    (hopen : (s.ringAt r).openGroups < 8)
    (hroom : ms.all (fun p => ((s.ringAt r).headRec p.1.pos).confirmed &&
      decide (s.headLoad r p.1.pos < ((s.ringAt r).headRec p.1.pos).desc.evCap)) = true)
    {v : State} (hv : v = s.staged r g ms (s.stagingOf r y w0)) :
    s.sendGroup r g y = v.sendAll r (v.stageBody r g (s.stagingOf r y w0 y) y.mask) := by
  have hgv : (v.ringAt r).group? g = some (s.stagingOf r y w0 y) := by
    obtain ⟨es, n, hring⟩ := staged_ringAt s r g ms (s.stagingOf r y w0)
    rw [hv, hring, group?_withGroup]
    exact congrArg (Option.map (s.stagingOf r y w0)) hg
  have hfits : ms.any (fun p => !((s.ringAt r).headRec p.1.pos).confirmed ||
      decide (((s.ringAt r).headRec p.1.pos).desc.evCap ≤ s.headLoad r p.1.pos)) = false := by
    rw [← Bool.not_eq_true', List.not_any_eq_all_not]
    simpa only [Bool.not_or, Bool.not_not, ← decide_not, not_le] using hroom
  unfold State.sendGroup
  simp only [hpassed, htimes, hw0, hquench, hfits, Bool.false_eq_true, if_false, or_false]
  rw [if_neg (not_lt.mpr hdue), if_neg (not_lt.mpr hahead), if_neg (by omega)]
  unfold State.staged State.stagingOf at hv
  rw [← hv]
  simp only [hgv]

/-- What a staged group leaves: its slot, and STAGE. -/
theorem staged_sends {s : State} {r g : Nat} {y : Group} (hg : (s.ringAt r).group? g = some y)
    (hfed : (s.ringAt r).fedEnds = [.a]) (ms : List (QEvent × T80)) (f : Group → Group) {u : State}
    (hu : u = (s.staged r g ms f).sendAll r ((s.staged r g ms f).stageBody r g (f y) y.mask)) :
    (u.ringAt r).group? g = some (f y) ∧
      u.out = (s.ringAt r).frameAll r (.stage (f y).gid y.mask (f y).hold ((((u.ringAt r).members g).filter
        (fun e => y.mask.contains e.pos)).map (fun e => (e.pos, s.entryOf e)))) :: s.out := by
  obtain ⟨es, n, hring⟩ := staged_ringAt s r g ms f
  obtain ⟨x, hx⟩ := staged_eq s r g ms f
  obtain ⟨hself, hout⟩ := sendAll_frameAll (s := s.staged r g ms f) (r := r) (by rw [hring]; exact hfed)
    ((s.staged r g ms f).stageBody r g (f y) y.mask)
  rw [← hu] at hself hout
  refine ⟨?_, ?_⟩
  · rw [hself, sentOn_group?, hring, group?_withGroup]
    exact congrArg (Option.map f) hg
  · have hmembers : (u.ringAt r).members g = ((s.staged r g ms f).ringAt r).members g := by
      rw [hself, Ring.members, sentOn_events]; rfl
    have hseq : ((s.staged r g ms f).ringAt r).nextFseq .a = (s.ringAt r).nextFseq .a := by rw [hring]; rfl
    rw [hout, hmembers, Ring.frameAll, hseq, State.stageBody]
    simp only [staged_entryOf]
    rw [hx]
    rfl

/-- A ring that has committed a group: its members count as sent, with no echo to follow. -/
def Ring.committedOn (x : Ring) (g now : Nat) : Ring :=
  { x with atomicCommitted := inc32 x.atomicCommitted
           events := x.events.map (fun e => if e.group = some g then
             { e with stage := .sent, sentAt := now, trimAt := now, echoed := true } else e) }

theorem decideGroup_commits {s : State} {r g : Nat} {y : Group} (hall : y.mask.all y.oks.contains = true) :
    s.decideGroup r g y =
      (((s.modGroup r g (fun z => { z with stage := .committed, commitAt := s.now })).modRing r
        (·.committedOn g s.now)).sendAll r (.commit y.gid y.mask)) :=
  if_pos hall

/-- A ring that has aborted a group. -/
def Ring.abortedOn (x : Ring) (g : Nat) : Ring := { x.dropMembers g with atomicAborted := inc32 x.atomicAborted }

theorem abortedOn_events (x : Ring) (g : Nat) :
    ((x.abortedOn g).withoutGroup g).events = x.events.filter (fun e => e.group ≠ some g) :=
  dropMembers_withoutGroup_events x g

theorem abortedOn_atomicAborted (x : Ring) (g : Nat) :
    ((x.abortedOn g).withoutGroup g).atomicAborted = (x.atomicAborted + 1) % 2 ^ 32 := rfl

theorem decideGroup_aborts {s : State} {r g : Nat} {y : Group} (hg : (s.ringAt r).group? g = some y)
    (hmissing : y.mask.all y.oks.contains = false) (hfed : (s.ringAt r).fedEnds = [.a]) (hroom : s.tokenRoom y.task) :
    (s.decideGroup r g y).ringAt r = (((s.ringAt r).sentOn .a).abortedOn g).withoutGroup g ∧
      (s.decideGroup r g y).out = (s.ringAt r).frameAll r (.abort y.gid y.mask) :: s.out ∧
      ((s.decideGroup r g y).task y.task).queue = (s.task y.task).queue ++
        [tokenWord r .groupDone { eid := g, tag := y.tag }, positionMask (y.mask.filter (fun p => !y.oks.contains p))] := by
  obtain ⟨hring, hout⟩ := sendAll_frameAll hfed (.abort y.gid y.mask)
  have htask := task_sendAll hfed (.abort y.gid y.mask) y.task
  have hu : s.decideGroup r g y = ((s.sendAll r (.abort y.gid y.mask)).modRing r (·.abortedOn g)).endGroup r g
      (positionMask (y.mask.filter (fun p => !y.oks.contains p))) := if_neg (by rw [hmissing]; decide)
  generalize s.sendAll r (.abort y.gid y.mask) = v at hring hout htask hu
  have hg' : ((v.modRing r (·.abortedOn g)).ringAt r).group? g = some y := by
    rw [ringAt_modRing_self, hring]
    exact (sentOn_group? (s.ringAt r) .a g).trans hg
  have hroom' : (v.modRing r (·.abortedOn g)).tokenRoom y.task := by
    unfold State.tokenRoom at hroom ⊢
    rwa [← htask] at hroom
  obtain ⟨hend, hsame, hqueue⟩ :=
    endGroup_ends hg' hroom' (positionMask (y.mask.filter (fun p => !y.oks.contains p)))
  rw [ringAt_modRing_self, hring] at hend
  rw [hu]
  exact ⟨hend, hsame.trans hout, hqueue.trans (congrArg (·.queue ++ _) htask)⟩

/-! ### ACKs (08 R290, 09 R340) -/

theorem countAck_ofStage (y : Group) (p : Nat) (t : T64) :
    y.countAck p 1 0 t = if y.mask.contains p ∧ y.stage = .staged ∧ t ≤ y.deadline ∧ ¬ y.oks.contains p then
      { y with oks := y.oks ++ [p] } else y := by
  unfold Group.countAck
  simp [ite_and]

theorem countAck_ofCommit (y : Group) (p : Nat) (t : T64) :
    y.countAck p 2 0 t = if y.mask.contains p ∧ y.stage = .committed ∧ ¬ y.commits.contains p then
      { y with commits := y.commits ++ [p] } else y := by
  unfold Group.countAck
  simp [ite_and]

/-- An OK counts for the groups that wait for it. -/
theorem ackStage_counts (q : Nat × Group) (gid p : Nat) (t : T64) :
    (if q.2.gid = gid ∧ q.2.stage ≠ .assembling ∧ q.2.stage ≠ .waiting then (q.1, q.2.countAck p 1 0 t) else q) =
      if q.2.gid = gid ∧ q.2.stage = .staged ∧ q.2.mask.contains p ∧ t ≤ q.2.deadline ∧ ¬ q.2.oks.contains p then
        (q.1, { q.2 with oks := q.2.oks ++ [p] }) else q := by
  rw [countAck_ofStage]
  grind

theorem ackCommit_counts (q : Nat × Group) (gid p : Nat) (t : T64) :
    (if q.2.gid = gid ∧ q.2.stage ≠ .assembling ∧ q.2.stage ≠ .waiting then (q.1, q.2.countAck p 2 0 t) else q) =
      if q.2.gid = gid ∧ q.2.stage = .committed ∧ q.2.mask.contains p ∧ ¬ q.2.commits.contains p then
        (q.1, { q.2 with commits := q.2.commits ++ [p] }) else q := by
  rw [countAck_ofCommit]
  grind

/-! ### SENSE (09 R345) -/

/-- The samples of a frame that one chunk holds make one chunk. -/
theorem senseChunks_of_short {r p stream fmt sper : Nat} {t0 : T80} {l : List Nat} (hne : l ≠ [])
    (hlen : l.length ≤ 40 / sampleBytes fmt) :
    senseChunks r p stream fmt sper t0 l = [senseChunk r p stream fmt sper t0 0 l] := by
  have hcut : cutParts (40 / sampleBytes fmt) l.length l = [l] := by
    obtain ⟨a, l, rfl⟩ := List.exists_cons_of_ne_nil hne
    have hrest : cutParts (40 / sampleBytes fmt) l.length ([] : List Nat) = [] := by cases l.length <;> rfl
    rw [List.length_cons, cutParts, List.take_of_length_le hlen, List.drop_of_length_le hlen, hrest]
    simp
  simp [senseChunks, hcut]

/-- A chunk with room in its queue is appended to it. -/
theorem pushChunk_of_room {s : State} {n : Nat} {words : List Nat} (hpresent : (s.task n).state ≠ .absent)
    (hdrain : (s.task n).state ≠ .draining) (hroom : (s.task n).queue.length + words.length ≤ (s.task n).queueSize)
    (hkind : (s.task n).kind ≠ .queue) (r : Nat) : s.pushChunk r n words = s.modTask n (·.queued words) := by
  unfold State.pushChunk
  rw [pushQueue_appends hpresent hdrain hroom hkind]

/-- A SENSE frame of a bound stream, with samples for one chunk and room for it. -/
theorem exec_senseFrame {s : State} {r : Fin 16} {p : Fin 65} {n st fmt t0 sp : Nat} {l : List Nat}
    (htask : s.senseTask r p st = some n) (hfmt : fmt ≤ 2) (hne : l ≠ []) (hlen : l.length ≤ 40 / sampleBytes fmt)
    (hpresent : (s.task n).state ≠ .absent) (hdrain : (s.task n).state ≠ .draining)
    (hroom : (s.task n).queue.length + (senseChunk r p st fmt sp t0 0 l).length ≤ (s.task n).queueSize)
    (hkind : (s.task n).kind ≠ .queue) :
    exec (.senseFrame r p st fmt t0 sp l true) s = .next (s.modTask n (·.queued (senseChunk r p st fmt sp t0 0 l))) := by
  show execSenseFrame r p st fmt t0 sp l true s = _
  unfold execSenseFrame
  simp only [htask, Bool.not_true, Bool.false_eq_true, if_false, if_pos hfmt, senseChunks_of_short hne hlen]
  exact congrArg Host.Outcome.next (pushChunk_of_room hpresent hdrain hroom hkind r)

/-! ### The commands of a group in its slot -/

section
variable {s : State} {r g : Fin 16} {y : Group}

theorem exec_assemblyTimeout (hg : (s.ringAt r).group? g = some y) (hstage : y.stage = .assembling)
    (hlate : y.openedAt + 100000 ≤ s.now) : exec (.groupAssemblyTimeout r g) s = .next (s.failGroup r g) := by
  show execGroupAssemblyTimeout r g s = _
  unfold execGroupAssemblyTimeout
  simp only [hg]
  rw [if_pos ⟨hstage, hlate⟩]

theorem exec_groupSend (hg : (s.ringAt r).group? g = some y) (hstage : y.stage = .waiting) (hatomic : y.atomic = true) :
    exec (.groupSend r g) s = .next (s.sendGroup r g y) := by
  show execGroupSend r g s = _
  unfold execGroupSend
  simp only [hg]
  rw [if_neg (fun h => h hstage), if_pos hatomic]

theorem exec_stageRetry (hg : (s.ringAt r).group? g = some y) (hstage : y.stage = .staged) (hfirst : y.retried = false)
    (hwait : y.stagedAt + 50000 ≤ s.now) (hopen : s.time.t64 < y.deadline)
    (hleft : y.mask.filter (fun p => !y.oks.contains p) ≠ []) :
    exec (.stageRetry r g) s = .next ((s.modGroup r g (fun z => { z with retried := true })).sendAll r
      (s.stageBody r g y (y.mask.filter (fun p => !y.oks.contains p)))) := by
  show execStageRetry r g s = _
  unfold execStageRetry
  simp only [hg]
  rw [if_pos ⟨hstage, by rw [hfirst]; rfl, hwait, hopen, by simpa using hleft⟩]

theorem exec_groupDeadline (hg : (s.ringAt r).group? g = some y) (hstage : y.stage = .staged)
    (hdue : y.deadline ≤ s.time.t64) : exec (.groupDeadline r g) s = .next (s.decideGroup r g y) := by
  show execGroupDeadline r g s = _
  unfold execGroupDeadline
  simp only [hg]
  rw [if_pos ⟨hstage, hdue⟩]

theorem exec_commitRepeat {l : List Nat} (hg : (s.ringAt r).group? g = some y) (hstage : y.stage = .committed)
    (hwait : y.commitAt + 10000 ≤ s.now)
    (hleft : y.unanswered.filter (fun p => (s.ringAt r).reaches p &&
      decide (s.t80 + 2700 * 65536 + (s.ringAt r).delayTo p ≤ y.hold * 65536)) = l) (hne : l ≠ []) :
    exec (.commitRepeat r g) s =
      .next ((s.modGroup r g (fun z => { z with commitAt := s.now })).sendAll r (.commit y.gid l)) := by
  show execCommitRepeat r g s = _
  unfold execCommitRepeat
  simp only [hg, hleft]
  rw [if_pos ⟨hstage, hwait, by simpa using hne⟩]

/-- At HOLD a group whose members have all answered COMMIT ends with nobody unconfirmed. -/
theorem exec_groupHold (hg : (s.ringAt r).group? g = some y) (hstage : y.stage = .committed) (hdue : y.hold ≤ s.time.t64)
    (hall : y.unanswered = []) : exec (.groupHold r g) s = .next (s.endGroup r g 0) := by
  show execGroupHold r g s = _
  unfold execGroupHold State.closeGroup
  simp only [hg]
  rw [if_pos ⟨hstage, hdue⟩, hall]
  rfl

end

end Sys2Proof.Machine

open Sys2Proof Sys2Proof.Machine

/-- Settles O40: a group is followed from its slot by the lemma of each command, and a change of its ring, a frame and a token
each leave what the next step reads. -/
theorem firingGroupsAcksAndSense : Obligations.FiringGroupsAcksAndSense := by
  unfold Obligations.FiringGroupsAcksAndSense
  refine ⟨?opens, ?joins, ?assembly, ?stages, ?retries, ?commits, ?aborts, ?repeats, ?holds, ?acks, ?sense⟩
  case opens =>
    intro s r z n w k hzone hfree hn
    refine ⟨_, congrArg Host.Outcome.next ((if_pos hzone).trans (takeOpen_opens hfree hn)), rfl, ?_⟩
    rw [ringAt_modRing_self, ringAt_modRing_self]
    exact ⟨rfl, rfl⟩
  case joins =>
    intro s r z n w k y hzone hclean hg hstage hentry hnew hplain hplaced hroom
    refine ⟨_, congrArg Host.Outcome.next ((if_pos hzone).trans
      (takeMember_joins hclean hg hstage hentry hnew hplain hplaced hroom)), ?_, ?_⟩
    · rw [modGroup_eq, ringAt_modRing_self, ringAt_modRing_self]; rfl
    · rw [group?_modGroup (y := y) (by rw [ringAt_modRing_self]; exact hg), Group.join, hstage]
  case assembly =>
    intro s r g y hg hstage hlate hroom
    obtain ⟨hring, hqueue⟩ := failGroup_fails hg hroom
    refine ⟨_, exec_assemblyTimeout hg hstage hlate, ?_, ?_, hqueue⟩
    · rw [hring, group?_withoutGroup]
    · rw [hring, dropMembers_withoutGroup_events]
  case stages =>
    intro s r g y ms w0 hg hstage hatomic hpassed htimes hw0 hdue hquench hahead hopen hroom hfed
    exact ⟨_, exec_groupSend hg hstage hatomic, staged_sends hg hfed ms (s.stagingOf r y w0)
      (sendGroup_stages hg hpassed htimes hw0 hdue hquench hahead hopen hroom rfl)⟩
  case retries =>
    intro s r g y hg hstage hfirst hwait hopen hleft hfed
    obtain ⟨hring, hout⟩ := sendAll_frameAll (s := s.modGroup r g (fun z => { z with retried := true })) (r := r)
      (by rw [modGroup_eq, ringAt_modRing_self]; exact hfed) (s.stageBody r g y (y.mask.filter (fun p => !y.oks.contains p)))
    refine ⟨_, exec_stageRetry hg hstage hfirst hwait hopen hleft, ?_, ?_⟩
    · rw [hring, sentOn_group?, group?_modGroup hg]
    · rw [hout, modGroup_eq, ringAt_modRing_self]; rfl
  case commits =>
    intro s r g y hg hstage hdue hfed hall
    obtain ⟨hring, hout⟩ := sendAll_frameAll (s := (s.modGroup r g (fun z =>
      { z with stage := .committed, commitAt := s.now })).modRing r (·.committedOn g s.now)) (r := r)
      (by rw [ringAt_modRing_self, modGroup_eq, ringAt_modRing_self]; exact hfed) (.commit y.gid y.mask)
    refine ⟨_, (exec_groupDeadline hg hstage hdue).trans (congrArg Host.Outcome.next (decideGroup_commits hall)), ?_⟩
    rw [hring, hout, sentOn_group?, sentOn_events, sentOn_atomicCommitted, ringAt_modRing_self]
    refine ⟨group?_modGroup hg _, ?_⟩
    rw [modGroup_eq, ringAt_modRing_self]
    exact ⟨rfl, rfl, rfl⟩
  case aborts =>
    intro s r g y hg hstage hdue hfed hmissing hroom
    obtain ⟨hring, hout, hqueue⟩ := decideGroup_aborts hg hmissing hfed hroom
    refine ⟨_, exec_groupDeadline hg hstage hdue, ?_, ?_, hout, ?_, hqueue⟩
    · rw [hring, group?_withoutGroup]
    · rw [hring, abortedOn_atomicAborted, sentOn_atomicAborted]
    · rw [hring, abortedOn_events, sentOn_events]
  case repeats =>
    intro s r g y l hg hstage hwait hleft hne hfed
    obtain ⟨hring, hout⟩ := sendAll_frameAll (s := s.modGroup r g (fun z => { z with commitAt := s.now })) (r := r)
      (by rw [modGroup_eq, ringAt_modRing_self]; exact hfed) (.commit y.gid l)
    refine ⟨_, exec_commitRepeat hg hstage hwait hleft hne, ?_, ?_⟩
    · rw [hring, sentOn_group?, group?_modGroup hg]
    · rw [hout, modGroup_eq, ringAt_modRing_self]; rfl
  case holds =>
    intro s r g y hg hstage hdue hall hroom
    obtain ⟨hring, -, hqueue⟩ := endGroup_ends hg hroom 0
    exact ⟨_, exec_groupHold hg hstage hdue hall, by rw [hring, group?_withoutGroup], hqueue⟩
  case acks =>
    intro s r p gid
    refine ⟨⟨_, congrArg Host.Outcome.next (if_pos rfl), ?_⟩, ⟨_, congrArg Host.Outcome.next (if_pos rfl), ?_⟩⟩
    · rw [ringAt_modRing_self]
      simp only [ackStage_counts]
    · rw [ringAt_modRing_self]
      simp only [ackCommit_counts]
  case sense =>
    intro s r p n st fmt t0 sp l htask hfmt hne hlen hpresent hdrain hroom hkind
    exact ⟨_, exec_senseFrame htask hfmt hne hlen hpresent hdrain hroom hkind, task_modTask_self .., rfl⟩

end

section
/-!
Events at the device from their record to their completion: the queue that each command leaves, its frames and its token
(09 R318 to R336, R344).
-/

namespace Sys2Proof.Machine

/-! ### Records (09 R318 to R321) -/

/-- An event record whose fields name a defined action and a position that can take none is unreachable. -/
theorem judgeRecord_of_unplaced {s : State} {r zone tag : Nat} {w k : BitVec 64} {group : Option Nat}
    (hplain : plainRecord w) (hgone : (s.ringAt r).unplaced (fieldOf w 4 6 + 1) = true) :
    s.judgeRecord r zone w k tag group = (.unreachable, { s.plainEvent r zone tag w k group with uid := 0 }) := by
  obtain ⟨hangle, hch, htemplate, hact⟩ := hplain
  unfold State.judgeRecord State.recordTarget recordKey State.keyOff
  simp only [htemplate, hangle, hch, Bool.false_eq_true, if_false, hact, hgone, Bool.not_true, or_self, if_true]
  rfl

section
variable {s : State} {r zone : Nat} {w k : BitVec 64} (htype : fieldOf w 14 2 = 0) (hplain : plainRecord w)
include htype hplain

theorem takeEvent_enqueues (hplaced : (s.ringAt r).unplaced (fieldOf w 4 6 + 1) = false)
    (hroom : (s.ringAt r).events.length < 4096) :
    s.takeEvent r zone w k =
      s.modRing r (·.enqueue { s.plainEvent r zone (fieldOf w 48 16) w k none with uid := 0 }) := by
  unfold State.takeEvent
  simp only [judgeRecord_of_plain hplain hplaced, htype, ne_eq, not_true_eq_false, if_false]
  exact if_neg (by omega)

theorem takeEvent_refuses (hgone : (s.ringAt r).unplaced (fieldOf w 4 6 + 1) = true) :
    s.takeEvent r zone w k = s.refuseRecord r .unreachable (fieldOf w 40 8)
      { pos := fieldOf w 4 6 + 1, ch := fieldOf w 0 4, tag := fieldOf w 48 16 } := by
  unfold State.takeEvent
  simp only [judgeRecord_of_unplaced hplain hgone, htype, ne_eq, not_true_eq_false, if_false]
  exact if_pos (by decide)

end

/-- A refused record is counted at its ring, and its token goes into its task's queue. -/
theorem refuseRecord_of_room {s : State} {n : Nat} (hroom : s.tokenRoom n) (r : Nat) (c : Completion) (t : TokenOf) :
    s.refuseRecord r c n t = (s.modRing r (·.countCompletion c)).modTask n (·.queued [tokenWord r c t, s.time.t64]) :=
  pushToken_of_room (s := s.modRing r (·.countCompletion c)) hroom r c t _

/-! ### Pending events and their frames -/

/-- A ring with one pending event changed. -/
def Ring.withEvent (x : Ring) (i : Nat) (f : QEvent → QEvent) : Ring :=
  { x with events := x.events.map (fun e => if e.uid = i then f e else e) }

@[simp] theorem ringAt_modEvent_self (s : State) (r i : Nat) (f : QEvent → QEvent) :
    (s.modEvent r i f).ringAt r = (s.ringAt r).withEvent i f := ringAt_modRing_self ..

/-- A frame to one position takes the next FSEQ of the end that feeds it. -/
theorem ringAt_sendTo_self (s : State) (r p : Nat) (body : FrameBody) (echo : Bool) :
    (s.sendTo r p body echo).ringAt r = (s.ringAt r).sentOn ((s.ringAt r).endOf p) := ringAt_sendFrame_self ..

theorem sendTo_out (s : State) (r p : Nat) (body : FrameBody) (echo : Bool) :
    (s.sendTo r p body echo).out = (s.ringAt r).frameTo r p body echo :: s.out := sendFrame_out ..

/-- The one event that a filter leaves passes it. -/
theorem of_filter_eq_singleton {l : List QEvent} {q : QEvent → Bool} {e : QEvent} (h : l.filter q = [e]) : q e = true :=
  List.of_mem_filter (l := l) (by rw [h]; exact List.mem_singleton_self e)

/-! ### First sends (09 R325, R326) -/

/-- An event that is sent for the first time. -/
def QEvent.firstSent (e : QEvent) (id : Nat) (w : T80) (now : Nat) : QEvent :=
  { e with stage := .sent, eid := id, when_ := w, sentAt := now, trimAt := now, echoed := false }

/-- `s` with an event of ring `r` sent for the first time, under a new EID. -/
def State.markSent (s : State) (r : Nat) (e : QEvent) (w : T80) : State :=
  (s.modRing r (fun y => { y with nextEid := s.newEid r })).modEvent r e.uid (·.firstSent (s.newEid r) w s.now)

theorem ringAt_markSent (s : State) (r : Nat) (e : QEvent) (w : T80) :
    (s.markSent r e w).ringAt r =
      Ring.withEvent { s.ringAt r with nextEid := s.newEid r } e.uid (·.firstSent (s.newEid r) w s.now) := by
  rw [State.markSent, ringAt_modEvent_self, ringAt_modRing_self]

/-- A due event that arrives at a head with room is given a new EID and marked as sent. -/
theorem sendOne_sends {s : State} {r : Nat} {e : QEvent} {w : T80} (hdue : s.dueMember r e = .now w)
    (hlive : s.ringQuenched r = false) (hreaches : (s.ringAt r).reaches e.pos = true)
    (harrives : (s.ringAt r).arrives e.pos s.t80 w = true) (hconfirmed : ((s.ringAt r).headRec e.pos).confirmed = true)
    (hroom : s.headLoad r e.pos < ((s.ringAt r).headRec e.pos).desc.evCap) :
    s.sendOne r e = s.markSent r e w := by
  unfold State.sendOne
  simp only [hdue, hlive, hreaches, harrives, hconfirmed, Bool.not_true, Bool.false_eq_true, if_false, false_or,
    if_neg (Nat.not_le.2 hroom)]
  rfl

/-- Of the events of a queue, those that a batch of one has sent are its one event. -/
theorem filter_sent_of_one {l : List QEvent} {e : QEvent} (honly : l.filter (fun f => f.uid == e.uid) = [e]) (id : Nat)
    (w : T80) (now : Nat) :
    (l.map (fun f => if f.uid = e.uid then f.firstSent id w now else f)).filter
      (fun f => f.stage == .sent && [e].any (fun b => b.uid == f.uid)) = [e.firstSent id w now] := by
  have hsent (f : QEvent) : (let g := if f.uid = e.uid then f.firstSent id w now else f
      g.stage == .sent && [e].any (fun b => b.uid == g.uid)) = (f.uid == e.uid) := by
    by_cases huid : f.uid = e.uid
    · simp [huid, QEvent.firstSent]
    · have hother : e.uid ≠ f.uid := Ne.symm huid
      simp [huid, beq_false_of_ne huid, beq_false_of_ne hother]
  calc _ = (l.filter (fun f => f.uid == e.uid)).map _ := by
        rw [List.filter_map]; exact congrArg _ (List.filter_congr fun f _ => hsent f)
    _ = _ := by rw [honly]; simp

/-- The frame of a position's one due event. -/
theorem sendEvents_of_one {s u : State} {r p : Nat} {e e' : QEvent}
    (hbatch : (s.ringAt r).events.filter (fun f => f.pos == p && f.stage == .queued && s.dueMember r f != .waits) = [e])
    (hu : s.sendOne r e = u)
    (hsent : (u.ringAt r).events.filter (fun f => f.stage == .sent && [e].any (fun b => b.uid == f.uid)) = [e']) :
    s.sendEvents r p = u.sendTo r p (.event [u.entryOf e']) := by
  subst hu
  have htaken : [e].take 31 = [e] := rfl
  unfold State.sendEvents
  simp only [hbatch, htaken, List.foldl_cons, List.foldl_nil, hsent]
  rfl

/-! ### Echoes (09 R328) -/

/-- An echo that can still arrive is marked as sent. -/
theorem echoOne_echoes {s : State} {r : Nat} {e : QEvent} (hlive : s.ringQuenched r = false)
    (hreaches : (s.ringAt r).reaches e.pos = true) (harrives : (s.ringAt r).arrives e.pos s.t80 e.when_ = true)
    (halone : e.group = none) :
    s.echoOne r e = s.modEvent r e.uid (fun y => { y with echoed := true, noEcho := false }) := by
  unfold State.echoOne
  simp only [hlive, hreaches, harrives, halone, Bool.not_false, Bool.and_self, Bool.not_true, if_true]

/-- The frame of a position's one echo. -/
theorem echoEvents_of_one {s : State} {r p : Nat} {e : QEvent}
    (hbatch : (s.ringAt r).events.filter (fun f => f.pos == p && s.echoDue r f) = [e]) (hlive : s.ringQuenched r = false)
    (hreaches : (s.ringAt r).reaches e.pos = true) (harrives : (s.ringAt r).arrives e.pos s.t80 e.when_ = true)
    (halone : e.group = none) :
    s.echoEvents r p = (s.modEvent r e.uid (fun y => { y with echoed := true, noEcho := false })).sendTo r p
      (.event [s.entryOf e]) true := by
  have htaken : [e].take 31 = [e] := rfl
  unfold State.echoEvents
  simp only [hbatch, htaken, List.foldl_cons, List.foldl_nil, echoOne_echoes hlive hreaches harrives halone,
    List.filter_cons, List.filter_nil, hlive, hreaches, harrives, Bool.not_false, Bool.and_self, if_true]
  rfl

/-! ### Trims (09 R335, R336) -/

/-- A ring whose event has a new WHEN. -/
def Ring.trimmed (x : Ring) (i : Nat) (w : T80) (now : Nat) : Ring :=
  { x.withEvent i (fun e => { e with when_ := w, trimAt := now }) with trimsSent := inc32 x.trimsSent }

theorem sentOn_trimsSent (x : Ring) (e : RingEnd) : (x.sentOn e).trimsSent = x.trimsSent := by cases e <;> rfl

/-- A trim changes the WHEN of its event, is counted, and leaves. -/
theorem sendTrim_sends (s : State) (r : Nat) (e : QEvent) (w : T80) :
    (s.sendTrim r e w).ringAt r = ((s.ringAt r).trimmed e.uid w s.now).sentOn ((s.ringAt r).endOf e.pos) ∧
      (s.sendTrim r e w).out =
        (s.ringAt r).frameTo r e.pos (.event [{ s.entryOf e with trim := true, when_ := w }]) :: s.out := by
  rw [State.sendTrim, ringAt_sendTo_self, sendTo_out, ringAt_modRing_self, ringAt_modEvent_self]
  exact ⟨rfl, rfl⟩

/-! ### Completion (09 R324, R344) -/

theorem countCompletion_events (x : Ring) (c : Completion) : (x.countCompletion c).events = x.events := by cases c <;> rfl

/-- An event that is completed has left the queue. -/
theorem dropped_events (s : State) (r : Nat) (e : QEvent) (c : Completion) :
    (((s.dropEvent r e).modRing r (·.countCompletion c)).ringAt r).events =
      (s.ringAt r).events.filter (fun y => y.uid ≠ e.uid) := by
  rw [ringAt_modRing_self, countCompletion_events]
  exact congrArg Ring.events (ringAt_modRing_self ..)

/-- A completion that is sent only with RPT sends no token without it. -/
theorem complete_unreported {e : QEvent} {c : Completion} (hc : c.onReport = true) (hrpt : e.rpt = false)
    (s : State) (r w : Nat) :
    s.complete r e c w = (s.dropEvent r e).modRing r (·.countCompletion c) :=
  if_pos ⟨hc, by rw [hrpt]; rfl⟩

/-- A completion with RPT sends its token to the task of the event. -/
theorem complete_reported {s : State} {e : QEvent} (hrpt : e.rpt = true) (hroom : s.tokenRoom e.task) (r : Nat)
    (c : Completion) (w : Nat) :
    s.complete r e c w =
      ((s.dropEvent r e).modRing r (·.countCompletion c)).modTask e.task (·.queued [tokenWord r c e.tokenOf, w]) := by
  rw [← pushToken_of_room (s := (s.dropEvent r e).modRing r (·.countCompletion c)) hroom]
  exact if_neg (by simp [hrpt])

/-- A completion that is sent only with RPT takes its event out of the queue, and leaves its token where RPT is set. -/
theorem complete_completes {s : State} {e : QEvent} {c : Completion} (hc : c.onReport = true) (hroom : s.tokenRoom e.task)
    (r w : Nat) :
    ((s.complete r e c w).ringAt r).events = (s.ringAt r).events.filter (fun f => f.uid ≠ e.uid) ∧
      (e.rpt = false → (s.complete r e c w).array = s.array) ∧
      (e.rpt = true →
        ((s.complete r e c w).task e.task).queue = (s.task e.task).queue ++ [tokenWord r c e.tokenOf, w]) := by
  cases hrpt : e.rpt with
  | false =>
    rw [complete_unreported hc hrpt]
    exact ⟨dropped_events s r e c, fun _ => rfl, fun h => absurd h (by decide)⟩
  | true =>
    rw [complete_reported hrpt hroom]
    refine ⟨dropped_events s r e c, fun h => absurd h (by decide), fun _ => ?_⟩
    rw [task_modTask_self]
    rfl

/-! ### The commands of an event in its queue -/

section
variable {s : State} {r : Fin 16} {i : Nat} {e : QEvent} (he : (s.ringAt r).event? i = some e)
include he

theorem exec_trimSend {w : T80} (hw : s.trimTo r e = some w) (hwait : e.trimAt + s.num 0x5200 4 10 * 1000 ≤ s.now)
    (hearly : s.t80 + lockLead + s.num 0x5200 5 8 * 1000 * 65536 < e.when_) :
    exec (.trimSend r i) s = .next (s.sendTrim r e w) := by
  show execTrimSend r i s = _
  unfold execTrimSend
  simp only [he, hw]
  rw [if_pos ⟨hwait, hearly⟩]

theorem exec_finalTrim {w : T80} (hw : s.trimTo r e = some w)
    (hlast : e.when_ ≤ s.t80 + lockLead + s.num 0x5200 5 8 * 1000 * 65536) :
    exec (.finalTrim r i) s =
      .next ((s.sendTrim r e w).sendTo r e.pos (.event [{ s.entryOf e with trim := true, when_ := w }])) := by
  show execFinalTrim r i s = _
  unfold execFinalTrim
  simp only [he, hw]
  rw [if_pos hlast]

theorem exec_eventFreeze (hsent : e.stage = .sent) (hdue : e.when_ ≤ s.t80 + lockLead) :
    exec (.eventFreeze r i) s =
      .next (s.modEvent r i (fun y => { y with stage := .frozen, suspect := s.keySuspect e.key })) := by
  show execEventFreeze r i s = _
  unfold execEventFreeze
  simp only [he]
  rw [if_pos ⟨hsent, hdue⟩]

/-- An event of no group is completed 1 us after its WHEN. -/
theorem exec_eventDone (hfrozen : e.stage = .frozen) (hdue : e.when_ + 1000 * 65536 ≤ s.t80) (halone : e.group = none) :
    exec (.eventDone r i) s =
      .next (s.complete r { e with suspect := e.suspect || s.keySuspect e.key } .done (e.when_ / 65536)) := by
  show execEventDone r i s = _
  unfold execEventDone State.completeMember
  simp only [he, halone]
  rw [if_pos ⟨hfrozen, hdue⟩]

end

end Sys2Proof.Machine

open Sys2Proof Sys2Proof.Machine

/-- Settles O39: a record is appended or refused, one due event or echo is one frame, a trim is one frame and a final trim
two, and a completed event leaves the queue, its token with RPT. -/
theorem eventRecordsSendsAndCompletions : Obligations.EventRecordsSendsAndCompletions := by
  unfold Obligations.EventRecordsSendsAndCompletions
  refine ⟨?accepted, ?unreachable, ?sends, ?echoes, ?trims, ?last, ?freezes, ?done⟩
  case accepted =>
    intro s r z w k hzone htype hplain hplaced hroom
    refine ⟨_, congrArg Host.Outcome.next ((if_pos hzone).trans (takeEvent_enqueues htype hplain hplaced hroom)), rfl, ?_,
      fun j hj => ringAt_modRing_ne s hj _⟩
    rw [ringAt_modRing_self]
    rfl
  case unreachable =>
    intro s r z w k hzone htype hplain hgone hroom
    refine ⟨_, congrArg Host.Outcome.next ((if_pos hzone).trans
      ((takeEvent_refuses htype hplain hgone).trans (refuseRecord_of_room hroom r _ _))), ?_, ?_⟩
    · rw [ringAt_modTask, ringAt_modRing_self]
      rfl
    · rw [task_modTask_self]
      rfl
  case sends =>
    intro s r p e w honly hbatch hdue hlive hreaches harrives hconfirmed hroom
    have hin := of_filter_eq_singleton hbatch
    simp only [Bool.and_eq_true, beq_iff_eq] at hin
    obtain ⟨⟨hpos, -⟩, -⟩ := hin
    rw [← hpos] at hreaches harrives hconfirmed hroom
    have hsent := filter_sent_of_one honly (s.newEid r) w s.now
    refine ⟨_, congrArg Host.Outcome.next (sendEvents_of_one hbatch
      (sendOne_sends hdue hlive hreaches harrives hconfirmed hroom) (by rw [ringAt_markSent]; exact hsent)), ?_, ?_⟩
    · rw [ringAt_sendTo_self, sentOn_events, ringAt_markSent]
      rfl
    · rw [sendTo_out, ringAt_markSent]
      rfl
  case echoes =>
    intro s r p e honly hbatch hlive hreaches harrives halone
    have hin := of_filter_eq_singleton hbatch
    simp only [Bool.and_eq_true, beq_iff_eq] at hin
    obtain ⟨hpos, -⟩ := hin
    rw [← hpos] at hreaches harrives
    refine ⟨_, congrArg Host.Outcome.next (echoEvents_of_one hbatch hlive hreaches harrives halone), ?_, ?_⟩
    · rw [ringAt_sendTo_self, sentOn_events, ringAt_modEvent_self]
      rfl
    · rw [sendTo_out, ringAt_modEvent_self]
      rfl
  case trims =>
    intro s r i e w he hid hw hwait hearly
    obtain ⟨hring, hout⟩ := sendTrim_sends s r e w
    refine ⟨_, exec_trimSend he hw hwait hearly, ?_, hout⟩
    rw [hring]
    subst hid
    exact sentOn_sameBut ((s.ringAt r).trimmed e.uid w s.now) _
  case last =>
    intro s r i e w he hid hw hlast
    obtain ⟨hring, hout⟩ := sendTrim_sends s r e w
    subst hid
    refine ⟨_, exec_finalTrim he hw hlast, ?_, ?_, ?_, ?_⟩
    · rw [ringAt_sendTo_self, hring, sentOn_events, sentOn_events]
      rfl
    · rw [ringAt_sendTo_self, hring, sentOn_trimsSent, sentOn_trimsSent]
      rfl
    · rw [sendTo_out, hout]
      rfl
    · rw [sendTo_out, hout]
      rfl
  case freezes =>
    intro s r i e he hsent hdue
    exact ⟨_, exec_eventFreeze he hsent hdue, ringAt_modEvent_self .., rfl⟩
  case done =>
    intro s r i e he hid hfrozen hdue halone hroom
    subst hid
    exact ⟨_, exec_eventDone he hfrozen hdue halone,
      complete_completes (e := { e with suspect := e.suspect || s.keySuspect e.key }) rfl hroom r (e.when_ / 65536)⟩

end

section
/-!
Events and groups at a head: what an entry of an EVENT frame, a group frame, lock-in and an instant of firing each leave of
the head (09 R333, R334, R337, R347 to R349).
-/

namespace Sys2Proof.Machine

/-- A change of one head, by what it makes of the head. -/
theorem modHead_becomes {s : State} {r p : Nat} {f : Head → Head} {k : Head} (hf : f (s.headAt r p) = k) :
    s.onlyHead (s.modHead r p f) r p k [] :=
  hf ▸ modHead_onlyHead s r p f

/-- A head that a frame has begun to reach, which is not in IDLE. -/
def Head.roused (h : Head) : Head := { h with idling := false }

theorem heard_headAt_roused (s : State) (r p : Nat) : (s.heard r p).headAt r p = (s.headAt r p).roused := heard_headAt s r p

/-! ### Entries of EVENT frames (09 R337, R348) -/

theorem seeSuspect_of_clear {e : EventEntry} (h : Head) (hclear : e.suspect = false) : h.seeSuspect e = h :=
  if_neg (by rw [hclear]; decide)

theorem foldl_seeSuspect_of_clear (h : Head) {es : List EventEntry} (hclear : ∀ e ∈ es, e.suspect = false) :
    es.foldl Head.seeSuspect h = h := by
  induction es with
  | nil => rfl
  | cons e es ih =>
    rw [List.foldl_cons, seeSuspect_of_clear h (hclear e List.mem_cons_self)]
    exact ih fun d hd => hclear d (List.mem_cons_of_mem e hd)

section
variable {h : Head} {e : EventEntry} (now : Nat) (hclear : e.suspect = false) (hkeeps : e.withdraw = false)
include hclear hkeeps

/-- An entry under an EID that the head does not hold is counted and dropped, or held. -/
theorem takeEntry_of_new (hfirst : e.trim = false) (hnew : h.held.all (fun x => x.entry.eid != e.eid) = true) :
    h.takeEntry now e =
      if h.refusesEntry e then h.count 5
      else if h.isLate e.when_ now then h.count 3
      else if h.desc.evCap ≤ h.load then h.count 5
      else h.hold e := by
  have hnone : h.held.find? (fun x => x.entry.eid == e.eid) = none :=
    List.find?_eq_none.2 fun x hx => by simpa using List.all_eq_true.1 hnew x hx
  unfold Head.takeEntry
  simp only [seeSuspect_of_clear h hclear, hnone, hkeeps, hfirst, Bool.false_eq_true, or_self, if_false]

/-- An entry under the EID of a held event trims it, or is a duplicate. -/
theorem takeEntry_of_held {x : HeldEvent} (hx : h.held.find? (fun y => y.entry.eid == e.eid) = some x) :
    h.takeEntry now e =
      if e.trim then h.trim x e.when_ now
      else if e.when_ = x.entry.when_ then h.count 2
      else (h.count 2).trim x e.when_ now := by
  unfold Head.takeEntry
  simp only [seeSuspect_of_clear h hclear, hx, hkeeps, Bool.false_eq_true, if_false]

end

/-- Before lock-in a trim moves the WHEN of the event under its EID. -/
theorem trim_moves {h : Head} {x : HeldEvent} {now : Nat} (hfree : x.locked = false)
    (hbefore : h.atLock x.entry.when_ now = false) (w : T80) :
    h.trim x w now = h.modHeld x.entry.eid (fun y => { y with entry := { y.entry with when_ := w } }) :=
  if_neg (by simp [hfree, hbefore])

/-- A good EVENT frame of one entry leaves the head that takes the entry. -/
theorem eventFrame_takes {s : State} {r : Fin 16} {p : Fin 65} {dst : Fin 256} {e : EventEntry} {k : Head}
    (hpowered : (s.headAt r p).powered = true)
    (hdst : dst.val = 0xFF ∨ ((s.headAt r p).pos ≠ 0 ∧ dst.val = (s.headAt r p).pos))
    (hk : Head.takeEntry s.now (s.headAt r p).roused e = k) :
    ∃ u, exec (.eventFrame r p dst true [e]) s = .next u ∧ s.onlyHead u r p k [] :=
  ⟨_, congrArg Host.Outcome.next (headFrame_runs hpowered _ hdst),
    heard_becomes (f := fun h => h.takeEntry (s.heard r p).now e) hk⟩

/-! ### Groups (09 R349) -/

/-- No entry of a list is numbered `n` where every number differs from it. -/
theorem any_eq_false_of_all_ne {α : Type} {l : List α} {f : α → Nat} {n : Nat}
    (hne : l.all (fun x => f x != n) = true) : l.any (fun x => f x == n) = false :=
  List.any_eq_false.2 (by simpa using hne)

/-- A group frame whose MASK names the head leaves what the head makes of it, and the head's ACK. -/
theorem groupFrame_answers {s : State} {r p : Nat} {mask : List (Fin 65)} {act : Head → Nat → Head}
    {status : Head → Nat → Nat} {k : Head} {c : Nat} (hpowered : (s.headAt r p).powered = true)
    (hpos : (s.headAt r p).pos ≠ 0) (hmask : mask.any (fun x => x.val == (s.headAt r p).pos) = true)
    (hact : act (s.headAt r p).roused s.now = k)
    (hstatus : status (s.headAt r p).roused s.now = c) (gid kind fseq : Nat) :
    s.onlyHead (s.groupFrame r p true (mask.map (·.val)) gid kind fseq act status) r p
      { k with fseq := (k.fseq + 1) % 65536 } [headFrameOf k r (.ack gid kind c fseq)] := by
  have hnamed : (s.headAt r p).roused.pos ∈ mask.map (·.val) ∧ (s.headAt r p).roused.pos ≠ 0 := by
    obtain ⟨x, hx, heq⟩ := List.any_eq_true.1 hmask
    exact ⟨List.mem_map.2 ⟨x, hx, beq_iff_eq.1 heq⟩, hpos⟩
  unfold State.groupFrame
  rw [headFrame_runs hpowered _ (.inl rfl)]
  simp only [heard_headAt_roused]
  rw [if_pos hnamed, ← hstatus]
  exact (heard_becomes (f := fun h => act h (s.heard r p).now) hact).sends _

section
variable {h : Head} {gid now : Nat}

section
variable {es : List EventEntry} (hstaged : h.staged.all (fun g => g.gid != gid) = true)
  (hcommitted : h.committed.all (fun g => g.1 != gid) = true) (hlive : h.quenched = false)
  (hgood : es.all (fun e => !e.suspect && !h.refusesEntry e && !h.isLate e.when_ now) = true)
  (hslots : h.staged.length < 4) (hroom : h.load + es.length ≤ h.desc.evCap)
include hstaged hcommitted hlive hgood hslots hroom

/-- A group that the head does not know, whose entries it can take and has room for, is answered OK. -/
theorem stageStatus_of_room : h.stageStatus gid es now = 0 := by
  have hbad : es.any (fun e => h.refusesEntry e || h.isLate e.when_ now) = false := by
    refine List.any_eq_false.2 fun e he => ?_
    have hgood := List.all_eq_true.1 hgood e he
    simp only [Bool.and_eq_true, Bool.not_eq_true'] at hgood
    simp [hgood]
  unfold Head.stageStatus
  simp only [any_eq_false_of_all_ne hstaged, any_eq_false_of_all_ne hcommitted, hlive, hbad, Bool.false_eq_true, or_self,
    if_false]
  exact if_neg (by omega)

/-- Such a group is kept. -/
theorem takeStage_of_room (hold : T64) :
    h.takeStage gid hold es now = { h with staged := h.staged ++ [{ gid, hold, entries := es }] } := by
  have hclear (e : EventEntry) (he : e ∈ es) : e.suspect = false := by
    have hgood := List.all_eq_true.1 hgood e he
    simp only [Bool.and_eq_true, Bool.not_eq_true'] at hgood
    exact hgood.1.1
  unfold Head.takeStage
  simp only [stageStatus_of_room hstaged hcommitted hlive hgood hslots hroom, any_eq_false_of_all_ne hstaged,
    any_eq_false_of_all_ne hcommitted, foldl_seeSuspect_of_clear h hclear, Bool.false_eq_true, not_false_eq_true, and_self,
    if_true]

end

/-- Entries held one after another stand behind the held ones in their order, and arrive one after another. -/
theorem foldl_hold (h : Head) (es : List EventEntry) :
    es.foldl Head.hold h =
      { h with
        held := h.held ++ es.zipIdx.map (fun e => { entry := e.1, arrival := h.arrivals + e.2 })
        arrivals := h.arrivals + es.length } := by
  induction es generalizing h with
  | nil => simp
  | cons e es ih =>
    rw [List.foldl_cons, ih, List.zipIdx_cons']
    simp [Head.hold, Nat.add_assoc, Nat.add_comm 1]

/-- COMMIT of a staged group before its HOLD, where no other is committed, makes its entries held. -/
theorem takeCommit_holds {g : StagedGroup} (hg : h.staged.find? (fun x => x.gid == gid) = some g)
    (hnone : h.committed = []) (hbefore : h.pastHold g.hold now = false) :
    h.takeCommit gid now =
      { h with
        staged := h.staged.filter (fun x => x.gid ≠ gid), committed := [(gid, g.hold)]
        held := h.held ++ g.entries.zipIdx.map (fun e => { entry := e.1, arrival := h.arrivals + e.2 })
        arrivals := h.arrivals + g.entries.length } := by
  unfold Head.takeCommit
  simp only [hg, hbefore, hnone, Bool.false_eq_true, if_false, foldl_hold, List.filter_nil]

/-- Such a COMMIT is answered OK. -/
theorem commitStatus_ok {g : StagedGroup} (hg : h.staged.find? (fun x => x.gid == gid) = some g)
    (hnone : h.committed = []) (hbefore : h.pastHold g.hold now = false) : h.commitStatus gid now = 0 := by
  unfold Head.commitStatus
  simp [hg, hnone, hbefore]

end

/-- HOLD discards the group under its GID where its instant has come on the head's local time. -/
theorem holdDiscard_discards (h : Head) (i now : Nat) :
    h.staged.filter (fun g => !(g.gid == i && decide ((g.hold : Int) * 65536 ≤ h.localTime now))) =
      h.staged.filter (fun g => g.gid ≠ i ∨ h.localTime now < (g.hold : Int) * 65536) :=
  List.filter_congr fun g _ => by
    rw [Bool.eq_iff_iff]
    simp

/-! ### Lock-in and firing (09 R333, R334, R337, R347) -/

/-- Lock-in locks the event under its EID where its instant has come on the head's local time. -/
theorem lockIn_locks (h : Head) (i now : Nat) :
    h.modHeld i (fun x => { x with locked := x.locked || h.atLock x.entry.when_ now }) =
      { h with
        held := h.held.map (fun x =>
          if x.entry.eid = i ∧ (x.entry.when_ : Int) - 20000 * 65536 ≤ h.localTime now then { x with locked := true }
          else x) } := by
  have hlocks (x : HeldEvent) : ({ x with locked := x.locked || h.atLock x.entry.when_ now } : HeldEvent) =
      if (x.entry.when_ : Int) - 20000 * 65536 ≤ h.localTime now then { x with locked := true } else x := by
    have hat : h.atLock x.entry.when_ now = decide ((x.entry.when_ : Int) - 20000 * 65536 ≤ h.localTime now) := rfl
    rw [hat]
    split
    next hdue => rw [decide_eq_true hdue, Bool.or_true]
    next hearly => rw [decide_eq_false hearly, Bool.or_false]
  unfold Head.modHeld
  simp only [hlocks, ite_and]

section
variable {h : Head} {c : Nat} {x : HeldEvent} (honly : h.held.filter (fun y => y.entry.ch == c) = [x])
include honly

/-- The one event of a channel is of the channel, and any other that is of it is the same. -/
theorem eq_of_only_event : x.entry.ch = c ∧ ∀ y ∈ h.held, y.entry.ch = c → y = x := by
  have hmem (y : HeldEvent) : y ∈ h.held ∧ y.entry.ch = c ↔ y = x := by
    simpa only [List.mem_filter, beq_iff_eq, List.mem_singleton, eq_iff_iff] using congrArg (y ∈ ·) honly
  exact ⟨((hmem x).2 rfl).2, fun y hy hch => (hmem y).1 ⟨hy, hch⟩⟩

theorem firstWhen_of_only_event : h.firstWhen c = some x.entry.when_ := by
  unfold Head.firstWhen
  rw [honly]; rfl

theorem winner_of_only_event : h.winner c x.entry.when_ = some x := by
  have hwhen : h.held.filter (fun y => y.entry.ch == c && y.entry.when_ == x.entry.when_) = [x] := by
    simp only [Bool.and_comm (_ == c), ← List.filter_filter, honly, List.filter_cons, beq_self_eq_true, if_true,
      List.filter_nil]
  unfold Head.winner
  rw [hwhen]; rfl

/-- The events due first on the channel are its one event. -/
theorem filter_due_of_only_event :
    h.held.filter (fun y => !(y.entry.ch == c && y.entry.when_ == x.entry.when_)) =
      h.held.filter (fun y => y.entry.ch ≠ c) := by
  refine List.filter_congr fun y hy => ?_
  by_cases hch : y.entry.ch = c
  · obtain rfl := (eq_of_only_event honly).2 y hy hch
    simp [hch]
  · simp [hch]

/-- At its WHEN the one event of a channel fires: it leaves the head, and its action takes place. -/
theorem fireDue_fires {now : Nat} (hdue : (x.entry.when_ : Int) ≤ h.localTime now) (hlive : h.quenched = false)
    (hvalid : h.timeValid = true) :
    h.fireDue c now = ({ h with held := h.held.filter (fun y => y.entry.ch ≠ c) } : Head).fire x := by
  unfold Head.fireDue
  simp only [firstWhen_of_only_event honly, winner_of_only_event honly, filter_due_of_only_event honly]
  exact if_neg (by simp [hlive, hvalid, Int.not_lt.2 hdue])

end

/-- Outside JOG an event that fires is counted, and its action takes place on its channel. -/
theorem fire_acts {h : Head} {x : HeldEvent} (hjog : h.jog = false) (hact : x.entry.act ≠ 5) :
    h.fire x =
      { h with
        counters := tset 0 h.counters 6 ((tget 0 h.counters 6 + 1) % 2 ^ 32)
        channels := tmod {} h.channels x.entry.ch (fun k =>
          { k.act h.jog x.entry with lastFire := if x.entry.act = 2 then k.lastFire else some x.entry.when_ }) } := by
  have hfree : h.jogHolds x.entry.ch x.entry.when_ = false := by unfold Head.jogHolds; rw [hjog]; rfl
  unfold Head.fire
  simp only [hfree, if_neg hact, Bool.false_eq_true, false_and, if_false]
  rfl

/-- ON, OFF, PULSE and LEVEL outside JOG (09 R333). -/
theorem act_switches (k : HeadChannel) {jog : Bool} {e : EventEntry} (hjog : jog = false)
    (hact : e.act = 1 ∨ e.act = 2 ∨ e.act = 3 ∨ e.act = 4) :
    k.act jog e =
      { k with
        level := if e.act = 1 ∨ e.act = 3 then 65535 else if e.act = 2 then 0 else e.param
        pulseEnd :=
          if e.act = 3 then some (e.when_ + e.param * 100 * 65536) else if e.act = 2 then k.pulseEnd else none } := by
  subst hjog
  unfold HeadChannel.act
  rcases hact with hact | hact | hact | hact <;> rw [hact] <;> rfl

end Sys2Proof.Machine

open Sys2Proof Sys2Proof.Machine

/-- Settles O41: an EVENT frame leaves the head that takes its entry, a group frame the head that acts on it and its ACK, and
each instant of a head changes the head alone. -/
theorem headsEventsGroupsAndFiring : Obligations.HeadsEventsGroupsAndFiring := by
  unfold Obligations.HeadsEventsGroupsAndFiring
  refine ⟨?held, ?refused, ?duplicate, ?trim, ?stage, ?commit, ?abort, ?hold, ?lock, ?fire, ?pulse⟩
  case held =>
    intro s r p dst e h hdst hkeeps hfirst hclear hnew htakes hearly hroom
    refine eventFrame_takes h hdst ((takeEntry_of_new (h := (s.headAt r p).roused) _ hclear hkeeps hfirst hnew).trans ?_)
    exact (if_neg (ne_true_of_eq_false htakes)).trans
      ((if_neg (ne_true_of_eq_false hearly)).trans (if_neg (Nat.not_le.2 hroom)))
  case refused =>
    intro s r p dst e h hdst hkeeps hfirst hclear hnew hbad
    refine eventFrame_takes h hdst ((takeEntry_of_new (h := (s.headAt r p).roused) _ hclear hkeeps hfirst hnew).trans ?_)
    by_cases hrefused : (s.headAt r p).refusesEntry e = true
    · exact (if_pos hrefused).trans (if_pos hrefused).symm
    · exact (if_neg hrefused).trans ((if_pos (hbad.resolve_left hrefused)).trans (if_neg hrefused).symm)
  case duplicate =>
    intro s r p dst e x h hdst hkeeps hfirst hclear hx hsame
    refine eventFrame_takes h hdst ((takeEntry_of_held (h := (s.headAt r p).roused) _ hclear hkeeps hx).trans ?_)
    exact (if_neg (ne_true_of_eq_false hfirst)).trans (if_pos hsame)
  case trim =>
    intro s r p dst e x h hdst hkeeps htrim hclear hx hfree hbefore
    have heid : x.entry.eid = e.eid := by simpa using List.find?_some hx
    refine eventFrame_takes h hdst ((takeEntry_of_held (h := (s.headAt r p).roused) _ hclear hkeeps hx).trans ?_)
    rw [if_pos htrim, ← heid]
    exact trim_moves (h := (s.headAt r p).roused) hfree hbefore e.when_
  case stage =>
    intro s r p gid fq hold m es h hpos hmask hstaged hcommitted hlive hgood hslots hroom
    have hanswers := groupFrame_answers (act := fun h now => h.takeStage gid hold (entriesFor h.pos es) now)
      (status := fun h now => h.stageStatus gid (entriesFor h.pos es) now) h hpos hmask
      (takeStage_of_room (h := (s.headAt r p).roused) hstaged hcommitted hlive hgood hslots hroom hold)
      (stageStatus_of_room (h := (s.headAt r p).roused) hstaged hcommitted hlive hgood hslots hroom) gid 1 fq
    exact ⟨_, rfl, hanswers⟩
  case commit =>
    intro s r p gid fq m g h hpos hmask hg hnone hbefore
    have hanswers := groupFrame_answers (act := fun h now => h.takeCommit gid now)
      (status := fun h now => h.commitStatus gid now) h hpos hmask (takeCommit_holds hg hnone hbefore)
      (commitStatus_ok hg hnone hbefore) gid 2 fq
    exact ⟨_, rfl, hanswers⟩
  case abort =>
    intro s r p gid fq m h hpos hmask
    have hanswers := groupFrame_answers (act := fun h _ => h.takeAbort gid) (status := fun _ _ => 0) h hpos hmask rfl rfl
      gid 3 fq
    exact ⟨_, rfl, hanswers⟩
  case hold =>
    intro s r p gid
    refine ⟨_, rfl, modHead_becomes ?_⟩
    rw [holdDiscard_discards]
  case lock =>
    intro s r p i
    exact ⟨_, rfl, modHead_becomes (lockIn_locks (s.headAt r p) i s.now)⟩
  case fire =>
    intro s r p c x honly hdue hlive hvalid hjog hact
    obtain ⟨hch, -⟩ := eq_of_only_event honly
    have hlevel : x.entry.act ≠ 5 := by omega
    refine ⟨_, rfl, modHead_becomes ((fireDue_fires honly hdue hlive hvalid).trans ?_)⟩
    rw [fire_acts, hch]
    · simp only [act_switches _ hjog hact]
    · exact hjog
    · exact hlevel
  case pulse =>
    intro s r p c t hpulse hdue
    refine ⟨_, rfl, modHead_becomes ?_⟩
    simp only [hpulse]
    exact if_pos hdue

end

section
/-!
Causes, safety inputs, acknowledgements and the safety PDU: what each leaves of the Quench unit (10 R364 to R378, R393).
-/

namespace Sys2Proof.Machine

/-! ### The dispatch of the safety inputs -/

theorem exec_siDiscrepancy (n : Fin 4) (s : State) : exec (.siDiscrepancy n) s = execSiDiscrepancy n s := rfl

theorem exec_siResetPress (n : Fin 4) (s : State) : exec (.siResetPress n) s = execSiResetPress n s := rfl

/-! ### What causes and acknowledgements leave alone (10 R364, R366, R375) -/

/-- `u` differs from `w` in what a cause, its end, a release or a refused acknowledgement changes, and in nothing else. -/
def QuenchUnit.statusOver (u w : QuenchUnit) : Prop :=
  u = { w with
    qa := u.qa, qb := u.qb, active := u.active, cause := u.cause, count := u.count, armedSince := u.armedSince
    refused := u.refused, jog := u.jog, qo := u.qo, stopDue := u.stopDue }

theorem QuenchUnit.statusOver_refl (w : QuenchUnit) : w.statusOver w := rfl

theorem QuenchUnit.statusOver.trans {u v w : QuenchUnit} (h : u.statusOver v) (g : v.statusOver w) : u.statusOver w := by
  unfold QuenchUnit.statusOver at h g ⊢
  rwa [g] at h

section
variable {u w : QuenchUnit} (h : u.statusOver w)
include h

theorem QuenchUnit.statusOver.pair (n : Nat) : u.pair n = w.pair n := by rw [h]; rfl
theorem QuenchUnit.statusOver.request : u.request = w.request := by rw [h]
theorem QuenchUnit.statusOver.lastCnt : u.lastCnt = w.lastCnt := by rw [h]
theorem QuenchUnit.statusOver.runPermit : u.runPermit = w.runPermit := by rw [h]
theorem QuenchUnit.statusOver.jogReq : u.jogReq = w.jogReq := by rw [h]
theorem QuenchUnit.statusOver.z0id : u.z0id = w.z0id := by rw [h]
theorem QuenchUnit.statusOver.pduAt : u.pduAt = w.pduAt := by rw [h]
theorem QuenchUnit.statusOver.accepted : u.accepted = w.accepted := by rw [h]
theorem QuenchUnit.statusOver.rejected : u.rejected = w.rejected := by rw [h]

end

/-! ### A cause that becomes active (10 R366, R379) -/

/-- The Quench unit with one more active cause. -/
def QuenchUnit.withCause (u : QuenchUnit) (code : Nat) : QuenchUnit :=
  { u with active := code :: u.active, count := inc32 u.count }

/-- The Quench unit QUENCHED by a cause: every contact that is not stuck is open. -/
def QuenchUnit.quenched (u : QuenchUnit) (code : Nat) : QuenchUnit :=
  { u with qa := false, qb := false, cause := code, armedSince := 0, stopDue := true
           qo := tmap {} (fun _ c => { c with conducts := c.stuck, testAt := none }) u.qo }

theorem enterQuenched_quench (s : State) (code : Nat) : (s.enterQuenched code).quench = s.quench.quenched code :=
  driveQLevels_quench _

/-- `s` with a cause active, counted and recorded. -/
def State.causeRecorded (s : State) (code : Nat) (n : SessionNo) : State :=
  (s.modQuench (·.withCause code)).record .quench .safety 0x80 (0x0100 + code) (s.quench.withCause code).activeBytes n

theorem causeRecorded_quench (s : State) (code : Nat) (n : SessionNo) :
    (s.causeRecorded code n).quench = s.quench.withCause code := (record_logsOver ..).quench

/-- A cause that may become active is counted, and an ARMED device is QUENCHED. -/
theorem quenchCause_quench {s : State} {code : Nat} (hmay : s.mayCause code) (n : SessionNo) :
    (s.quenchCause code n).quench =
      if s.armed then (s.quench.withCause code).quenched code else s.quench.withCause code := by
  obtain ⟨hruns, hnew⟩ := hmay
  have hnext : ¬ (code ∈ s.quench.active ∨ (!s.quenchRuns) = true) := by simpa [hruns] using hnew
  have harmed : (s.causeRecorded code n).armed = s.armed := by
    rw [State.armed, causeRecorded_quench]
    rfl
  have hcause : s.quenchCause code n =
      if (s.causeRecorded code n).armed then (s.causeRecorded code n).enterQuenched code else s.causeRecorded code n :=
    if_neg hnext
  rw [hcause, harmed]
  split
  · rw [enterQuenched_quench, causeRecorded_quench]
  · exact causeRecorded_quench ..

/-- A cause that is active already, or without power, changes nothing. -/
theorem quenchCause_of_not_mayCause {s : State} {code : Nat} (hmay : ¬ s.mayCause code) (n : SessionNo) :
    s.quenchCause code n = s := by
  refine if_pos ?_
  by_cases hruns : s.quenchRuns = true
  · exact .inl (by simpa [State.mayCause, hruns] using hmay)
  · exact .inr (by simpa using hruns)

theorem quenchCause_statusOver (s : State) (code : Nat) (n : SessionNo) :
    (s.quenchCause code n).quench.statusOver s.quench := by
  by_cases hmay : s.mayCause code
  · rw [quenchCause_quench hmay]
    split <;> rfl
  · rw [quenchCause_of_not_mayCause hmay]
    exact QuenchUnit.statusOver_refl _

theorem mem_active_quenchCause {s : State} {code c : Nat} {n : SessionNo} :
    c ∈ (s.quenchCause code n).quench.active ↔ c ∈ s.quench.active ∨ (c = code ∧ s.quenchRuns = true) := by
  by_cases hmay : s.mayCause code
  · have hactive : (s.quenchCause code n).quench.active = code :: s.quench.active := by
      rw [quenchCause_quench hmay]
      split <;> rfl
    simp [hactive, hmay.1, or_comm]
  · rw [quenchCause_of_not_mayCause hmay]
    refine ⟨.inl, fun hc => hc.elim id fun ⟨hcode, hruns⟩ => ?_⟩
    subst hcode
    simpa [State.mayCause, hruns] using hmay

/-- A cause that may become active in `t`, whose channels and count are those of `s`. -/
theorem quenchCause_causedBy {s t : State} {code : Nat} (hmay : t.mayCause code)
    (hcount : t.quench.count = s.quench.count) (harmed : t.armed = s.armed) (n : SessionNo := 0) :
    s.causedBy (t.quenchCause code n) code := by
  have hactive : code ∈ (t.quenchCause code n).quench.active := mem_active_quenchCause.2 (.inr ⟨rfl, hmay.1⟩)
  have hquench := quenchCause_quench hmay n
  refine ⟨hactive, ?_⟩
  rw [State.armed, hquench, harmed, ← hcount]
  cases hs : s.armed with
  | true =>
    refine ⟨rfl, rfl, fun _ => ⟨rfl, rfl, rfl, rfl, ?_⟩⟩
    exact tget_tmap_of (P := fun c : QoContact => c.conducts = c.stuck) rfl (fun _ _ => rfl) t.quench.qo
  | false => exact ⟨rfl, harmed.trans hs, nofun⟩

/-- The end of a DEMAND cause leaves every other cause as it was. -/
theorem mem_active_endDemand {s : State} {code c : Nat} :
    c ∈ (s.endDemand code).quench.active ↔ c ∈ s.quench.active ∧ c ≠ code := by
  simp [State.endDemand, State.modQuench]

theorem endDemand_statusOver (s : State) (code : Nat) : (s.endDemand code).quench.statusOver s.quench := rfl

theorem demand_statusOver (s : State) (code : Nat) (on : Bool) (n : SessionNo) :
    (s.demand code on n).quench.statusOver s.quench := by
  cases on with
  | true => exact quenchCause_statusOver ..
  | false => exact endDemand_statusOver ..

/-! ### One SI pair (10 R376, R378) -/

/-- `u` differs from `s` in pair `n` and in the FAULT causes whose conditions stand, and in nothing else. -/
def State.onlyPair (s u : State) (n : Nat) : Prop :=
  u = { s with quench := { s.quench with si := u.quench.si, standing := u.quench.standing } } ∧
    ∀ k, k ≠ n → u.quench.pair k = s.quench.pair k

theorem State.onlyPair.trans {s u v : State} {n : Nat} (h : s.onlyPair u n) (g : u.onlyPair v n) : s.onlyPair v n := by
  obtain ⟨hu, hpairs⟩ := h
  obtain ⟨hv, hpairs'⟩ := g
  refine ⟨?_, fun k hk => (hpairs' k hk).trans (hpairs k hk)⟩
  rwa [hu] at hv

theorem modPair_onlyPair (s : State) (n : Nat) (f : SiPair → SiPair) : s.onlyPair (s.modPair n f) n :=
  ⟨rfl, fun _ hk => tget_tmod_ne _ _ hk.symm _⟩

/-- A change of the conditions that stand changes no pair. -/
theorem standing_onlyPair (s : State) (n : Nat) (l : List Nat) :
    s.onlyPair (s.modQuench (fun u => { u with standing := l })) n := ⟨rfl, fun _ _ => rfl⟩

theorem pair_modPair_self (s : State) (n : Nat) (f : SiPair → SiPair) :
    (s.modPair n f).quench.pair n = f (s.quench.pair n) := tget_tmod_self _ _ _ _

section
variable {s u : State} {n : Nat} (h : s.onlyPair u n)
include h

theorem State.onlyPair.time : u.time = s.time := by rw [h.1]
theorem State.onlyPair.armed : u.armed = s.armed := by rw [h.1]; rfl
theorem State.onlyPair.quenchRuns : u.quenchRuns = s.quenchRuns := by rw [h.1]; rfl
theorem State.onlyPair.active : u.quench.active = s.quench.active := by rw [h.1]
theorem State.onlyPair.qa : u.quench.qa = s.quench.qa := by rw [h.1]
theorem State.onlyPair.qb : u.quench.qb = s.quench.qb := by rw [h.1]
theorem State.onlyPair.count : u.quench.count = s.quench.count := by rw [h.1]
theorem State.onlyPair.refused : u.quench.refused = s.quench.refused := by rw [h.1]
theorem State.onlyPair.stoppedA : u.quench.stoppedA = s.quench.stoppedA := by rw [h.1]
theorem State.onlyPair.stoppedB : u.quench.stoppedB = s.quench.stoppedB := by rw [h.1]
theorem State.onlyPair.siType (k : Nat) : u.quench.siType k = s.quench.siType k := by rw [h.1]; rfl
theorem State.onlyPair.pduEn : u.quench.pduEn = s.quench.pduEn := by rw [h.1]; rfl
theorem State.onlyPair.qoEn (k : Nat) : u.quench.qoEn k = s.quench.qoEn k := by rw [h.1]; rfl

/-- A cause that may become active after a change of one pair. -/
theorem State.onlyPair.causes {code : Nat} (hmay : s.mayCause code) :
    s.causedBy (u.quenchCause code) code := by
  have hmay' : u.mayCause code := by rwa [State.mayCause, h.quenchRuns, h.active]
  exact quenchCause_causedBy hmay' h.count h.armed

/-! A RESET pair takes no part in R373 and R388. -/

section
variable (htype : s.quench.siType n = .reset)
include htype

theorem State.onlyPair.pairsReady : u.quench.pairsReady = s.quench.pairsReady := by
  unfold QuenchUnit.pairsReady
  refine congrArg (List.all (List.range 4)) (funext fun k => ?_)
  rw [h.siType]
  by_cases hk : k = n
  · subst hk
    rw [htype]
  · rw [h.2 k hk]

theorem State.onlyPair.nextJog : u.quench.nextJog = s.quench.nextJog := by
  have hclosed : u.quench.enableClosed = s.quench.enableClosed := by
    have htypes : u.quench.siType = s.quench.siType := funext h.siType
    unfold QuenchUnit.enableClosed
    rw [htypes]
    refine congrArg (List.any (List.range 4) _ && ·) (congrArg (List.all (List.range 4)) (funext fun k => ?_))
    by_cases hk : k = n
    · subst hk
      rw [htype]
      rfl
    · rw [h.2 k hk]
  have hjog : u.quench.jogEn = s.quench.jogEn ∧ u.quench.jogReq = s.quench.jogReq := by
    rw [h.1]
    exact ⟨rfl, rfl⟩
  unfold QuenchUnit.nextJog
  rw [hclosed, hjog.1, hjog.2]

theorem State.onlyPair.releasable : u.releasable = s.releasable := by
  have hready := h.pairsReady htype
  unfold State.releasable
  dsimp only
  rw [hready, h.1]
  rfl

end
end

/-! ### A channel that opens or closes (10 R376, R378) -/

@[simp] theorem settle_opened (p : SiPair) (now : Nat) (b : Bool) : (p.settle now).opened b = p.opened b := by
  cases b <;> rfl

@[simp] theorem setOpen_opened (p : SiPair) (b v : Bool) : (p.setOpen b v).opened b = v := by cases b <;> rfl

@[simp] theorem setOpen_opened_other (p : SiPair) (b v : Bool) : (p.setOpen b v).opened (!b) = p.opened (!b) := by
  cases b <;> rfl

theorem openA_or_openB (p : SiPair) (b : Bool) : (p.openA || p.openB) = (p.opened b || p.opened (!b)) := by
  cases b with
  | true => exact Bool.or_comm ..
  | false => rfl

/-- The pair after one of its channels has opened or closed. -/
def SiPair.reading (p : SiPair) (b isOpen : Bool) (now : Nat) : SiPair := (p.setOpen b isOpen).settle now

/-- `s` with a pair as it reads now; the latched faults that have ended stand no more. -/
def State.withPair (s : State) (n : Nat) (p : SiPair) : State :=
  let s1 := s.modPair n (fun _ => p)
  let s2 := if p.discrepancy then s1 else s1.endFault (0x14 + n)
  if p.tpFault then s2 else s2.endFault (0x18 + n)

theorem endFault_onlyPair (s : State) (code n : Nat) : s.onlyPair (s.endFault code) n := standing_onlyPair s n _

theorem withPair_onlyPair (s : State) (n : Nat) (p : SiPair) : s.onlyPair (s.withPair n p) n := by
  have changed := modPair_onlyPair s n (fun _ => p)
  unfold State.withPair
  dsimp only
  split <;> split
  · exact changed
  · exact changed.trans (endFault_onlyPair ..)
  · exact changed.trans (endFault_onlyPair ..)
  · exact (changed.trans (endFault_onlyPair ..)).trans (endFault_onlyPair ..)

theorem withPair_pair (s : State) (n : Nat) (p : SiPair) : (s.withPair n p).quench.pair n = p := by
  have changed : (s.modPair n (fun _ => p)).quench.pair n = p := pair_modPair_self ..
  unfold State.withPair
  dsimp only
  split <;> split <;> exact changed

theorem siChannel_of_guard {s : State} {n : Nat} (htype : s.quench.siType n = .guard) (b isOpen : Bool) :
    s.siChannel n b isOpen =
      (s.withPair n ((s.quench.pair n).reading b isOpen s.now)).demand (0x10 + n)
        (isOpen || (s.quench.pair n).opened (!b)) := by
  have hopen : (((s.quench.pair n).reading b isOpen s.now).openA || ((s.quench.pair n).reading b isOpen s.now).openB) =
      (isOpen || (s.quench.pair n).opened (!b)) := by
    rw [openA_or_openB _ b]
    simp [SiPair.reading]
  rw [← hopen]
  unfold State.siChannel
  simp only [htype]
  rfl

theorem siChannel_of_reset {s : State} {n : Nat} (htype : s.quench.siType n = .reset) (b isOpen : Bool) :
    s.siChannel n b isOpen = s.withPair n ((s.quench.pair n).reading b isOpen s.now) := by
  unfold State.siChannel
  simp only [htype]
  rfl

/-- A channel of a RESET pair that opens or closes changes its pair alone. -/
theorem siChannel_onlyPair {s : State} {n : Nat} (htype : s.quench.siType n = .reset) (b isOpen : Bool) :
    s.onlyPair (s.siChannel n b isOpen) n := by
  rw [siChannel_of_reset htype]
  exact withPair_onlyPair ..

/-- A FAULT cause that a change of one pair brings about stands and becomes active; the pair is as the change left it. -/
theorem State.onlyPair.faults {s u : State} {n code : Nat} (h : s.onlyPair u n) (hmay : s.mayCause code) :
    s.causedBy (u.standFault code) code ∧ (u.standFault code).quench.pair n = u.quench.pair n ∧
      code ∈ (u.standFault code).quench.standing :=
  ⟨(h.trans (standing_onlyPair u n _)).causes hmay, (quenchCause_statusOver ..).pair n, standFault_stands u code⟩

/-! ### Acknowledgement and release (10 R373 to R375) -/

/-- The contacts after a release has closed contact `k`, where its QO is enabled and its channel runs. -/
def QuenchUnit.closeAt (u : QuenchUnit) (t : Tab QoContact) (k : Nat) : Tab QoContact :=
  if u.qoEn k ∧ !(if k % 2 = 0 then u.stoppedA else u.stoppedB) then tmod {} t k (fun c => { c with conducts := true })
  else t

/-- A contact that may close conducts after its turn, and goes on conducting. -/
theorem conducts_foldl_closeAt {u : QuenchUnit} {k : Nat} (hen : u.qoEn k = true)
    (hruns : (if k % 2 = 0 then u.stoppedA else u.stoppedB) = false) (l : List Nat) (t : Tab QoContact)
    (hk : k ∈ l ∨ (tget {} t k).conducts = true) : (tget {} (l.foldl u.closeAt t) k).conducts = true := by
  induction l generalizing t with
  | nil => exact hk.resolve_left (List.not_mem_nil)
  | cons j l ih =>
    refine ih _ ?_
    by_cases hj : j = k
    · subst hj
      refine .inr ?_
      rw [QuenchUnit.closeAt, if_pos ⟨hen, by rw [hruns]; rfl⟩, tget_tmod_self]
    · refine hk.imp (fun hmem => (List.mem_cons.1 hmem).resolve_left (Ne.symm hj)) fun hconducts => ?_
      by_cases hcloses : u.qoEn j ∧ !(if j % 2 = 0 then u.stoppedA else u.stoppedB)
      · rwa [QuenchUnit.closeAt, if_pos hcloses, tget_tmod_ne _ _ hj]
      · rwa [QuenchUnit.closeAt, if_neg hcloses]

/-- The Quench unit that a release leaves. -/
theorem releaseQuench_quench (s : State) :
    s.releaseQuench.quench =
      { s.quench with
        qa := true, qb := true, armedSince := s.time.t64, jog := s.quench.nextJog
        qo := (List.range 4).foldl s.quench.closeAt s.quench.qo } := (record_logsOver ..).quench

/-- `s` without the FAULT causes whose conditions have ended. -/
def State.withoutEndedFaults (s : State) : State :=
  s.modQuench (fun u =>
    { u with active := u.active.filter (fun c => !(causeClass c == .fault && !u.standing.contains c)) })

/-- `s` with a refused acknowledgement counted. -/
def State.countRefused (s : State) : State := s.modQuench (fun u => { u with refused := inc32 u.refused })

theorem acknowledge_eq (s : State) :
    s.acknowledge =
      if s.withoutEndedFaults.armed then s.withoutEndedFaults
      else if s.withoutEndedFaults.releasable then s.withoutEndedFaults.releaseQuench
      else s.withoutEndedFaults.countRefused := rfl

/-- With no active cause no FAULT cause ends. -/
theorem withoutEndedFaults_of_no_cause {s : State} (h : s.quench.active = []) : s.withoutEndedFaults = s := by
  rw [State.withoutEndedFaults, State.modQuench, h, List.filter_nil, ← h]

/-- An acknowledgement leaves the active causes that are not FAULT causes, and what no release changes. -/
theorem acknowledge_leaves (s : State) :
    s.acknowledge.quench.statusOver s.quench ∧
      ∀ c, causeClass c ≠ .fault → (c ∈ s.acknowledge.quench.active ↔ c ∈ s.quench.active) := by
  have hacked : s.acknowledge.quench.statusOver s.withoutEndedFaults.quench ∧
      s.acknowledge.quench.active = s.withoutEndedFaults.quench.active := by
    rw [acknowledge_eq]
    split
    · exact ⟨QuenchUnit.statusOver_refl _, rfl⟩
    · split
      · rw [releaseQuench_quench]
        exact ⟨rfl, rfl⟩
      · exact ⟨rfl, rfl⟩
  obtain ⟨hover, hactive⟩ := hacked
  refine ⟨hover.trans rfl, fun c hc => ?_⟩
  rw [hactive]
  simp [State.withoutEndedFaults, State.modQuench, hc]

/-- A press of a RESET pair that has been closed for 100 ms to 2 s: its pair alone changes, and the device acknowledges. -/
theorem siResetPress_acknowledges {s : State} {n : Fin 4} {t : Nat} (hruns : s.quenchRuns = true)
    (hclosed : (s.quench.pair n).closedSince = some t) (htype : s.quench.siType n = .reset)
    (hheld : t + 100000000 ≤ s.now ∧ s.now ≤ t + 2000000000) (hpdu : s.quench.pduEn = false) :
    ∃ u, exec (.siResetPress n) s = .next u.acknowledge ∧ s.onlyPair u n := by
  have hfirst := siChannel_onlyPair htype false true
  have hboth := hfirst.trans (siChannel_onlyPair ((hfirst.siType n).trans htype) true true)
  refine ⟨_, ?_, hboth⟩
  rw [exec_siResetPress, execSiResetPress, hclosed]
  dsimp only
  rw [if_pos ⟨hruns, htype, hheld⟩, hboth.pduEn, hpdu]
  rfl

/-! ### The safety PDU (10 R390 to R393) -/

/-- `s` with the fields of a command PDU taken over. -/
def State.pduTaken (s : State) (b : List Nat) : State :=
  s.modQuench (fun u =>
    { u with
      lastCnt := some (pduField b 2 2), shownCnt := pduField b 2 2, runPermit := (pduField b 4 1).testBit 0
      jogReq := (pduField b 4 1).testBit 1, resetAck := some ((pduField b 4 1).testBit 2), z0id := pduField b 8 4
      pduAt := s.now, accepted := inc32 u.accepted })

/-- `s` with PDU_TIMEOUT ended, and with the cause that RUN_PERMIT makes or ends. -/
def State.pduDemanded (s : State) (b : List Nat) : State :=
  ((s.pduTaken b).endDemand 0x20).demand 0x21 (!(pduField b 4 1).testBit 0)

/-- `s` with a change of the requested mode while ARMED made a cause, which ends at once (10 R388). -/
def State.modeChecked (s : State) : State :=
  if s.armed ∧ s.quench.jogReq ≠ s.quench.jog then (s.quenchCause 0x22).endDemand 0x22 else s

theorem modeChecked_leaves (s : State) :
    s.modeChecked.quench.statusOver s.quench ∧
      ∀ c, c ≠ 0x22 → (c ∈ s.modeChecked.quench.active ↔ c ∈ s.quench.active) := by
  unfold State.modeChecked
  split
  · refine ⟨(endDemand_statusOver ..).trans (quenchCause_statusOver ..), fun c hc => ?_⟩
    rw [mem_active_endDemand, mem_active_quenchCause]
    simp [hc]
  · exact ⟨QuenchUnit.statusOver_refl _, fun _ _ => Iff.rfl⟩

/-- An accepted command PDU: its fields are taken over, and each of the two causes that it decides is as its demands
leave it. -/
theorem acceptPdu_leaves (s : State) (b : List Nat) :
    ∃ (v : QuenchUnit) (out : List Nat), (s.acceptPdu b).quench = { v with pduOut := out } ∧
      v.statusOver (s.pduTaken b).quench ∧
      ∀ c, c = 0x20 ∨ c = 0x21 → (c ∈ v.active ↔ c ∈ (s.pduDemanded b).quench.active) := by
  obtain ⟨hmode, hmodeActive⟩ := modeChecked_leaves (s.pduDemanded b)
  obtain ⟨hack, hackActive⟩ := acknowledge_leaves (s.pduDemanded b).modeChecked
  have htaken : (s.pduDemanded b).modeChecked.quench.statusOver (s.pduTaken b).quench :=
    hmode.trans ((demand_statusOver ..).trans (endDemand_statusOver ..))
  have hmodeOf (c : Nat) (hc : c = 0x20 ∨ c = 0x21) := hmodeActive c (by omega)
  have hclass (c : Nat) (hc : c = 0x20 ∨ c = 0x21) : causeClass c ≠ .fault := by rcases hc with rfl | rfl <;> decide
  by_cases hrising : (s.quench.resetAck == some false && (pduField b 4 1).testBit 2) = true
  · refine ⟨_, _, congrArg (fun v : State => (v.modQuench (fun u => { u with pduOut := v.statusPdu })).quench)
      (if_pos hrising), hack.trans htaken, fun c hc => (hackActive c (hclass c hc)).trans (hmodeOf c hc)⟩
  · exact ⟨_, _, congrArg (fun v : State => (v.modQuench (fun u => { u with pduOut := v.statusPdu })).quench)
      (if_neg hrising), htaken, hmodeOf⟩

/-- RUN_PERMIT 0 makes its cause active. -/
theorem pduDemanded_stops {s : State} {b : List Nat} (hruns : s.quenchRuns = true)
    (hpermit : (pduField b 4 1).testBit 0 = false) : 0x21 ∈ (s.pduDemanded b).quench.active := by
  unfold State.pduDemanded
  rw [hpermit]
  exact mem_active_quenchCause.2 (.inr ⟨rfl, hruns⟩)

/-- PDU_TIMEOUT is active no more. -/
theorem pduDemanded_ends_timeout (s : State) (b : List Nat) : 0x20 ∉ (s.pduDemanded b).quench.active := by
  have hended : 0x20 ∉ ((s.pduTaken b).endDemand 0x20).quench.active := endDemand_not_active _ 0x20
  unfold State.pduDemanded State.demand
  split
  · rw [mem_active_quenchCause]
    rintro (h | ⟨h, -⟩)
    · exact hended h
    · exact absurd h (by decide)
  · rw [mem_active_endDemand]
    exact fun h => hended h.1

/-- The row of *SafetyPduIn*. -/
def safetyPduInRow : ObjRow := oWO 0x2100 0x2100 1 1 (.oct 16) rS

/-- The row of *QuenchRequest*. -/
def quenchRequestRow : ObjRow := oRW 0x2000 0x2000 5 5 .bool rOMS .now 0

theorem objRow_safetyPduIn : objRow (okey 0x2100 1) = some safetyPduInRow := by decide

theorem objRow_quenchRequest : objRow (okey 0x2000 5) = some quenchRequestRow := by decide

theorem bytesCheck_safetyPduIn {b : List Nat} (h : b.length = 16) :
    bytesCheck (okey 0x2100 1) safetyPduInRow b = (.ok, 0) := by
  have hsize : ¬ safetyPduInRow.ty.size ≠ some b.length := by rw [h]; decide
  have hreserved : reservedByte (okey 0x2100 1) b = none := rfl
  unfold bytesCheck
  rw [hreserved, if_neg hsize]
  rfl

/-- A command PDU that is heard and admitted is taken, and its write answered OK. -/
theorem safetyPduIn_taken {s : State} {q : Req} {ss : Session} {b : List Nat} (h : s.hears q ss)
    (ha : s.admitted q ss (okey 0x2100 1)) (hlen : b.length = 16) :
    exec (.safetyPduIn q b) s = .next (((s.noted q).takePdu b).reply q.session { rid := q.rid, code := .ok }) :=
  congrArg Host.Outcome.next
    (serveBytes_of_served (d := 0) h ha rfl objRow_safetyPduIn (bytesCheck_safetyPduIn hlen) rfl rfl)

theorem takePdu_accepts {s : State} {b : List Nat} (hen : s.quench.pduEn = true) (hright : s.quench.pduRight b = true)
    (hnext : s.quench.lastCnt.all (fun c => (c + 1) % 65536 == pduField b 2 2) = true) :
    s.takePdu b = s.acceptPdu b := by
  unfold State.takePdu
  simp only [hen, Bool.not_true, Bool.false_eq_true, if_false]
  exact if_pos ⟨hright, hnext⟩

theorem takePdu_rejects {s : State} {b : List Nat} (hen : s.quench.pduEn = true) (hwrong : s.quench.pduRight b = false) :
    s.takePdu b = s.modQuench (fun u => { u with rejected := inc32 u.rejected }) := by
  unfold State.takePdu
  simp only [hen, hwrong, Bool.not_true, Bool.false_eq_true, false_and, if_false]

/-! ### QuenchRequest (10 R365, R398) -/

/-- `s` with *QuenchRequest* written. -/
def State.requested (s : State) (on : Bool) : State := s.modQuench (fun u => { u with request := on })

/-- A write of *QuenchRequest* that is heard and admitted makes or ends its cause, and is answered OK. -/
theorem quenchRequest_demands {s : State} {q : Req} {ss : Session} (h : s.hears q ss)
    (ha : s.admitted q ss (okey 0x2000 5)) (on : Bool) :
    exec (.quenchRequest q [on.toNat]) s =
      .next ((((s.noted q).requested on).demand 0x40 on q.session).reply q.session { rid := q.rid, code := .ok }) := by
  have hbytes : bytesCheck (okey 0x2000 5) quenchRequestRow [on.toNat] = (.ok, 0) := by cases on <;> decide
  have hvalue : (valNat (quenchRequestRow.ty.decode [on.toNat]) != 0) = on := by cases on <;> decide
  refine congrArg Host.Outcome.next (serveBytes_of_served (d := 0) h ha rfl objRow_quenchRequest hbytes rfl ?_)
  rw [hvalue]
  rfl

end Sys2Proof.Machine

open Sys2Proof Sys2Proof.Machine

/-- Settles O44: a pair's change leaves the causes to its demand or fault, a press is an acknowledgement after it, and a PDU
and a request are served writes whose causes are followed one by one. -/
theorem safetyInputsAcknowledgementsAndPdu : Obligations.SafetyInputsAcknowledgementsAndPdu := by
  unfold Obligations.SafetyInputsAcknowledgementsAndPdu
  refine ⟨?opens, ?closes, ?discrepancy, ?testpulse, ?pulse, ?press, ?accepted, ?rejected, ?timeout, ?request, ?readback⟩
  case opens =>
    intro s n b hclosed htype hmay
    have hpair := withPair_onlyPair s n ((s.quench.pair n).reading b true s.now)
    refine ⟨_, congrArg Host.Outcome.next (if_pos ⟨hmay.1, by rw [hclosed]; rfl⟩), ?_⟩
    rw [siChannel_of_guard htype, Bool.true_or]
    refine ⟨hpair.causes hmay, ?_⟩
    rw [(demand_statusOver ..).pair, withPair_pair, SiPair.reading]
    simp
  case closes =>
    intro s n b hruns hopen hother htype
    have hpair := withPair_onlyPair s n ((s.quench.pair n).reading b false s.now)
    refine ⟨_, congrArg Host.Outcome.next (if_pos ⟨hruns, hopen⟩), ?_⟩
    rw [siChannel_of_guard htype, Bool.false_or, hother, (demand_statusOver ..).pair, withPair_pair]
    have hclosed : (((s.quench.pair n).reading b false s.now).openA ||
        ((s.quench.pair n).reading b false s.now).openB) = false := by
      rw [openA_or_openB _ b]
      simp [SiPair.reading, hother]
    obtain ⟨hA, hB⟩ := Bool.or_eq_false_iff.1 hclosed
    refine ⟨?_, hA, hB, hpair.qa, hpair.qb⟩
    rw [← hpair.active]
    rfl
  case discrepancy =>
    intro s n t hdiffer htype hlate hmay
    have hpair := modPair_onlyPair s n (fun p => { p with discrepancy := true, openedTogether := false })
    obtain ⟨hcaused, hkept, hstands⟩ := hpair.faults hmay
    rw [exec_siDiscrepancy, execSiDiscrepancy, hdiffer]
    refine ⟨_, congrArg Host.Outcome.next (if_pos ⟨hmay.1, htype, hlate⟩), hcaused, ?_, hstands⟩
    rw [hkept, pair_modPair_self]
  case testpulse =>
    intro s n b htype hclosed hmay
    have hpair := modPair_onlyPair s n
      (fun p => { p with tpFault := true, passedA := p.passedA && b, passedB := p.passedB && !b })
    obtain ⟨hcaused, hkept, hstands⟩ := hpair.faults hmay
    refine ⟨_, congrArg Host.Outcome.next (if_pos ⟨hmay.1, htype, by rw [hclosed]; rfl⟩), hcaused, ?_, hstands⟩
    rw [hkept, pair_modPair_self]
  case pulse =>
    intro s c hruns hdue
    have hne : (c.val + 3) % 4 ≠ c.val := by omega
    refine ⟨_, congrArg Host.Outcome.next (if_pos ⟨hruns, hdue⟩),
      tget_tset_self none s.quench.pulseAt c (some s.now), ?_, ?_, rfl, rfl, rfl⟩
    · rw [(modPair_onlyPair _ _ _).2 c hne.symm, pair_modPair_self]
      rfl
    · rw [pair_modPair_self, (modPair_onlyPair _ _ _).2 _ hne]
      rfl
  case press =>
    intro s n t hruns hclosed htype hheld hpdu harmed hactive
    obtain ⟨u, hexec, hpair⟩ := siResetPress_acknowledges hruns hclosed htype hheld hpdu
    have hquenched : ¬ u.armed = true := ne_true_of_eq_false (hpair.armed.trans harmed)
    refine ⟨_, hexec, ?_⟩
    rw [acknowledge_eq, withoutEndedFaults_of_no_cause (hpair.active.trans hactive), if_neg hquenched,
      hpair.releasable htype]
    refine ⟨fun hready => ?_, fun hready => ?_⟩
    · rw [if_pos hready, State.armed, releaseQuench_quench]
      refine ⟨rfl, by rw [← hpair.time], hpair.nextJog htype, fun k hen hlive => ?_⟩
      refine conducts_foldl_closeAt ((hpair.qoEn k).trans hen) ?_ _ _ (.inl (List.mem_range.2 k.isLt))
      rwa [hpair.stoppedA, hpair.stoppedB]
    · rw [if_neg (ne_true_of_eq_false hready)]
      exact ⟨hpair.armed.trans harmed, congrArg inc32 hpair.refused⟩
  case accepted =>
    intro s q ss b h ha hlen hruns hen hright hnext
    refine ⟨_, safetyPduIn_taken h ha hlen, reply_answers .., ?_⟩
    rw [reply_quench, takePdu_accepts (s := s.noted q) hen hright hnext]
    obtain ⟨v, out, hquench, htaken, hactive⟩ := acceptPdu_leaves (s.noted q) b
    rw [hquench]
    refine ⟨htaken.accepted, htaken.lastCnt, htaken.runPermit, htaken.jogReq, htaken.z0id, htaken.pduAt, htaken.rejected,
      fun hpermit => ?_, ?_⟩
    · exact (hactive 0x21 (.inr rfl)).2 (pduDemanded_stops hruns hpermit)
    · exact fun hmem => pduDemanded_ends_timeout _ b ((hactive 0x20 (.inl rfl)).1 hmem)
  case rejected =>
    intro s q ss b h ha hlen hen hwrong
    refine ⟨_, safetyPduIn_taken h ha hlen, reply_answers .., ?_⟩
    rw [reply_quench, takePdu_rejects (s := s.noted q) hen hwrong]
    rfl
  case timeout =>
    intro s hen hlate hmay
    refine ⟨_, congrArg Host.Outcome.next (if_pos ⟨hmay.1, hen, hlate⟩),
      quenchCause_causedBy (t := s.modQuench (fun u => { u with lastCnt := none })) hmay rfl rfl, ?_⟩
    rw [(quenchCause_statusOver ..).lastCnt]
    rfl
  case request =>
    intro s q ss h ha hmay
    refine ⟨⟨_, quenchRequest_demands h ha true, reply_answers .., ?_, ?_⟩,
      ⟨_, quenchRequest_demands h ha false, reply_answers .., rfl, ?_⟩⟩
    · rw [reply_quench, (demand_statusOver ..).request]
      rfl
    · exact quenchCause_causedBy (t := (s.noted q).requested true) hmay rfl rfl q.session
    · rw [reply_quench]
      exact endDemand_not_active _ 0x40
  case readback =>
    intro s r b w hfed hlate hmay
    exact ⟨_, congrArg Host.Outcome.next (if_pos ⟨hfed, hlate⟩), quenchCause_causedBy hmay rfl rfl⟩

end

section
/-!
A stop of the channels' clocks or pumps: what it leaves of the contacts, and a state on which a contact of a stopped channel
does not read as it should (10 R362, R397).
-/

namespace Sys2Proof.Machine

/-- `s` with the listed channels stopped: the contacts that they hold closed open. -/
def State.channelsStopped (s : State) (a b : Bool) : State :=
  s.modQuench (fun u =>
    { u with
      stoppedA := u.stoppedA || a, stoppedB := u.stoppedB || b
      qo := tmap {} (fun k c => if (if k % 2 = 0 then a else b) then { c with conducts := c.stuck, testAt := none } else c)
        u.qo })

theorem exec_qoscStop (s : State) (a b : Bool) :
    exec (.qoscStop a b) s =
      .next (if a ∧ b then (s.channelsStopped a b).quenchCause 0x54 else s.channelsStopped a b) := rfl

/-- Channel QA of a SERVICE device can stop, and the table of contacts is not canonical: it lists contact 0 as closed, and
again as stuck. -/
def contactListedTwice : State :=
  { State.reset with
    op := { state := .service, gaffer := .running .a, sources := [] }
    quench := { qo := [(0, { conducts := true }), (0, { stuck := true })] } }

end Sys2Proof.Machine

open Sys2Proof Sys2Proof.Machine

/-- Refutes O45, at its last clause: the statement speaks of every state, with no hypothesis that the table of contacts has
its canonical form (`twf`). In `contactListedTwice` contact 0 reads as closed and not stuck; the stop of QA drops the first
entry, which is then the default, and contact 0 reads as the second entry, which conducts because it is stuck, where the
clause has it open. -/
theorem not_comparatorContactsAndMonitors : ¬ Obligations.ComparatorContactsAndMonitors := by
  unfold Obligations.ComparatorContactsAndMonitors
  rintro ⟨-, -, -, -, -, -, -, -, -, -, -, hstop⟩
  obtain ⟨u, hu, -, -, hopens, -⟩ := hstop contactListedTwice true false ⟨rfl, by decide⟩
  obtain rfl := Host.Outcome.next.inj ((exec_qoscStop contactListedTwice true false).symm.trans hu)
  exact absurd (hopens 0 rfl) (by decide)

end

section
/-!
Connections and sessions: a handshake from its ClientHello to OPEN; and the end of a session, which leaves other
connections, other leases and what has been sent as they were (11 R410, R413 to R420, R432, R433).
-/

namespace Sys2Proof.Machine

/-! ### The dispatch of the session commands -/

theorem exec_clientHello (conn : Nat) (cookie : Bool) (p : List Nat) (en : Bool) (s : State) :
    exec (.clientHello conn cookie p en) s = execClientHello conn cookie p en s := rfl

theorem exec_handshakeComplete (conn : Nat) (key : List Nat) (s : State) :
    exec (.handshakeComplete conn key) s = execHandshakeComplete conn key s := rfl

theorem exec_handshakeLimit (conn : Nat) (s : State) : exec (.handshakeLimit conn) s = execHandshakeLimit conn s := rfl

theorem exec_openSession (conn : Nat) (role : Fin 256) (k : Fin 65536) (name : List Nat) (s : State) :
    exec (.openSession conn role k name) s = execOpenSession conn role k name s := rfl

theorem exec_closeSession (q : Req) (s : State) : exec (.closeSession q) s = execCloseSession q s := rfl

theorem exec_ping (q : Req) (s : State) : exec (.ping q) s = execPing q s := rfl

theorem exec_dtlsFatalAlert (conn : Nat) (s : State) : exec (.dtlsFatalAlert conn) s = execDtlsFatalAlert conn s := rfl

theorem exec_keepaliveLapse (n : Fin 9) (s : State) : exec (.keepaliveLapse n) s = execKeepaliveLapse n s := rfl

/-! ### Handshakes (11 R413 to R416) -/

/-- A connection whose handshake is forgotten has none. -/
theorem shake?_dropShake (s : State) (conn : Nat) : (s.dropShake conn).shake? conn = none := by
  unfold State.shake? State.dropShake
  rw [List.find?_eq_none]
  intro h hm
  simpa using (List.mem_filter.1 hm).2

/-- `s` with the handshake of a connection complete, under a credential. -/
def State.withCredential (s : State) (conn c : Nat) : State :=
  { s with sess := { s.sess with
      handshakes := s.sess.handshakes.map (fun x => if x.conn = conn then { x with credential := some c } else x)
      lastUsed := if c < 32 then tset 0 s.sess.lastUsed c s.time.t64 else s.sess.lastUsed } }

theorem shake?_withCredential {s : State} {conn : Nat} {h : Handshake} (hs : s.shake? conn = some h) (c : Nat) :
    (s.withCredential conn c).shake? conn = some { h with credential := some c } := by
  have hconn : h.conn = conn := by simpa using List.find?_some hs
  have hsame : ((fun h : Handshake => h.conn == conn) ∘
      fun x => if x.conn = conn then { x with credential := some c } else x) = fun h => h.conn == conn := by
    funext x
    simp only [Function.comp_apply]
    split <;> rfl
  unfold State.shake? at hs ⊢
  rw [State.withCredential, List.find?_map, hsame, hs, Option.map_some, if_pos hconn]

theorem credOf_lt {s : State} {key : List Nat} {c : Nat} (h : s.credOf key = some c) : c < 32 :=
  List.mem_range.1 (List.mem_of_find?_eq_some h)

/-- A client that proves the key of an enabled credential is established (11 R414). -/
theorem handshakeComplete_establishes {s : State} {conn c : Nat} {key : List Nat} {h : Handshake}
    (hs : s.shake? conn = some h) (hn : h.credential = none) (hc : s.credOf key = some c) :
    exec (.handshakeComplete conn key) s = .next ((s.withCredential conn c).emit (.established conn)) := by
  simp only [exec_handshakeComplete, execHandshakeComplete, hs, hn, hc, Option.isSome_none, Bool.false_eq_true, if_false,
    State.withCredential]

@[simp] theorem senseEn_handshakes (s : State) (en : Bool) : (s.senseEn en).sess.handshakes = s.sess.handshakes := by
  cases en <;> rfl

@[simp] theorem senseEn_handshakesDropped (s : State) (en : Bool) :
    (s.senseEn en).sess.handshakesDropped = s.sess.handshakesDropped := by
  cases en <;> rfl

@[simp] theorem shake?_senseEn (s : State) (en : Bool) (conn : Nat) : (s.senseEn en).shake? conn = s.shake? conn := by
  cases en <;> rfl

@[simp] theorem sessionOn_senseEn (s : State) (en : Bool) (conn : Nat) :
    (s.senseEn en).sessionOn conn = s.sessionOn conn := by
  cases en <;> rfl

/-- A ClientHello of a connection that has neither a handshake nor a session (11 R413). -/
theorem clientHello_of_new {s : State} {conn : Nat} (cookie : Bool) (p : List Nat) (en : Bool)
    (hserves : s.servesHosts = true) (hshake : s.shake? conn = none) (hopen : s.sessionOn conn = none) :
    let t := s.senseEn en
    exec (.clientHello conn cookie p en) s =
      if 4 ≤ (s.sess.handshakes.filter (fun h => h.credential.isNone)).length then
        .next { t with sess := { t.sess with handshakesDropped := inc32 s.sess.handshakesDropped } }
      else if !cookie then .next (t.emit (.cookieRetry conn))
      else .next { t with sess := { t.sess with handshakes := s.sess.handshakes ++
        [{ conn, since := s.now, fuseEn := en, peer := padTo 18 p, credential := none }] } } := by
  have hserves' : (s.senseEn en).servesHosts = true := hserves
  have hnew : ¬ (!(s.senseEn en).servesHosts ∨ ((s.senseEn en).shake? conn).isSome ∨
      ((s.senseEn en).sessionOn conn).isSome) := by
    simp [hserves', hshake, hopen]
  rw [exec_clientHello, execClientHello, if_neg hnew, senseEn_handshakes, senseEn_handshakesDropped]
  rfl

/-- An OPEN that its checks refuse is answered with their code, and the connection is closed (11 R416). -/
theorem openSession_refused {s : State} {conn c : Nat} {role : Fin 256} (k : Fin 65536) (name : List Nat) {h : Handshake}
    (hopen : s.sessionOn conn = none) (hs : s.shake? conn = some h) (hcred : h.credential = some c)
    (hcheck : s.openCheck c (roleOf role) ≠ .ok) :
    exec (.openSession conn role k name) s = .next (((s.dropShake conn).emit
      (.refusedOpen conn (s.openCheck c (roleOf role)))).emit (.closeNotify conn)) := by
  simp only [exec_openSession, execOpenSession, hopen, hs, hcred]
  split
  next heq => exact absurd heq hcheck
  next => rfl

/-! ### What a session's end leaves alone -/

/-- `u` has the handshakes and the leases of `s`, and nothing that has left the block is taken back. -/
structure State.keepsHosts (s u : State) : Prop where
  handshakes : u.sess.handshakes = s.sess.handshakes
  leases : u.sess.leases = s.sess.leases
  out : s.out <:+ u.out

theorem State.keepsHosts_refl (s : State) : s.keepsHosts s := ⟨rfl, rfl, List.suffix_refl _⟩

theorem State.keepsHosts.trans {s u v : State} (h : s.keepsHosts u) (g : u.keepsHosts v) : s.keepsHosts v :=
  ⟨g.handshakes.trans h.handshakes, g.leases.trans h.leases, h.out.trans g.out⟩

theorem State.keepsHosts.lease {s u : State} (h : s.keepsHosts u) (l : Nat) : u.lease l = s.lease l :=
  congrArg (fun t => tget ({} : Lease) t l) h.leases

theorem keepsHosts_of_sess {s u : State} (hs : u.sess = s.sess) (ho : u.out = s.out) : s.keepsHosts u :=
  ⟨by rw [hs], by rw [hs], by rw [ho]⟩

theorem State.logsOver.keepsHosts {u w : State} (h : u.logsOver w) : w.keepsHosts u := by
  obtain ⟨-, hsess, -, hout⟩ := h
  exact ⟨by rw [hsess], by rw [hsess], hout⟩

theorem keepsHosts_foldl {α : Type} {f : State → α → State} (hf : ∀ t a, State.keepsHosts t (f t a)) (l : List α)
    (s : State) : s.keepsHosts (l.foldl f s) := by
  induction l generalizing s with
  | nil => exact s.keepsHosts_refl
  | cons a l ih => exact (hf s a).trans (ih _)

theorem keepsHosts_ite {s u v : State} (c : Prop) [Decidable c] (hu : s.keepsHosts u) (hv : s.keepsHosts v) :
    s.keepsHosts (if c then u else v) := by
  split
  · exact hu
  · exact hv

theorem modSession_keepsHosts (s : State) (n : SessionNo) (f : Session → Session) : s.keepsHosts (s.modSession n f) :=
  ⟨rfl, rfl, List.suffix_refl _⟩

theorem modImage_keepsHosts (s : State) (i : Nat) (f : ImageRec → ImageRec) : s.keepsHosts (s.modImage i f) :=
  ⟨rfl, rfl, List.suffix_refl _⟩

theorem putPdaBits_keepsHosts (s : State) (src n v : Nat) : s.keepsHosts (s.putPdaBits src n v) :=
  ⟨rfl, rfl, List.suffix_refl _⟩

/-! ### Fail actions (11 R448) -/

/-- A write of class NOW reaches no lease and no handshake. -/
theorem nowEffect_keepsHosts (s : State) (n : SessionNo) (key : Nat) (v : Val) : s.keepsHosts (s.nowEffect n key v) := by
  have other {u : State} (hs : u.sess = s.sess) (ho : u.out = s.out) : s.keepsHosts u := keepsHosts_of_sess hs ho
  unfold State.nowEffect
  dsimp only
  refine keepsHosts_ite _ (other rfl rfl) (keepsHosts_ite _ (other rfl rfl) (keepsHosts_ite _ (modSession_keepsHosts ..)
    (keepsHosts_ite _ (other rfl rfl) (keepsHosts_ite _ (other rfl rfl) (keepsHosts_ite _ (other rfl rfl)
    (keepsHosts_ite _ ?probe (keepsHosts_ite _ (other rfl rfl) (keepsHosts_ite _ (other rfl rfl) (keepsHosts_ite _
    (modImage_keepsHosts ..) (keepsHosts_ite _ (modImage_keepsHosts ..) s.keepsHosts_refl))))))))))
  split <;> exact other rfl rfl

theorem zeroObject_keepsHosts (s : State) (n : SessionNo) (key : Nat) : s.keepsHosts (s.zeroObject n key) := by
  have other {u : State} (hs : u.sess = s.sess) (ho : u.out = s.out) : s.keepsHosts u := keepsHosts_of_sess hs ho
  unfold State.zeroObject
  split
  · exact s.keepsHosts_refl
  · refine keepsHosts_ite _ s.keepsHosts_refl (keepsHosts_ite _ (other rfl rfl) (keepsHosts_ite _
      (keepsHosts_ite _ s.keepsHosts_refl (other rfl rfl)) (keepsHosts_ite _ (modImage_keepsHosts ..)
      (keepsHosts_ite _ ?_ s.keepsHosts_refl))))
    split
    · exact nowEffect_keepsHosts ..
    · exact s.keepsHosts_refl

theorem zeroImage_keepsHosts (s : State) (x : ImageRec) : s.keepsHosts (s.zeroImage x) :=
  keepsHosts_foldl (fun t _ => keepsHosts_ite _ (putPdaBits_keepsHosts t ..) (zeroObject_keepsHosts t ..)) _ s

theorem failImage_keepsHosts (s : State) (i : Nat) : s.keepsHosts (s.failImage i) := by
  have tripped (d : List Nat) (f : ImageRec → ImageRec) :
      s.keepsHosts ((s.alarm .alarm 0x0906 i d).modImage i f) :=
    (alarm_logsOver s .alarm 0x0906 i d).keepsHosts.trans (modImage_keepsHosts ..)
  unfold State.failImage
  exact keepsHosts_ite _ ((tripped _ _).trans (zeroImage_keepsHosts _ _)) (tripped _ _)

theorem endImages_keepsHosts (s : State) (n : SessionNo) : s.keepsHosts (s.endImages n) :=
  (keepsHosts_foldl (fun t i => keepsHosts_ite _ (failImage_keepsHosts t i) t.keepsHosts_refl) _ s).trans
    (keepsHosts_foldl (fun t i => modImage_keepsHosts t i _) _ _)

/-! ### Lapses (11 R433, 07 R260) -/

theorem unprime_keepsHosts (s : State) (k : Nat) : s.keepsHosts (s.unprime k) := by
  have cleared (l : List Nat) : s.keepsHosts (l.foldl State.clearValid s) :=
    keepsHosts_foldl (f := State.clearValid) (fun _ _ => keepsHosts_of_sess rfl rfl) l s
  unfold State.unprime
  exact (cleared _).trans (keepsHosts_of_sess rfl rfl)

/-- A slot whose lease has no holder is freed without a change of the lease. -/
theorem freeSlot_keepsHosts {s : State} {k : Nat} (h : (s.lease (stagingLease k)).holder = 0) :
    s.keepsHosts (s.freeSlot k) := by
  have hnone : ((s.modSlot k StageSlot.freed).lease (stagingLease k)).holder = 0 := h
  unfold State.freeSlot
  rw [if_pos hnone]
  exact keepsHosts_of_sess rfl rfl

/-- A staging is withdrawn from a session that no longer holds the slot's lease. -/
theorem withdraw_keepsHosts {s : State} {k : Nat} (h : (s.lease (stagingLease k)).holder = 0) :
    s.keepsHosts (s.withdraw k) := by
  have freed {u : State} (hu : s.keepsHosts u) : s.keepsHosts (u.freeSlot k) :=
    hu.trans (freeSlot_keepsHosts (by rw [hu.lease]; exact h))
  have entry (u : State) (e : Nat) (f : LibEntry → LibEntry) : u.keepsHosts (u.modLib e f) := keepsHosts_of_sess rfl rfl
  unfold State.withdraw
  dsimp only
  split
  · exact freed (entry ..)
  · exact freed (entry ..)
  · exact freed ((unprime_keepsHosts s k).trans (entry ..))
  · exact freed ((unprime_keepsHosts s k).trans (entry ..))
  · exact s.keepsHosts_refl

/-- A lapse changes one lease: no holder, the next epoch. -/
theorem lapseLease_modLease (s : State) (l : Nat) :
    ∃ f : Lease → Lease, (∀ x, (f x).holder = 0 ∧ (f x).epoch = nextEpoch x.epoch) ∧
      (s.modLease l f).keepsHosts (s.lapseLease l) := by
  let f : Lease → Lease := fun x =>
    { x with holder := 0, epoch := nextEpoch x.epoch, changes := inc32 x.changes, recent := s.now :: x.lately s.now }
  have hcleared : (s.modLease l f).keepsHosts (s.clearHolder l 0x0614 0) := by
    have hpending (u : State) (hu : u = s ∨ u = s.dropPending l (s.lease l).holder) :
        (s.modLease l f).keepsHosts (u.changeHolder l 0) := by
      rcases hu with rfl | rfl <;> exact ⟨rfl, rfl, List.suffix_refl _⟩
    refine (hpending _ ?_).trans (record_logsOver ..).keepsHosts
    split
    · exact .inl rfl
    · exact .inr rfl
  refine ⟨f, fun _ => ⟨rfl, rfl⟩, hcleared.trans ?_⟩
  have hfree : ((s.clearHolder l 0x0614 0).lease l).holder = 0 := by
    rw [hcleared.lease, lease_modLease_self]
  unfold State.lapseLease State.dropHolder
  dsimp only
  split
  next hslot =>
    refine withdraw_keepsHosts ?_
    have hl : stagingLease (l - 0x40) = l := by unfold stagingLease; omega
    rwa [hl]
  next => exact State.keepsHosts_refl _

/-- Each listed lease lapses once and no other lease changes; nor do the handshakes, nor what has been sent. -/
theorem lapseLeases_lapse (ls : List Nat) (hd : ls.Nodup) (s : State) :
    let u := ls.foldl State.lapseLease s
    (∀ l, l ∈ ls → (u.lease l).holder = 0 ∧ (u.lease l).epoch = nextEpoch (s.lease l).epoch) ∧
      (∀ l, l ∉ ls → u.lease l = s.lease l) ∧
      u.sess.handshakes = s.sess.handshakes ∧ s.out <:+ u.out := by
  induction ls generalizing s with
  | nil => exact ⟨fun _ h => absurd h List.not_mem_nil, fun _ _ => rfl, rfl, List.suffix_refl _⟩
  | cons a ls ih =>
    obtain ⟨ha, hd⟩ := List.nodup_cons.1 hd
    obtain ⟨f, hf, hone⟩ := lapseLease_modLease s a
    obtain ⟨hin, hnot, hshakes, hout⟩ := ih hd (s.lapseLease a)
    have hself : (s.lapseLease a).lease a = f (s.lease a) := by rw [hone.lease, lease_modLease_self]
    have hother {l : Nat} (h : l ≠ a) : (s.lapseLease a).lease l = s.lease l := by
      rw [hone.lease, lease_modLease_ne s h.symm]
    refine ⟨fun l hl => ?_, fun l hl => ?_, hshakes.trans hone.handshakes, hone.out.trans hout⟩
    · by_cases hla : l = a
      · subst hla
        rw [List.foldl_cons, hnot l ha, hself]
        exact hf _
      · rw [← hother hla]
        exact hin l ((List.mem_cons.1 hl).resolve_left hla)
    · obtain ⟨hla, hls⟩ := not_or.1 (fun h => hl (List.mem_cons.2 h))
      rw [List.foldl_cons, hnot l hls, hother hla]

/-! ### The end of a session (11 R410, R418) -/

theorem alook_filter_ne {α : Type} (l : List (Nat × α)) (n : Nat) : alook (l.filter (fun p => p.1 != n)) n = none := by
  induction l with
  | nil => rfl
  | cons p l ih =>
    by_cases hp : p.1 = n
    · rwa [List.filter_cons_of_neg (by simpa using hp)]
    · rw [List.filter_cons_of_pos (by simpa using hp), alook, if_neg hp, ih]

/-- No apply names a session that has disowned them. -/
theorem disownApplies_applies (s : State) (n : SessionNo) :
    (s.disownApplies n).sess.applies.all (fun a => a.session != n || n == 0) = true := by
  simp only [State.disownApplies, List.all_map, List.all_eq_true, Function.comp_apply]
  intro a _
  split
  next => cases n <;> simp
  next h => simp [h]

/-- `s` with the number of a session free. -/
def State.withoutSession (s : State) (n : SessionNo) : State :=
  { s with sess := { s.sess with sessions := s.sess.sessions.filter (fun p => p.1 != n) } }

theorem session?_withoutSession (s : State) (n : SessionNo) : (s.withoutSession n).session? n = none :=
  alook_filter_ne s.sess.sessions n

theorem withoutSession_keepsHosts (s : State) (n : SessionNo) : s.keepsHosts (s.withoutSession n) :=
  ⟨rfl, rfl, List.suffix_refl _⟩

theorem disownApplies_keepsHosts (s : State) (n : SessionNo) : s.keepsHosts (s.disownApplies n) :=
  ⟨rfl, rfl, List.suffix_refl _⟩

theorem dropRequests_keepsHosts (s : State) (n : SessionNo) : s.keepsHosts (s.dropRequests n) :=
  ⟨rfl, rfl, List.suffix_refl _⟩

/-- The steps of a session's end, in their order (11 R418). -/
theorem endSession_lapsing (s : State) (n : SessionNo) :
    let lapsed := ((s.dropRequests n).leasesOf n).foldl State.lapseLease (s.dropRequests n)
    s.endSession n true = ((lapsed.endImages n).disownApplies n).withoutSession n := rfl

/-- The session is gone, its leases have lapsed; the handshakes stand, and so does what has been sent. -/
theorem endSession_gone (s : State) (n : SessionNo) :
    s.sessionGone (s.endSession n true) n ∧ (s.endSession n true).sess.handshakes = s.sess.handshakes ∧
      s.out <:+ (s.endSession n true).out := by
  have hdrop := dropRequests_keepsHosts s n
  have hmem (l : Nat) (hl : l ∈ leaseNumbers) : l ∈ (s.dropRequests n).leasesOf n ↔ (s.lease l).holder = n := by
    simp [State.leasesOf, hl, hdrop.lease]
  obtain ⟨hin, hnot, hshakes, hout⟩ := lapseLeases_lapse ((s.dropRequests n).leasesOf n)
    (leaseNumbers_nodup.filter _) (s.dropRequests n)
  rw [endSession_lapsing]
  generalize ((s.dropRequests n).leasesOf n).foldl State.lapseLease (s.dropRequests n) = u at hin hnot hshakes hout ⊢
  have hend : u.keepsHosts (((u.endImages n).disownApplies n).withoutSession n) :=
    ((endImages_keepsHosts u n).trans (disownApplies_keepsHosts _ n)).trans (withoutSession_keepsHosts _ n)
  refine ⟨⟨session?_withoutSession _ n, disownApplies_applies _ n, fun l hl => ⟨fun hheld => ?_, fun hother => ?_⟩⟩,
    hend.handshakes.trans (hshakes.trans hdrop.handshakes), (hdrop.out.trans hout).trans hend.out⟩
  · rw [hend.lease, ← hdrop.lease]
    exact hin l ((hmem l hl).2 hheld)
  · rw [hend.lease, ← hdrop.lease]
    exact hnot l (fun h => hother ((hmem l hl).1 h))

/-- A request that is heard is carried out. -/
theorem carries_of_hears {s : State} {q : Req} {ss : Session} (h : s.hears q ss) : s.carries q = true := by
  obtain ⟨hopen, hkept, hflight, hfew⟩ := h
  have hnew : ss.kept.any (fun a => a.rid == q.rid) = false := by
    rw [List.any_eq_false]
    intro a ha
    simpa using List.all_eq_true.1 hkept a ha
  simp [State.carries, hopen, hnew, hflight, hfew]

/-- CLOSE is answered, the connection is closed, and the session ends (11 R418). -/
theorem closeSession_ends {s : State} {q : Req} {ss : Session} (h : s.hears q ss) :
    exec (.closeSession q) s = .next ((((s.noted q).reply q.session { rid := q.rid, code := .ok }).emit
      (.closeNotify ss.conn)).endSession q.session true) := by
  have hserve : s.serve q (fun t _ => { state := t }) = (s.noted q).reply q.session { rid := q.rid, code := .ok } :=
    serve_of_hears h rfl
  simp only [exec_closeSession, execCloseSession, hserve, h.1, carries_of_hears h, if_true]

end Sys2Proof.Machine

open Sys2Proof Sys2Proof.Machine

/-- Settles O52, from what a handshake, a served request and the end of a session each leave. -/
theorem handshakesSessionsAndLapses : Obligations.HandshakesSessionsAndLapses := by
  unfold Obligations.HandshakesSessionsAndLapses
  refine ⟨?hello, ?full, ?complete, ?limit, ?opened, ?refused, ?close, ?ping, ?alert, ?lapse⟩
  case hello =>
    intro s conn p en hserves hshake hopen hfew
    have hroom := Nat.not_le.2 hfew
    refine ⟨⟨_, (clientHello_of_new false p en hserves hshake hopen).trans (if_neg hroom), rfl, ?_⟩,
      ⟨_, (clientHello_of_new true p en hserves hshake hopen).trans (if_neg hroom), rfl, rfl, rfl⟩⟩
    exact senseEn_handshakes s en
  case full =>
    intro s conn p c en hserves hshake hopen hfull
    exact ⟨_, (clientHello_of_new c p en hserves hshake hopen).trans (if_pos hfull), rfl, senseEn_handshakes s en, rfl⟩
  case complete =>
    intro s conn key h c hs hn hc
    refine ⟨_, handshakeComplete_establishes hs hn hc, rfl, ?_, ?_, rfl⟩
    · exact congrArg (Option.bind · Handshake.credential) (shake?_withCredential hs c)
    · simp [State.withCredential, credOf_lt hc]
  case limit =>
    intro s conn h hs hn hold
    simp only [exec_handshakeLimit, execHandshakeLimit, hs, hn, hold, and_self, if_true, State.dropShake]
  case opened =>
    intro s conn role r k name h c n hopen hs hcred hrole hcheck hfree
    simp only [exec_openSession, execOpenSession, hopen, hs, hcred, hrole, hfree, hcheck]
    exact ⟨_, rfl, rfl, shake?_dropShake s conn, rfl⟩
  case refused =>
    intro s conn role k name h c hopen hs hcred hcheck
    exact ⟨_, openSession_refused k name hopen hs hcred hcheck, rfl, shake?_dropShake s conn, rfl⟩
  case close =>
    intro s q ss h _
    obtain ⟨hgone, -, hout⟩ := endSession_gone
      (((s.noted q).reply q.session { rid := q.rid, code := .ok }).emit (.closeNotify ss.conn)) q.session
    refine ⟨_, closeSession_ends h, hgone, hout.mem ?_, hout.mem ?_⟩
    · exact List.mem_cons_self
    · exact List.mem_cons_of_mem _ List.mem_cons_self
  case ping =>
    intro s q ss h
    exact ⟨_, congrArg Host.Outcome.next (serve_of_hears h rfl), rfl, rfl⟩
  case alert =>
    intro s conn n hopen _
    have hsame : (s.dropShake conn).sessionOn conn = some n := hopen
    obtain ⟨hgone, hshakes, -⟩ := endSession_gone (s.dropShake conn) n
    refine ⟨(s.dropShake conn).endSession n true, ?_, hgone, ?_⟩
    · simp only [exec_dtlsFatalAlert, execDtlsFatalAlert, hsame]
    · unfold State.shake?
      rw [hshakes]
      exact shake?_dropShake s conn
  case lapse =>
    intro s n x _ hopen hold
    refine ⟨s.endSession n true, ?_, (endSession_gone s n).1⟩
    simp only [exec_keepaliveLapse, execKeepaliveLapse, hopen, hold, if_true]

end

section
/-!
TAKE of a lease by its holder, and a session to which 0, the mark of a lease that nobody holds, is its number
(11 R416, R431, R432).
-/

namespace Sys2Proof.Machine

theorem exec_leaseTake (q : Req) (l : Fin 256) (s : State) : exec (.leaseTake q l) s = execLeaseTake q l s := rfl

/-- A change of holder always gives another epoch (11 R432). -/
theorem nextEpoch_ne (e : Nat) : nextEpoch e ≠ e := by
  unfold nextEpoch
  split <;> omega

/-- An object that the gate admits is tabled. -/
theorem objRow_isSome_of_admitted {s : State} {q : Req} {ss : Session} {key : Nat} (h : s.admitted q ss key) :
    (objRow key).isSome = true := by
  unfold State.admitted State.gate at h
  cases hrow : objRow key with
  | some r => rfl
  | none =>
    rw [hrow] at h
    split at h
    · exact absurd h (by decide)
    · dsimp only at h
      split at h <;> exact absurd h (by decide)

/-- TAKE by the holder is answered with the epoch, and changes no lease (11 R431). -/
theorem leaseTake_of_holder {s : State} {q : Req} {ss : Session} {l : Fin 256} (h : s.hears q ss)
    (ha : s.admitted q ss (okey (0x1400 + l) 5)) (hmay : mayTake ss.role l = true) (hslot : l.val ≠ 0x40 ∧ l.val ≠ 0x41)
    (hheld : (s.lease l).holder = q.session) :
    exec (.leaseTake q l) s = .next ((s.noted q).reply q.session
      { rid := q.rid, code := .ok, value := some (.num (s.lease l).epoch) }) := by
  obtain ⟨d, hgate⟩ : ∃ d, s.gate q.session ss.role (okey (0x1400 + l) 5) q.epoch = (.ok, d) := ⟨_, Prod.ext ha rfl⟩
  rw [exec_leaseTake, execLeaseTake, State.leaseRequest]
  refine congrArg _ ?_
  rw [serve_of_hears h] <;> simp [gate_noted, hgate, hmay, hslot, hheld]

/-- A MAINTENANCE session of which nothing has been asked. -/
def quietSession : Session :=
  { role := .maintenance, credential := 0, conn := 1, keepAlive := 10, openedAt := 0, lastHeard := 0, clientName := []
    peer := [] }

/-- A SERVICE device with one session, whose number is 0, and no lease held. -/
def sessionNumberedZero : State :=
  { State.reset with
    op := { state := .service, gaffer := .running .a, sources := [] }
    sess := { sessions := [(0, quietSession)] } }

/-- A request of the session numbered 0. -/
def askedByZero : Req := { session := 0, rid := 1, epoch := 0 }

end Sys2Proof.Machine

open Sys2Proof Sys2Proof.Machine

/-- Refutes O54, at its clause of TAKE: the statement speaks of every state and request, and nothing in that clause says that
the session's number is not 0, as the clauses of RELEASE and of a claim do. OPEN gives the numbers 1 to 8 alone, but the open
session of `sessionNumberedZero` has the number 0, which is also the *Holder* of a lease that nobody holds: its TAKE of the
free lease 0 is that of a holder, and is answered OK with the epoch as it was, where the clause has it advance. -/
theorem not_leasesAcknowledgementsAndImages : ¬ Obligations.LeasesAcknowledgementsAndImages := by
  unfold Obligations.LeasesAcknowledgementsAndImages
  rintro ⟨htake, -⟩
  have hears : sessionNumberedZero.hears askedByZero quietSession := by decide
  have hadmitted : sessionNumberedZero.admitted askedByZero quietSession (okey (0x1400 + (0 : Fin 256)) 5) := by decide
  obtain ⟨u, hu, -, -, hepoch, -⟩ := htake _ _ _ 0 hears hadmitted (by decide) (by decide) rfl (by decide)
  obtain rfl := Host.Outcome.next.inj ((leaseTake_of_holder hears hadmitted (by decide) (by decide) rfl).symm.trans hu)
  exact nextEpoch_ne _ hepoch.symm

end

section
/-!
O60: what no command but the end of a programming changes. `copies` is the pair of copies of the fuse bank; for each
operation of the state one lemma says that it keeps them, in the order of the model's chapters, and for each command
that it does. A lemma that unfolding proves is given as `(rfl)`, for a rewrite step and not for the kernel's unfolding.
-/

namespace Sys2Proof.Machine

/-- Both copies of the fuse bank (12 R450). -/
def FuseUnit.copies (u : FuseUnit) : Tab (BitVec 40) × Tab (BitVec 40) := (u.copyA, u.copyB)

/-- A command on `s` leaves both copies of the fuse bank as they stand. -/
def State.keepsCopies (s : State) : Host.Outcome State Fault Refusal → Prop
  | .next u => u.fuse.copies = s.fuse.copies
  | _ => True

@[simp] theorem keepsCopies_next (s u : State) : s.keepsCopies (.next u) ↔ u.fuse.copies = s.fuse.copies := Iff.rfl

/-! ### The shapes that commands are written in -/

@[simp] theorem ite_copies (c : Prop) [Decidable c] (a b : State) :
    (if c then a else b).fuse.copies = if c then a.fuse.copies else b.fuse.copies :=
  apply_ite (fun t : State => t.fuse.copies) c a b

theorem ite_copies_eq {c : Prop} [Decidable c] {a b : State} {x : Tab (BitVec 40) × Tab (BitVec 40)}
    (ha : a.fuse.copies = x) (hb : b.fuse.copies = x) : (if c then a else b).fuse.copies = x := by
  split <;> assumption

@[simp] theorem ite_servedCopies (c : Prop) [Decidable c] (a b : Served) :
    (if c then a else b).state.fuse.copies = if c then a.state.fuse.copies else b.state.fuse.copies :=
  apply_ite (fun t : Served => t.state.fuse.copies) c a b

@[simp] theorem ite_keepsCopies (s : State) (c : Prop) [Decidable c] (a b : Host.Outcome State Fault Refusal) :
    s.keepsCopies (if c then a else b) ↔ if c then s.keepsCopies a else s.keepsCopies b := by
  split <;> rfl

@[simp] theorem foldl_copies {α : Type} {f : State → α → State} (h : ∀ s a, (f s a).fuse.copies = s.fuse.copies)
    (l : List α) (s : State) : (l.foldl f s).fuse.copies = s.fuse.copies :=
  foldl_keeps (g := fun t => t.fuse.copies) h l s

@[simp] theorem foldl_modTile_copies {α : Type} (g : State → α → Nat) (f : State → α → Tile → Tile) (l : List α)
    (s : State) : (l.foldl (fun u a => u.modTile (g u a) (f u a)) s).fuse.copies = s.fuse.copies :=
  foldl_copies (f := fun u a => u.modTile (g u a) (f u a)) (fun _ _ => rfl) l s

@[simp] theorem foldl_modTask_copies {α : Type} (g : State → α → Nat) (f : State → α → Task → Task) (l : List α)
    (s : State) : (l.foldl (fun u a => u.modTask (g u a) (f u a)) s).fuse.copies = s.fuse.copies :=
  foldl_copies (f := fun u a => u.modTask (g u a) (f u a)) (fun _ _ => rfl) l s

@[simp] theorem foldl_modLib_copies {α : Type} (g : State → α → Nat) (f : State → α → LibEntry → LibEntry) (l : List α)
    (s : State) : (l.foldl (fun u a => u.modLib (g u a) (f u a)) s).fuse.copies = s.fuse.copies :=
  foldl_copies (f := fun u a => u.modLib (g u a) (f u a)) (fun _ _ => rfl) l s

@[simp] theorem foldl_modNi_copies {α : Type} (g : State → α → Nat) (f : State → α → Ni → Ni) (l : List α)
    (s : State) : (l.foldl (fun u a => u.modNi (g u a) (f u a)) s).fuse.copies = s.fuse.copies :=
  foldl_copies (f := fun u a => u.modNi (g u a) (f u a)) (fun _ _ => rfl) l s

@[simp] theorem foldl_modImage_copies {α : Type} (g : State → α → Nat) (f : State → α → ImageRec → ImageRec)
    (l : List α) (s : State) : (l.foldl (fun u a => u.modImage (g u a) (f u a)) s).fuse.copies = s.fuse.copies :=
  foldl_copies (f := fun u a => u.modImage (g u a) (f u a)) (fun _ _ => rfl) l s

theorem withOp_fuse (s : State) (x : OpUnit) : ({ s with op := x } : State).fuse = s.fuse := rfl
theorem withEnergy_fuse (s : State) (x : EnergyUnit) : ({ s with energy := x } : State).fuse = s.fuse := rfl
theorem withQuench_fuse (s : State) (x : QuenchUnit) : ({ s with quench := x } : State).fuse = s.fuse := rfl
theorem withIncomplete_copies (s : State) (l : List (Nat × Nat)) :
    ({ s with fuse := { s.fuse with incomplete := l } } : State).fuse.copies = s.fuse.copies := (rfl)

/-! ### The fuse unit: a read, a scan, a RESET and its end show the bank and do not change it (12 R458, R463) -/

@[simp] theorem scanned_copies (u : FuseUnit) (weak : List (Fin 64)) : (u.scanned weak).copies = u.copies := by
  simp only [FuseUnit.scanned, FuseUnit.copies]
@[simp] theorem released_copies (u : FuseUnit) (weak : List (Fin 64)) : (u.released weak).copies = u.copies := by
  rw [← scanned_copies u weak]
  simp only [FuseUnit.released, FuseUnit.copies]
@[simp] theorem kept_copies (u : FuseUnit) : u.kept.copies = u.copies := (rfl)

/-! ### The answer to a host's request (11 R419) -/

@[simp] theorem refuse_state (s : State) (c : Abort) (d : Nat) : (refuse s c d).state = s := rfl
@[simp] theorem reply_fuse (s : State) (n : SessionNo) (a : Answer) : (s.reply n a).fuse = s.fuse := rfl

@[simp] theorem serve_copies {s : State} {q : Req} {run : State → Session → Served}
    (h : ∀ t ss, (run t ss).state.fuse.copies = t.fuse.copies) : (s.serve q run).fuse.copies = s.fuse.copies := by
  unfold State.serve
  split
  · rfl
  dsimp only
  split
  · rfl
  refine ite_copies_eq rfl (ite_copies_eq rfl (ite_copies_eq ?_ ?_))
  · exact h _ _
  · exact h _ _

@[simp] theorem serveWrite_copies {s : State} {q : Req} {key : Nat} {check : State → Session → Abort × Nat}
    {effect : State → Session → Served} (h : ∀ t ss, (effect t ss).state.fuse.copies = t.fuse.copies) :
    (s.serveWrite q key check effect).fuse.copies = s.fuse.copies := by
  refine serve_copies fun t ss => ?_
  split
  · split
    · split
      · rfl
      · exact h t ss
    · rfl
  · rfl

@[simp] theorem serveBytes_copies {s : State} {q : Req} {key : Nat} {b : List Nat}
    {check : State → Session → Val → Abort × Nat} {effect : State → Session → Val → Served}
    (h : ∀ t ss v, (effect t ss v).state.fuse.copies = t.fuse.copies) :
    (s.serveBytes q key b check effect).fuse.copies = s.fuse.copies := by
  unfold State.serveBytes
  split
  · exact serve_copies fun _ _ => rfl
  · exact serveWrite_copies fun t ss => h t ss _

/-! ### Ops -/

@[simp] theorem takeFree_copies (s : State) : s.takeFree.2.fuse.copies = s.fuse.copies := (rfl)
@[simp] theorem tick_copies (s : State) : s.tick.fuse.copies = s.fuse.copies := (rfl)

@[simp] theorem record_copies (s : State) (area : AreaName) (cls : LogClass) (source code : Nat) (detail : List Nat)
    (session : Nat) : (s.record area cls source code detail session).fuse.copies = s.fuse.copies := by
  rw [(record_logsOver s area cls source code detail session).1]

@[simp] theorem alarm_copies (s : State) (cls : LogClass) (code idx : Nat) (detail : List Nat) :
    (s.alarm cls code idx detail).fuse.copies = s.fuse.copies := by
  rw [(alarm_logsOver s cls code idx detail).1]

@[simp] theorem clearAlarm_copies (s : State) (code idx : Nat) :
    (s.clearAlarm code idx).fuse.copies = s.fuse.copies := (rfl)
@[simp] theorem checkpoint_copies (s : State) : s.checkpoint.fuse.copies = s.fuse.copies := by simp [State.checkpoint]
@[simp] theorem commit_copies (s : State) (b : JBody) : (s.commit b).fuse.copies = s.fuse.copies := by
  rw [commit_rest]

/-! ### AngleOps -/

@[simp] theorem angleLost_copies (s : State) (c : Nat) (r : AngReason) :
    (s.angleLost c r).fuse.copies = s.fuse.copies := by simp [State.angleLost]
@[simp] theorem illegalTransition_copies (s : State) (c : Nat) (t : T80) :
    (s.illegalTransition c t).fuse.copies = s.fuse.copies := by simp [State.illegalTransition]
@[simp] theorem encoderEdge_copies (s : State) (c : Nat) (sig : EncSignal) (level : Bool) (t : T80) :
    (s.encoderEdge c sig level t).fuse.copies = s.fuse.copies := by simp [State.encoderEdge]
@[simp] theorem zEdge_copies (s : State) (c : Nat) (t : T80) :
    (s.zEdge c t).fuse.copies = s.fuse.copies := by simp [State.zEdge]
@[simp] theorem gridInstant_copies (s : State) (c : Nat) (ph amp : Nat) :
    (s.gridInstant c ph amp).fuse.copies = s.fuse.copies := by simp [State.gridInstant]

/-! ### NiOps -/

@[simp] theorem takeTag_copies (s : State) (n k epo : Nat) (waiting : List (Nat × Nat)) (use : TagUse) :
    (s.takeTag n k epo waiting use).fuse.copies = s.fuse.copies := by simp [State.takeTag]
@[simp] theorem sendStage_copies (s : State) (n : Nat) (members : List Nat) (use : TagUse) (msg : StagedMsg)
    (hold ofs : Nat) (onCommit : Bool) :
    (s.sendStage n members use msg hold ofs onCommit).2.fuse.copies = s.fuse.copies := by
  rw [sendStage_rest]

@[simp] theorem sendDecision_copies (s : State) (n tag zone : Nat) (members : List Nat) (commit : Bool) :
    (s.sendDecision n tag zone members commit).fuse.copies = s.fuse.copies := by
  rw [sendDecision_rest]

@[simp] theorem freeTagOf_copies (s : State) (n k : Nat) : (s.freeTagOf n k).fuse.copies = s.fuse.copies := (rfl)
@[simp] theorem unstage_copies (s : State) (n : Nat) (p : StagedEntry → Bool) :
    (s.unstage n p).fuse.copies = s.fuse.copies := (rfl)

/-! ### TileOps -/

@[simp] theorem writeSpace_copies (s : State) (t : Nat) (sp : DataSpace) (n v : Nat) :
    (s.writeSpace t sp n v).fuse.copies = s.fuse.copies := by
  unfold State.writeSpace
  split <;> simp

@[simp] theorem writeSpillHeader_copies (s : State) (t cause : Nat) :
    (s.writeSpillHeader t cause).fuse.copies = s.fuse.copies := (rfl)
@[simp] theorem toComparator_copies (s : State) (t p : Nat) (v : Word) :
    (s.toComparator t p v).fuse.copies = s.fuse.copies := by
  unfold State.toComparator
  split <;> simp

@[simp] theorem arrive_copies (s : State) (u q : Nat) (v : Word) : (s.arrive u q v).fuse.copies = s.fuse.copies := by
  unfold State.arrive
  dsimp only
  (repeat' split) <;> simp

@[simp] theorem sendLane_copies (s : State) (t p : Nat) (v : Word) :
    (s.sendLane t p v).fuse.copies = s.fuse.copies := by
  unfold State.sendLane
  split <;> simp

@[simp] theorem leave_copies (s : State) (t p : Nat) (v : Word) :
    (s.leave t p v).fuse.copies = s.fuse.copies := by simp [State.leave]
@[simp] theorem passOne_copies (s : State) (t q : Nat) : (s.passOne t q).fuse.copies = s.fuse.copies := by
  unfold State.passOne
  split <;> simp

@[simp] theorem pinToLane_copies (s : State) (t : Nat) : (s.pinToLane t).fuse.copies = s.fuse.copies := by
  unfold State.pinToLane
  split <;> simp

@[simp] theorem settle_copies (n : Nat) (l : List Nat) (s : State) : (settle n l s).fuse.copies = s.fuse.copies := by
  fun_induction settle n l s with
  | case1 => rfl
  | case2 => rfl
  | case3 n t w s q _ ih => rw [ih, passOne_copies]
  | case4 n t w s _ _ ih => rw [ih, pinToLane_copies]
  | case5 n t w s _ _ ih => exact ih

@[simp] theorem settleAt_copies (s : State) (t : Nat) :
    (s.settleAt t).fuse.copies = s.fuse.copies := by simp [State.settleAt]
@[simp] theorem stopTile_copies (s : State) (t : Nat) (r : CtxReason) :
    (s.stopTile t r).fuse.copies = s.fuse.copies := by simp [State.stopTile]

/-! ### TaskOps -/

@[simp] theorem stageStart_copies (s : State) (n : Nat) :
    (s.stageStart n).fuse.copies = s.fuse.copies := by simp [State.stageStart]
@[simp] theorem decideStart_copies (s : State) (n : Nat) (commit : Bool) :
    (s.decideStart n commit).fuse.copies = s.fuse.copies := by
  unfold State.decideStart
  dsimp only
  split <;> simp

@[simp] theorem becomeReady_copies (s : State) (n : Nat) :
    (s.becomeReady n).fuse.copies = s.fuse.copies := by simp [State.becomeReady]
@[simp] theorem fireTrigger_copies (s : State) (n : Nat) :
    (s.fireTrigger n).fuse.copies = s.fuse.copies := by simp [State.fireTrigger]
@[simp] theorem armTask_copies (s : State) (n : Nat) :
    (s.armTask n).fuse.copies = s.fuse.copies := by simp [State.armTask]
@[simp] theorem fireChain_copies (s : State) (n : Nat) :
    (s.fireChain n).fuse.copies = s.fuse.copies := by simp [State.fireChain]

theorem pushQueue_copies {s u : State} {n : Nat} {words : List Nat} (h : s.pushQueue n words = some u) :
    u.fuse.copies = s.fuse.copies := by
  unfold State.pushQueue at h
  dsimp only at h
  split at h
  · cases h
  · split at h <;> cases h <;> simp

@[simp] theorem stopTiles_copies (s : State) (ts : List Nat) (r : CtxReason) (peer : Bool) :
    (s.stopTiles ts r peer).fuse.copies = s.fuse.copies := by simp [State.stopTiles]
@[simp] theorem stopTask_copies (s : State) (n : Nat) (cs : List Nat) (r : TaskReason) (q : CtxReason) :
    (s.stopTask n cs r q).fuse.copies = s.fuse.copies := by simp [State.stopTask]
@[simp] theorem faultTask_copies (s : State) (n : Nat) (cause tile : Nat) :
    (s.faultTask n cause tile).fuse.copies = s.fuse.copies := (rfl)
@[simp] theorem cancelPre_copies (s : State) (n : Nat) :
    (s.cancelPre n).fuse.copies = s.fuse.copies := by simp [State.cancelPre]
@[simp] theorem drainTask_copies (s : State) (n : Nat) (at_ : Nat) :
    (s.drainTask n at_).fuse.copies = s.fuse.copies := (rfl)
@[simp] theorem quenchTask_copies (s : State) (n : Nat) :
    (s.quenchTask n).fuse.copies = s.fuse.copies := by simp [State.quenchTask]
@[simp] theorem freedTiles_copies (s : State) (l : List Nat) :
    (l.foldl (fun u t => (u.stopTile t .quench).modTile t (fun x => { x with owner := none })) s).fuse.copies =
      s.fuse.copies :=
  foldl_copies (fun u t => by simp) l s

@[simp] theorem quenchStop_copies (s : State) : s.quenchStop.fuse.copies = s.fuse.copies := by
  rw [State.quenchStop, withQuench_fuse, foldl_copies quenchTask_copies, freedTiles_copies]

@[simp] theorem recordTileFault_copies (s : State) (t : Nat) (c : TileCause) :
    (s.recordTileFault t c).fuse.copies = s.fuse.copies := by simp [State.recordTileFault]
@[simp] theorem taskFault_copies (s : State) (n t : Nat) (c : TileCause) :
    (s.taskFault n t c).fuse.copies = s.fuse.copies := by simp [State.taskFault]
@[simp] theorem tileFault_copies (s : State) (t : Nat) (c : TileCause) :
    (s.tileFault t c).fuse.copies = s.fuse.copies := by
  unfold State.tileFault
  dsimp only
  split <;> simp

@[simp] theorem taskEnd_copies (s : State) (n : Nat) : (s.taskEnd n).fuse.copies = s.fuse.copies := by
  unfold State.taskEnd
  dsimp only
  rw [fireChain_copies]
  split
  · split <;> simp
  · simp

@[simp] theorem tileEnded_copies (s : State) (t : Nat) : (s.tileEnded t).fuse.copies = s.fuse.copies := by
  unfold State.tileEnded
  split <;> simp

@[simp] theorem switchTile_copies (s : State) (t k : Nat) (r : CtxReason) :
    (s.switchTile t k r).fuse.copies = s.fuse.copies := by simp [State.switchTile]
@[simp] theorem startTask_copies (s : State) (n : Nat) : (s.startTask n).fuse.copies = s.fuse.copies := by
  simp [State.startTask]

@[simp] theorem startFail_copies (s : State) (n : Nat) (code c : Nat) :
    (s.startFail n code c).fuse.copies = s.fuse.copies := by simp [State.startFail]

/-! ### RingOps -/

@[simp] theorem sendFrame_copies (s : State) (r : Nat) (e : RingEnd) (dst : Nat) (body : FrameBody) (echo : Bool) :
    (s.sendFrame r e dst body echo).fuse.copies = s.fuse.copies := by simp [State.sendFrame]
@[simp] theorem sendTo_copies (s : State) (r p : Nat) (body : FrameBody) (echo : Bool) :
    (s.sendTo r p body echo).fuse.copies = s.fuse.copies := (rfl)
@[simp] theorem sendAll_copies (s : State) (r : Nat) (body : FrameBody) :
    (s.sendAll r body).fuse.copies = s.fuse.copies := by simp [State.sendAll]
@[simp] theorem noiseWide_copies (s : State) (m : Nat) :
    (s.noiseWide m).fuse.copies = s.fuse.copies := by simp [State.noiseWide]
@[simp] theorem ringError_copies (s : State) (m : Nat) :
    (s.ringError m).fuse.copies = s.fuse.copies := by simp [State.ringError]
@[simp] theorem badFrame_copies (s : State) (r : Nat) :
    (s.badFrame r).fuse.copies = s.fuse.copies := by simp [State.badFrame]
@[simp] theorem mainsEdge_copies (s : State) (m : Nat) (t : T64) :
    (s.mainsEdge m t).fuse.copies = s.fuse.copies := by simp [State.mainsEdge]
@[simp] theorem mainsEdges_copies (s : State) (y : Nat) (t : T64) :
    (s.mainsEdges y t).fuse.copies = s.fuse.copies := by simp [State.mainsEdges]

/-! ### EventOps -/

@[simp] theorem pushToken_copies (s : State) (r task : Nat) (c : Completion) (t : TokenOf) (word1 : Nat) :
    (s.pushToken r task c t word1).fuse.copies = s.fuse.copies := by
  unfold State.pushToken
  split
  next h => exact pushQueue_copies h
  next => rfl

@[simp] theorem refuseRecord_copies (s : State) (r : Nat) (c : Completion) (task : Nat) (t : TokenOf) :
    (s.refuseRecord r c task t).fuse.copies = s.fuse.copies := by simp [State.refuseRecord]
@[simp] theorem modEvent_copies (s : State) (r uid : Nat) (f : QEvent → QEvent) :
    (s.modEvent r uid f).fuse.copies = s.fuse.copies := (rfl)
@[simp] theorem dropEvent_copies (s : State) (r : Nat) (e : QEvent) :
    (s.dropEvent r e).fuse.copies = s.fuse.copies := by simp [State.dropEvent]
@[simp] theorem complete_copies (s : State) (r : Nat) (e : QEvent) (c : Completion) (word1 : Nat) :
    (s.complete r e c word1).fuse.copies = s.fuse.copies := by simp [State.complete]
@[simp] theorem modGroup_copies (s : State) (r g : Nat) (f : Group → Group) :
    (s.modGroup r g f).fuse.copies = s.fuse.copies := (rfl)
@[simp] theorem endGroup_copies (s : State) (r g : Nat) (mask : Nat) :
    (s.endGroup r g mask).fuse.copies = s.fuse.copies := by
  unfold State.endGroup
  split <;> simp

@[simp] theorem failGroup_copies (s : State) (r g : Nat) : (s.failGroup r g).fuse.copies = s.fuse.copies := by
  unfold State.failGroup
  split <;> simp

@[simp] theorem finishBest_copies (s : State) (r g : Nat) : (s.finishBest r g).fuse.copies = s.fuse.copies := by
  unfold State.finishBest
  dsimp only
  split <;> simp

@[simp] theorem completeMember_copies (s : State) (r : Nat) (e : QEvent) (c : Completion) (word1 : Nat) :
    (s.completeMember r e c word1).fuse.copies = s.fuse.copies := by
  unfold State.completeMember
  split <;> simp

@[simp] theorem evqAlarm_copies (s : State) (r : Nat) :
    (s.evqAlarm r).fuse.copies = s.fuse.copies := by simp [State.evqAlarm]
@[simp] theorem takeEvent_copies (s : State) (r zone : Nat) (w k : BitVec 64) :
    (s.takeEvent r zone w k).fuse.copies = s.fuse.copies := by simp [State.takeEvent]
@[simp] theorem takeOpen_copies (s : State) (r zone entry : Nat) (w k : BitVec 64) :
    (s.takeOpen r zone entry w k).fuse.copies = s.fuse.copies := by simp [State.takeOpen]
@[simp] theorem takeMember_copies (s : State) (r zone entry : Nat) (w k : BitVec 64) :
    (s.takeMember r zone entry w k).fuse.copies = s.fuse.copies := by
  unfold State.takeMember
  dsimp only
  (repeat' split) <;> simp

@[simp] theorem takeRecord_copies (s : State) (r zone entry : Nat) (w k : BitVec 64) :
    (s.takeRecord r zone entry w k).fuse.copies = s.fuse.copies := by
  unfold State.takeRecord
  split <;> simp

@[simp] theorem takePacket_copies (s : State) (r zone entry : Nat) (recs : List (BitVec 64 × BitVec 64)) :
    (s.takePacket r zone entry recs).2.fuse.copies = s.fuse.copies := by
  unfold State.takePacket
  dsimp only
  split <;> simp

@[simp] theorem sendOne_copies (s : State) (r : Nat) (e : QEvent) : (s.sendOne r e).fuse.copies = s.fuse.copies := by
  unfold State.sendOne
  split <;> simp

@[simp] theorem sendEvents_copies (s : State) (r p : Nat) :
    (s.sendEvents r p).fuse.copies = s.fuse.copies := by simp [State.sendEvents]
@[simp] theorem echoOne_copies (s : State) (r : Nat) (e : QEvent) : (s.echoOne r e).fuse.copies = s.fuse.copies := by
  unfold State.echoOne
  split <;> simp

@[simp] theorem echoEvents_copies (s : State) (r p : Nat) :
    (s.echoEvents r p).fuse.copies = s.fuse.copies := by simp [State.echoEvents]
@[simp] theorem sendTrim_copies (s : State) (r : Nat) (e : QEvent) (w : T80) :
    (s.sendTrim r e w).fuse.copies = s.fuse.copies := by simp [State.sendTrim]
@[simp] theorem withdrawEvent_copies (s : State) (r : Nat) (back : Bool) (e : QEvent) :
    (s.withdrawEvent r back e).fuse.copies = s.fuse.copies := by simp [State.withdrawEvent]
@[simp] theorem suspendRing_copies (s : State) (c r : Nat) :
    (s.suspendRing c r).fuse.copies = s.fuse.copies := by simp [State.suspendRing]
@[simp] theorem angleEvents_copies (s : State) (c : Nat) :
    (s.angleEvents c).fuse.copies = s.fuse.copies := by simp [State.angleEvents]
@[simp] theorem stageMembers_copies (s : State) (r : Nat) (ms : List (QEvent × T80)) :
    (s.stageMembers r ms).fuse.copies = s.fuse.copies := by simp [State.stageMembers]
@[simp] theorem sendGroup_copies (s : State) (r g : Nat) (x : Group) :
    (s.sendGroup r g x).fuse.copies = s.fuse.copies := by
  unfold State.sendGroup
  dsimp only
  (repeat' split) <;> simp

@[simp] theorem decideGroup_copies (s : State) (r g : Nat) (x : Group) :
    (s.decideGroup r g x).fuse.copies = s.fuse.copies := by simp [State.decideGroup]
@[simp] theorem closeGroup_copies (s : State) (r g : Nat) (x : Group) :
    (s.closeGroup r g x).fuse.copies = s.fuse.copies := by simp [State.closeGroup]
@[simp] theorem emptyQueue_copies (s : State) (r : Nat) :
    (s.emptyQueue r).fuse.copies = s.fuse.copies := by simp [State.emptyQueue]

/-! ### Angle -/

@[simp] theorem onChannel_copies (s : State) (c : Nat) (f : State → State) (hf : ∀ t,
    (f t).fuse.copies = t.fuse.copies) :
    (s.onChannel c f).fuse.copies = s.fuse.copies := by
  unfold State.onChannel
  (repeat' split) <;> simp [*]

@[simp] theorem execEncoderEdge_copies (c : Fin 2) (b level : Bool) (sub : Fin 32) (s : State) :
    s.keepsCopies (execEncoderEdge c b level sub s) := by simp [execEncoderEdge]
@[simp] theorem execZEdge_copies (c : Fin 2) (sub : Fin 32) (s : State) :
    s.keepsCopies (execZEdge c sub s) := by simp [execZEdge]
@[simp] theorem execAngleGridUpdate_copies (c : Fin 2) (ph : Fin 65536) (amp : Nat) (s : State) :
    s.keepsCopies (execAngleGridUpdate c ph amp s) := by simp [execAngleGridUpdate]
@[simp] theorem execSignalLoss_copies (c : Fin 2) (s : State) :
    s.keepsCopies (execSignalLoss c s) := by simp [execSignalLoss]
@[simp] theorem execStopTimeExpiry_copies (c : Fin 2) (s : State) : s.keepsCopies (execStopTimeExpiry c s) := by
  unfold execStopTimeExpiry
  rw [keepsCopies_next]
  dsimp only
  split
  · exact onChannel_copies s c _ fun _ => rfl
  · rfl

@[simp] theorem execAngleFaultAck_copies (q : Req) (b : List Nat) (s : State) :
    s.keepsCopies (execAngleFaultAck q b s) := by simp [execAngleFaultAck]
@[simp] theorem markFixed_copies (s : State) (e : T64) :
    (s.markFixed e).fuse.copies = s.fuse.copies := by simp [State.markFixed]
@[simp] theorem execCourseMarkFix_copies (s : State) : s.keepsCopies (execCourseMarkFix s) := by
  unfold execCourseMarkFix
  rw [keepsCopies_next]
  refine ite_copies_eq rfl ?_
  extract_lets _ s1 _ s2 _
  have h2 : s2.fuse.copies = s.fuse.copies := by
    have h1 : s1.fuse.copies = s.fuse.copies := by
      dsimp only [s1]
      split
      · exact ite_copies_eq rfl rfl
      · rfl
    exact h1
  refine ite_copies_eq ?_ h2
  split
  · exact (markFixed_copies ..).trans h2
  · exact h2

@[simp] theorem fireCourse_copies (s : State) (c : Nat) :
    (s.fireCourse c).fuse.copies = s.fuse.copies := by simp [State.fireCourse]
@[simp] theorem execCourseMark_copies (s : State) : s.keepsCopies (execCourseMark s) := by
  unfold execCourseMark
  split <;> simp

@[simp] theorem execFiringResidual_copies (r : Fin 16) (uid : Nat) (s : State) :
    s.keepsCopies (execFiringResidual r uid s) := by
  unfold execFiringResidual
  (repeat' split) <;> simp

/-! ### LinkOps -/

@[simp] theorem sendDeferrable_copies (s : State) (r : Nat) (b : Bool) (dst : Nat) (body : FrameBody) :
    (s.sendDeferrable r b dst body).fuse.copies = s.fuse.copies := by simp [State.sendDeferrable]
@[simp] theorem sendSlow_copies (s : State) (r p : Nat) (body : FrameBody) :
    (s.sendSlow r p body).fuse.copies = s.fuse.copies := by simp [State.sendSlow]
@[simp] theorem sendPair_copies (s : State) (r : Nat) (b : Bool) (t : T64) :
    (s.sendPair r b t).fuse.copies = s.fuse.copies := by simp [State.sendPair]
@[simp] theorem sendCount_copies (s : State) (r : Nat) (b : Bool) :
    (s.sendCount r b).fuse.copies = s.fuse.copies := by simp [State.sendCount]
@[simp] theorem sendDescribe_copies (s : State) (r : Nat) :
    (s.sendDescribe r).fuse.copies = s.fuse.copies := by simp [State.sendDescribe]
@[simp] theorem sendMgmt_copies (s : State) (r p addr v : Nat) :
    (s.sendMgmt r p addr v).fuse.copies = s.fuse.copies := by simp [State.sendMgmt]
@[simp] theorem headSettings_copies (s : State) (r p : Nat) :
    (s.headSettings r p).fuse.copies = s.fuse.copies := by simp [State.headSettings]
@[simp] theorem beginCal_copies (s : State) (r : Nat) :
    (s.beginCal r).fuse.copies = s.fuse.copies := by simp [State.beginCal]
@[simp] theorem sendSet_copies (s : State) (r k : Nat) (d : Nat × Nat) :
    (s.sendSet r k d).fuse.copies = s.fuse.copies := by simp [State.sendSet]
@[simp] theorem closeRing_copies (s : State) (r : Nat) :
    (s.closeRing r).fuse.copies = s.fuse.copies := by simp [State.closeRing]
@[simp] theorem tryClose_copies (s : State) (r : Nat) :
    (s.tryClose r).fuse.copies = s.fuse.copies := by simp [State.tryClose]
@[simp] theorem finishWhole_copies (s : State) (r : Nat) :
    (s.finishWhole r).fuse.copies = s.fuse.copies := by simp [State.finishWhole]
@[simp] theorem finishCal_copies (s : State) (r : Nat) :
    (s.finishCal r).fuse.copies = s.fuse.copies := by simp [State.finishCal]
@[simp] theorem measured_copies (s : State) (r : Nat) (f : Ring → Ring) :
    (s.measured r f).fuse.copies = s.fuse.copies := by simp [State.measured]
@[simp] theorem ringOff_copies (s : State) (r : Nat) :
    (s.ringOff r).fuse.copies = s.fuse.copies := by simp [State.ringOff]
@[simp] theorem startTraining_copies (s : State) (r : Nat) :
    (s.startTraining r).fuse.copies = s.fuse.copies := by simp [State.startTraining]
@[simp] theorem ringEnabled_copies (s : State) (r : Nat) (on : Bool) :
    (s.ringEnabled r on).fuse.copies = s.fuse.copies := by simp [State.ringEnabled]
@[simp] theorem ringFault_copies (s : State) (r cause : Nat) :
    (s.ringFault r cause).fuse.copies = s.fuse.copies := (rfl)
@[simp] theorem countBoth_copies (s : State) (r : Nat) :
    (s.countBoth r).fuse.copies = s.fuse.copies := by simp [State.countBoth]
@[simp] theorem enterWrap_copies (s : State) (r : Nat) :
    (s.enterWrap r).fuse.copies = s.fuse.copies := by simp [State.enterWrap]
@[simp] theorem ringBreak_copies (s : State) (r : Nat) (side : BreakSide) :
    (s.ringBreak r side).fuse.copies = s.fuse.copies := by
  unfold State.ringBreak
  dsimp only
  split <;> simp

@[simp] theorem heal_copies (s : State) (r : Nat) : (s.heal r).fuse.copies = s.fuse.copies := by simp [State.heal]
@[simp] theorem sideUp_copies (s : State) (r : Nat) (side : BreakSide) :
    (s.sideUp r side).fuse.copies = s.fuse.copies := by simp [State.sideUp]
@[simp] theorem segmentsKnown_copies (s : State) (r : Nat) :
    (s.segmentsKnown r).fuse.copies = s.fuse.copies := by simp [State.segmentsKnown]
@[simp] theorem learnSegments_copies (s : State) (r : Nat) : (s.learnSegments r).fuse.copies = s.fuse.copies := by
  unfold State.learnSegments
  dsimp only
  split <;> simp

@[simp] theorem countTurned_copies (s : State) (r : Nat) (b : Bool) (n : Nat) :
    (s.countTurned r b n).fuse.copies = s.fuse.copies := by
  unfold State.countTurned
  dsimp only
  split <;> simp

@[simp] theorem countWhole_copies (s : State) (r n : Nat) : (s.countWhole r n).fuse.copies = s.fuse.copies := by
  unfold State.countWhole
  split <;> simp

@[simp] theorem rekey_copies (s : State) (r : Nat) : (s.rekey r).fuse.copies = s.fuse.copies := by simp [State.rekey]
@[simp] theorem enumerated_copies (s : State) (r : Nat) :
    (s.enumerated r).fuse.copies = s.fuse.copies := by simp [State.enumerated]
@[simp] theorem descArrives_copies (s : State) (r p : Nat) (prov : Bool) (d : HeadDesc) :
    (s.descArrives r p prov d).fuse.copies = s.fuse.copies := by
  unfold State.descArrives
  dsimp only
  (repeat' split) <;> simp

@[simp] theorem reportArrives_copies (s : State) (r p a b : Nat) :
    (s.reportArrives r p a b).fuse.copies = s.fuse.copies := by simp [State.reportArrives]

/-! ### HeadOps -/

@[simp] theorem headSends_copies (s : State) (r p : Nat) (body : FrameBody) :
    (s.headSends r p body).fuse.copies = s.fuse.copies := by simp [State.headSends]
@[simp] theorem headFrame_copies (s : State) (r p dst : Nat) (good : Bool) (run : State → State) (hrun : ∀ t,
    (run t).fuse.copies = t.fuse.copies) :
    (s.headFrame r p dst good run).fuse.copies = s.fuse.copies := by
  unfold State.headFrame
  (repeat' split) <;> simp [*]

/-! ### Link -/

@[simp] theorem execRingEnable_copies (r : Fin 16) (on : Bool) (s : State) :
    s.keepsCopies (execRingEnable r on s) := by simp [execRingEnable]
@[simp] theorem execTrainingTimeout_copies (r : Fin 16) (s : State) :
    s.keepsCopies (execTrainingTimeout r s) := by simp [execTrainingTimeout]
@[simp] theorem execTmarkSend_copies (r : Fin 16) (s : State) :
    s.keepsCopies (execTmarkSend r s) := by simp [execTmarkSend]
@[simp] theorem execTmark_copies (r : Fin 16) (p : Fin 65) (portD : Bool) (s : State) :
    s.keepsCopies (execTmark r p portD s) := by simp [execTmark]
@[simp] theorem execTimeFrame_copies (r : Fin 16) (p : Fin 65) (b good : Bool) (ttx epoch : Nat) (s : State) :
    s.keepsCopies (execTimeFrame r p b good ttx epoch s) := headFrame_copies _ _ _ _ _ _ fun _ => rfl

@[simp] theorem execCmark_copies (r : Fin 16) (at_ : CmarkAt) (s : State) : s.keepsCopies (execCmark r at_ s) := by
  unfold execCmark
  dsimp only
  (repeat' split) <;> simp

@[simp] theorem execAbt_copies (r : Fin 16) (p : Fin 65) (s : State) :
    s.keepsCopies (execAbt r p s) := by simp [execAbt]
@[simp] theorem execCodeViolation_copies (r : Fin 16) (p : Fin 65) (s : State) :
    s.keepsCopies (execCodeViolation r p s) := by simp [execCodeViolation]
@[simp] theorem execPortDownDetect_copies (r : Fin 16) (p : Fin 65) (portD : Bool) (s : State) :
    s.keepsCopies (execPortDownDetect r p portD s) := by simp [execPortDownDetect]
@[simp] theorem execPortUpDetect_copies (r : Fin 16) (p : Fin 65) (portD : Bool) (s : State) :
    s.keepsCopies (execPortUpDetect r p portD s) := by simp [execPortUpDetect]
@[simp] theorem execEnumCount_copies (r : Fin 16) (b good : Bool) (at_ : CountAt) (hops base : Fin 256) (s : State) :
    s.keepsCopies (execEnumCount r b good at_ hops base s) := by
  cases at_ with
  | head p => exact headFrame_copies _ _ _ _ _ _ fun _ => rfl
  | device whole => simp [execEnumCount]

@[simp] theorem execEnumDescribe_copies (r : Fin 16) (p : Fin 65) (good : Bool) (s : State) :
    s.keepsCopies (execEnumDescribe r p good s) := by simp [execEnumDescribe]
@[simp] theorem execEnumClose_copies (r : Fin 16) (p : Fin 65) (good : Bool) (s : State) :
    s.keepsCopies (execEnumClose r p good s) := headFrame_copies _ _ _ _ _ _ fun _ => rfl

@[simp] theorem execEnumDesc_copies (r : Fin 16) (p : Fin 65) (prov good : Bool) (d : HeadDesc) (s : State) :
    s.keepsCopies (execEnumDesc r p prov good d s) := by simp [execEnumDesc]
@[simp] theorem execEnumPortDown_copies (r : Fin 16) (p : Fin 65) (portD good : Bool) (s : State) :
    s.keepsCopies (execEnumPortDown r p portD good s) := by simp [execEnumPortDown]
@[simp] theorem execEnumPortUp_copies (r : Fin 16) (p : Fin 65) (portD good : Bool) (s : State) :
    s.keepsCopies (execEnumPortUp r p portD good s) := by simp [execEnumPortUp]
@[simp] theorem execCalArmU_copies (r : Fin 16) (p : Fin 65) (dst : Fin 256) (good : Bool) (s : State) :
    s.keepsCopies (execCalArmU r p dst good s) := headFrame_copies _ _ _ _ _ _ fun _ => rfl

@[simp] theorem execCalArmD_copies (r : Fin 16) (p : Fin 65) (dst : Fin 256) (good : Bool) (s : State) :
    s.keepsCopies (execCalArmD r p dst good s) := headFrame_copies _ _ _ _ _ _ fun _ => rfl

@[simp] theorem execCalSet_copies (r : Fin 16) (p : Fin 65) (dst : Fin 256) (good : Bool) (a b : Fin 4294967296)
    (s : State) :
    s.keepsCopies (execCalSet r p dst good a b s) := by simp [execCalSet]
@[simp] theorem execCalReport_copies (r : Fin 16) (p : Fin 65) (good : Bool) (a b : Fin 4294967296) (s : State) :
    s.keepsCopies (execCalReport r p good a b s) := by simp [execCalReport]
@[simp] theorem execCalibrationCycle_copies (r : Fin 16) (s : State) :
    s.keepsCopies (execCalibrationCycle r s) := by simp [execCalibrationCycle]
@[simp] theorem execUnknownFrame_copies (r : Fin 16) (p : Fin 65) (s : State) :
    s.keepsCopies (execUnknownFrame r p s) := (rfl)
@[simp] theorem execSafeFrameGenerate_copies (r : Fin 16) (s : State) :
    s.keepsCopies (execSafeFrameGenerate r s) := by simp [execSafeFrameGenerate]
@[simp] theorem execSafeFrame_copies (r : Fin 16) (p : Fin 65) (good : Bool) (f : SafeFields) (s : State) :
    s.keepsCopies (execSafeFrame r p good f s) := headFrame_copies _ _ _ _ _ _ fun _ => rfl

@[simp] theorem execHistDecay_copies (m : Fin 4) (s : State) :
    s.keepsCopies (execHistDecay m s) := by simp [execHistDecay]
@[simp] theorem execMainsPhaseUpdate_copies (m : Fin 4) (s : State) :
    s.keepsCopies (execMainsPhaseUpdate m s) := by simp [execMainsPhaseUpdate]
@[simp] theorem execDeferredFrameSend_copies (m : Fin 4) (s : State) : s.keepsCopies (execDeferredFrameSend m s) := by
  unfold execDeferredFrameSend
  split <;> simp

@[simp] theorem execRingEndDown_copies (r : Fin 16) (b : Bool) (s : State) :
    s.keepsCopies (execRingEndDown r b s) := by simp [execRingEndDown]
@[simp] theorem execTmarkLoss_copies (r : Fin 16) (s : State) :
    s.keepsCopies (execTmarkLoss r s) := by simp [execTmarkLoss]

/-! ### FuseOps -/

@[simp] theorem senseFuse_copies (s : State) (e : FuseEnv) : (s.senseFuse e).fuse.copies = s.fuse.copies := (rfl)
@[simp] theorem fuseDone_copies (s : State) (a : Nat) (r : FuseOutcome) (pulses : Nat) :
    (s.fuseDone a r pulses).fuse.copies = s.fuse.copies := by
  have done : ((State.commit { s with fuse := { s.fuse.finish r with
      last := (a, r.code, pulses, s.fuse.failA.toNat, s.fuse.failB.toNat) } } (.fuseDone a r.code)).alarm .alarm 0x0709 a
      (bytesLE 2 a ++ [r.code])).fuse.copies = s.fuse.copies := by
    rw [alarm_copies, commit_copies]; rfl
  unfold State.fuseDone
  dsimp only
  split
  · rw [alarm_copies, done]
  · exact done

@[simp] theorem fuseBegin_copies (s : State) (p : FuseProgram) : (s.fuseBegin p).fuse.copies = s.fuse.copies :=
  commit_copies ..

/-- Programming of a run of words begins one at most: it sets no bit (12 R460, R466). -/
@[simp] theorem fuseRun_copies (s : State) (n : SessionNo) (rid : Nat) (ws : List (Nat × Nat)) :
    (s.fuseRun n rid ws).1.fuse.copies = s.fuse.copies := by
  fun_induction State.fuseRun s n rid ws with
  | case1 => rfl
  | case2 s a d rest r _ => simp
  | case3 s a d rest _ s1 _ ih => simp [ih, s1]
  | case4 s a d rest _ s1 _ => simp [s1]

@[simp] theorem fuseEnd_copies (s : State) (p : FuseProgram) (r : FuseOutcome) (pulses : Nat) :
    (s.fuseEnd p r pulses).fuse.copies = s.fuse.copies := by
  have run : (if r = .ok ∨ r = .okSingle then (s.fuseDone p.addr r pulses).fuseRun p.session p.rid p.rest
      else (s.fuseDone p.addr r pulses, some r)).1.fuse.copies = s.fuse.copies := by split <;> simp
  unfold State.fuseEnd
  dsimp only
  split
  · exact run
  · split
    · exact run
    · rw [reply_fuse, run]

@[simp] theorem fuseAsk_copies (s : State) (q : Req) (ws : List (Nat × Nat)) :
    (s.fuseAsk q ws).state.fuse.copies = s.fuse.copies := by
  unfold State.fuseAsk
  dsimp only
  split
  · rfl
  split
  · rfl
  · split <;> exact fuseRun_copies ..

@[simp] theorem genWrite_copies (s : State) (q : Req) (g : GenSetting) (ws : List Nat) (same outside : Bool) :
    (s.genWrite q g ws same outside).state.fuse.copies = s.fuse.copies := by simp [State.genWrite]

/-! ### IoOps -/

@[simp] theorem twPush_copies (s : State) (b task : Nat) (ws : List Nat) :
    (s.twPush b task ws).fuse.copies = s.fuse.copies := by
  unfold State.twPush
  split
  next h => exact pushQueue_copies h
  next => rfl

@[simp] theorem twReport_copies (s : State) (b : Nat) (c : TwCommand) (st : TwStatus) (n : Nat) (data : List Nat) :
    (s.twReport b c st n data).fuse.copies = s.fuse.copies := by
  unfold State.twReport
  dsimp only
  split <;> simp

@[simp] theorem twArrive_copies (s : State) (b : Nat) (c : TwCommand) :
    (s.twArrive b c).fuse.copies = s.fuse.copies := by simp [State.twArrive]

theorem twQpush_copies {s u : State} {b : Nat} {ws : List Nat} (h : s.twQpush b ws = some u) :
    u.fuse.copies = s.fuse.copies := by
  unfold State.twQpush at h
  split at h <;> cases h
  exact twArrive_copies ..

@[simp] theorem twComplete_copies (s : State) (b : Nat) (st : TwStatus) (n : Nat) (data : List Nat) :
    (s.twComplete b st n data).fuse.copies = s.fuse.copies := by
  unfold State.twComplete
  split <;> simp

@[simp] theorem twFault_copies (s : State) (b : Nat) :
    (s.twFault b).fuse.copies = s.fuse.copies := by simp [State.twFault]
@[simp] theorem dioDrive_copies (s : State) (y : Nat) (level : Bool) :
    (s.dioDrive y level).fuse.copies = s.fuse.copies := (rfl)
@[simp] theorem dioLate_copies (s : State) (y : Nat) (level : Bool) :
    (s.dioLate y level).fuse.copies = s.fuse.copies := by simp [State.dioLate]
@[simp] theorem dioEntry_copies (s : State) (y slot : Nat) (level : Bool) :
    (s.dioEntry y slot level).2.fuse.copies = s.fuse.copies := by
  unfold State.dioEntry
  (repeat' split) <;> simp

theorem dioQpush_copies {s u : State} {y : Nat} {ws : List Nat} (h : s.dioQpush y ws = some u) :
    u.fuse.copies = s.fuse.copies := by
  fun_induction State.dioQpush s y ws with
  | case1 s t w rest x _ ih => exact (ih h).trans (dioEntry_copies ..)
  | case2 => cases h
  | case3 => cases h; rfl

@[simp] theorem dioRecord_copies (s : State) (y : Nat) (at_ : T80) (level : Bool) :
    (s.dioRecord y at_ level).fuse.copies = s.fuse.copies := by simp [State.dioRecord]
@[simp] theorem dioAccept_copies (s : State) (y : Nat) (at_ : T80) (level : Bool) :
    (s.dioAccept y at_ level).fuse.copies = s.fuse.copies := by simp [State.dioAccept]
@[simp] theorem ioApplied_copies (s : State) (key : Nat) :
    (s.ioApplied key).fuse.copies = s.fuse.copies := by simp [State.ioApplied]

/-! ### RouteOps -/

@[simp] theorem recomputeAllow_copies (s : State) :
    s.recomputeAllow.fuse.copies = s.fuse.copies := by simp [State.recomputeAllow]

/-! ### TileExec -/

@[simp] theorem stall_copies (s : State) (t : Nat) : (s.stall t).fuse.copies = s.fuse.copies := (rfl)

theorem moveElem_copies {s u : State} {t : Nat} {isLoad bk : Bool} {base : Reg} {a : Nat} {e : MultElem}
    (h : s.moveElem t isLoad bk base a e = .ok u) : u.fuse.copies = s.fuse.copies := by
  unfold State.moveElem at h
  simp only [bind, Except.bind, pure, Except.pure] at h
  (repeat' split at h) <;> cases h <;> simp

/-- A list of moves that may each fault leaves alone what every one of them does. -/
theorem foldlM_except_keeps {α β : Type} {step : State → α → Except TileCause State} {g : State → β}
    (h : ∀ s a u, step s a = .ok u → g u = g s) (l : List α) {s u : State} (hl : l.foldlM step s = .ok u) :
    g u = g s := by
  induction l generalizing s with
  | nil => cases hl; rfl
  | cons a l ih =>
    rw [List.foldlM_cons] at hl
    cases hstep : step s a with
    | error c => rw [hstep] at hl; cases hl
    | ok v =>
      rw [hstep] at hl
      exact (ih hl).trans (h s a v hstep)

@[simp] theorem multBeat_copies (s : State) (t : Nat) (isLoad bk : Bool) (base : Reg) (pm : Bool) (m : BitVec 18) :
    (s.multBeat t isLoad bk base pm m).fuse.copies = s.fuse.copies := by
  unfold State.multBeat
  extract_lets x resumes p badAgu beat s0 moved q extra
  refine ite_copies_eq (tileFault_copies ..) (ite_copies_eq (tileFault_copies ..) ?_)
  generalize h : moved = r
  cases r with
  | error c => exact tileFault_copies ..
  | ok s1 =>
    have hmoved : s1.fuse.copies = s0.fuse.copies :=
      foldlM_except_keeps (g := fun v => v.fuse.copies) (fun _ _ _ => moveElem_copies) _ h
    exact ite_copies_eq hmoved hmoved

@[simp] theorem moveTokens_copies (s : State) (t : Nat) (x : Tile) (f : FlowOp) :
    (s.moveTokens t x f).fuse.copies = s.fuse.copies := by
  cases f <;> simp [State.moveTokens]

@[simp] theorem follow_copies (s : State) (t : Nat) (a : After) : (s.follow t a).fuse.copies = s.fuse.copies := by
  cases a <;> simp [State.follow]

@[simp] theorem execute_copies (s : State) (t : Nat) (w : TileWord) (trapped : Bool) (wait : Nat) :
    (s.execute t w trapped wait).fuse.copies = s.fuse.copies := by
  unfold State.execute
  dsimp only
  split
  · simp
  · split
    · simp
    · rw [follow_copies, moveTokens_copies]
      split <;> simp

@[simp] theorem issue_copies (s : State) (t : Nat) (word : BitVec 96) : (s.issue t word).fuse.copies = s.fuse.copies := by
  unfold State.issue
  refine ite_copies_eq rfl (ite_copies_eq (stall_copies ..) (ite_copies_eq (tileFault_copies ..)
    (ite_copies_eq (tileFault_copies ..) ?_)))
  split
  · exact tileFault_copies ..
  refine ite_copies_eq (tileFault_copies ..) (ite_copies_eq (stall_copies ..) (ite_copies_eq (tileFault_copies ..) ?_))
  split
  · rw [modTile_fuse, stall_copies]
  refine ite_copies_eq (stall_copies ..) ?_
  split
  · exact multBeat_copies ..
  · exact multBeat_copies ..
  split
  · exact tileFault_copies ..
  · exact ite_copies_eq (ite_copies_eq (stall_copies ..) rfl) (execute_copies ..)

@[simp] theorem spillOut_copies (s : State) (t : Nat) : (s.spillOut t).fuse.copies = s.fuse.copies := by
  unfold State.spillOut
  dsimp only
  rw [writeSpillHeader_copies, modCluster_fuse]

theorem spillIn_copies {s u : State} {t : Nat} (h : s.spillIn t = some u) : u.fuse.copies = s.fuse.copies := by
  unfold State.spillIn at h
  dsimp only at h
  split at h <;> cases h
  simp

@[simp] theorem takeWaiting_copies (s : State) (t : Nat) (w : Option (Nat × CtxReason)) :
    (s.takeWaiting t w).fuse.copies = s.fuse.copies := by
  unfold State.takeWaiting
  split <;> simp

@[simp] theorem trapComplete_copies (s : State) (t wait : Nat) : (s.trapComplete t wait).fuse.copies = s.fuse.copies := by
  unfold State.trapComplete
  dsimp only
  split
  · rfl
  split
  · rfl
  split
  · split
    next h => rw [takeWaiting_copies, execute_copies, modTile_fuse, spillIn_copies h]
    next => split <;> simp
  · rw [takeWaiting_copies, execute_copies, modTile_fuse, spillOut_copies]

/-! ### TileSeq -/

@[simp] theorem execWindowTrapComplete_copies (t : Fin 1024) (wait : Nat) (s : State) :
    s.keepsCopies (execWindowTrapComplete t wait s) := by simp [execWindowTrapComplete]
@[simp] theorem execScheduledSwitch_copies (c : Fin 64) (s : State) : s.keepsCopies (execScheduledSwitch c s) := by
  refine foldl_copies (fun u t => ?_) _ s
  split
  · rw [switchTile_copies, modTile_fuse]
  · rfl

@[simp] theorem execSwitchGuard_copies (c : Fin 64) (arm : List (Fin 16 × Fin 16)) (s : State) :
    s.keepsCopies (execSwitchGuard c arm s) := by
  simp [execSwitchGuard]

@[simp] theorem execSequencerHold_copies (t : Fin 1024) (s : State) : s.keepsCopies (execSequencerHold t s) := (rfl)
@[simp] theorem execHoldRelease_copies (t : Fin 1024) (s : State) : s.keepsCopies (execHoldRelease t s) := (rfl)
@[simp] theorem execLoadDataArrival_copies (t : Fin 1024) (s : State) :
    s.keepsCopies (execLoadDataArrival t s) := by simp [execLoadDataArrival]
@[simp] theorem execClusterMemoryScrub_copies (c : Fin 64) (bank : Fin 4) (w : Nat) (s : State) :
    s.keepsCopies (execClusterMemoryScrub c bank w s) := by simp [execClusterMemoryScrub]
@[simp] theorem execSequencerPortTake_copies (t : Fin 1024) (bank : Fin 2) (s : State) :
    s.keepsCopies (execSequencerPortTake t bank s) := by simp [execSequencerPortTake]
@[simp] theorem writeDesc_copies (s : State) (t k j : Nat) (v : Word) :
    (s.writeDesc t k j v).fuse.copies = s.fuse.copies := by simp [State.writeDesc]
@[simp] theorem execDescriptorWrite_copies (t : Fin 1024) (k : Fin 16) (j : Fin 8) (v : Word) (s : State) :
    s.keepsCopies (execDescriptorWrite t k j v s) := by simp [execDescriptorWrite]
@[simp] theorem writeImem_copies (s : State) (t i j : Nat) (v : Word) :
    (s.writeImem t i j v).fuse.copies = s.fuse.copies := by simp [State.writeImem]
@[simp] theorem execInstructionWordWrite_copies (t : Fin 1024) (i : Fin 512) (j : Fin 3) (v : Word) (s : State) :
    s.keepsCopies (execInstructionWordWrite t i j v s) := by simp [execInstructionWordWrite]

/-! ### NetOps -/

@[simp] theorem observe_copies (s : State) (p : Packet) : (s.observe p).fuse.copies = s.fuse.copies := by
  unfold State.observe
  dsimp only
  split
  · rfl
  · refine foldl_copies (fun t k => ?_) _ _
    split
    · rfl
    · split <;> simp

theorem writeTileReg_copies {s u : State} {t off : Nat} {v : Word} (h : s.writeTileReg t off v = some u) :
    u.fuse.copies = s.fuse.copies := by
  unfold State.writeTileReg at h
  dsimp only at h
  split_ifs at h
  all_goals
    obtain rfl := Option.some.inj h
    simp

/-- An operation on a map of words whose writes leave the fuses' copies alone does so too. -/
theorem wordOp_copies (s : State) {m : WordMap} (hm : ∀ u w v, (m.write u w v).fuse.copies = u.fuse.copies) (p : Packet) :
    (s.wordOp m p).2.2.fuse.copies = s.fuse.copies := by
  unfold State.wordOp
  split
  · split <;> rfl
  · exact foldl_copies (fun u e => hm u _ _) _ _
  · dsimp only
    split
    · exact foldl_copies (fun u e => hm u _ _) _ _
    · rfl
  · split
    · rfl
    · dsimp only
      split
      · exact hm ..
      · exact hm ..
      · dsimp only
        split
        · exact hm ..
        · rfl
      · rfl

@[simp] theorem serveCluster_copies (s : State) (c : Nat) (p : Packet) :
    (s.serveCluster c p).2.2.fuse.copies = s.fuse.copies := by
  unfold State.serveCluster
  split
  · split <;> rfl
  split
  · split
    · rfl
    split
    · rfl
    · exact wordOp_copies s (fun _ _ _ => rfl) p
  split
  · split
    · rfl
    dsimp only
    split
    · rfl
    · split
      next h => exact foldlM_keeps (g := fun v => v.fuse.copies) (fun _ _ _ => writeTileReg_copies) _ h
      next => rfl
    · rfl
  split
  · split
    · rfl
    split
    · rfl
    split
    · rfl
    · split
      next h => exact pushQueue_copies h
      next => rfl
  · rfl

@[simp] theorem serveStore_copies (s : State) (p : Packet) : (s.serveStore p).2.2.fuse.copies = s.fuse.copies := by
  unfold State.serveStore
  split
  · rfl
  split
  · rfl
  extract_lets fixed _ s0 r
  have hr : r.2.2.fuse.copies = s.fuse.copies :=
    (wordOp_copies s0 (fun _ _ _ => rfl) p).trans (ite_copies_eq rfl rfl)
  split
  · split
    · exact (alarm_copies ..).trans hr
    · exact hr
  · exact hr

@[simp] theorem fuseCommand_copies (s : State) (v : Nat) : (s.fuseCommand v).fuse.copies = s.fuse.copies := by
  unfold State.fuseCommand
  dsimp only
  split
  · rfl
  · split
    · rfl
    · exact fuseRun_copies ..
    · rfl
    · exact scanned_copies ..
    · rfl

@[simp] theorem serveFuse_copies (s : State) (p : Packet) : (s.serveFuse p).2.2.fuse.copies = s.fuse.copies := by
  unfold State.serveFuse
  (repeat' split) <;> simp

@[simp] theorem serveDio_copies (s : State) (p : Packet) : (s.serveDio p).2.2.fuse.copies = s.fuse.copies := by
  unfold State.serveDio
  dsimp only
  split
  · rfl
  split
  · split
    · rfl
    split
    · rfl
    · split
      next h => exact dioQpush_copies h
      next => rfl
  · rfl

@[simp] theorem serveTw_copies (s : State) (p : Packet) : (s.serveTw p).2.2.fuse.copies = s.fuse.copies := by
  have words : (s.wordOp twtWords p).2.2.fuse.copies = s.fuse.copies := wordOp_copies s (fun _ _ _ => rfl) p
  unfold State.serveTw
  split
  · split
    · rfl
    · split
      next h => exact twQpush_copies h
      next => rfl
  split
  · rfl
  split
  · exact words
  · split
    · rfl
    · exact words
  · split
    · rfl
    · exact words
  · rfl

@[simp] theorem serveRc_copies (s : State) (m : Nat) (p : Packet) :
    (s.serveRc m p).2.2.fuse.copies = s.fuse.copies := by
  unfold State.serveRc
  dsimp only
  (repeat' split) <;> simp

@[simp] theorem serveAt_copies (s : State) (n : Nat) (p : Packet) : (s.serveAt n p).2.2.fuse.copies = s.fuse.copies := by
  unfold State.serveAt
  split
  · exact serveCluster_copies ..
  split
  · rfl
  split
  · split
    · rfl
    split
    · rfl
    · exact wordOp_copies s (fun _ _ _ => rfl) p
  all_goals simp

@[simp] theorem respond_copies (s : State) (n : Nat) (p : Packet) (st : NetStatus) (data : List Nat) :
    (s.respond n p st data).fuse.copies = s.fuse.copies := (rfl)
@[simp] theorem niBusy_copies (s : State) (n : Nat) : (s.niBusy n).fuse.copies = s.fuse.copies := by simp [State.niBusy]

/-! ### QuenchOps -/

@[simp] theorem driveQLevels_copies (s : State) : s.driveQLevels.fuse.copies = s.fuse.copies := by
  refine foldl_copies (fun t y => ?_) _ s
  dsimp only
  split
  · split <;> rfl
  · rfl

@[simp] theorem enterQuenched_copies (s : State) (code : Nat) :
    (s.enterQuenched code).fuse.copies = s.fuse.copies := by simp [State.enterQuenched]
@[simp] theorem quenchCause_copies (s : State) (code : Nat) (session : SessionNo) :
    (s.quenchCause code session).fuse.copies = s.fuse.copies := by simp [State.quenchCause]
@[simp] theorem endDemand_copies (s : State) (code : Nat) : (s.endDemand code).fuse.copies = s.fuse.copies := (rfl)
@[simp] theorem demand_copies (s : State) (code : Nat) (on : Bool) (session : SessionNo) :
    (s.demand code on session).fuse.copies = s.fuse.copies := by simp [State.demand]
@[simp] theorem standFault_copies (s : State) (code : Nat) :
    (s.standFault code).fuse.copies = s.fuse.copies := by simp [State.standFault]
@[simp] theorem endFault_copies (s : State) (code : Nat) : (s.endFault code).fuse.copies = s.fuse.copies := (rfl)
@[simp] theorem releaseQuench_copies (s : State) :
    s.releaseQuench.fuse.copies = s.fuse.copies := by simp [State.releaseQuench]
@[simp] theorem acknowledge_copies (s : State) :
    s.acknowledge.fuse.copies = s.fuse.copies := by simp [State.acknowledge]
@[simp] theorem siChannel_copies (s : State) (n : Nat) (b : Bool) (isOpen : Bool) :
    (s.siChannel n b isOpen).fuse.copies = s.fuse.copies := by
  unfold State.siChannel
  split <;> simp

@[simp] theorem acceptPdu_copies (s : State) (b : List Nat) :
    (s.acceptPdu b).fuse.copies = s.fuse.copies := by simp [State.acceptPdu]
@[simp] theorem takePdu_copies (s : State) (b : List Nat) :
    (s.takePdu b).fuse.copies = s.fuse.copies := by simp [State.takePdu]
@[simp] theorem mirrorFault_copies (s : State) (k code : Nat) :
    (s.mirrorFault k code).fuse.copies = s.fuse.copies := by simp [State.mirrorFault]
@[simp] theorem agreedToken_copies (s : State) (k : Nat) (v : Word) :
    (s.agreedToken k v).fuse.copies = s.fuse.copies := by simp [State.agreedToken]
@[simp] theorem compareTokens_copies (s : State) (k : Nat) (parity : Bool) :
    (s.compareTokens k parity).fuse.copies = s.fuse.copies := by
  unfold State.compareTokens
  (repeat' split) <;> simp

@[simp] theorem readQuenchFuses_copies (s : State) (words : Tab Nat) (bad : Bool) :
    (s.readQuenchFuses words bad).fuse.copies = s.fuse.copies := by simp [State.readQuenchFuses]

/-! ### StateChecks -/

@[simp] theorem noteFailure_copies (s : State) (j : Nat) (f : Nat × Abort) :
    (s.noteFailure j f).fuse.copies = s.fuse.copies := (rfl)
@[simp] theorem noteRefusal_copies (s : State) (m : StagedMsg) (f : Nat × Abort) :
    (s.noteRefusal m f).fuse.copies = s.fuse.copies := by
  unfold State.noteRefusal
  split <;> simp

/-! ### DescOps -/

@[simp] theorem modEntry_copies (s : State) (n e : Nat) (f : NetEntry → NetEntry) :
    (s.modEntry n e f).fuse.copies = s.fuse.copies := by simp [State.modEntry]
@[simp] theorem releaseEntries_copies (s : State) (n : Nat) : (s.releaseEntries n).fuse.copies = s.fuse.copies := (rfl)
@[simp] theorem putWord_copies (s : State) (c addr v : Nat) : (s.putWord c addr v).fuse.copies = s.fuse.copies := (rfl)
@[simp] theorem descDone_copies (s : State) (c k : Nat) (st : NetStatus) (data : List Nat) (mask : Option (List Nat)) :
    (s.descDone c k st data mask).fuse.copies = s.fuse.copies := by
  unfold State.descDone
  (repeat' split) <;> simp

theorem sendUnicast_copies {s u : State} {c k zone : Nat} (h : s.sendUnicast c k zone = some u) :
    u.fuse.copies = s.fuse.copies := by
  unfold State.sendUnicast at h
  dsimp only at h
  (repeat' split at h) <;> cases h <;> simp

theorem sendMulticast_copies {s u : State} {c k zone : Nat} (h : s.sendMulticast c k zone = some u) :
    u.fuse.copies = s.fuse.copies := by
  unfold State.sendMulticast at h
  dsimp only at h
  (repeat' split at h) <;> cases h <;> simp

theorem issue1_copies {s u : State} {c k : Nat} (h : s.issue1 c k = some u) : u.fuse.copies = s.fuse.copies := by
  unfold State.issue1 at h
  dsimp only at h
  split at h
  · cases h
  split at h
  · cases h; simp
  split at h
  · exact sendMulticast_copies h
  · exact sendUnicast_copies h

@[simp] theorem issueHeld_copies (s : State) (c : Nat) : (s.issueHeld c).fuse.copies = s.fuse.copies := by
  unfold State.issueHeld
  dsimp only
  rw [modNi_fuse]
  refine List.foldlRecOn (motive := fun a : State × List Nat × List Nat => a.1.fuse.copies = s.fuse.copies) _ _ rfl
    fun a ha k _ => ?_
  split
  · exact ha
  · split
    next h => exact (issue1_copies h).trans ha
    next => exact ha

@[simp] theorem countOk_copies (s : State) (u : TagUse) (m : Nat) : (s.countOk u m).fuse.copies = s.fuse.copies := by
  unfold State.countOk
  split <;> simp

@[simp] theorem tagDone_copies (s : State) (n k : Nat) (t : NetTag) (st : NetStatus) (data : List Nat) (multi : Bool) :
    (s.tagDone n k t st data multi).fuse.copies = s.fuse.copies := by
  unfold State.tagDone
  split <;> simp

@[simp] theorem answered_copies (s : State) (n k : Nat) (t : NetTag) (m : Nat) (st : NetStatus) (data : List Nat) :
    (s.answered n k t m st data).fuse.copies = s.fuse.copies := by simp [State.answered]
@[simp] theorem lateResponse_copies (s : State) (n : Nat) (p : Packet) :
    (s.lateResponse n p).fuse.copies = s.fuse.copies := by
  unfold State.lateResponse
  dsimp only
  split <;> simp

@[simp] theorem rspArrives_copies (s : State) (n : Nat) (p : Packet) :
    (s.rspArrives n p).fuse.copies = s.fuse.copies := by
  unfold State.rspArrives
  dsimp only
  (repeat' split) <;> simp

@[simp] theorem timeout1_copies (s : State) (n k : Nat) (w : Nat × Nat) :
    (s.timeout1 n k w).fuse.copies = s.fuse.copies := by
  unfold State.timeout1
  split <;> simp

@[simp] theorem revive_copies (s : State) (n target : Nat) :
    (s.revive n target).fuse.copies = s.fuse.copies := by simp [State.revive]
@[simp] theorem takeStage_copies (s : State) (n : Nat) (q : StageReq) :
    (s.takeStage n q).fuse.copies = s.fuse.copies := by
  unfold State.takeStage
  split <;> simp

@[simp] theorem holdStart_copies (s : State) (n : Nat) (m : StagedMsg) :
    (s.holdStart n m).fuse.copies = s.fuse.copies := by
  unfold State.holdStart
  split <;> simp

@[simp] theorem takeCommit_copies (s : State) (n : Nat) (p : Packet) :
    (s.takeCommit n p).fuse.copies = s.fuse.copies := by
  unfold State.takeCommit
  split <;> simp

@[simp] theorem takeAbort_copies (s : State) (n : Nat) (p : Packet) :
    (s.takeAbort n p).fuse.copies = s.fuse.copies := by
  unfold State.takeAbort
  split <;> simp

@[simp] theorem serveHeld_copies (s : State) (n : Nat) (r : NetReq) : (s.serveHeld n r).fuse.copies = s.fuse.copies := by
  unfold State.serveHeld
  split
  · simp
  · split <;> simp

@[simp] theorem reach_copies (s : State) (n : Nat) (r : NetReq) :
    (s.reach n r).fuse.copies = s.fuse.copies := by simp [State.reach]

/-! ### PowerOps -/

@[simp] theorem setHolds_copies (s : State) (power thermal : Nat) :
    (s.setHolds power thermal).fuse.copies = s.fuse.copies := by simp [State.setHolds]
@[simp] theorem judgeHold_copies (s : State) : s.judgeHold.fuse.copies = s.fuse.copies := by simp [State.judgeHold]
@[simp] theorem judgeRedundant_copies (s : State) :
    s.judgeRedundant.fuse.copies = s.fuse.copies := by simp [State.judgeRedundant]
@[simp] theorem feedChange_copies (s : State) (f : Nat) (code : Nat) :
    (s.feedChange f code).fuse.copies = s.fuse.copies := by simp [State.feedChange]
@[simp] theorem sensed_copies (s : State) (temps : List Int) : (s.sensed temps).fuse.copies = s.fuse.copies := by
  unfold State.sensed
  split <;> simp

/-! ### Gating -/

@[simp] theorem gateCluster_copies (s : State) (c : Nat) : (s.gateCluster c).fuse.copies = s.fuse.copies := by
  unfold State.gateCluster
  dsimp only
  rw [foldl_copies fun u n => ?_, modCluster_fuse, foldl_modTile_copies]
  split <;> rfl

@[simp] theorem execClusterPowerGate_copies (c : Fin 64) (s : State) :
    s.keepsCopies (execClusterPowerGate c s) := by simp [execClusterPowerGate]
@[simp] theorem wokenFor_copies (s : State) (c n : Nat) :
    (s.wokenFor c n).fuse.copies = s.fuse.copies := by simp [State.wokenFor]
@[simp] theorem wakeCluster_copies (s : State) (c : Nat) :
    (s.wakeCluster c).fuse.copies = s.fuse.copies := by simp [State.wakeCluster]
@[simp] theorem execClusterWake_copies (c : Fin 64) (s : State) :
    s.keepsCopies (execClusterWake c s) := by simp [execClusterWake]
@[simp] theorem execRegisterWrite_copies (src : Fin 78) (w : HwWrite) (s : State) :
    s.keepsCopies (execRegisterWrite src w s) := by
  unfold execRegisterWrite
  rw [keepsCopies_next]
  cases w with
  | tile t off v =>
    dsimp only
    split
    · rfl
    · cases h : s.writeTileReg t off v with
      | some u => exact writeTileReg_copies h
      | none => rfl
  | probe k off v =>
    dsimp only
    split
    · rfl
    · split <;> rfl
  | fuse off v => dsimp only; split <;> simp

/-! ### LeaseOps -/

@[simp] theorem changeHolder_copies (s : State) (l : Nat) (h : SessionNo) :
    (s.changeHolder l h).fuse.copies = s.fuse.copies := (rfl)
@[simp] theorem dropPending_copies (s : State) (l : Nat) (n : SessionNo) :
    (s.dropPending l n).fuse.copies = s.fuse.copies := by simp [State.dropPending]
@[simp] theorem clearHolder_copies (s : State) (l code : Nat) (session : SessionNo) :
    (s.clearHolder l code session).fuse.copies = s.fuse.copies := by simp [State.clearHolder]

/-! ### Tasks -/

@[simp] theorem taskCommand_copies (s : State) (q : Req) (n : Nat) (check : State → Session → Abort × Nat)
    (effect : State → State) (heffect : ∀ t, (effect t).fuse.copies = t.fuse.copies) :
    (s.taskCommand q n check effect).fuse.copies = s.fuse.copies :=
  serveWrite_copies fun _ _ => heffect _

@[simp] theorem armOrWake_copies (s : State) (n : Nat) :
    (s.armOrWake n).fuse.copies = s.fuse.copies := by simp [State.armOrWake]
@[simp] theorem execTaskArm_copies (q : Req) (n : Fin 256) (s : State) :
    s.keepsCopies (execTaskArm q n s) := by simp [execTaskArm]
@[simp] theorem cancelTask_copies (s : State) (n : Nat) : (s.cancelTask n).fuse.copies = s.fuse.copies := by
  unfold State.cancelTask
  split <;> simp

@[simp] theorem execTaskCancel_copies (q : Req) (n : Fin 256) (s : State) :
    s.keepsCopies (execTaskCancel q n s) := by simp [execTaskCancel]
@[simp] theorem execTaskDrain_copies (q : Req) (n : Fin 256) (s : State) :
    s.keepsCopies (execTaskDrain q n s) := by simp [execTaskDrain]
@[simp] theorem execTaskAckFault_copies (q : Req) (n : Fin 256) (s : State) : s.keepsCopies (execTaskAckFault q n s) :=
  taskCommand_copies _ _ _ _ _ fun _ => rfl

@[simp] theorem unloadTask_copies (s : State) (n : Nat) : (s.unloadTask n).fuse.copies = s.fuse.copies := (rfl)
@[simp] theorem execTaskUnload_copies (q : Req) (n : Fin 256) (s : State) :
    s.keepsCopies (execTaskUnload q n s) := by simp [execTaskUnload]
@[simp] theorem execTaskFire_copies (q : Req) (n : Fin 256) (s : State) :
    s.keepsCopies (execTaskFire q n s) := by simp [execTaskFire]
@[simp] theorem execTriggerTime_copies (n : Fin 256) (s : State) :
    s.keepsCopies (execTriggerTime n s) := by simp [execTriggerTime]
@[simp] theorem execTriggerPeriod_copies (n : Fin 256) (s : State) :
    s.keepsCopies (execTriggerPeriod n s) := by simp [execTriggerPeriod]
@[simp] theorem execTriggerAngle_copies (n : Fin 256) (s : State) :
    s.keepsCopies (execTriggerAngle n s) := by simp [execTriggerAngle]
@[simp] theorem execTaskDispatch_copies (c : Fin 64) (s : State) : s.keepsCopies (execTaskDispatch c s) := by
  unfold execTaskDispatch
  split <;> simp

@[simp] theorem abortStart_copies (s : State) (n c : Nat) :
    (s.abortStart n c).fuse.copies = s.fuse.copies := by simp [State.abortStart]
@[simp] theorem decisionDue_copies (s : State) (n : Nat) : (s.decisionDue n).fuse.copies = s.fuse.copies := by
  unfold State.decisionDue
  dsimp only
  (repeat' split) <;> simp

@[simp] theorem execStartDecision_copies (n : Fin 256) (s : State) :
    s.keepsCopies (execStartDecision n s) := by simp [execStartDecision]
@[simp] theorem startIn_copies (s : State) (n : Nat) (cs : List Nat) : (s.startIn n cs).fuse.copies = s.fuse.copies := by
  unfold State.startIn
  dsimp only
  rw [foldl_copies fun _ _ => switchTile_copies .., foldl_modTile_copies, modTask_fuse,
    foldl_copies fun _ _ => unstage_copies ..]

@[simp] theorem startDue_copies (s : State) (n : Nat) : (s.startDue n).fuse.copies = s.fuse.copies := by
  unfold State.startDue
  dsimp only
  (repeat' split) <;> simp

@[simp] theorem execStartTick_copies (n : Fin 256) (s : State) :
    s.keepsCopies (execStartTick n s) := by simp [execStartTick]
@[simp] theorem execDrainComplete_copies (n : Fin 256) (s : State) :
    s.keepsCopies (execDrainComplete n s) := by simp [execDrainComplete]
@[simp] theorem execDrainTimeout_copies (n : Fin 256) (s : State) :
    s.keepsCopies (execDrainTimeout n s) := by simp [execDrainTimeout]
@[simp] theorem flushTask_copies (s : State) (n : Nat) : (s.flushTask n).fuse.copies = s.fuse.copies := by
  simp [State.flushTask]

@[simp] theorem execInputFlush_copies (n : Fin 256) (s : State) :
    s.keepsCopies (execInputFlush n s) := by simp [execInputFlush]
@[simp] theorem execCancelMessage_copies (n : Fin 256) (c : Fin 64) (s : State) :
    s.keepsCopies (execCancelMessage n c s) := by simp [execCancelMessage]
@[simp] theorem execQuenchStop_copies (s : State) : s.keepsCopies (execQuenchStop s) := by simp [execQuenchStop]
@[simp] theorem execBridgeOpen_copies (q : Req) (k : Fin 32) (s : State) : s.keepsCopies (execBridgeOpen q k s) :=
  serveWrite_copies fun _ _ => rfl

@[simp] theorem execBridgeClose_copies (q : Req) (k : Fin 32) (s : State) : s.keepsCopies (execBridgeClose q k s) :=
  serveWrite_copies fun _ _ => rfl

/-! ### BlankOps -/

@[simp] theorem freeSlot_copies (s : State) (k : Nat) :
    (s.freeSlot k).fuse.copies = s.fuse.copies := by simp [State.freeSlot]
@[simp] theorem takeSlot_copies (s : State) (k : Nat) (n : SessionNo) (st : StageState) (e total : Nat) :
    (s.takeSlot k n st e total).fuse.copies = s.fuse.copies := (rfl)
@[simp] theorem putDescriptor_copies (s : State) (t k : Nat) (w : List Word) :
    (s.putDescriptor t k w).fuse.copies = s.fuse.copies := (rfl)
@[simp] theorem putCode_copies (s : State) (t : Nat) (b : List Nat) (w : List Word) :
    (s.putCode t b w).fuse.copies = s.fuse.copies := by simp [State.putCode]
@[simp] theorem putRunWords_copies (s : State) (c : Nat) (r : CodeRun) :
    (s.putRunWords c r).fuse.copies = s.fuse.copies := by simp [State.putRunWords]
@[simp] theorem putConst_copies (s : State) (c : Nat) (r : ConstRec) :
    (s.putConst c r).fuse.copies = s.fuse.copies := by simp [State.putConst]
@[simp] theorem primeCluster_copies (s : State) (k e c : Nat) (b : List Nat) :
    (s.primeCluster k e c b).fuse.copies = s.fuse.copies := by
  simp [State.primeCluster]

@[simp] theorem declareFlows_copies (s : State) (e : Nat) (b : List Nat) :
    (s.declareFlows e b).fuse.copies = s.fuse.copies := by
  unfold State.declareFlows
  split <;> simp

@[simp] theorem beginPriming_copies (s : State) (k : Nat) :
    (s.beginPriming k).fuse.copies = s.fuse.copies := by simp [State.beginPriming]
@[simp] theorem clearValid_copies (s : State) (key : Nat) : (s.clearValid key).fuse.copies = s.fuse.copies := (rfl)
@[simp] theorem setValid_copies (s : State) (key : Nat) : (s.setValid key).fuse.copies = s.fuse.copies := (rfl)
@[simp] theorem dropFlows_copies (s : State) (es : List Nat) : (s.dropFlows es).fuse.copies = s.fuse.copies := (rfl)
@[simp] theorem unprime_copies (s : State) (k : Nat) :
    (s.unprime k).fuse.copies = s.fuse.copies := by simp [State.unprime]
@[simp] theorem withdraw_copies (s : State) (k : Nat) : (s.withdraw k).fuse.copies = s.fuse.copies := by
  unfold State.withdraw
  dsimp only
  split <;> simp

@[simp] theorem releaseTiles_copies (s : State) (c : Nat) (old : List Nat) :
    (s.releaseTiles c old).fuse.copies = s.fuse.copies := by
  refine foldl_copies (fun u t => ?_) _ s
  split
  · split
    · rw [modTile_fuse, stopTile_copies]
    · rfl
  · rfl

@[simp] theorem validateSlots_copies (s : State) (c e : Nat) :
    (s.validateSlots c e).fuse.copies = s.fuse.copies := by simp [State.validateSlots]
@[simp] theorem invalidateSlots_copies (s : State) (c : Nat) (old : List Nat) :
    (s.invalidateSlots c old).fuse.copies = s.fuse.copies := by simp [State.invalidateSlots]
@[simp] theorem carryOut_copies (s : State) (c e : Nat) (r : SetupRec) :
    (s.carryOut c e r).fuse.copies = s.fuse.copies := by
  unfold State.carryOut
  split <;> simp

@[simp] theorem activateCluster_copies (s : State) (c e : Nat) (bank : Tab Nat) (old : List Nat) :
    (s.activateCluster c e bank old).fuse.copies = s.fuse.copies := by simp [State.activateCluster]
@[simp] theorem dismissTask_copies (s : State) (n : Nat) :
    (s.dismissTask n).fuse.copies = s.fuse.copies := by simp [State.dismissTask]
@[simp] theorem loadTasks_copies (s : State) (e : Nat) (b nos : List Nat) (arm : Bool) :
    (s.loadTasks e b nos arm).fuse.copies = s.fuse.copies := by
  unfold State.loadTasks
  dsimp only
  split
  · rw [foldl_copies fun u p => ?_, foldl_modTask_copies]
    split <;> simp
  · rw [foldl_modTask_copies]

@[simp] theorem installBlank_copies (s : State) (e : Nat) (zones old : List Nat) (edge : T64) :
    (s.installBlank e zones old edge).fuse.copies = s.fuse.copies := by
  simp [State.installBlank]

@[simp] theorem installRest_copies (s : State) (e : Nat) (b : List Nat) (zones old : List Nat) (edge : T64) :
    (s.installRest e b zones old edge).fuse.copies = s.fuse.copies := by simp [State.installRest]
@[simp] theorem activate_copies (s : State) (k : Nat) (holders : List Nat) (edge : T64) :
    (s.activate k holders edge).fuse.copies = s.fuse.copies := by simp [State.activate]
@[simp] theorem failActivation_copies (s : State) (k : Nat) (r : ActResult) (mask : List Nat) :
    (s.failActivation k r mask).fuse.copies = s.fuse.copies := by simp [State.failActivation]
@[simp] theorem retryActivation_copies (s : State) (k : Nat) (mask : List Nat) :
    (s.retryActivation k mask).fuse.copies = s.fuse.copies := by simp [State.retryActivation]

/-! ### AssayOps -/

@[simp] theorem deferRepair_copies (s : State) (key : Nat) : (s.deferRepair key).fuse.copies = s.fuse.copies := (rfl)
@[simp] theorem actOnTaint_copies (s : State) (key : Nat) : (s.actOnTaint key).fuse.copies = s.fuse.copies := by
  rw [State.actOnTaint]
  split
  · exact (standFault_copies ..).trans (deferRepair_copies ..)
  split
  · exact clearValid_copies ..
  split
  · split
    · exact cancelTask_copies ..
    · exact stopTile_copies ..
  · exact (alarm_copies ..).trans (deferRepair_copies ..)

@[simp] theorem taint_copies (s : State) (key : Nat) :
    (s.taint key).fuse.copies = s.fuse.copies := by simp [State.taint]
@[simp] theorem settleAssayLine_copies (s : State) :
    s.settleAssayLine.fuse.copies = s.fuse.copies := by simp [State.settleAssayLine]
@[simp] theorem failTile_copies (s : State) (t : Nat) : (s.failTile t).fuse.copies = s.fuse.copies := by
  unfold State.failTile
  dsimp only
  rw [record_copies, modAssay_fuse, foldl_copies fun _ _ => clearValid_copies ..]

@[simp] theorem repairDone_copies (s : State) (key e : Nat) : (s.repairDone key e).fuse.copies = s.fuse.copies := by
  have validated (u : State) (c : Prop) [Decidable c] :
      (if c then u.setValid key else u).fuse.copies = u.fuse.copies := by split <;> simp
  unfold State.repairDone
  dsimp only
  split
  · rw [failTile_copies, validated, modAssay_fuse]
  · rw [validated, modAssay_fuse]

@[simp] theorem repairFailed_copies (s : State) (key : Nat) :
    (s.repairFailed key).fuse.copies = s.fuse.copies := by simp [State.repairFailed]
@[simp] theorem repairSlot_copies (s : State) (key : Nat) : (s.repairSlot key).fuse.copies = s.fuse.copies := by
  unfold State.repairSlot
  dsimp only
  (repeat' split) <;> simp

/-! ### StreamOps -/

@[simp] theorem dropSegments_copies (s : State) (n : SessionNo) :
    (s.dropSegments n).fuse.copies = s.fuse.copies := (rfl)
@[simp] theorem serveSegment_copies (s : State) (q : Req) (key off : Nat) (last : Bool) (data keep : List Nat)
    (run : State → Session → Served) (hrun : ∀ t ss, (run t ss).state.fuse.copies = t.fuse.copies) :
    (s.serveSegment q key off last data keep run).fuse.copies = s.fuse.copies := by
  refine serve_copies fun t ss => ?_
  split
  · rfl
  split
  · rfl
  split
  · simp [hrun]
  · rfl

/-! ### FirmwareOps -/

@[simp] theorem startUpload_copies (s : State) (h : List Nat) :
    (s.startUpload h).fuse.copies = s.fuse.copies := by simp [State.startUpload]
@[simp] theorem endUpload_copies (s : State) (u : FwUpload) (data : List Nat) :
    (s.endUpload u data).fuse.copies = s.fuse.copies := by simp [State.endUpload]
@[simp] theorem growUpload_copies (s : State) (u : FwUpload) (data : List Nat) :
    (s.growUpload u data).fuse.copies = s.fuse.copies := by simp [State.growUpload]

/-! ### Blanks -/

@[simp] theorem startVerifying_copies (s : State) (k : Nat) : (s.startVerifying k).fuse.copies = s.fuse.copies := (rfl)
@[simp] theorem execStagingHeader_copies (q : Req) (k : Fin 2) (b : List Nat) (s : State) :
    s.keepsCopies (execStagingHeader q k b s) := by simp [execStagingHeader]
@[simp] theorem execStagingBody_copies (q : Req) (k : Fin 2) (off : Fin 4294967296) (last : Bool) (data : List Nat) (s : State) :
    s.keepsCopies (execStagingBody q k off last data s) := by
  refine serveSegment_copies _ _ _ _ _ _ _ _ fun t _ => ?_
  dsimp only
  split
  · split
    · dsimp only
      split <;> simp
    · rfl
  · rfl

@[simp] theorem refuseStaging_copies (s : State) (k : Nat) (c : Abort) (l : LibEntry → LibEntry) :
    (s.refuseStaging k c l).fuse.copies = s.fuse.copies := by simp [State.refuseStaging]
@[simp] theorem execVerificationComplete_copies (k : Fin 2) (s : State) :
    s.keepsCopies (execVerificationComplete k s) := by
  unfold execVerificationComplete
  dsimp only
  (repeat' split) <;> simp

@[simp] theorem execFromLibrary_copies (q : Req) (k : Fin 2) (b : List Nat) (s : State) :
    s.keepsCopies (execFromLibrary q k b s) := by simp [execFromLibrary]
@[simp] theorem execPrime_copies (q : Req) (k : Fin 2) (b : List Nat) (s : State) :
    s.keepsCopies (execPrime q k b s) := by simp [execPrime]
@[simp] theorem execPrimingComplete_copies (k : Fin 2) (s : State) :
    s.keepsCopies (execPrimingComplete k s) := by simp [execPrimingComplete]
@[simp] theorem execWithdraw_copies (q : Req) (k : Fin 2) (b : List Nat) (s : State) :
    s.keepsCopies (execWithdraw q k b s) := by simp [execWithdraw]
@[simp] theorem beginActivation_copies (s : State) (k : Nat) :
    (s.beginActivation k).fuse.copies = s.fuse.copies := by simp [State.beginActivation]
@[simp] theorem execGo_copies (q : Req) (k : Fin 2) (b : List Nat) (s : State) :
    s.keepsCopies (execGo q k b s) := by simp [execGo]
@[simp] theorem startRound_copies (s : State) (k : Nat) (e : T64) : (s.startRound k e).fuse.copies = s.fuse.copies := by
  unfold State.startRound
  dsimp only
  (repeat' split) <;> simp

@[simp] theorem execActivationRound_copies (k : Fin 2) (s : State) : s.keepsCopies (execActivationRound k s) := by
  unfold execActivationRound
  split <;> simp

@[simp] theorem activationDue_copies (s : State) (k : Nat) : (s.activationDue k).fuse.copies = s.fuse.copies := by
  unfold State.activationDue
  dsimp only
  split <;> simp

@[simp] theorem execActivationEdge_copies (k : Fin 2) (s : State) :
    s.keepsCopies (execActivationEdge k s) := by simp [execActivationEdge]
@[simp] theorem execLibraryDelete_copies (q : Req) (e : Fin 32) (b : List Nat) (s : State) :
    s.keepsCopies (execLibraryDelete q e b s) := by
  refine serve_copies fun t ss => ?_
  split
  · rfl
  split
  · dsimp only
    split
    · dsimp only
      split <;> rfl
    · rfl
  · rfl

@[simp] theorem execFwHeader_copies (q : Req) (b : List Nat) (s : State) : s.keepsCopies (execFwHeader q b s) := by
  refine serveSegment_copies _ _ _ _ _ _ _ _ fun t _ => ?_
  split <;> simp

@[simp] theorem execFwBody_copies (q : Req) (off : Fin 4294967296) (last : Bool) (data : List Nat) (s : State) :
    s.keepsCopies (execFwBody q off last data s) := by
  refine serveSegment_copies _ _ _ _ _ _ _ _ fun t _ => ?_
  split
  · rfl
  · split <;> simp

/-! ### EnergyOps -/

@[simp] theorem openInterval_copies (s : State) (t : T64) (flags : Nat) :
    (s.openInterval t flags).fuse.copies = s.fuse.copies := by simp [State.openInterval]
@[simp] theorem accept_copies (s : State) (k mwh : Nat) :
    (s.accept k mwh).fuse.copies = s.fuse.copies := by simp [State.accept]
@[simp] theorem acceptParts_copies (s : State) (k parts unit : Nat) :
    (s.acceptParts k parts unit).fuse.copies = s.fuse.copies := by simp [State.acceptParts]
@[simp] theorem energyCommit_copies (s : State) (b : JBody) :
    (s.energyCommit b).fuse.copies = s.fuse.copies := by simp [State.energyCommit]
@[simp] theorem energyFlush_copies (s : State) :
    s.energyFlush.fuse.copies = s.fuse.copies := by simp [State.energyFlush]
@[simp] theorem actAt_copies (s : State) (b : T64) : (s.actAt b).fuse.copies = s.fuse.copies := by simp [State.actAt]
@[simp] theorem takeMax_copies (s : State) (r : IntervalRec) :
    (s.takeMax r).fuse.copies = s.fuse.copies := by simp [State.takeMax]
@[simp] theorem forecast_copies (s : State) : s.forecast.fuse.copies = s.fuse.copies := by simp [State.forecast]
@[simp] theorem processBoundary_copies (s : State) (b : T64) (extra : Nat) :
    (s.processBoundary b extra).fuse.copies = s.fuse.copies := by simp [State.processBoundary]
@[simp] theorem boundaries_copies (extra n : Nat) (s : State) :
    (State.boundaries extra n s).fuse.copies = s.fuse.copies := by
  fun_induction State.boundaries extra n s with
  | case1 => rfl
  | case2 n s _ ih => rw [ih, processBoundary_copies]
  | case3 => rfl

@[simp] theorem energyStep_copies (s : State) (before : T64) :
    (s.energyStep before).fuse.copies = s.fuse.copies := by simp [State.energyStep]
@[simp] theorem energyCut_copies (s : State) (tcut : T64) :
    (s.energyCut tcut).fuse.copies = s.fuse.copies := by simp [State.energyCut]
@[simp] theorem walkOutage_copies (tres : T64) (k : Nat) (s : State) (n : Nat) (sw : T64 × Nat) :
    (State.walkOutage tres k s n sw).1.fuse.copies = s.fuse.copies := by
  induction k generalizing s n sw with
  | zero => rfl
  | succ k ih =>
    unfold State.walkOutage
    dsimp only
    split
    · rfl
    · rw [ih]
      split <;> simp

@[simp] theorem outageTo_copies (s : State) (tcut tres : T64) :
    (s.outageTo tcut tres).fuse.copies = s.fuse.copies := by simp [State.outageTo]
@[simp] theorem energyFresh_copies (s : State) :
    s.energyFresh.fuse.copies = s.fuse.copies := by simp [State.energyFresh]
@[simp] theorem energyFirst_copies (s : State) (prov : Bool) :
    (s.energyFirst prov).fuse.copies = s.fuse.copies := by simp [State.energyFirst]
@[simp] theorem energyRestore_copies (s : State) : s.energyRestore.fuse.copies = s.fuse.copies := by
  unfold State.energyRestore
  split <;> simp

@[simp] theorem giveShare_copies (s : State) (prov : Tab Nat) (tres span a b : Nat) :
    (s.giveShare prov tres span a b).fuse.copies = s.fuse.copies := by simp [State.giveShare]
@[simp] theorem spread_copies (prov : Tab Nat) (tres span k : Nat) (s : State) (a : Nat) :
    (State.spread prov tres span k s a).fuse.copies = s.fuse.copies := by
  induction k generalizing s a with
  | zero => rfl
  | succ k ih =>
    unfold State.spread
    dsimp only
    split
    · rw [ih]; simp
    · split <;> simp

@[simp] theorem provisionalConfirm_copies (s : State) : s.provisionalConfirm.fuse.copies = s.fuse.copies := by
  have confirmed (l : List IntervalRec) (f : IntervalRec → IntervalRec) (u : State) :
      (l.foldl (fun (x : State) r => (x.energyCommit (.interval (f r))).takeMax (f r)) u).fuse.copies = u.fuse.copies :=
    foldl_copies (fun x r => by simp) l u
  rw [State.provisionalConfirm]
  split
  · rfl
  · rw [forecast_copies, spread_copies, ite_copies, outageTo_copies, withEnergy_fuse, withEnergy_fuse, confirmed,
      clearAlarm_copies, energyCommit_copies, withEnergy_fuse, ite_self]

@[simp] theorem headEnergy_copies (s : State) (ring serial ecum rcount : Nat) :
    (s.headEnergy ring serial ecum rcount).fuse.copies = s.fuse.copies := by simp [State.headEnergy]
@[simp] theorem energyApplied_copies (s : State) (key : Nat) :
    (s.energyApplied key).fuse.copies = s.fuse.copies := by simp [State.energyApplied]

/-! ### Net -/

@[simp] theorem request_copies (s : State) (n opc : Nat) (p : Packet) :
    (s.request n opc p).fuse.copies = s.fuse.copies := by simp [State.request]
@[simp] theorem execRd_copies (n : Fin 78) (p : Packet) (s : State) : s.keepsCopies (execRd n p s) := by simp [execRd]
@[simp] theorem execWr_copies (n : Fin 78) (p : Packet) (s : State) : s.keepsCopies (execWr n p s) := by simp [execWr]
@[simp] theorem execWrm_copies (n : Fin 78) (p : Packet) (s : State) :
    s.keepsCopies (execWrm n p s) := by simp [execWrm]
@[simp] theorem execSwap_copies (n : Fin 78) (p : Packet) (s : State) :
    s.keepsCopies (execSwap n p s) := by simp [execSwap]
@[simp] theorem execFadd_copies (n : Fin 78) (p : Packet) (s : State) :
    s.keepsCopies (execFadd n p s) := by simp [execFadd]
@[simp] theorem execCas_copies (n : Fin 78) (p : Packet) (s : State) :
    s.keepsCopies (execCas n p s) := by simp [execCas]
@[simp] theorem execQpush_copies (n : Fin 78) (p : Packet) (s : State) :
    s.keepsCopies (execQpush n p s) := by simp [execQpush]
@[simp] theorem execMsg_copies (n : Fin 78) (p : Packet) (m : Option StagedMsg) (s : State) :
    s.keepsCopies (execMsg n p m s) := by
  unfold execMsg
  split <;> simp

@[simp] theorem execAtomicStage_copies (n : Fin 78) (q : StageReq) (s : State) :
    s.keepsCopies (execAtomicStage n q s) := by simp [execAtomicStage]
@[simp] theorem execAtomicCommit_copies (n : Fin 78) (p : Packet) (s : State) :
    s.keepsCopies (execAtomicCommit n p s) := by simp [execAtomicCommit]
@[simp] theorem execAtomicAbort_copies (n : Fin 78) (p : Packet) (s : State) :
    s.keepsCopies (execAtomicAbort n p s) := by simp [execAtomicAbort]
@[simp] theorem execCsync_copies (n : Fin 78) (p : Packet) (s : State) :
    s.keepsCopies (execCsync n p s) := by simp [execCsync]
@[simp] theorem flowOverrun_copies (s : State) (f : Nat) : (s.flowOverrun f).fuse.copies = s.fuse.copies := (rfl)
@[simp] theorem flowArrives_copies (s : State) (f : Nat) (words : List Nat) :
    (s.flowArrives f words).fuse.copies = s.fuse.copies := by
  unfold State.flowArrives
  dsimp only
  split
  · rfl
  · split
    next n _ =>
      cases h : s.pushQueue n words with
      | some u => exact pushQueue_copies h
      | none => simp
    next => split <;> simp

@[simp] theorem execGwr_copies (f : Fin 64) (words : List (Fin 18446744073709551616)) (s : State) :
    s.keepsCopies (execGwr f words s) := by simp [execGwr]
@[simp] theorem execRsp_copies (n : Fin 78) (p : Packet) (s : State) :
    s.keepsCopies (execRsp n p s) := by simp [execRsp]
@[simp] theorem execRequestTimeout_copies (n : Fin 78) (k : Fin 64) (s : State) :
    s.keepsCopies (execRequestTimeout n k s) := by
  unfold execRequestTimeout
  split <;> simp

@[simp] theorem execRouterDrop_copies (r : Fin 78) (port : Fin 6) (p : Packet) (s : State) :
    s.keepsCopies (execRouterDrop r port p s) := by simp [execRouterDrop]
@[simp] theorem execLinkUncorrectable_copies (r : Fin 78) (p : Packet) (s : State) :
    s.keepsCopies (execLinkUncorrectable r p s) := by simp [execLinkUncorrectable]
@[simp] theorem execDescriptorProducer_copies (c : Fin 64) (v : Fin 256) (s : State) :
    s.keepsCopies (execDescriptorProducer c v s) := by simp [execDescriptorProducer]
@[simp] theorem sendMiss_copies (s : State) (n : Nat) (e : StagedEntry) :
    (s.sendMiss n e).fuse.copies = s.fuse.copies := (rfl)
@[simp] theorem execAtomicHoldExpiry_copies (n : Fin 78) (s : State) :
    s.keepsCopies (execAtomicHoldExpiry n s) := by simp [execAtomicHoldExpiry]
@[simp] theorem execSlotTableSwap_copies (s : State) :
    s.keepsCopies (execSlotTableSwap s) := by simp [execSlotTableSwap]
@[simp] theorem execProbeClear_copies (q : Req) (k : Fin 16) (b : List Nat) (s : State) :
    s.keepsCopies (execProbeClear q k b s) := by
  refine serveBytes_copies fun t _ v => ?_
  dsimp only
  split <;> rfl

@[simp] theorem execTraceArchive_copies (k : Fin 16) (s : State) : s.keepsCopies (execTraceArchive k s) := by
  unfold execTraceArchive
  dsimp only
  split <;> simp

/-! ### TimeOps -/

@[simp] theorem holdoverEntry_copies (s : State) :
    s.holdoverEntry.fuse.copies = s.fuse.copies := by simp [State.holdoverEntry]
@[simp] theorem dropStepped_copies (s : State) :
    s.dropStepped.fuse.copies = s.fuse.copies := by simp [State.dropStepped]
@[simp] theorem timeStep_copies (s : State) (o : Int) :
    (s.timeStep o).fuse.copies = s.fuse.copies := by simp [State.timeStep]
@[simp] theorem judgeLarge_copies (s : State) : s.judgeLarge.fuse.copies = s.fuse.copies := by simp [State.judgeLarge]
@[simp] theorem lock_copies (s : State) : s.lock.fuse.copies = s.fuse.copies := by simp [State.lock]
@[simp] theorem disciplinedSample_copies (s : State) (x : PtpSample) :
    (s.disciplinedSample x).fuse.copies = s.fuse.copies := by simp [State.disciplinedSample]
@[simp] theorem candidateSample_copies (s : State) (x : PtpSample) :
    (s.candidateSample x).fuse.copies = s.fuse.copies := by
  unfold State.candidateSample
  split <;> simp

@[simp] theorem syncSample_copies (s : State) (p : Port) (log offset delay : Int) :
    (s.syncSample p log offset delay).fuse.copies = s.fuse.copies := by simp [State.syncSample]
@[simp] theorem idle_copies (s : State) : s.idle.fuse.copies = s.fuse.copies := by simp [State.idle]

/-! ### NowOps -/

@[simp] theorem nowEffect_copies (s : State) (n : SessionNo) (key : Nat) (v : Val) :
    (s.nowEffect n key v).fuse.copies = s.fuse.copies := by
  unfold State.nowEffect
  refine ite_copies_eq rfl <| ite_copies_eq rfl <| ite_copies_eq rfl <| ite_copies_eq rfl <|
    ite_copies_eq rfl <| ite_copies_eq rfl <| ite_copies_eq ?_ <| ite_copies_eq rfl <|
    ite_copies_eq rfl <| ite_copies_eq rfl <| ite_copies_eq rfl rfl
  split <;> rfl

@[simp] theorem servePending_copies (s : State) (q : Req) (key : Nat) (b : List Nat)
    (more : State → Session → Val → Abort × Nat) : (s.servePending q key b more).fuse.copies = s.fuse.copies :=
  serveBytes_copies fun _ _ _ => rfl

@[simp] theorem serveNow_copies (s : State) (q : Req) (key : Nat) (b : List Nat) :
    (s.serveNow q key b).fuse.copies = s.fuse.copies := by simp [State.serveNow]

/-! ### Quench -/

@[simp] theorem execSiOpen_copies (n : Fin 4) (b : Bool) (s : State) :
    s.keepsCopies (execSiOpen n b s) := by simp [execSiOpen]
@[simp] theorem execSiClosed_copies (n : Fin 4) (b : Bool) (s : State) :
    s.keepsCopies (execSiClosed n b s) := by simp [execSiClosed]
@[simp] theorem execSiDiscrepancy_copies (n : Fin 4) (s : State) : s.keepsCopies (execSiDiscrepancy n s) := by
  unfold execSiDiscrepancy
  split <;> simp

@[simp] theorem execSiTestpulse_copies (n : Fin 4) (b : Bool) (s : State) :
    s.keepsCopies (execSiTestpulse n b s) := by simp [execSiTestpulse]
@[simp] theorem execTestPulse_copies (src : Fin 4) (s : State) :
    s.keepsCopies (execTestPulse src s) := by simp [execTestPulse]
@[simp] theorem execSiResetPress_copies (n : Fin 4) (s : State) : s.keepsCopies (execSiResetPress n s) := by
  unfold execSiResetPress
  split <;> simp

@[simp] theorem execSafetyPduIn_copies (q : Req) (b : List Nat) (s : State) :
    s.keepsCopies (execSafetyPduIn q b s) := by simp [execSafetyPduIn]
@[simp] theorem execPduTimeout_copies (s : State) : s.keepsCopies (execPduTimeout s) := by simp [execPduTimeout]
@[simp] theorem execMirrorCompare_copies (k : Fin 64) (parity oneCell : Bool) (s : State) :
    s.keepsCopies (execMirrorCompare k parity oneCell s) := by simp [execMirrorCompare]
@[simp] theorem execMirrorSkew_copies (k : Fin 64) (s : State) : s.keepsCopies (execMirrorSkew k s) := by
  unfold execMirrorSkew
  split <;> simp

@[simp] theorem execMirrorWatch_copies (k : Fin 64) (s : State) : s.keepsCopies (execMirrorWatch k s) := by
  unfold execMirrorWatch
  split <;> simp

@[simp] theorem execComparatorSelftest_copies (failing : List (Fin 64)) (s : State) :
    s.keepsCopies (execComparatorSelftest failing s) := by simp [execComparatorSelftest]
@[simp] theorem execQoOffTest_copies (k : Fin 4) (s : State) :
    s.keepsCopies (execQoOffTest k s) := by simp [execQoOffTest]
@[simp] theorem inconclusiveTest_copies (s : State) (k : Nat) :
    (s.inconclusiveTest k).fuse.copies = s.fuse.copies := by simp [State.inconclusiveTest]
@[simp] theorem execQoOffTestEnd_copies (k : Fin 4) (res : OffTest) (s : State) :
    s.keepsCopies (execQoOffTestEnd k res s) := by
  unfold execQoOffTestEnd
  (repeat' split) <;> simp

@[simp] theorem execClockCheck_copies (count : Nat) (s : State) :
    s.keepsCopies (execClockCheck count s) := by simp [execClockCheck]
@[simp] theorem execChannelDisagree_copies (s : State) :
    s.keepsCopies (execChannelDisagree s) := by simp [execChannelDisagree]
@[simp] theorem execSupply_copies (out : Bool) (s : State) : s.keepsCopies (execSupply out s) := by simp [execSupply]
@[simp] theorem execOvertemp_copies (temp : Int) (s : State) :
    s.keepsCopies (execOvertemp temp s) := by simp [execOvertemp]
@[simp] theorem execQoscStop_copies (a b : Bool) (s : State) :
    s.keepsCopies (execQoscStop a b s) := by simp [execQoscStop]
@[simp] theorem execQuenchRequest_copies (q : Req) (b : List Nat) (s : State) :
    s.keepsCopies (execQuenchRequest q b s) := by simp [execQuenchRequest]
@[simp] theorem execSafeReadbackTimeout_copies (r : Fin 16) (b wrong : Bool) (s : State) :
    s.keepsCopies (execSafeReadbackTimeout r b wrong s) := by simp [execSafeReadbackTimeout]

/-! ### ImageOps -/

@[simp] theorem putPdaBits_copies (s : State) (src n v : Nat) :
    (s.putPdaBits src n v).fuse.copies = s.fuse.copies := by simp [State.putPdaBits]
@[simp] theorem zeroObject_copies (s : State) (n : SessionNo) (key : Nat) :
    (s.zeroObject n key).fuse.copies = s.fuse.copies := by
  unfold State.zeroObject
  dsimp only
  (repeat' split) <;> simp

@[simp] theorem zeroImage_copies (s : State) (x : ImageRec) :
    (s.zeroImage x).fuse.copies = s.fuse.copies := by simp [State.zeroImage]
@[simp] theorem failImage_copies (s : State) (i : Nat) :
    (s.failImage i).fuse.copies = s.fuse.copies := by simp [State.failImage]

/-! ### SessionOps -/

@[simp] theorem dropHolder_copies (s : State) (l code : Nat) (session : SessionNo) :
    (s.dropHolder l code session).fuse.copies = s.fuse.copies := by simp [State.dropHolder]
@[simp] theorem lapseLease_copies (s : State) (l : Nat) :
    (s.lapseLease l).fuse.copies = s.fuse.copies := by simp [State.lapseLease]
@[simp] theorem fenceLease_copies (s : State) (l : Nat) (session : SessionNo) :
    (s.fenceLease l session).fuse.copies = s.fuse.copies := by simp [State.fenceLease]
@[simp] theorem endImages_copies (s : State) (n : SessionNo) : (s.endImages n).fuse.copies = s.fuse.copies := by
  unfold State.endImages
  dsimp only
  rw [foldl_modImage_copies, foldl_copies fun t i => ?_]
  split
  · exact failImage_copies t i
  · rfl

@[simp] theorem dropRequests_copies (s : State) (n : SessionNo) :
    (s.dropRequests n).fuse.copies = s.fuse.copies := (rfl)
@[simp] theorem disownApplies_copies (s : State) (n : SessionNo) :
    (s.disownApplies n).fuse.copies = s.fuse.copies := (rfl)
@[simp] theorem endSession_copies (s : State) (n : SessionNo) (lapse : Bool) :
    (s.endSession n lapse).fuse.copies = s.fuse.copies := by simp [State.endSession]
@[simp] theorem endSessions_copies (s : State) :
    s.endSessions.fuse.copies = s.fuse.copies := by simp [State.endSessions]
@[simp] theorem credentialEdge_copies (s : State) :
    s.credentialEdge.fuse.copies = s.fuse.copies := by simp [State.credentialEdge]
@[simp] theorem dropShake_copies (s : State) (conn : Nat) : (s.dropShake conn).fuse.copies = s.fuse.copies := (rfl)
@[simp] theorem senseEn_copies (s : State) (en : Bool) : (s.senseEn en).fuse.copies = s.fuse.copies := (rfl)

/-! ### ApplyOps -/

@[simp] theorem acceptApply_copies (s : State) (n : SessionNo) (x : Session) (r : ApplyReq) :
    (s.acceptApply n x r).fuse.copies = s.fuse.copies := by simp [State.acceptApply]
@[simp] theorem failApply_copies (s : State) (a : Apply) (f : Nat × Abort) :
    (s.failApply a f).fuse.copies = s.fuse.copies := by simp [State.failApply]
@[simp] theorem retryApply_copies (s : State) (a : Apply) (f : Nat × Abort) :
    (s.retryApply a f).fuse.copies = s.fuse.copies := by simp [State.retryApply]
@[simp] theorem startApplyRound_copies (s : State) (a : Apply) (e : T64) :
    (s.startApplyRound a e).fuse.copies = s.fuse.copies := by
  unfold State.startApplyRound
  dsimp only
  split <;> simp

@[simp] theorem judgeApply_copies (s : State) (a : Apply) (e : T64) :
    (s.judgeApply a e).fuse.copies = s.fuse.copies := by
  unfold State.judgeApply
  (repeat' split) <;> simp

@[simp] theorem decideRound_copies (s : State) (r : AtomicRound) : (s.decideRound r).fuse.copies = s.fuse.copies := by
  unfold State.decideRound
  dsimp only
  (repeat' split) <;> simp

@[simp] theorem deadlineDue_copies (s : State) (n k : Nat) : (s.deadlineDue n k).fuse.copies = s.fuse.copies := by
  unfold State.deadlineDue
  (repeat' split) <;> simp

@[simp] theorem settled_copies (s : State) (key : Nat) (v : Val) :
    (s.settled key v).fuse.copies = s.fuse.copies := by simp [State.settled]
@[simp] theorem putInForce_copies (s : State) (key : Nat) (v : Val) :
    (s.putInForce key v).fuse.copies = s.fuse.copies := by simp [State.putInForce]
@[simp] theorem applyEdgeDue_copies (s : State) (j : Nat) : (s.applyEdgeDue j).fuse.copies = s.fuse.copies := by
  unfold State.applyEdgeDue
  (repeat' split) <;> simp

@[simp] theorem stagedDue_copies (s : State) (n : Nat) (e : StagedEntry) :
    (s.stagedDue n e).fuse.copies = s.fuse.copies := by
  unfold State.stagedDue
  (repeat' split) <;> simp

@[simp] theorem slotWaited_copies (s : State) (k : Nat) :
    (s.slotWaited k).fuse.copies = s.fuse.copies := by simp [State.slotWaited]
@[simp] theorem applyWaited_copies (s : State) (j : Nat) : (s.applyWaited j).fuse.copies = s.fuse.copies := by
  unfold State.applyWaited
  (repeat' split) <;> simp

/-! ### Applies -/

@[simp] theorem execClusterMapWrite_copies (q : Req) (z : Fin 7) (b : List Nat) (s : State) :
    s.keepsCopies (execClusterMapWrite q z b s) := by simp [execClusterMapWrite]
@[simp] theorem execApplyCommand_copies (q : Req) (b : List Nat) (s : State) :
    s.keepsCopies (execApplyCommand q b s) := by simp [execApplyCommand]
@[simp] theorem execApplyRound_copies (j : Nat) (s : State) : s.keepsCopies (execApplyRound j s) := by
  unfold execApplyRound
  (repeat' split) <;> simp

@[simp] theorem execApplyEdge_copies (j : Nat) (s : State) :
    s.keepsCopies (execApplyEdge j s) := by simp [execApplyEdge]
@[simp] theorem execApplyInforce_copies (j : Nat) (s : State) : s.keepsCopies (execApplyInforce j s) := by
  unfold execApplyInforce
  split <;> simp

@[simp] theorem execPendingDiscard_copies (q : Req) (b : List Nat) (s : State) :
    s.keepsCopies (execPendingDiscard q b s) := by simp [execPendingDiscard]
@[simp] theorem execRestoreDefaults_copies (q : Req) (b : List Nat) (s : State) :
    s.keepsCopies (execRestoreDefaults q b s) := by simp [execRestoreDefaults]
@[simp] theorem execFwTrial_copies (q : Req) (b : List Nat) (s : State) : s.keepsCopies (execFwTrial q b s) := by
  unfold execFwTrial
  rw [keepsCopies_next]
  split
  · refine serve_copies fun t ss => ?_
    (repeat' split) <;> rfl
  · exact servePending_copies ..

@[simp] theorem execAtomicDeadline_copies (n : Fin 78) (k : Fin 64) (s : State) :
    s.keepsCopies (execAtomicDeadline n k s) := by simp [execAtomicDeadline]
@[simp] theorem execAtomicApplyEdge_copies (n : Fin 78) (s : State) :
    s.keepsCopies (execAtomicApplyEdge n s) := by simp [execAtomicApplyEdge]
@[simp] theorem execMarkWaitExpiry_copies (slot : Option (Fin 2)) (j : Nat) (s : State) :
    s.keepsCopies (execMarkWaitExpiry slot j s) := by
  unfold execMarkWaitExpiry
  split <;> simp

/-! ### Assay -/

@[simp] theorem execAssayPass_copies (us : Fin 151) (s : State) :
    s.keepsCopies (execAssayPass us s) := by simp [execAssayPass]
@[simp] theorem execAssayRepair_copies (t : Fin 1024) (k : Fin 15) (s : State) :
    s.keepsCopies (execAssayRepair t k s) := by simp [execAssayRepair]
@[simp] theorem execAssayLate_copies (s : State) : s.keepsCopies (execAssayLate s) := by simp [execAssayLate]

/-! ### Claims -/

@[simp] theorem execImageClaim_copies (q : Req) (i : Fin 16) (b : List Nat) (s : State) :
    s.keepsCopies (execImageClaim q i b s) := by simp [execImageClaim]
@[simp] theorem execImageEnable_copies (q : Req) (i : Fin 16) (b : List Nat) (s : State) :
    s.keepsCopies (execImageEnable q i b s) := by simp [execImageEnable]

/-! ### DirectIo -/

@[simp] theorem filterAccept_copies (s : State) (y : Nat) : (s.filterAccept y).fuse.copies = s.fuse.copies := by
  unfold State.filterAccept
  split <;> simp

@[simp] theorem dioTransition_copies (s : State) (y : Nat) (t : T80) (level : Bool) :
    (s.dioTransition y t level).fuse.copies = s.fuse.copies := by simp [State.dioTransition]
@[simp] theorem execDioTransition_copies (y : Fin 24) (level : Bool) (sub : Fin 32) (s : State) :
    s.keepsCopies (execDioTransition y level sub s) := by simp [execDioTransition]
@[simp] theorem execDioFilterAccept_copies (y : Fin 24) (s : State) :
    s.keepsCopies (execDioFilterAccept y s) := by simp [execDioFilterAccept]
@[simp] theorem execOutLevel_copies (q : Req) (y : Fin 24) (b : List Nat) (s : State) :
    s.keepsCopies (execOutLevel q y b s) := by simp [execOutLevel]
@[simp] theorem execScheduleEdge_copies (q : Req) (y : Fin 24) (b : List Nat) (s : State) :
    s.keepsCopies (execScheduleEdge q y b s) := by simp [execScheduleEdge]
@[simp] theorem outToken_copies (s : State) (y : Nat) (v : Word) : (s.outToken y v).fuse.copies = s.fuse.copies := by
  unfold State.outToken
  dsimp only
  split
  · split
    · exact dioEntry_copies ..
    · rw [modPin_fuse, dioEntry_copies]
  split
  · rfl
  · exact dioDrive_copies ..

@[simp] theorem execStreamOutToken_copies (y : Fin 24) (s : State) : s.keepsCopies (execStreamOutToken y s) := by
  unfold execStreamOutToken
  split <;> simp

@[simp] theorem execScheduledEdgePlace_copies (y : Fin 24) (s : State) :
    s.keepsCopies (execScheduledEdgePlace y s) := by
  unfold execScheduledEdgePlace
  split <;> simp

/-! ### Energy -/

@[simp] theorem execS0Pulse_copies (m : Fin 2) (active inactive : Nat) (s : State) :
    s.keepsCopies (execS0Pulse m active inactive s) := by simp [execS0Pulse]
@[simp] theorem execS0Silence_copies (m : Fin 2) (s : State) :
    s.keepsCopies (execS0Silence m s) := by simp [execS0Silence]
@[simp] theorem execDeviceEnergySample_copies (va ia vb ib : Fin 65536) (s : State) :
    s.keepsCopies (execDeviceEnergySample va ia vb ib s) := by simp [execDeviceEnergySample]
@[simp] theorem execDemandBoundary_copies (s : State) :
    s.keepsCopies (execDemandBoundary s) := by simp [execDemandBoundary]
@[simp] theorem execTariffPush_copies (q : Req) (b : List Nat) (s : State) :
    s.keepsCopies (execTariffPush q b s) := by simp [execTariffPush]
@[simp] theorem execBillingClose_copies (q : Req) (b : List Nat) (s : State) :
    s.keepsCopies (execBillingClose q b s) := by simp [execBillingClose]
@[simp] theorem execCounterJournal_copies (s : State) :
    s.keepsCopies (execCounterJournal s) := by simp [execCounterJournal]
@[simp] theorem execForecast_copies (s : State) : s.keepsCopies (execForecast s) := by simp [execForecast]
@[simp] theorem execProvisionalMax_copies (s : State) :
    s.keepsCopies (execProvisionalMax s) := by simp [execProvisionalMax]

/-! ### Events -/

@[simp] theorem execEventRecord_copies (r : Fin 16) (zone : Fin 16) (w k : BitVec 64) (s : State) :
    s.keepsCopies (execEventRecord r zone w k s) := by simp [execEventRecord]
@[simp] theorem execGroupOpen_copies (r : Fin 16) (zone : Fin 16) (entry : Nat) (w k : BitVec 64) (s : State) :
    s.keepsCopies (execGroupOpen r zone entry w k s) := by simp [execGroupOpen]
@[simp] theorem execGroupMember_copies (r : Fin 16) (zone : Fin 16) (entry : Nat) (w k : BitVec 64) (s : State) :
    s.keepsCopies (execGroupMember r zone entry w k s) := by simp [execGroupMember]
@[simp] theorem execGroupAssemblyTimeout_copies (r g : Fin 16) (s : State) :
    s.keepsCopies (execGroupAssemblyTimeout r g s) := by
  unfold execGroupAssemblyTimeout
  split <;> simp

@[simp] theorem execEventSend_copies (r : Fin 16) (p : Fin 65) (s : State) :
    s.keepsCopies (execEventSend r p s) := by simp [execEventSend]
@[simp] theorem execEventEcho_copies (r : Fin 16) (p : Fin 65) (s : State) :
    s.keepsCopies (execEventEcho r p s) := by simp [execEventEcho]
@[simp] theorem execTrimSend_copies (r : Fin 16) (uid : Nat) (s : State) : s.keepsCopies (execTrimSend r uid s) := by
  unfold execTrimSend
  (repeat' split) <;> simp

@[simp] theorem execFinalTrim_copies (r : Fin 16) (uid : Nat) (s : State) : s.keepsCopies (execFinalTrim r uid s) := by
  unfold execFinalTrim
  (repeat' split) <;> simp

@[simp] theorem execEventFreeze_copies (r : Fin 16) (uid : Nat) (s : State) :
    s.keepsCopies (execEventFreeze r uid s) := by
  unfold execEventFreeze
  split <;> simp

@[simp] theorem execEventDone_copies (r : Fin 16) (uid : Nat) (s : State) : s.keepsCopies (execEventDone r uid s) := by
  unfold execEventDone
  split <;> simp

@[simp] theorem execGroupSend_copies (r g : Fin 16) (s : State) : s.keepsCopies (execGroupSend r g s) := by
  unfold execGroupSend
  split <;> simp

@[simp] theorem execStageRetry_copies (r g : Fin 16) (s : State) : s.keepsCopies (execStageRetry r g s) := by
  unfold execStageRetry
  split <;> simp

@[simp] theorem execGroupDeadline_copies (r g : Fin 16) (s : State) : s.keepsCopies (execGroupDeadline r g s) := by
  unfold execGroupDeadline
  split <;> simp

@[simp] theorem execCommitRepeat_copies (r g : Fin 16) (s : State) : s.keepsCopies (execCommitRepeat r g s) := by
  unfold execCommitRepeat
  split <;> simp

@[simp] theorem execGroupHold_copies (r g : Fin 16) (s : State) : s.keepsCopies (execGroupHold r g s) := by
  unfold execGroupHold
  split <;> simp

@[simp] theorem execAckFrame_copies (r : Fin 16) (p : Fin 65) (gid kind status : Nat) (good : Bool) (s : State) :
    s.keepsCopies (execAckFrame r p gid kind status good s) := by simp [execAckFrame]
@[simp] theorem pushChunk_copies (s : State) (r n : Nat) (words : List Nat) :
    (s.pushChunk r n words).fuse.copies = s.fuse.copies := by
  unfold State.pushChunk
  split
  next h => exact pushQueue_copies h
  next => rfl

@[simp] theorem execSenseFrame_copies (r : Fin 16) (p : Fin 65) (stream fmt : Nat) (t0 : T80) (sper : Nat)
    (samples : List Nat) (good : Bool) (s : State) :
    s.keepsCopies (execSenseFrame r p stream fmt t0 sper samples good s) := by
  unfold execSenseFrame
  (repeat' split) <;> simp

/-! ### Fuses -/

@[simp] theorem execFuseProgram_copies (q : Req) (b : List Nat) (e : FuseEnv) (s : State) :
    s.keepsCopies (execFuseProgram q b e s) := by simp [execFuseProgram]
@[simp] theorem execFcRead_copies (a : Fin 1024) (s : State) : s.keepsCopies (execFcRead a s) := by
  unfold execFcRead
  split <;> rfl

@[simp] theorem execFcMarginRead_copies (a : Fin 1024) (x y : BitVec 40) (s : State) :
    s.keepsCopies (execFcMarginRead a x y s) := by
  unfold execFcMarginRead
  split <;> rfl

@[simp] theorem execFcScan_copies (weak : List (Fin 64)) (s : State) : s.keepsCopies (execFcScan weak s) := by
  unfold execFcScan
  split <;> simp

@[simp] theorem execFwSvnFloor_copies (q : Req) (b : List Nat) (e : FuseEnv) (s : State) :
    s.keepsCopies (execFwSvnFloor q b e s) := by simp [execFwSvnFloor]
@[simp] theorem execMachineIdent_copies (q : Req) (b : List Nat) (e : FuseEnv) (s : State) :
    s.keepsCopies (execMachineIdent q b e s) := by simp [execMachineIdent]
@[simp] theorem execStoreScrub_copies (corrected lost : List (Fin 1048576)) (s : State) :
    s.keepsCopies (execStoreScrub corrected lost s) := by simp [execStoreScrub]
@[simp] theorem execStoreRefresh_copies (s : State) : s.keepsCopies (execStoreRefresh s) := by simp [execStoreRefresh]
@[simp] theorem execHomeRecordWrite_copies (key : Fin 16777216) (s : State) :
    s.keepsCopies (execHomeRecordWrite key s) := by simp [execHomeRecordWrite]

/-! ### Heads -/

@[simp] theorem execEnergyFrame_copies (r : Fin 16) (p : Fin 65) (good : Bool) (ecum rcount : Nat) (s : State) :
    s.keepsCopies (execEnergyFrame r p good ecum rcount s) := by simp [execEnergyFrame]
@[simp] theorem execMgmtRd_copies (r : Fin 16) (p : Fin 65) (dst : Fin 256) (good : Bool) (tag addr : Fin 65536) (n : Fin 256)
    (s : State) : s.keepsCopies (execMgmtRd r p dst good tag addr n s) := by
  refine headFrame_copies _ _ _ _ _ _ fun u => ?_
  split <;> simp

@[simp] theorem execMgmtWr_copies (r : Fin 16) (p : Fin 65) (dst : Fin 256) (good : Bool) (tag addr : Fin 65536)
    (data : List (Fin 4294967296)) (s : State) : s.keepsCopies (execMgmtWr r p dst good tag addr data s) := by
  refine headFrame_copies _ _ _ _ _ _ fun u => ?_
  dsimp only
  split <;> simp

@[simp] theorem mgmtAnswered_copies (s : State) (r p tag : Nat) :
    (s.mgmtAnswered r p tag).fuse.copies = s.fuse.copies := (rfl)
@[simp] theorem execMgmtRdRsp_copies (r : Fin 16) (p : Fin 65) (good : Bool) (tag addr : Fin 65536) (data : List
    (Fin 4294967296)) (s : State) :
    s.keepsCopies (execMgmtRdRsp r p good tag addr data s) := by
  unfold execMgmtRdRsp
  (repeat' split) <;> simp

@[simp] theorem execMgmtWrRsp_copies (r : Fin 16) (p : Fin 65) (good : Bool) (tag : Fin 65536) (s : State) :
    s.keepsCopies (execMgmtWrRsp r p good tag s) := by simp [execMgmtWrRsp]
@[simp] theorem execMgmtErr_copies (r : Fin 16) (p : Fin 65) (good : Bool) (tag : Fin 65536) (s : State) :
    s.keepsCopies (execMgmtErr r p good tag s) := by simp [execMgmtErr]
@[simp] theorem execEventFrame_copies (r : Fin 16) (p : Fin 65) (dst : Fin 256) (good : Bool) (es : List EventEntry)
    (s : State) : s.keepsCopies (execEventFrame r p dst good es s) := headFrame_copies _ _ _ _ _ _ fun _ => rfl

@[simp] theorem groupFrame_copies (s : State) (r p : Nat) (good : Bool) (mask : List Nat) (gid kind fseq : Nat)
    (act : Head → Nat → Head) (status : Head → Nat → Nat) :
    (s.groupFrame r p good mask gid kind fseq act status).fuse.copies = s.fuse.copies := by simp [State.groupFrame]
@[simp] theorem execStageFrame_copies (r : Fin 16) (p : Fin 65) (good : Bool) (gid fseq : Fin 65536)
    (hold : Nat) (mask : List (Fin 65)) (es : List (Fin 65 × EventEntry)) (s : State) :
    s.keepsCopies (execStageFrame r p good gid fseq hold mask es s) := by simp [execStageFrame]
@[simp] theorem execCommitFrame_copies (r : Fin 16) (p : Fin 65) (good : Bool) (gid fseq : Fin 65536)
    (mask : List (Fin 65)) (s : State) :
    s.keepsCopies (execCommitFrame r p good gid fseq mask s) := by simp [execCommitFrame]
@[simp] theorem execAbortFrame_copies (r : Fin 16) (p : Fin 65) (good : Bool) (gid fseq : Fin 65536)
    (mask : List (Fin 65)) (s : State) :
    s.keepsCopies (execAbortFrame r p good gid fseq mask s) := by simp [execAbortFrame]
@[simp] theorem execHeadHoldDiscard_copies (r : Fin 16) (p : Fin 65) (gid : Fin 65536) (s : State) :
    s.keepsCopies (execHeadHoldDiscard r p gid s) := (rfl)
@[simp] theorem execHeadLockIn_copies (r : Fin 16) (p : Fin 65) (eid : Fin 65536) (s : State) :
    s.keepsCopies (execHeadLockIn r p eid s) := (rfl)
@[simp] theorem execHeadFire_copies (r : Fin 16) (p : Fin 65) (ch : Fin 16) (s : State) :
    s.keepsCopies (execHeadFire r p ch s) := (rfl)
@[simp] theorem execPulseEnd_copies (r : Fin 16) (p : Fin 65) (ch : Fin 16) (s : State) :
    s.keepsCopies (execPulseEnd r p ch s) := by simp [execPulseEnd]
@[simp] theorem execCoastEntry_copies (r : Fin 16) (p : Fin 65) (s : State) :
    s.keepsCopies (execCoastEntry r p s) := by simp [execCoastEntry]
@[simp] theorem execCoastMaxExpiry_copies (r : Fin 16) (p : Fin 65) (s : State) :
    s.keepsCopies (execCoastMaxExpiry r p s) := by simp [execCoastMaxExpiry]
@[simp] theorem execSafeTimeoutExpiry_copies (r : Fin 16) (p : Fin 65) (s : State) :
    s.keepsCopies (execSafeTimeoutExpiry r p s) := by
  unfold execSafeTimeoutExpiry
  dsimp only
  split <;> simp

@[simp] theorem execEnergyReport_copies (r : Fin 16) (p : Fin 65) (uwh : Nat) (s : State) :
    s.keepsCopies (execEnergyReport r p uwh s) := by simp [execEnergyReport]
@[simp] theorem execSenseSend_copies (r : Fin 16) (p : Fin 65) (stream : Fin 8) (t0 : Nat) (samples : List Nat)
    (s : State) :
    s.keepsCopies (execSenseSend r p stream t0 samples s) := by simp [execSenseSend]
@[simp] theorem execHeadPowerUp_copies (r : Fin 16) (p : Fin 65) (d : HeadDesc) (jogCapable : Bool)
    (channelRegs : List (Fin 4294967296)) (s : State) :
    s.keepsCopies (execHeadPowerUp r p d jogCapable channelRegs s) := by simp [execHeadPowerUp]

/-! ### Leases -/

@[simp] theorem leaseRequest_copies (s : State) (q : Req) (l : Nat) (may : Role → Bool) (run : State → Session → Served)
    (hrun : ∀ t ss, (run t ss).state.fuse.copies = t.fuse.copies) :
    (s.leaseRequest q l may run).fuse.copies = s.fuse.copies := by
  refine serve_copies fun t ss => ?_
  split
  · rfl
  split
  · dsimp only
    split <;> exact hrun t ss
  · rfl

@[simp] theorem execLeaseTake_copies (q : Req) (l : Fin 256) (s : State) :
    s.keepsCopies (execLeaseTake q l s) := by simp [execLeaseTake]
@[simp] theorem execLeaseRelease_copies (q : Req) (l : Fin 256) (s : State) :
    s.keepsCopies (execLeaseRelease q l s) := by simp [execLeaseRelease]
@[simp] theorem execLeaseFence_copies (q : Req) (l : Fin 256) (s : State) :
    s.keepsCopies (execLeaseFence q l s) := by simp [execLeaseFence]
@[simp] theorem execPhysicalAckBegin_copies (byFuse : Bool) (s : State) :
    s.keepsCopies (execPhysicalAckBegin byFuse s) := by simp [execPhysicalAckBegin]
@[simp] theorem execPhysicalAckDone_copies (byFuse held : Bool) (s : State) :
    s.keepsCopies (execPhysicalAckDone byFuse held s) := by
  unfold execPhysicalAckDone
  dsimp only
  (repeat' split) <;> simp

@[simp] theorem execPhysAckWindowExpiry_copies (l : Fin 256) (s : State) :
    s.keepsCopies (execPhysAckWindowExpiry l s) := by simp [execPhysAckWindowExpiry]

/-! ### Power -/

@[simp] theorem execFeedStable_copies (f : Fin 2) (events : Fin 6) (s : State) :
    s.keepsCopies (execFeedStable f events s) := by simp [execFeedStable]
@[simp] theorem execFeedLost_copies (f : Fin 2) (s : State) : s.keepsCopies (execFeedLost f s) := by simp [execFeedLost]
@[simp] theorem execFeedAbsent_copies (f : Fin 2) (s : State) :
    s.keepsCopies (execFeedAbsent f s) := by simp [execFeedAbsent]
@[simp] theorem execDip_copies (s : State) : s.keepsCopies (execDip s) := by simp [execDip]
@[simp] theorem execPowerHold_copies (s : State) : s.keepsCopies (execPowerHold s) := by simp [execPowerHold]
@[simp] theorem execThermalHold_copies (temps : List Int) (s : State) :
    s.keepsCopies (execThermalHold temps s) := by simp [execThermalHold]
@[simp] theorem execThermalRelease_copies (temps : List Int) (s : State) :
    s.keepsCopies (execThermalRelease temps s) := by simp [execThermalRelease]
@[simp] theorem execLifeSample_copies (temps : List Int) (s : State) :
    s.keepsCopies (execLifeSample temps s) := by simp [execLifeSample]
@[simp] theorem execVkeepLow_copies (mv : Fin 1800) (s : State) :
    s.keepsCopies (execVkeepLow mv s) := by simp [execVkeepLow]
@[simp] theorem execBrownoutHoldExpiry_copies (s : State) :
    s.keepsCopies (execBrownoutHoldExpiry s) := by simp [execBrownoutHoldExpiry]
@[simp] theorem execBrownoutWindow_copies (s : State) :
    s.keepsCopies (execBrownoutWindow s) := by simp [execBrownoutWindow]

/-! ### OpOps -/

@[simp] theorem leaveTask_copies (s : State) (n : Nat) : (s.leaveTask n).fuse.copies = s.fuse.copies := by
  unfold State.leaveTask
  split <;> simp

@[simp] theorem discardEvents_copies (s : State) : s.discardEvents.fuse.copies = s.fuse.copies := (rfl)
@[simp] theorem leaveRun_copies (s : State) (frames : Bool) :
    (s.leaveRun frames).fuse.copies = s.fuse.copies := by simp [State.leaveRun]
@[simp] theorem leaving_copies (s : State) (frames : Bool) :
    (s.leaving frames).fuse.copies = s.fuse.copies := by simp [State.leaving]
@[simp] theorem loseVolatile_copies (s : State) (stood : Bool) : (s.loseVolatile stood).fuse.copies = s.fuse.copies := by
  rw [State.loseVolatile, kept_copies]

@[simp] theorem assertReset_copies (s : State) (r : ResetSource) :
    (s.assertReset r).fuse.copies = s.fuse.copies := by simp [State.assertReset]
@[simp] theorem powerOff_copies (s : State) (vkeep : Nat) :
    (s.powerOff vkeep).fuse.copies = s.fuse.copies := by simp [State.powerOff]
@[simp] theorem powerUp_copies (s : State) : s.powerUp.fuse.copies = s.fuse.copies := by simp [State.powerUp]
@[simp] theorem quenchFuses_copies (s : State) :
    s.quenchFuses.fuse.copies = s.fuse.copies := by simp [State.quenchFuses]
@[simp] theorem startTime_copies (s : State) : s.startTime.fuse.copies = s.fuse.copies := by simp [State.startTime]
@[simp] theorem bootTamper_copies (s : State) : s.bootTamper.fuse.copies = s.fuse.copies := by simp [State.bootTamper]
@[simp] theorem enterBoot_copies (s : State) (weak : List (Fin 64)) (bist : Bool) :
    (s.enterBoot weak bist).fuse.copies = s.fuse.copies := by
  unfold State.enterBoot
  dsimp only
  rw [judgeRedundant_copies, judgeHold_copies, modAssay_fuse]
  split <;> simp

@[simp] theorem haltTask_copies (s : State) (n : Nat) :
    (s.haltTask n).fuse.copies = s.fuse.copies := by simp [State.haltTask]
@[simp] theorem dropRounds_copies (s : State) : s.dropRounds.fuse.copies = s.fuse.copies := (rfl)
@[simp] theorem fatal_copies (s : State) (code source addr : Nat) :
    (s.fatal code source addr).fuse.copies = s.fuse.copies := by simp [State.fatal]
@[simp] theorem shedNow_copies (s : State) : s.shedNow.fuse.copies = s.fuse.copies := by
  unfold State.shedNow
  dsimp only
  split <;> simp

@[simp] theorem ringsStart_copies (s : State) : s.ringsStart.fuse.copies = s.fuse.copies := by
  refine foldl_copies (fun u r => ?_) _ s
  split
  · exact startTraining_copies ..
  · rfl

@[simp] theorem enterSleep_copies (s : State) : s.enterSleep.fuse.copies = s.fuse.copies := by simp [State.enterSleep]
@[simp] theorem wake_copies (s : State) (cause : Nat) : (s.wake cause).fuse.copies = s.fuse.copies := by
  rw [State.wake, judgeHold_copies, ringsStart_copies]

@[simp] theorem opRequest_copies (s : State) (q : Req) (v : Nat) (run : State → Served)
    (hrun : ∀ t, (run t).state.fuse.copies = t.fuse.copies) : (s.opRequest q v run).fuse.copies = s.fuse.copies := by
  refine serve_copies fun t ss => ?_
  split
  · rfl
  split
  · rfl
  split
  · exact hrun t
  · rfl

@[simp] theorem toRun_copies (s : State) (n : SessionNo) :
    (s.toRun n).state.fuse.copies = s.fuse.copies := by simp [State.toRun]

/-! ### GafferOps -/

@[simp] theorem markTrial_copies (s : State) : s.markTrial.fuse.copies = s.fuse.copies := by
  unfold State.markTrial
  split <;> simp

@[simp] theorem startImage_copies (s : State) (k : FwSlot) :
    (s.startImage k).fuse.copies = s.fuse.copies := by simp [State.startImage]
@[simp] theorem bootSelect_copies (s : State) : s.bootSelect.fuse.copies = s.fuse.copies := by
  unfold State.bootSelect
  dsimp only
  (repeat' split) <;> simp

@[simp] theorem freshLease_copies (s : State) (l : Nat) :
    (s.freshLease l).fuse.copies = s.fuse.copies := by simp [State.freshLease]
@[simp] theorem freshSlot_copies (s : State) (k : Nat) :
    (s.freshSlot k).fuse.copies = s.fuse.copies := by simp [State.freshSlot]
@[simp] theorem load_copies (s : State) (key : Nat) (v : Val) :
    (s.load key v).fuse.copies = s.fuse.copies := by simp [State.load]
@[simp] theorem loadDictionary_copies (s : State) :
    s.loadDictionary.fuse.copies = s.fuse.copies := by simp [State.loadDictionary]
@[simp] theorem homeLost_copies (s : State) (key : Nat) :
    (s.homeLost key).fuse.copies = s.fuse.copies := by simp [State.homeLost]
@[simp] theorem journalGap_copies (s : State) (j : Nat) : (s.journalGap j).fuse.copies = s.fuse.copies := by
  unfold State.journalGap
  split <;> simp

@[simp] theorem replay_copies (s : State) (torn : Bool) (gaps : List Nat) :
    (s.replay torn gaps).fuse.copies = s.fuse.copies := by simp [State.replay]
@[simp] theorem freshApply_copies (s : State) (a : Apply) : (s.freshApply a).fuse.copies = s.fuse.copies := by
  unfold State.freshApply
  split <;> simp

@[simp] theorem splitTask_copies (s : State) (n : Nat) :
    (s.splitTask n).fuse.copies = s.fuse.copies := by simp [State.splitTask]
@[simp] theorem joinBlank_copies (s : State) (e : Nat) :
    (s.joinBlank e).fuse.copies = s.fuse.copies := by simp [State.joinBlank]
@[simp] theorem relayBlank_copies (s : State) (e : Nat) :
    (s.relayBlank e).fuse.copies = s.fuse.copies := by simp [State.relayBlank]
@[simp] theorem fuseAlarm_copies (code : Nat) (s : State) (a : Nat) :
    (State.fuseAlarm code s a).fuse.copies = s.fuse.copies := by simp [State.fuseAlarm]
@[simp] theorem fuseAlarms_copies (s : State) : s.fuseAlarms.fuse.copies = s.fuse.copies := by
  rw [State.fuseAlarms, foldl_copies (fuseAlarm_copies _), foldl_copies (fuseAlarm_copies _), withIncomplete_copies,
    foldl_copies (fuseAlarm_copies _), foldl_copies (fuseAlarm_copies _)]

@[simp] theorem copyTamper_copies (s : State) : s.copyTamper.fuse.copies = s.fuse.copies := by simp [State.copyTamper]
@[simp] theorem enterService_copies (s : State) :
    s.enterService.fuse.copies = s.fuse.copies := by simp [State.enterService]
@[simp] theorem firmwareStart_copies (s : State) (k : FwSlot) (torn : Bool) (gaps lost : List Nat) :
    (s.firmwareStart k torn gaps lost).fuse.copies = s.fuse.copies := by simp [State.firmwareStart]
@[simp] theorem gafferRestart_copies (s : State) (cause : GafferCause) :
    (s.gafferRestart cause).fuse.copies = s.fuse.copies := by simp [State.gafferRestart]

/-! ### Operation -/

@[simp] theorem execPowerOn_copies (_f : Fin 2) (s : State) : s.keepsCopies (execPowerOn _f s) := by simp [execPowerOn]
@[simp] theorem execResetRelease_copies (powerReady nresetHigh bistPass : Bool) (weak : List (Fin 64)) (s : State) :
    s.keepsCopies (execResetRelease powerReady nresetHigh bistPass weak s) := by simp [execResetRelease]
@[simp] theorem execNresetLow_copies (ns : Nat) (s : State) : s.keepsCopies (execNresetLow ns s) := by
  unfold execNresetLow
  (repeat' split) <;> simp

@[simp] theorem execHoldupExhausted_copies (mv : Nat) (s : State) :
    s.keepsCopies (execHoldupExhausted mv s) := by simp [execHoldupExhausted]
@[simp] theorem execShedDecision_copies (s : State) : s.keepsCopies (execShedDecision s) := by simp [execShedDecision]
@[simp] theorem execImageSelection_copies (s : State) :
    s.keepsCopies (execImageSelection s) := by simp [execImageSelection]
@[simp] theorem execGafferFirmwareStart_copies (torn : Bool) (gaps : List Nat) (lost : List (Fin 16777216))
    (s : State) :
    s.keepsCopies (execGafferFirmwareStart torn gaps lost s) := by
  unfold execGafferFirmwareStart
  split <;> simp

@[simp] theorem execGafferWatchdogExpiry_copies (s : State) :
    s.keepsCopies (execGafferWatchdogExpiry s) := by simp [execGafferWatchdogExpiry]
@[simp] theorem execWatchdogCountClear_copies (s : State) :
    s.keepsCopies (execWatchdogCountClear s) := by simp [execWatchdogCountClear]
@[simp] theorem execTrialConfirm_copies (s : State) : s.keepsCopies (execTrialConfirm s) := by
  unfold execTrialConfirm
  split <;> simp

@[simp] theorem execOvertempHalt_copies (temps : List Int) (s : State) :
    s.keepsCopies (execOvertempHalt temps s) := by simp [execOvertempHalt]
@[simp] theorem execGafferCodeUe_copies (addr : Nat) (s : State) :
    s.keepsCopies (execGafferCodeUe addr s) := by simp [execGafferCodeUe]
@[simp] theorem execOpcommandRun_copies (q : Req) (s : State) :
    s.keepsCopies (execOpcommandRun q s) := by simp [execOpcommandRun]
@[simp] theorem execOpcommandService_copies (q : Req) (s : State) : s.keepsCopies (execOpcommandService q s) := by
  rw [execOpcommandService, keepsCopies_next]
  refine opRequest_copies _ _ _ _ fun t => ?_
  simp only [ite_servedCopies]
  split
  · rw [judgeHold_copies, withOp_fuse, leaveRun_copies]
  split
  · exact wake_copies t 2
  · rfl

@[simp] theorem execOpcommandSleep_copies (q : Req) (s : State) :
    s.keepsCopies (execOpcommandSleep q s) := by simp [execOpcommandSleep]
@[simp] theorem execOpcommandReset_copies (q : Req) (s : State) :
    s.keepsCopies (execOpcommandReset q s) := by simp [execOpcommandReset]
@[simp] theorem execOpcommandGafferRestart_copies (q : Req) (s : State) :
    s.keepsCopies (execOpcommandGafferRestart q s) := by simp [execOpcommandGafferRestart]
@[simp] theorem execWakeFrame_copies (_p : Port) (b : List Nat) (s : State) :
    s.keepsCopies (execWakeFrame _p b s) := by simp [execWakeFrame]
@[simp] theorem execWakePin_copies (s : State) : s.keepsCopies (execWakePin s) := by simp [execWakePin]
@[simp] theorem execEthernetLink_copies (p : Port) (mode : Fin 3) (s : State) :
    s.keepsCopies (execEthernetLink p mode s) := by simp [execEthernetLink]

/-! ### TwoWire -/

@[simp] theorem execHostTransfer_copies (q : Req) (bus : Fin 2) (b : List Nat) (s : State) :
    s.keepsCopies (execHostTransfer q bus b s) := by simp [execHostTransfer]
@[simp] theorem twResume_copies (s : State) (b : Nat) :
    (s.twResume b).fuse.copies = s.fuse.copies := by simp [State.twResume]
@[simp] theorem twTransfer_copies (s : State) (b : Nat) (c : TwCommand) (st : TwStatus) (n : Nat) (data : List Nat) :
    (s.twTransfer b c st n data).fuse.copies = s.fuse.copies := by simp [State.twTransfer]
@[simp] theorem execTwWrite_copies (bus : Fin 2) (addrAck : Bool) (acked : Fin 34) (corrupt : Bool) (s : State) :
    s.keepsCopies (execTwWrite bus addrAck acked corrupt s) := by
  unfold execTwWrite
  split <;> simp

@[simp] theorem execTwRead_copies (bus : Fin 2) (addrAck : Bool) (data : List (Fin 256)) (corrupt : Bool) (s : State) :
    s.keepsCopies (execTwRead bus addrAck data corrupt s) := by
  unfold execTwRead
  split <;> simp

@[simp] theorem execTwWriteRead_copies (bus : Fin 2) (nack : Fin 4) (data : List (Fin 256)) (corrupt : Bool)
    (s : State) :
    s.keepsCopies (execTwWriteRead bus nack data corrupt s) := by
  unfold execTwWriteRead
  split <;> simp

@[simp] theorem execTwRequest_copies (bus : Fin 2) (low : Nat) (s : State) :
    s.keepsCopies (execTwRequest bus low s) := by simp [execTwRequest]
@[simp] theorem execPollPeriod_copies (bus : Fin 2) (s : State) :
    s.keepsCopies (execPollPeriod bus s) := by simp [execPollPeriod]
@[simp] theorem pollEntry_copies (s : State) (b e : Nat) (t : T64) (read : Option (Fin 4294967296)) :
    (s.pollEntry b e t read).fuse.copies = s.fuse.copies := by
  unfold State.pollEntry
  split <;> simp

@[simp] theorem execPollRound_copies (bus : Fin 2) (reads : List (Option (Fin 4294967296))) (again : Bool) (s : State) :
    s.keepsCopies (execPollRound bus reads again s) := by simp [execPollRound]
@[simp] theorem execStretchTimeout_copies (bus : Fin 2) (s : State) :
    s.keepsCopies (execStretchTimeout bus s) := by simp [execStretchTimeout]
@[simp] theorem execTwBusFault_copies (bus : Fin 2) (s : State) : s.keepsCopies (execTwBusFault bus s) := by
  unfold execTwBusFault
  split <;> simp

@[simp] theorem execTwFaultExit_copies (bus : Fin 2) (s : State) :
    s.keepsCopies (execTwFaultExit bus s) := by simp [execTwFaultExit]
@[simp] theorem execStuckSda_copies (bus : Fin 2) (inProgress : Bool) (s : State) :
    s.keepsCopies (execStuckSda bus inProgress s) := by simp [execStuckSda]
@[simp] theorem execBusRecovery_copies (bus : Fin 2) (sdaHigh : Bool) (s : State) :
    s.keepsCopies (execBusRecovery bus sdaHigh s) := by simp [execBusRecovery]
@[simp] theorem twtNotify_copies (s : State) (l : List Nat) : (s.twtNotify l).fuse.copies = s.fuse.copies := by
  unfold State.twtNotify
  dsimp only
  split
  · rfl
  · split
    next h => exact pushQueue_copies h
    next => rfl

@[simp] theorem execTwtWrite_copies (data : List (Fin 256)) (s : State) : s.keepsCopies (execTwtWrite data s) := by
  unfold execTwtWrite
  (repeat' split) <;> simp

@[simp] theorem execTwtRead_copies (n : Fin 4096) (s : State) : s.keepsCopies (execTwtRead n s) := by simp [execTwtRead]
@[simp] theorem twtPulse_copies (s : State) : s.twtPulse.fuse.copies = s.fuse.copies := by simp [State.twtPulse]
@[simp] theorem execTwtRequest_copies (q : Req) (b : List Nat) (s : State) :
    s.keepsCopies (execTwtRequest q b s) := by simp [execTwtRequest]
@[simp] theorem execTwtRequestRepeat_copies (s : State) :
    s.keepsCopies (execTwtRequestRepeat s) := by simp [execTwtRequestRepeat]
@[simp] theorem execS0LoopShort_copies (m : Fin 2) (current : Fin 65536) (s : State) :
    s.keepsCopies (execS0LoopShort m current s) := by simp [execS0LoopShort]

/-! ### HostOps -/

@[simp] theorem refuseWrite_copies (s : State) (q : Req) (key : Nat) (b : List Nat) (c : Abort) :
    (s.refuseWrite q key b c).fuse.copies = s.fuse.copies := serveBytes_copies fun _ _ _ => rfl

@[simp] theorem writeOp_copies (s : State) (q : Req) (b : List Nat) : s.keepsCopies (s.writeOp q b) := by
  unfold State.writeOp
  split <;> simp

@[simp] theorem writeTask_copies (s : State) (q : Req) (n : Fin 256) (b : List Nat) :
    s.keepsCopies (s.writeTask q n b) := by
  unfold State.writeTask
  split <;> simp

@[simp] theorem writeBridge_copies (s : State) (q : Req) (k : Fin 32) (b : List Nat) :
    s.keepsCopies (s.writeBridge q k b) := by
  unfold State.writeBridge
  split <;> simp

@[simp] theorem writeLease_copies (s : State) (q : Req) (l : Fin 256) (b : List Nat) :
    s.keepsCopies (s.writeLease q l b) := by
  unfold State.writeLease
  split <;> simp

@[simp] theorem writeSlot_copies (s : State) (q : Req) (k : Fin 2) (sub : Nat) (b : List Nat) :
    s.keepsCopies (s.writeSlot q k sub b) := by
  unfold State.writeSlot
  split <;> simp

@[simp] theorem writeOwn_copies (s : State) (q : Req) (key : Nat) (b : List Nat) :
    s.keepsCopies (s.writeOwn q key b) := by simp [State.writeOwn]
@[simp] theorem writeNow_copies (s : State) (q : Req) (key : Nat) (b : List Nat) : s.keepsCopies (s.writeNow q key b) := by
  rw [State.writeNow]
  simp only [ite_keepsCopies, writeOp_copies, writeLease_copies, writeBridge_copies, writeTask_copies,
    execProbeClear_copies, writeSlot_copies, execLibraryDelete_copies, execHostTransfer_copies, execOutLevel_copies,
    execScheduleEdge_copies, execImageClaim_copies, execImageEnable_copies, writeOwn_copies, ite_self]

@[simp] theorem writeAny_copies (s : State) (q : Req) (key : Nat) (b : List Nat) : s.keepsCopies (s.writeAny q key b) := by
  unfold State.writeAny
  split
  · exact serve_copies fun _ _ => rfl
  · split
    · exact writeNow_copies ..
    split
    · exact execRestoreDefaults_copies ..
    split
    · exact execFwTrial_copies ..
    split
    · exact execClusterMapWrite_copies ..
    · exact servePending_copies ..

@[simp] theorem hostWrite_copies (s : State) (q : Req) (key : Nat) (b : List Nat) :
    (s.hostWrite q key b).fuse.copies = s.fuse.copies := by
  have kept := writeAny_copies s q key b
  unfold State.hostWrite
  split
  next h => rwa [h] at kept
  next => rfl

@[simp] theorem innerWrite_copies (s : State) (q : Req) (key : Nat) (b : List Nat) :
    (s.innerWrite q key b).state.fuse.copies = s.fuse.copies := by
  unfold State.innerWrite
  dsimp only
  split <;> simp

@[simp] theorem lastSegment_copies (s : State) (q : Req) (key : Nat) (whole : List Nat) :
    (s.lastSegment q key whole).state.fuse.copies = s.fuse.copies := by
  unfold State.lastSegment
  (repeat' split) <;> simp

@[simp] theorem segWriteAny_copies (s : State) (q : Req) (key : Nat) (off : Fin 4294967296) (last : Bool)
    (data : List Nat) :
    s.keepsCopies (s.segWriteAny q key off last data) := by simp [State.segWriteAny]

/-! ### Images -/

@[simp] theorem execDeviceBoundImage_copies (i : Fin 16) (n gen seq cycle : Nat) (payload : List Nat)
    (tagOk : Bool) (s : State) :
    s.keepsCopies (execDeviceBoundImage i n gen seq cycle payload tagOk s) := by simp [execDeviceBoundImage]
@[simp] theorem mappedWrite_copies (s : State) (n : SessionNo) (key : Nat) (b : List Nat) :
    (s.mappedWrite n key b).2.fuse.copies = s.fuse.copies := by
  have kept := innerWrite_copies (s.modSession n (fun x => { x with kept := [], inFlight := [] })) (s.mappedReq n key) key b
  exact kept

@[simp] theorem mapFailed_copies (s : State) (i key : Nat) :
    (s.mapFailed i key).fuse.copies = s.fuse.copies := by simp [State.mapFailed]
@[simp] theorem applyEntry_copies (i : Nat) (p : List Nat) (s : State) (e : MapEntry) :
    (State.applyEntry i p s e).fuse.copies = s.fuse.copies := by simp [State.applyEntry]
@[simp] theorem imageTakesEffect_copies (s : State) (i cycle : Nat) (p : List Nat) :
    (s.imageTakesEffect i cycle p).fuse.copies = s.fuse.copies := by simp [State.imageTakesEffect]
@[simp] theorem serveWaiting_copies (i : Nat) (s : State) (w : Nat × Nat × List Nat) :
    (State.serveWaiting i s w).fuse.copies = s.fuse.copies := by simp [State.serveWaiting]
@[simp] theorem execImageBoundary_copies (i : Fin 16) (s : State) :
    s.keepsCopies (execImageBoundary i s) := by simp [execImageBoundary]
@[simp] theorem execHostBoundSend_copies (i : Fin 16) (s : State) :
    s.keepsCopies (execHostBoundSend i s) := by simp [execHostBoundSend]
@[simp] theorem execPiWatchdog_copies (i : Fin 16) (s : State) :
    s.keepsCopies (execPiWatchdog i s) := by simp [execPiWatchdog]

/-! ### Sessions -/

@[simp] theorem execClientHello_copies (conn : Nat) (cookie : Bool) (peer : List Nat) (en : Bool) (s : State) :
    s.keepsCopies (execClientHello conn cookie peer en s) := by simp [execClientHello]
@[simp] theorem execHandshakeComplete_copies (conn : Nat) (key : List Nat) (s : State) :
    s.keepsCopies (execHandshakeComplete conn key s) := by
  unfold execHandshakeComplete
  (repeat' split) <;> simp

@[simp] theorem execHandshakeLimit_copies (conn : Nat) (s : State) : s.keepsCopies (execHandshakeLimit conn s) := by
  unfold execHandshakeLimit
  split <;> simp

@[simp] theorem execDtlsFatalAlert_copies (conn : Nat) (s : State) : s.keepsCopies (execDtlsFatalAlert conn s) := by
  unfold execDtlsFatalAlert
  dsimp only
  split <;> simp

@[simp] theorem execOpenSession_copies (conn : Nat) (role : Fin 256) (keepAlive : Fin 65536) (name : List Nat)
    (s : State) :
    s.keepsCopies (execOpenSession conn role keepAlive name s) := by
  unfold execOpenSession
  (repeat' split) <;> simp

@[simp] theorem execCloseSession_copies (q : Req) (s : State) : s.keepsCopies (execCloseSession q s) := by
  unfold execCloseSession
  split <;> simp

@[simp] theorem execPing_copies (q : Req) (s : State) : s.keepsCopies (execPing q s) := by simp [execPing]
@[simp] theorem execKeepaliveLapse_copies (n : Fin 9) (s : State) : s.keepsCopies (execKeepaliveLapse n s) := by
  unfold execKeepaliveLapse
  split <;> simp

@[simp] theorem execRead_copies (q : Req) (key : Fin 16777216) (next : Bool) (s : State) :
    s.keepsCopies (execRead q key next s) := by
  refine serve_copies fun t x => ?_
  (repeat' split) <;> rfl

@[simp] theorem execWrite_copies (q : Req) (key : Fin 16777216) (b : List Nat) (s : State) :
    s.keepsCopies (execWrite q key b s) := by simp [execWrite]
@[simp] theorem execSegRead_copies (q : Req) (key : Fin 16777216) (off : Fin 4294967296) (len : Fin 65536) (s : State) :
    s.keepsCopies (execSegRead q key off len s) := by
  refine serve_copies fun t x => ?_
  (repeat' split) <;> rfl

@[simp] theorem execSegWrite_copies (q : Req) (key : Fin 16777216) (off : Fin 4294967296) (last : Bool)
    (data : List Nat) (s : State) :
    s.keepsCopies (execSegWrite q key off last data s) := by simp [execSegWrite]
@[simp] theorem execSnapshotExpiry_copies (n : Fin 9) (key : Fin 16777216) (s : State) :
    s.keepsCopies (execSnapshotExpiry n key s) := (rfl)

/-! ### TileFlow -/

@[simp] theorem takeParity_copies (s : State) (p : Option (Fin 1024 × Fin 8)) :
    (s.takeParity p).fuse.copies = s.fuse.copies := by
  unfold State.takeParity
  split <;> simp

@[simp] theorem markParity_copies (s : State) (p : Option (Fin 1024 × Fin 8)) :
    (s.markParity p).fuse.copies = s.fuse.copies := by
  unfold State.markParity
  split <;> simp

@[simp] theorem execSw_copies (t : Fin 1024) (rx : Bool) (rxp : BitVec 3) (rxd : Reg) (tx : Bool)
    (txp : BitVec 3) (txs : Reg) (parity : Option (Fin 1024 × Fin 8)) (c : Companions) (s : State) :
    s.keepsCopies (execSw t rx rxp rxd tx txp txs parity c s) := by simp [execSw]

/-! ### Time -/

@[simp] theorem execPtpSyncSample_copies (p : Port) (log offset delay : Int) (s : State) :
    s.keepsCopies (execPtpSyncSample p log offset delay s) := by simp [execPtpSyncSample]
@[simp] theorem execSyncTimeout_copies (s : State) : s.keepsCopies (execSyncTimeout s) := by
  unfold execSyncTimeout
  split <;> simp

@[simp] theorem execAnnounceTimeout_copies (s : State) :
    s.keepsCopies (execAnnounceTimeout s) := by simp [execAnnounceTimeout]
@[simp] theorem execAnnounce_copies (identity : Fin 18446744073709551616) (utc : Int) (s : State) :
    s.keepsCopies (execAnnounce identity utc s) := by simp [execAnnounce]
@[simp] theorem execPtpForward_copies (p : Port) (correction residence : Int) (s : State) :
    s.keepsCopies (execPtpForward p correction residence s) := by simp [execPtpForward]
@[simp] theorem execHoldoverQualityExpiry_copies (s : State) :
    s.keepsCopies (execHoldoverQualityExpiry s) := by simp [execHoldoverQualityExpiry]
@[simp] theorem execHoldoverMaxExpiry_copies (s : State) :
    s.keepsCopies (execHoldoverMaxExpiry s) := by simp [execHoldoverMaxExpiry]
@[simp] theorem execJournalTime_copies (s : State) : s.keepsCopies (execJournalTime s) := by simp [execJournalTime]
@[simp] theorem execFrequencySave_copies (s : State) :
    s.keepsCopies (execFrequencySave s) := by simp [execFrequencySave]

/-! ### Every command but the end of a programming (12 R460) -/

/-- A tile's instruction is its issue. -/
theorem exec_copies (s : State) (c : Instr) (hc : ∀ fails pulses stop e, c ≠ .fuseProgramComplete fails pulses stop e) :
    s.keepsCopies (exec c s) := by
  cases c with
  | nop | cmac | cmsb | cmul | dmac | dmsb | dmul | wmac | wmsb | wmul | extH | extW | extC | lda | aclr | asum
  | add | sub | addu | subu | add2 | sub2 | neg | abs | min | max | and | or | xor | andn | mov | shl | shr | sar
  | ror | cmp | tst | norm | pack | rds | hadd2 | hsub2 | addi | andi | ori | xori | shli | shri | sari | rori
  | cmpi | clrs | xmask | movl | movlu | movh | alu2 | ld | st | ld2 | ldr | str | amodStep | amodSeti | amodSetb
  | amodSetm | stm | ldm | mfence | jmp | call | ret | repeatImm | repeatReg | breakOp | ctx | trap =>
    exact issue_copies ..
  | fuseProgramComplete fails pulses stop e => exact absurd rfl (hc fails pulses stop e)
  | _ => simp [exec]

/-! ### Programming sets bits and clears none (12 R452, R460) -/

/-- Each bit that stands in a copy of `u` stands in that copy of `v`. -/
def FuseUnit.keepsBits (u v : FuseUnit) : Prop :=
  ∀ a, tget 0 u.copyA a &&& ~~~(tget 0 v.copyA a) = 0 ∧ tget 0 u.copyB a &&& ~~~(tget 0 v.copyB a) = 0

theorem FuseUnit.keepsBits_congr {u u' v v' : FuseUnit} (hu : u'.copies = u.copies) (hv : v'.copies = v.copies)
    (h : u.keepsBits v) : u'.keepsBits v' := by
  obtain ⟨huA, huB⟩ := Prod.mk.inj hu
  obtain ⟨hvA, hvB⟩ := Prod.mk.inj hv
  intro a
  rw [huA, huB, hvA, hvB]
  exact h a

theorem FuseUnit.keepsBits_of_copies {u v : FuseUnit} (h : v.copies = u.copies) : u.keepsBits v :=
  keepsBits_congr rfl h fun _ => ⟨BitVec.and_not_self _, BitVec.and_not_self _⟩

/-- Setting bits in word `k` of a copy clears none in any of its words. -/
theorem and_not_tget_tset_or (t : Tab (BitVec 40)) (k : Nat) (x : BitVec 40) (a : Nat) :
    tget 0 t a &&& ~~~(tget 0 (tset 0 t k (tget 0 t k ||| x)) a) = 0 := by
  by_cases h : k = a
  · subst h
    rw [tget_tset_self, BitVec.not_or, ← BitVec.and_assoc, BitVec.and_not_self]
    exact BitVec.zero_and
  · rw [tget_tset_ne _ _ h]
    exact BitVec.and_not_self _

theorem FuseUnit.pulse_keepsBits (u : FuseUnit) (p : FuseProgram) (fails : BitVec 80) (lim : Nat) :
    u.keepsBits (u.pulse p fails lim).1 :=
  fun a => ⟨and_not_tget_tset_or u.copyA p.addr _ a, and_not_tget_tset_or u.copyB p.addr _ a⟩

theorem execFuseProgramComplete_keepsBits {fails : BitVec 80} {pulses : Fin 9} {stop : Option (Fin 80)} {e : FuseEnv}
    {s u : State} (h : execFuseProgramComplete fails pulses stop e s = .next u) : s.fuse.keepsBits u.fuse := by
  have pulsed (p : FuseProgram) (lim : Nat) (r : FuseOutcome) :
      s.fuse.keepsBits (State.fuseEnd { s.senseFuse e with fuse := ((s.senseFuse e).fuse.pulse p fails lim).1 } p r
        pulses.val).fuse :=
    FuseUnit.keepsBits_congr (senseFuse_copies s e).symm (fuseEnd_copies ..) (FuseUnit.pulse_keepsBits _ p fails lim)
  unfold execFuseProgramComplete at h
  split at h
  · obtain rfl := Host.Outcome.next.inj h
    exact FuseUnit.keepsBits_of_copies rfl
  · dsimp only at h
    split at h
    · obtain rfl := Host.Outcome.next.inj h
      exact pulsed _ _ _
    · split at h
      · obtain rfl := Host.Outcome.next.inj h
        exact FuseUnit.keepsBits_of_copies (senseFuse_copies s e)
      · obtain rfl := Host.Outcome.next.inj h
        exact pulsed _ _ _

theorem exec_keepsBits {s u : State} {c : Instr} (h : exec c s = .next u) : s.fuse.keepsBits u.fuse := by
  by_cases hc : ∃ fails pulses stop e, c = .fuseProgramComplete fails pulses stop e
  · obtain ⟨fails, pulses, stop, e, rfl⟩ := hc
    exact execFuseProgramComplete_keepsBits h
  · have kept := exec_copies s c fun fails pulses stop e hrow => hc ⟨fails, pulses, stop, e, hrow⟩
    rw [h] at kept
    exact FuseUnit.keepsBits_of_copies kept

theorem step_keepsBits {s u : State} (h : step s = .next u) : s.fuse.keepsBits u.fuse := by
  unfold step at h
  split at h
  · obtain rfl := Host.Outcome.next.inj h
    exact FuseUnit.keepsBits_of_copies (idle_copies s)
  next c rest hpending =>
    exact exec_keepsBits (s := { s with pending := rest }) h

end Sys2Proof.Machine

open Sys2Proof Sys2Proof.Machine

/-- Settles O60: no command but the end of a programming changes a copy of the bank, and that one sets bits only. -/
theorem fuseBitsNeverClear : Obligations.FuseBitsNeverClear := by
  unfold Obligations.FuseBitsNeverClear
  exact fun _ _ a h => step_keepsBits h a

end

section
/-!
O46: the programming of a fuse word from its request to its RESULT, the reads of the bank, limited-write settings, and the
store's scrub, refresh and home records (12 R458 to R475).
-/

namespace Sys2Proof.Machine

/-! ### Numbers as bytes (00 R12) -/

theorem ofBytesLE_bytesLE (n v : Nat) : ofBytesLE (bytesLE n v) = v % 256 ^ n := by
  induction n generalizing v with
  | zero => simp [bytesLE, ofBytesLE, Nat.mod_one]
  | succ n ih =>
    rw [bytesLE, ofBytesLE, ih, Nat.pow_succ', Nat.mod_mul]

theorem ofBytesBE_bytesBE (n v : Nat) : ofBytesBE (bytesBE n v) = v % 256 ^ n := by
  rw [ofBytesBE, bytesBE, List.reverse_reverse, ofBytesLE_bytesLE]

theorem length_bytesBE (n v : Nat) : (bytesBE n v).length = n := by
  rw [bytesBE, List.length_reverse, length_bytesLE]

/-! ### Tables and lists -/

theorem alook_tput_self {α : Type} (k : Nat) (v : α) (t : Tab α) : alook (tput k v t) k = some v := by
  induction t with
  | nil => simp [tput, alook]
  | cons e t ih =>
    obtain ⟨j, u⟩ := e
    unfold tput
    split
    · simp [alook]
    · split
      · simp [alook]
      next hne => rw [alook, if_neg (Ne.symm hne), ih]

/-- Repeats are dropped before or after an injective map. -/
theorem eraseDups_map {α β : Type} [DecidableEq α] [DecidableEq β] {f : α → β} (hf : Function.Injective f) :
    ∀ l : List α, (l.map f).eraseDups = l.eraseDups.map f
  | [] => rfl
  | a :: l => by
    have hother : (fun b => !b == f a) ∘ f = fun b => !b == a := by
      funext b
      simp [hf.eq_iff]
    rw [List.map_cons, List.eraseDups_cons, List.eraseDups_cons, List.filter_map, hother, eraseDups_map hf, List.map_cons]
  termination_by l => l.length
  decreasing_by exact Nat.lt_succ_of_le (List.length_filter_le _ _)

/-! ### Records over a store (12 R482) -/

theorem State.logsOver.store {u w : State} (h : u.logsOver w) : u.store = w.store := by rw [h.1]

/-! ### Commands of the controller (12 R458, R463) -/

theorem exec_fcRead {s : State} (hruns : s.gafferRuns = true) (hidle : s.fuse.prog = none) (a : Fin 1024) :
    exec (.fcRead a) s = .next { s with fuse := s.fuse.read a.val 0 0 } := if_pos ⟨hruns, hidle⟩

theorem exec_fcMarginRead {s : State} (hruns : s.gafferRuns = true) (hidle : s.fuse.prog = none) (a : Fin 1024)
    (x y : BitVec 40) : exec (.fcMarginRead a x y) s = .next { s with fuse := s.fuse.read a.val x y } :=
  if_pos ⟨hruns, hidle⟩

theorem exec_fcScan {s : State} (hruns : s.gafferRuns = true) (hidle : s.fuse.prog = none) (l : List (Fin 64)) :
    exec (.fcScan l) s = .next { s with fuse := s.fuse.scanned l } := if_pos ⟨hruns, hidle⟩

/-- READ takes each copy as it stands. -/
theorem read_plain (u : FuseUnit) (a : Nat) :
    u.read a 0 0 = { u with rcopyA := tget 0 u.copyA a, rcopyB := tget 0 u.copyB a
                            rdata := fuseRdata a (tget 0 u.copyA a) (tget 0 u.copyB a) } := by
  have whole (w : BitVec 40) : w &&& ~~~0 = w := BitVec.and_allOnes
  simp only [FuseUnit.read, whole]

theorem exec_homeRecordWrite (key : Fin 16777216) (s : State) :
    exec (.homeRecordWrite key) s = execHomeRecordWrite key s := rfl

/-! ### The journal (12 R477, R480) -/

/-- The record just committed stands in the journal, the records of a block given up before it or not. -/
theorem commit1_journal (u : StoreUnit) (t : T64) (b : JBody) :
    ∃ r : JRec, r ∈ (u.commit1 t b).journal ∧ r.jseq = u.nextJseq ∧ r.body = b ∧ r.block = (u.commit1 t b).block :=
  ⟨_, List.mem_cons_self, rfl, rfl, rfl⟩

/-- A commit keeps the records of the block before the one it is written in. -/
theorem mem_commit1 {u : StoreUnit} {r : JRec} (hr : r ∈ u.journal) (hblock : r.block = u.block) (t : T64) (b : JBody) :
    r ∈ (u.commit1 t b).journal := by
  unfold StoreUnit.commit1
  dsimp only
  refine List.mem_cons_of_mem _ ?_
  split
  · exact List.mem_filter.2 ⟨hr, by simp; omega⟩
  · exact hr

/-- A committed record stands in the journal under the next JSEQ, a CHECKPOINT after it or not. -/
theorem commit_journals (s : State) (b : JBody) :
    (s.commit b).store.journal.any (fun r => r.jseq == s.store.nextJseq && r.body == b) = true := by
  obtain ⟨r, hmem, hjseq, hbody, hblock⟩ := commit1_journal s.store s.time.t64 b
  refine List.any_eq_true.2 ⟨r, ?_, by simp [hjseq, hbody]⟩
  unfold State.commit
  dsimp only
  split
  · exact mem_commit1 (u := { s.store.commit1 s.time.t64 b with homes := _, dirty := [], homeAt := _ }) hmem hblock _ _
  · exact hmem

/-! ### Requests that are answered later (11 R423) -/

/-- What a request heard leaves when its answer waits. -/
theorem serve_later_of_hears {s : State} {q : Req} {ss : Session} (h : s.hears q ss) {run : State → Session → Served}
    (hl : (run (s.noted q) ss).later = true) :
    s.serve q run = (run (s.noted q) ss).state.modSession q.session
      (fun x => { x with inFlight := x.inFlight ++ [q.rid] }) := by
  obtain ⟨hopen, hkept, hflight, hfew⟩ := h
  have hnone : ss.kept.find? (fun a => decide (a.rid = q.rid)) = none := by
    rw [List.find?_eq_none]
    intro a ha
    simpa using List.all_eq_true.1 hkept a ha
  simp only [State.noted] at hl
  simp [State.serve, State.noted, hopen, hnone, hflight, Nat.not_le.2 hfew, hl]

/-- A write whose bytes spell a legal value, whose checks pass and whose answer waits. -/
theorem serveBytes_of_begun {s : State} {q : Req} {ss : Session} {key d : Nat} {b : List Nat} {r : ObjRow}
    {check : State → Session → Val → Abort × Nat} {effect : State → Session → Val → Served} {u : State}
    (h : s.hears q ss) (ha : s.admitted q ss key) (hlit : sleepGated key = false) (hr : objRow key = some r)
    (hb : bytesCheck key r b = (.ok, 0)) (hc : check (s.noted q) ss (r.ty.decode b) = (.ok, d))
    (hrun : effect (s.noted q) ss (r.ty.decode b) = { state := u, later := true }) :
    s.serveBytes q key b check effect =
      u.modSession q.session (fun x => { x with inFlight := x.inFlight ++ [q.rid] }) := by
  obtain ⟨e, hgate⟩ : ∃ e, s.gate q.session ss.role key q.epoch = (.ok, e) := ⟨_, Prod.ext ha rfl⟩
  have hawake : ¬ ((s.noted q).op.state = .sleep ∧ sleepGated key = true) := by simp [hlit]
  unfold State.serveBytes
  rw [hr]
  dsimp only
  unfold State.serveWrite
  rw [serve_later_of_hears h] <;> simp only [gate_noted, hgate, hb, hc, if_neg hawake, hrun]

/-! ### The programming of words (12 R459, R460, R465) -/

/-- PROGRAM proceeds: SERVICE, a word that may be programmed, FUSE_EN high, the window held and no bit to clear. -/
theorem fuseStop_eq_none {s : State} {a : Nat} {x : BitVec 40} (h : s.fuseStop a x = none) :
    s.op.state = .service ∧ s.op.fuseEn = true ∧ s.fuse.inWindow = true ∧ s.fuse.word a &&& ~~~x = 0 := by
  unfold State.fuseStop at h
  split at h
  · cases h
  next hservice =>
    split at h
    · cases h
    next hen =>
      split at h
      · cases h
      next hwindow =>
        split at h
        · cases h
        next hsubset =>
          exact ⟨by tauto, by simpa using hen, by simpa using hwindow, by simpa using hsubset⟩

/-- The bank reads as it did once a word is begun. -/
theorem fuseBegin_fuse (s : State) (p : FuseProgram) :
    (s.fuseBegin p).fuse = { s.fuse with prog := some p, phase := 1, failA := 0, failB := 0 } := by
  unfold State.fuseBegin
  rw [commit_rest]

theorem fuseBegin_rest (s : State) (p : FuseProgram) :
    s.fuseBegin p = { s with fuse := (s.fuseBegin p).fuse, store := (s.commit (.fuseIntent p.addr p.data)).store } := by
  unfold State.fuseBegin
  rw [commit_rest]

/-- A word that does not stand yet is begun, and the words after it wait. -/
theorem fuseAsk_begins {s : State} {a d : Nat} (hidle : s.fuse.prog = none) (hstop : s.fuseStop a (fuseTarget a d) = none)
    (hnew : s.fuse.already a d = false) (q : Req) (rest : List (Nat × Nat)) :
    s.fuseAsk q ((a, d) :: rest) =
      { state := s.fuseBegin { addr := a, data := d, rest := rest, session := q.session, rid := q.rid }, later := true } := by
  obtain ⟨-, -, hwindow, -⟩ := fuseStop_eq_none hstop
  have hnew' : (s.fuseBegin { addr := a, data := d, rest := rest, session := q.session, rid := q.rid }).fuse.already a d
      = false := by
    rw [fuseBegin_fuse]
    exact hnew
  simp [State.fuseAsk, State.fuseRun, hwindow, hidle, hstop, hnew']

/-! ### A request as the controller senses FUSE_EN (12 R459) -/

theorem senseFuse_hears {s : State} {q : Req} {ss : Session} (h : s.hears q ss) (e : FuseEnv) :
    (s.senseFuse e).hears q ss := by
  have hsessions : (s.senseFuse e).sess.sessions = s.sess.sessions := by
    unfold State.senseFuse
    dsimp only
    split <;> rfl
  unfold State.hears State.session? at h ⊢
  rwa [hsessions]

theorem senseFuse_gate (s : State) (e : FuseEnv) (n : SessionNo) (role : Role) (key epoch : Nat) :
    (s.senseFuse e).gate n role key epoch = s.gate n role key epoch := by
  unfold State.senseFuse
  cases e.en <;> rfl

theorem senseFuse_admitted {s : State} {q : Req} {ss : Session} {key : Nat} (h : s.admitted q ss key) (e : FuseEnv) :
    (s.senseFuse e).admitted q ss key := by
  rwa [State.admitted, senseFuse_gate]

/-! ### FUSE_PROGRAM (12 R484) -/

/-- The object of FUSE_PROGRAM (12 R484). -/
def fuseProgramRow : ObjRow := oWO 0x8001 0x8001 1 1 (.oct 8) [.maintenance, .safety]

theorem objRow_fuseProgram : objRow (okey 0x8001 1) = some fuseProgramRow := by decide

/-- The eight bytes that name a word and its data spell a legal value. -/
theorem bytesCheck_fuseProgram (a d : Nat) :
    bytesCheck (okey 0x8001 1) fuseProgramRow (bytesBE 2 a ++ [0, 0] ++ bytesBE 4 d) = (.ok, 0) := rfl

theorem fuseProgram_addr (a : Fin 65536) (d : Nat) :
    ofBytesBE ((bytesBE 2 a ++ [0, 0] ++ bytesBE 4 d).take 2) = a.val := by
  rw [List.append_assoc, List.take_left' (length_bytesBE 2 a), ofBytesBE_bytesBE]
  exact Nat.mod_eq_of_lt a.isLt

theorem fuseProgram_data (a : Nat) (d : Fin 4294967296) :
    ofBytesBE (((bytesBE 2 a ++ [0, 0] ++ bytesBE 4 d).drop 4).take 4) = d.val := by
  rw [List.drop_left' (by simp [length_bytesBE]), List.take_of_length_le (by simp [length_bytesBE]), ofBytesBE_bytesBE]
  exact Nat.mod_eq_of_lt d.isLt

theorem exec_fuseProgram_begins {s : State} {q : Req} {ss : Session} {a : Fin 65536} {d : Fin 4294967296} {e : FuseEnv}
    (hears : s.hears q ss) (hadmitted : s.admitted q ss (okey 0x8001 1)) (haddr : fuseAddressable ss.role a d = true)
    (hstop : (s.senseFuse e).fuseStop a (fuseTarget a d) = none)
    (hfw : (decide (0x14 ≤ a.val ∧ a.val < 0x16) && s.keepsFwKey (a - 0x14)) = false)
    (hkey : (decide (0x20 ≤ a.val) && s.fuse.keyRevoked ((a.val - 0x20) / 8)) = false)
    (hidle : s.fuse.prog = none) (hnew : s.fuse.already a d = false) :
    exec (.fuseProgram q (bytesBE 2 a ++ [0, 0] ++ bytesBE 4 d) e) s =
      .next ((((s.senseFuse e).noted q).fuseBegin
        { addr := a, data := d, rest := [], session := q.session, rid := q.rid }).modSession q.session
          (fun x => { x with inFlight := x.inFlight ++ [q.rid] })) := by
  obtain ⟨hservice, hen, -, hsubset⟩ := fuseStop_eq_none hstop
  have hbegin := fuseAsk_begins (s := (s.senseFuse e).noted q) hidle hstop hnew q []
  show execFuseProgram q _ e s = _
  unfold execFuseProgram
  dsimp only
  rw [fuseProgram_addr, fuseProgram_data]
  refine congrArg _ (serveBytes_of_begun (d := 0) (senseFuse_hears hears e) (senseFuse_admitted hadmitted e) rfl
    objRow_fuseProgram (bytesCheck_fuseProgram a d) ?_ hbegin)
  have hfw' : (decide (0x14 ≤ a.val ∧ a.val < 0x16) && ((s.senseFuse e).noted q).keepsFwKey (a - 0x14)) = false := hfw
  have hkey' : (decide (0x20 ≤ a.val) && ((s.senseFuse e).noted q).fuse.keyRevoked ((a.val - 0x20) / 8)) = false := hkey
  have hsubset' : ((s.senseFuse e).noted q).fuse.word a &&& ~~~(fuseTarget a d) = 0 := hsubset
  have hen' : ((s.senseFuse e).noted q).op.fuseEn = true := hen
  have hservice' : ((s.senseFuse e).noted q).op.state = .service := hservice
  rw [haddr, hen', hservice', hfw', hkey', hsubset']
  rfl

/-! ### The end of a programming (12 R460 to R462) -/

/-- `s` as the pulses up to place `lim` leave it, its environment as `e` shows it. -/
def State.pulsedTo (s : State) (p : FuseProgram) (fails : BitVec 80) (lim : Nat) (e : FuseEnv) : State :=
  { s.senseFuse e with fuse := ((s.senseFuse e).fuse.pulse p fails lim).1 }

theorem pulsedTo_fuse (s : State) (p : FuseProgram) (fails : BitVec 80) (lim : Nat) (e : FuseEnv) :
    (s.pulsedTo p fails lim e).fuse = ((s.senseFuse e).fuse.pulse p fails lim).1 := rfl

theorem exec_fuseProgramComplete_through {s : State} {p : FuseProgram} {fails : BitVec 80} {e : FuseEnv} {r : FuseOutcome}
    (hprog : s.fuse.prog = some p) (hr : ((s.senseFuse e).fuse.pulse p fails 80).2 = r) (n : Fin 9) :
    exec (.fuseProgramComplete fails n none e) s = .next ((s.pulsedTo p fails 80 e).fuseEnd p r n.val) := by
  show execFuseProgramComplete fails n none e s = _
  unfold execFuseProgramComplete
  rw [hprog, ← hr]
  rfl

theorem exec_fuseProgramComplete_stopped {s : State} {p : FuseProgram} {e : FuseEnv} (hprog : s.fuse.prog = some p)
    (hstop : e.en = false ∨ (s.senseFuse e).fuse.inWindow = false) (fails : BitVec 80) (n : Fin 9) (l : Fin 80) :
    exec (.fuseProgramComplete fails n (some l) e) s =
      .next ((s.pulsedTo p fails l.val e).fuseEnd p (if e.en = true then .window else .noFuseEn) n.val) := by
  have hstop' : ¬ ((s.senseFuse e).op.fuseEn = true ∧ (s.senseFuse e).fuse.inWindow = true) := by
    rintro ⟨hen, hwindow⟩
    exact hstop.elim (Bool.eq_false_iff.1 · hen) (Bool.eq_false_iff.1 · hwindow)
  show execFuseProgramComplete fails n (some l) e s = _
  unfold execFuseProgramComplete
  rw [hprog]
  exact if_neg hstop'

/-- Every bit of a copy is reached. -/
theorem pulsed_all {lim at0 : Nat} (h : BitVec.ofNat 40 (2 ^ (lim - at0) - 1) = BitVec.allOnes 40) (t : BitVec 40)
    (fails : BitVec 80) :
    pulsed t fails lim at0 = (t &&& ~~~(fails.extractLsb' at0 40), t &&& fails.extractLsb' at0 40) := by
  unfold pulsed
  rw [h, BitVec.and_allOnes]

/-- No bit of a copy is reached. -/
theorem pulsed_none (t : BitVec 40) (fails : BitVec 80) (lim at0 : Nat) (h : lim ≤ at0) :
    pulsed t fails lim at0 = (0, 0) := by
  have hzero : BitVec.ofNat 40 (2 ^ (lim - at0) - 1) = 0 := by
    rw [Nat.sub_eq_zero_of_le h]
    rfl
  unfold pulsed
  rw [hzero]
  simp

/-- What the end of a word's programming leaves: the RESULT in the unit, FUSE_DONE in the journal, and the alarms. -/
theorem fuseDone_spec (s : State) (a : Nat) (r : FuseOutcome) (pulses : Nat) :
    (s.fuseDone a r pulses).fuse = { s.fuse.finish r with
      last := (a, r.code, pulses, s.fuse.failA.toNat, s.fuse.failB.toNat) } ∧
    (s.fuseDone a r pulses).store.journal.any (fun x => x.jseq == s.store.nextJseq && x.body == .fuseDone a r.code) =
      true := by
  have finished := commit_journals { s with fuse := { s.fuse.finish r with
    last := (a, r.code, pulses, s.fuse.failA.toNat, s.fuse.failB.toNat) } } (.fuseDone a r.code)
  unfold State.fuseDone
  dsimp only
  split
  · rw [(alarm_logsOver _ _ _ _ _).1, (alarm_logsOver _ _ _ _ _).1, commit_rest]
    exact ⟨rfl, finished⟩
  · rw [(alarm_logsOver _ _ _ _ _).1, commit_rest]
    exact ⟨rfl, finished⟩

/-- The last word of a run: its RESULT is shown, journalled and answered. -/
theorem fuseEnd_of_last {p : FuseProgram} {r : FuseOutcome} (hlast : p.rest = [] ∨ ¬ (r = .ok ∨ r = .okSingle))
    (hsession : p.session ≠ 0) (s : State) (pulses : Nat) :
    s.fuseEnd p r pulses = (s.fuseDone p.addr r pulses).reply p.session
      { rid := p.rid, code := r.abort, detail := if r = .failed then p.addr else 0 } := by
  unfold State.fuseEnd
  by_cases hheld : r = .ok ∨ r = .okSingle
  · have hrest : p.rest = [] := hlast.resolve_right (not_not_intro hheld)
    simp only [if_pos hheld, hrest, State.fuseRun, if_neg hsession]
    rcases hheld with rfl | rfl <;> rfl
  · simp only [if_neg hheld, if_neg hsession]

/-! ### Limited-write settings (12 R468) -/

theorem genWrite_begins {s : State} {q : Req} {g : GenSetting} {ws : List Nat} {a d : Nat} {rest : List (Nat × Nat)}
    (hgens : s.fuse.remaining g ≠ 0) (hidle : s.fuse.prog = none)
    (hwords : (g.addrs (s.genFor g ws)).zip ws = (a, d) :: rest) (hstop : s.fuseStop a (fuseTarget a d) = none)
    (hnew : s.fuse.already a d = false) :
    s.genWrite q g ws false false =
      { state := s.fuseBegin { addr := a, data := d, rest := rest, session := q.session, rid := q.rid }, later := true } := by
  obtain ⟨hservice, hen, -, -⟩ := fuseStop_eq_none hstop
  unfold State.genWrite
  rw [hwords, fuseAsk_begins hidle hstop hnew]
  simp [hen, hgens, hservice]

theorem addrs_svnFloor (k : Nat) : svnFloor.addrs k = [0x40 + k] := by
  simp [GenSetting.addrs, svnFloor]

theorem addrs_machineIdent (k : Nat) :
    machineIdentGen.addrs k = [0x80 + k * 4, 0x80 + k * 4 + 1, 0x80 + k * 4 + 2, 0x80 + k * 4 + 3] := rfl

/-- What the choice of a generation reads stands as the controller senses its inputs and the request is noted. -/
theorem genFor_sensed (s : State) (e : FuseEnv) (q : Req) (g : GenSetting) (ws : List Nat) :
    ((s.senseFuse e).noted q).genFor g ws = s.genFor g ws := rfl

theorem svn_sensed (s : State) (e : FuseEnv) (q : Req) : ((s.senseFuse e).noted q).fuse.svn = s.fuse.svn := rfl

theorem machineIdent_sensed (s : State) (e : FuseEnv) (q : Req) :
    ((s.senseFuse e).noted q).fuse.machineIdent = s.fuse.machineIdent := rfl

theorem remaining_sensed (s : State) (e : FuseEnv) (q : Req) (g : GenSetting) :
    ((s.senseFuse e).noted q).fuse.remaining g = s.fuse.remaining g := rfl

/-- The object of FwSvnFloor (12 R468). -/
def fwSvnFloorRow : ObjRow := oRW 0x8020 0x8020 1 1 .u16 rM .now 0

theorem objRow_fwSvnFloor : objRow (okey 0x8020 1) = some fwSvnFloorRow := by decide

theorem bytesCheck_fwSvnFloor (n : Nat) : bytesCheck (okey 0x8020 1) fwSvnFloorRow (bytesBE 2 n) = (.ok, 0) := rfl

theorem valNat_fwSvnFloor (n : Fin 65536) : valNat (fwSvnFloorRow.ty.decode (bytesBE 2 n)) = n.val := by
  show (Int.ofNat (ofBytesBE (bytesBE 2 n))).toNat = n.val
  rw [ofBytesBE_bytesBE]
  exact Nat.mod_eq_of_lt n.isLt

/-- The object of MachineIdent (12 R468). -/
def machineIdentRow : ObjRow := { oRW 0x8021 0x8021 1 1 (.str 16) rM .now 0 with dflt := zeros 16 }

theorem objRow_machineIdent : objRow (okey 0x8021 1) = some machineIdentRow := by decide

theorem bytesCheck_machineIdent {b : List Nat} (hlen : b.length = 16) (hlegal : legalString b = true) :
    bytesCheck (okey 0x8021 1) machineIdentRow b = (.ok, 0) := by
  have hsize : ¬ machineIdentRow.ty.size ≠ some b.length := by
    rw [hlen]
    decide
  have hrange : machineIdentRow.inRange (machineIdentRow.ty.decode b) = true := hlegal
  unfold bytesCheck
  rw [if_neg (by decide), if_neg hsize, hrange]
  rfl

/-- The four words that sixteen bytes spell. -/
theorem words_of_bytes (w0 w1 w2 w3 : Nat) (h : w0 < 2 ^ 32 ∧ w1 < 2 ^ 32 ∧ w2 < 2 ^ 32 ∧ w3 < 2 ^ 32) :
    (List.range 4).map (fun j => ofBytesLE (((bytesLE 4 w0 ++ bytesLE 4 w1 ++ bytesLE 4 w2 ++ bytesLE 4 w3).drop
      (4 * j)).take 4)) = [w0, w1, w2, w3] := by
  obtain ⟨h0, h1, h2, h3⟩ := h
  have word (w : Nat) (hw : w < 2 ^ 32) : ofBytesLE (bytesLE 4 w) = w := by
    rw [ofBytesLE_bytesLE]
    exact Nat.mod_eq_of_lt hw
  show [ofBytesLE (bytesLE 4 w0), ofBytesLE (bytesLE 4 w1), ofBytesLE (bytesLE 4 w2), ofBytesLE (bytesLE 4 w3)] = _
  rw [word w0 h0, word w1 h1, word w2 h2, word w3 h3]

theorem exec_fwSvnFloor (q : Req) (b : List Nat) (e : FuseEnv) (s : State) :
    exec (.fwSvnFloor q b e) s = .next ((s.senseFuse e).serveBytes q (okey 0x8020 1) b noCheck (fun t _ v =>
      t.genWrite q svnFloor [valNat v] (valNat v == t.fuse.svn) (decide (valNat v < t.fuse.svn) ||
        (match t.runningFw with
        | some f => decide (f.svn < valNat v)
        | none => false)))) := rfl

theorem exec_machineIdent (q : Req) (b : List Nat) (e : FuseEnv) (s : State) :
    exec (.machineIdent q b e) s = .next ((s.senseFuse e).serveBytes q (okey 0x8021 1) b noCheck (fun t _ _ =>
      t.genWrite q machineIdentGen ((List.range 4).map (fun j => ofBytesLE ((b.drop (4 * j)).take 4)))
        (b == t.fuse.machineIdent) false)) := rfl

/-! ### A pass over the store and the home records (12 R472, R474) -/

/-- 100 ms have passed since the object's last write, or it has none. -/
theorem homeRested_of_all {o : Option Nat} {now : Nat} :
    o.all (fun t => decide (t + 100000000 ≤ now)) = true →
      (match o with
        | some t => decide (t + 100000000 ≤ now)
        | none => true) = true := by
  intro h
  cases o with
  | none => rfl
  | some t =>
    rw [Option.all_some] at h
    exact h

theorem exec_homeRecordWrite_due {s : State} {key : Fin 16777216} (hruns : s.gafferRuns = true)
    (hdirty : s.store.dirty.contains key.val = true)
    (hrested : (alook s.store.homeAt key).all (fun t => decide (t + 100000000 ≤ s.now)) = true) :
    exec (.homeRecordWrite key) s = .next { s with store := { s.store with
      homes := tput key.val (s.val key) s.store.homes, dirty := s.store.dirty.erase key.val
      homeAt := tput key.val s.now s.store.homeAt } } := by
  rw [exec_homeRecordWrite, execHomeRecordWrite, if_pos]
  exact ⟨hruns, List.contains_iff_mem.1 hdirty, homeRested_of_all hrested⟩

theorem exec_homeRecordWrite_early {s : State} {key : Fin 16777216} (h : s.store.dirty.contains key.val = false ∨
    (alook s.store.homeAt key).any (fun t => decide (s.now < t + 100000000)) = true) :
    exec (.homeRecordWrite key) s = .next s := by
  rw [exec_homeRecordWrite]
  unfold execHomeRecordWrite
  dsimp only
  rw [if_neg]
  rintro ⟨-, hdirty, hrested⟩
  rcases h with hclean | hearly
  · exact Bool.eq_false_iff.1 hclean (List.contains_iff_mem.2 hdirty)
  · obtain ⟨t, ht, hlt⟩ := (Option.any_eq_true _ _).1 hearly
    rw [ht] at hrested
    have hle := of_decide_eq_true hrested
    have hlt' := of_decide_eq_true hlt
    omega

end Sys2Proof.Machine

open Sys2Proof Sys2Proof.Machine

/-- Settles O46: a request begins its first word that does not stand, the end of the pulses decides the RESULT, and the
store's passes change the store alone. -/
theorem fusesAndStore : Obligations.FusesAndStore := by
  unfold Obligations.FusesAndStore
  refine ⟨?program, ?result, ?stopped, ?read, ?marginRead, ?scan, ?svnFloor, ?svnBelow, ?machineIdent,
    ?scrub, ?uncorrectable, ?refresh, ?noRefresh, ?homeRecord, ?homeEarly⟩
  case program =>
    intro s q ss a d e hears hadmitted haddr hstop hfw hkey hidle hnew
    obtain ⟨-, hen, -, -⟩ := fuseStop_eq_none hstop
    refine ⟨_, exec_fuseProgram_begins hears hadmitted haddr hstop hfw hkey hidle hnew, fuseBegin_fuse _ _,
      ?_, ?_, ?_⟩
    · have h := commit_journals ((s.senseFuse e).noted q) (.fuseIntent a d)
      rw [fuseBegin_rest]
      exact h
    · rw [fuseBegin_rest]
      rfl
    · have hen' : e.en = true := hen
      rw [fuseBegin_rest]
      simp only [State.modSession, State.noted, State.senseFuse, hen']
  case result =>
    intro s p fails n e hprog hrest hsession t a b a' b' r
    obtain ⟨hA, hB, hfailA, hfailB, hr⟩ : (s.pulsedTo p fails 80 e).fuse.copyA = tset 0 s.fuse.copyA p.addr a' ∧
        (s.pulsedTo p fails 80 e).fuse.copyB = tset 0 s.fuse.copyB p.addr b' ∧
        (s.pulsedTo p fails 80 e).fuse.failA = t &&& ~~~a &&& fails.extractLsb' 0 40 ∧
        (s.pulsedTo p fails 80 e).fuse.failB = t &&& ~~~b &&& fails.extractLsb' 40 40 ∧
        ((s.senseFuse e).fuse.pulse p fails 80).2 = r := by
      rw [pulsedTo_fuse]
      unfold FuseUnit.pulse
      dsimp only
      rw [pulsed_all (by decide), pulsed_all (by decide)]
      exact ⟨rfl, rfl, rfl, rfl, rfl⟩
    obtain ⟨hfuse, hjournal⟩ := fuseDone_spec (s.pulsedTo p fails 80 e) p.addr r n.val
    refine ⟨_, (exec_fuseProgramComplete_through hprog hr n).trans (congrArg _ (fuseEnd_of_last (.inl hrest) hsession _ _)),
      ?_⟩
    simp only [reply_fuse, hfuse]
    exact ⟨hA, hB, rfl, rfl, rfl, hfailA, hfailB, rfl, hjournal, rfl⟩
  case stopped =>
    intro s p fails n l e hprog hsession hstop r
    have hr : ¬ (r = .ok ∨ r = .okSingle) := by
      dsimp only [r]
      split <;> decide
    obtain ⟨hfuse, -⟩ := fuseDone_spec (s.pulsedTo p fails l.val e) p.addr r n.val
    refine ⟨_, (exec_fuseProgramComplete_stopped hprog hstop fails n l).trans
      (congrArg _ (fuseEnd_of_last (.inr hr) hsession _ _)), ?_⟩
    simp only [reply_fuse, hfuse]
    refine ⟨rfl, rfl, fun a ha => ⟨tget_tset_ne _ _ ha.symm _, tget_tset_ne _ _ ha.symm _⟩, fun hl => ?_, ?_⟩
    · show tget 0 (s.pulsedTo p fails l.val e).fuse.copyB p.addr = _
      rw [pulsedTo_fuse]
      unfold FuseUnit.pulse
      dsimp only
      rw [pulsed_none _ _ _ _ hl, tget_tset_self]
      exact BitVec.or_zero
    · dsimp only [r]
      split <;> rfl
  case read =>
    intro s a hruns hidle x y
    rw [exec_fcRead hruns hidle, read_plain]
  case marginRead =>
    intro s a x y hruns hidle c d
    exact exec_fcMarginRead hruns hidle a x y
  case scan =>
    intro s l hruns hidle hdistinct
    have hweak : (l.map Fin.val).eraseDups = l.map Fin.val := by rw [eraseDups_map Fin.val_injective, hdistinct]
    refine ⟨_, exec_fcScan hruns hidle l, ?_, ?_⟩
    · unfold FuseUnit.scanned
      rw [hweak]
    · unfold FuseUnit.scanned
      rw [hdistinct]
  case svnFloor =>
    intro s q ss n e f hears hadmitted hfw hsvn hfloor hgens hidle hstop hnew
    have hwrite : ((s.senseFuse e).noted q).genWrite q svnFloor [n.val] false false = _ :=
      genWrite_begins (rest := []) hgens hidle (by rw [genFor_sensed, addrs_svnFloor]; rfl) hstop hnew
    have hfw' : ((s.senseFuse e).noted q).runningFw = some f := hfw
    refine ⟨_, (exec_fwSvnFloor ..).trans (congrArg _ (serveBytes_of_begun (d := 0) (senseFuse_hears hears e)
      (senseFuse_admitted hadmitted e) rfl objRow_fwSvnFloor (bytesCheck_fwSvnFloor n) rfl (Eq.trans ?_ hwrite))), ?_⟩
    · have hsame : (n.val == s.fuse.svn) = false := by simp; omega
      rw [valNat_fwSvnFloor, svn_sensed, hfw', hsame]
      simp [Nat.not_lt.2 hsvn.le, Nat.not_lt.2 hfloor]
    · rw [fuseBegin_rest, fuseBegin_fuse]
      exact ⟨rfl, rfl, rfl, rfl⟩
  case svnBelow =>
    intro s q ss n e hears hadmitted hbelow
    refine ⟨_, (exec_fwSvnFloor ..).trans (congrArg _ (serveBytes_of_served (d := 0) (u := (s.senseFuse e).noted q)
      (c := .range) (senseFuse_hears hears e) (senseFuse_admitted hadmitted e) rfl objRow_fwSvnFloor
      (bytesCheck_fwSvnFloor n) rfl ?_)), reply_answers .., rfl, rfl⟩
    rw [valNat_fwSvnFloor, svn_sensed]
    simp [State.genWrite, hbelow, refuse]
  case machineIdent =>
    intro s q ss b e w0 w1 w2 w3 hears hadmitted hb hwords hlegal hother hgens hidle hstop hnew a
    have hwrite : ((s.senseFuse e).noted q).genWrite q machineIdentGen [w0, w1, w2, w3] false false = _ :=
      genWrite_begins (rest := [(a + 1, w1), (a + 2, w2), (a + 3, w3)]) hgens hidle
        (by rw [genFor_sensed, addrs_machineIdent]; rfl) hstop hnew
    have hlen : b.length = 16 := by rw [hb]; rfl
    refine ⟨_, (exec_machineIdent ..).trans (congrArg _ (serveBytes_of_begun (d := 0) (senseFuse_hears hears e)
      (senseFuse_admitted hadmitted e) rfl objRow_machineIdent (bytesCheck_machineIdent hlen hlegal) rfl
      (Eq.trans ?_ hwrite))), ?_⟩
    · rw [machineIdent_sensed, beq_eq_false_iff_ne.2 hother, hb, words_of_bytes w0 w1 w2 w3 hwords]
    · rw [fuseBegin_rest, fuseBegin_fuse]
      exact ⟨rfl, rfl, rfl, rfl⟩
  case scrub =>
    intro s l hruns hdue hclean
    refine (if_pos ⟨hruns, hdue⟩).trans ?_
    simp [hclean, inc32]
  case uncorrectable =>
    intro s a hruns hdue hclean
    have hlost : exec (.storeScrub [] [a]) s = .next (State.alarm { s with store := { s.store with
        scrubs := (s.store.scrubs + 1) % 2 ^ 32, scrubAt := s.now, upsets := [(a.val, 2)]
        corrected := s.store.corrected % 2 ^ 32, uncorrected := (s.store.uncorrected + 1) % 2 ^ 32, lastUe := 8 * a } }
        .alarm 0x0706 0 (bytesLE 4 (8 * a.val))) := by
      refine (if_pos ⟨hruns, hdue⟩).trans ?_
      simp [hclean, tset, tput, inc32]
    refine ⟨_, hlost, ?_, alarm_lastCode .., ?_⟩
    · rw [(alarm_logsOver ..).store]
      exact alarm_logsOver ..
    · rw [(alarm_logsOver ..).store]
  case refresh =>
    intro s hruns hdue
    exact if_pos ⟨hruns, hdue⟩
  case noRefresh =>
    intro s hno hearly
    refine if_neg fun ⟨_, hdue⟩ => ?_
    rcases hdue with hdue | hdue
    · exact Bool.eq_false_iff.1 hno hdue
    · exact absurd hdue (Nat.not_le.2 hearly)
  case homeRecord =>
    intro s key hruns hdirty hrested
    exact ⟨_, exec_homeRecordWrite_due hruns hdirty hrested, rfl, alook_tput_self .., alook_tput_self ..,
      fun k hk => ⟨alook_tput_ne hk.symm .., alook_tput_ne hk.symm ..⟩⟩
  case homeEarly =>
    intro s key h
    exact exec_homeRecordWrite_early h

end

section
/-!
O51: the TWT window's writes, reads and requests, and the direct-I/O pins: transitions and their filter, levels, scheduled
edges and output tokens (15 R549, R562 to R575).
-/

namespace Sys2Proof.Machine

/-! ### The TWT window (15 R562 to R566) -/

theorem exec_twtWrite (d : List (Fin 256)) (s : State) : exec (.twtWrite d) s = execTwtWrite d s := rfl
theorem exec_twtRead (n : Fin 4096) (s : State) : exec (.twtRead n) s = execTwtRead n s := rfl
theorem exec_twtRequestRepeat (s : State) : exec .twtRequestRepeat s = execTwtRequestRepeat s := rfl

/-- The window after a write of one byte. -/
def Twt.wrote (w : Twt) (p v : Nat) : Twt := { w with writes := inc32 w.writes, pointer := p }.writeByte v

theorem wrote_eq (w : Twt) (p v : Nat) : w.wrote p v = { w with
    writes := inc32 w.writes, pointer := (p + 1) % 256
    roWrites := if p < 128 then inc32 w.roWrites else w.roWrites
    inArea := if p < 128 then w.inArea else tset 0 w.inArea (p - 128) v } := by
  unfold Twt.wrote Twt.writeByte
  split <;> rfl

theorem exec_twtWrite_byte {s : State} (hon : s.twtOn = true) (p v : Fin 256) :
    exec (.twtWrite [p, v]) s = .next ((s.modTwt (fun w => w.wrote p v)).twtNotify (inWritten p 1)) :=
  (exec_twtWrite ..).trans (congrArg _ (if_pos hon))

/-- No notify task: nothing is pushed. -/
theorem twtNotify_off {s : State} (h : s.num 0x9040 5 0xFF = 0xFF) (l : List Nat) : s.twtNotify l = s :=
  if_pos (.inr h)

theorem inWritten_one {p : Nat} (hin : 128 ≤ p) (hp : p < 256) : inWritten p 1 = [p] := by
  simp [inWritten, Nat.mod_eq_of_lt hp, hin]

/-- A write into the IN area pushes the notify token. -/
theorem twtNotify_pushes {s : State} {p n : Nat} (hn : s.num 0x9040 5 0xFF = n) (hset : n ≠ 0xFF) (hroom : s.tokenRoom n) :
    s.twtNotify [p] = s.modTask n (fun x => x.queued [0x52 + p * 2 ^ 8 + p * 2 ^ 16, s.time.t64]) := by
  obtain ⟨hpresent, hdrain, hfits, hkind⟩ := hroom
  have hpush := pushQueue_appends hpresent hdrain
    (words := [0x52 + p * 2 ^ 8 + p * 2 ^ 16, s.time.t64]) hfits hkind
  unfold State.twtNotify
  dsimp only
  rw [hn, if_neg (by simp [hset])]
  simp only [List.headD_cons, List.getLastD_cons, List.getLastD_nil, hpush]

theorem exec_twtRead_on {s : State} (hon : s.twtOn = true) (n : Fin 4096) :
    exec (.twtRead n) s = .next ((s.modTwt (fun x => { x with
      reads := inc32 x.reads, pointer := (x.pointer + n.val) % 256, request := x.request && n.val == 0 })).emit
        (.twtBytes ((List.range n).map (fun i => s.io.twt.byte ((s.io.twt.pointer + i) % 256))))) :=
  (exec_twtRead ..).trans (congrArg _ (if_pos hon))

/-- TWT answers in SERVICE and RUN alone. -/
theorem awake_of_ioRuns {s : State} (h : s.ioRuns = true) : s.op.state ≠ .sleep := by
  intro hsleep
  simp [State.ioRuns, hsleep] at h

theorem awake_of_twtOn {s : State} (h : s.twtOn = true) : s.op.state ≠ .sleep :=
  awake_of_ioRuns (Bool.and_eq_true_iff.1 h).2

/-- The object of TwtRequest (15 R566). -/
def twtRequestRow : ObjRow := oWO 0x9040 0x9040 6 6 .bool rOM

theorem objRow_twtRequest : objRow (okey 0x9040 6) = some twtRequestRow := by decide

theorem twtPulse_on {s : State} (h : s.twtOn = true) :
    s.twtPulse = (s.modTwt (fun w => { w with pulseAt := some s.now })).emit .twPulse := if_pos h

@[simp] theorem reply_out (s : State) (n : SessionNo) (a : Answer) : (s.reply n a).out = .answer n a :: s.out := rfl

theorem exec_twtRequest {s : State} {q : Req} {ss : Session} (hears : s.hears q ss)
    (hadmitted : s.admitted q ss (okey 0x9040 6)) (hon : s.twtOn = true) :
    exec (.twtRequest q [1]) s =
      .next ((((s.noted q).modTwt (fun w => { w with request := true, pulseAt := some s.now })).emit .twPulse).reply
        q.session { rid := q.rid, code := .ok }) := by
  have hpulse := twtPulse_on (s := (s.noted q).modTwt (fun w => { w with request := true })) hon
  refine congrArg Host.Outcome.next
    (serveBytes_of_admitted (d := 0) hears hadmitted objRow_twtRequest rfl (awake_of_twtOn hon) ?_)
  exact congrArg (fun u : State => ({ state := u } : Served)) hpulse

/-! ### Transitions of an input (15 R568 to R570) -/

theorem exec_dioTransition (y : Fin 24) (l : Bool) (b : Fin 32) (s : State) :
    exec (.dioTransition y l b) s = execDioTransition y l b s := rfl

theorem exec_dioFilterAccept (y : Fin 24) (s : State) :
    exec (.dioFilterAccept y) s = execDioFilterAccept y s := rfl

theorem exec_dioFilterAccept_held {s : State} {y : Fin 24} (hin : s.dioIn y = true) (hheld : s.filterHeld y s.t80 = true) :
    exec (.dioFilterAccept y) s = .next (s.filterAccept y) :=
  (exec_dioFilterAccept y s).trans (congrArg _ (if_pos ⟨hin, hheld⟩))

theorem filterHeld_of_none {s : State} {y : Nat} (h : (s.pin y).waiting = none) (t : T80) : s.filterHeld y t = false := by
  unfold State.filterHeld
  rw [h]

theorem filterHeld_of_waiting {s : State} {y : Nat} {a : T80} (h : (s.pin y).waiting = some a) (t : T80) :
    s.filterHeld y t = decide (a + s.filterNs y * 65536 ≤ t) := by
  unfold State.filterHeld
  rw [h]

/-- A transition whose predecessor has not just been accepted. -/
theorem exec_dioTransition_of {s : State} {y : Fin 24} {l : Bool} (hin : s.dioIn y = true) (hraw : (s.pin y).raw ≠ l)
    {b : Fin 32} (hheld : s.filterHeld y (s.t80 + b.val * 8192) = false) :
    exec (.dioTransition y l b) s = .next (s.dioTransition y (s.t80 + b.val * 8192) l) := by
  rw [exec_dioTransition, execDioTransition]
  dsimp only
  rw [if_neg hraw, if_pos hin, hheld]
  rfl

/-- A mains edge reaches the ring controllers alone. -/
theorem mainsEdges_rest (s : State) (y : Nat) (t : T64) :
    s.mainsEdges y t = { s with ring := { s.ring with rcs := (s.mainsEdges y t).ring.rcs } } := by
  unfold State.mainsEdges
  induction List.range 4 generalizing s with
  | nil => rfl
  | cons m l ih =>
    rw [List.foldl_cons, ih]
    split <;> rfl

/-- What an accepted transition leaves of its pin. -/
def DioPin.accepted (p : DioPin) (at_ : T80) (level : Bool) : DioPin :=
  { p with level := level, waiting := none, edgeCount := inc32 p.edgeCount
           edges := ({ eseq := inc32 p.edgeCount, at_ := at_, level := level } :: p.edges).take 64 }

/-- Where no tokens are asked for, an accepted transition changes the pin and the controllers of the mains phase. -/
theorem dioAccept_of_plain {s : State} {y : Nat} (hmode : s.dioMode y ≠ 3) (at_ : T80) (level : Bool) :
    let u := s.modPin y (fun p => p.accepted at_ level)
    ∃ c, s.dioAccept y at_ level = { u with ring := { u.ring with rcs := c } } := by
  intro u
  have hrecord : s.dioRecord y at_ level = u := if_neg hmode
  unfold State.dioAccept
  dsimp only
  rw [hrecord]
  split
  · exact ⟨_, mainsEdges_rest ..⟩
  · exact ⟨u.ring.rcs, rfl⟩

/-- What the lane fabric leaves alone of a pin: all but its tokens. -/
def DioPin.inputs (p : DioPin) : Bool × Option T80 × Nat × List EdgeRec := (p.level, p.waiting, p.edgeCount, p.edges)

/-- `u` has the accepted levels and edges of every pin of `s`. -/
structure State.sameInputs (s u : State) : Prop where
  pin : ∀ y, (u.pin y).inputs = (s.pin y).inputs

theorem State.sameInputs_refl (s : State) : s.sameInputs s := ⟨fun _ => rfl⟩

theorem State.sameInputs.trans {s u v : State} (h : s.sameInputs u) (g : u.sameInputs v) : s.sameInputs v :=
  ⟨fun y => (g.pin y).trans (h.pin y)⟩

theorem modPin_sameInputs (s : State) (k : Nat) {f : DioPin → DioPin} (hf : ∀ p, (f p).inputs = p.inputs) :
    s.sameInputs (s.modPin k f) := by
  refine ⟨fun y => ?_⟩
  rw [pin_modPin]
  split
  next h => rw [hf, h]
  next => rfl

theorem arrive_sameInputs (s : State) (t q : Nat) (v : Word) : s.sameInputs (s.arrive t q v) := by
  unfold State.arrive
  dsimp only
  split
  · exact ⟨fun _ => rfl⟩
  split
  · split <;> exact ⟨fun _ => rfl⟩
  · exact ⟨fun _ => rfl⟩

theorem toComparator_sameInputs (s : State) (t p : Nat) (v : Word) : s.sameInputs (s.toComparator t p v) := by
  unfold State.toComparator
  split <;> exact ⟨fun _ => rfl⟩

theorem sendLane_sameInputs (s : State) (t p : Nat) (v : Word) : s.sameInputs (s.sendLane t p v) := by
  unfold State.sendLane
  split
  · exact arrive_sameInputs ..
  · exact modPin_sameInputs s _ fun _ => rfl
  · exact s.sameInputs_refl

theorem leave_sameInputs (s : State) (t p : Nat) (v : Word) : s.sameInputs (s.leave t p v) := by
  have compared (c : Prop) [Decidable c] : s.sameInputs (if c then s.toComparator t p v else s) := by
    split
    · exact toComparator_sameInputs ..
    · exact s.sameInputs_refl
  unfold State.leave
  dsimp only
  split
  · exact compared _
  · exact (compared _).trans (sendLane_sameInputs ..)

theorem sameInputs_foldl {α : Type} {f : State → α → State} (hf : ∀ t a, State.sameInputs t (f t a)) (l : List α)
    (s : State) : s.sameInputs (l.foldl f s) := by
  induction l generalizing s with
  | nil => exact s.sameInputs_refl
  | cons a l ih => exact (hf s a).trans (ih _)

theorem passOne_sameInputs (s : State) (t q : Nat) : s.sameInputs (s.passOne t q) := by
  unfold State.passOne
  split
  · exact s.sameInputs_refl
  dsimp only
  have taken (f : Tile → Tile) : s.sameInputs (s.modTile t f) := ⟨fun _ => rfl⟩
  split
  · exact (taken _).trans (arrive_sameInputs ..)
  · exact (taken _).trans (sameInputs_foldl (fun u p => leave_sameInputs u t p _) _ _)

theorem pinToLane_sameInputs (s : State) (t : Nat) : s.sameInputs (s.pinToLane t) := by
  unfold State.pinToLane
  split
  · exact s.sameInputs_refl
  next v rest _ =>
    exact (modPin_sameInputs s (t / 32) (f := fun d => { d with tokens := rest }) fun _ => rfl).trans
      (arrive_sameInputs ..)

/-- Tokens that settle change no accepted level and no edge. -/
theorem settle_sameInputs (n : Nat) (l : List Nat) (s : State) : s.sameInputs (settle n l s) := by
  fun_induction settle n l s with
  | case1 => exact State.sameInputs_refl _
  | case2 => exact State.sameInputs_refl _
  | case3 n t w s q _ ih => exact (passOne_sameInputs s t q).trans ih
  | case4 n t w s _ _ ih => exact (pinToLane_sameInputs s t).trans ih
  | case5 n t w s _ _ ih => exact ih

theorem dioRecord_sameInputs (s : State) (y : Nat) (at_ : T80) (level : Bool) :
    (s.modPin y (fun p => p.accepted at_ level)).sameInputs (s.dioRecord y at_ level) := by
  unfold State.dioRecord
  dsimp only
  split
  · refine State.sameInputs.trans (modPin_sameInputs (s.modPin y (fun p => p.accepted at_ level)) y fun p => ?_)
      (settle_sameInputs ..)
    split <;> rfl
  · exact ⟨fun _ => rfl⟩

theorem mainsEdges_sameInputs (s : State) (y : Nat) (t : T64) : s.sameInputs (s.mainsEdges y t) := by
  rw [mainsEdges_rest]
  exact ⟨fun _ => rfl⟩

/-- An accepted transition stands in its pin, its token in the lane or not. -/
theorem dioAccept_inputs (s : State) (y : Nat) (at_ : T80) (level : Bool) :
    ((s.dioAccept y at_ level).pin y).inputs = ((s.pin y).accepted at_ level).inputs := by
  have hmains : (s.dioRecord y at_ level).sameInputs (s.dioAccept y at_ level) := by
    unfold State.dioAccept
    dsimp only
    split
    · exact mainsEdges_sameInputs ..
    · exact State.sameInputs_refl _
  rw [((dioRecord_sameInputs s y at_ level).trans hmains).pin, pin_modPin_self]

/-! ### Levels and entries of an output (15 R571 to R575) -/

theorem awake_of_dioOut {s : State} {y : Nat} (h : s.dioOut y = true) : s.op.state ≠ .sleep :=
  awake_of_ioRuns (Bool.and_eq_true_iff.1 h).1

theorem dioDrive_of_free {s : State} {y : Nat} (hfree : (s.pin y).placedAt ≠ some s.slotNow) (level : Bool) :
    (s.dioDrive y level).pin y = { s.pin y with drive := some level } := by
  unfold State.dioDrive
  rw [pin_modPin_self, if_neg hfree]

theorem dioDrive_other (s : State) {y k : Nat} (hk : k ≠ y) (level : Bool) : (s.dioDrive y level).pin k = s.pin k := by
  unfold State.dioDrive
  rw [pin_modPin, if_neg hk.symm]

theorem slotLate_eq_false {s : State} {slot : Nat} (h : s.slotNow + 800 ≤ slot) : s.slotLate slot = false :=
  decide_eq_false (Nat.not_lt.2 h)

theorem slotLate_eq_true {s : State} {slot : Nat} (h : slot < s.slotNow + 800) : s.slotLate slot = true := decide_eq_true h

theorem hasPlace_of_room {p : DioPin} (h : p.queue.length < 16) (slot : Nat) : p.hasPlace slot = true := by
  unfold DioPin.hasPlace
  rw [decide_eq_true h, Bool.true_or]

theorem dioEntry_queued {s : State} {y slot : Nat} (hearly : s.slotNow + 800 ≤ slot) (hroom : (s.pin y).queue.length < 16)
    (level : Bool) :
    s.dioEntry y slot level = (true, s.modPin y (fun p => { p with queue := putSlot slot level p.queue })) := by
  unfold State.dioEntry
  rw [slotLate_eq_false hearly, hasPlace_of_room hroom]
  rfl

theorem dioEntry_late {s : State} {y slot : Nat} (hlate : slot < s.slotNow + 800) (level : Bool) :
    s.dioEntry y slot level = (true, s.dioLate y level) := by
  unfold State.dioEntry
  rw [slotLate_eq_true hlate]
  rfl

theorem State.logsOver.pin {u w : State} (h : u.logsOver w) (y : Nat) : u.pin y = w.pin y := by rw [h.1]; rfl

/-- A late entry is counted at its pin, and no queue and no other pin changes. -/
theorem dioLate_pins (s : State) (y : Nat) (level : Bool) :
    ((s.dioLate y level).pin y).late = inc32 (s.pin y).late ∧ ((s.dioLate y level).pin y).queue = (s.pin y).queue ∧
      ∀ k, k ≠ y → (s.dioLate y level).pin k = s.pin k := by
  have counted (at_ : DioPin → Option Nat) (c : Prop) [Decidable c] (d : List Nat) :
      let u := s.modPin y (fun p => { p with late := inc32 p.late, lateAlarmAt := at_ p })
      let v := if c then u.record .general .alarm niGaffer 0x0908 d else u
      (v.pin y).late = inc32 (s.pin y).late ∧ (v.pin y).queue = (s.pin y).queue ∧ ∀ k, k ≠ y → v.pin k = s.pin k := by
    intro u v
    have hv (k : Nat) : v.pin k = u.pin k := by
      dsimp only [v]
      split
      · exact (record_logsOver ..).pin k
      · rfl
    refine ⟨?_, ?_, fun k hk => ?_⟩
    · rw [hv, pin_modPin_self]
    · rw [hv, pin_modPin_self]
    · rw [hv, pin_modPin, if_neg hk.symm]
  have driven {v : State} (h : (v.pin y).late = inc32 (s.pin y).late ∧ (v.pin y).queue = (s.pin y).queue ∧
      ∀ k, k ≠ y → v.pin k = s.pin k) (c : Prop) [Decidable c] :
      let w := if c then v.dioDrive y level else v
      (w.pin y).late = inc32 (s.pin y).late ∧ (w.pin y).queue = (s.pin y).queue ∧ ∀ k, k ≠ y → w.pin k = s.pin k := by
    obtain ⟨hlate, hqueue, hother⟩ := h
    intro w
    dsimp only [w]
    split
    · refine ⟨?_, ?_, fun k hk => (dioDrive_other v hk level).trans (hother k hk)⟩
      · unfold State.dioDrive
        rw [pin_modPin_self]
        split <;> exact hlate
      · unfold State.dioDrive
        rw [pin_modPin_self]
        split <;> exact hqueue
    · exact ⟨hlate, hqueue, hother⟩
  unfold State.dioLate
  exact driven (counted (fun p => _) _ _) _

/-! ### The objects of an output (15 R571, R573) -/

/-- A write to an awake unit whose bytes spell a legal value and whose own checks pass. -/
theorem serveBytes_of_checked {s : State} {q : Req} {ss : Session} {key d : Nat} {b : List Nat} {r : ObjRow}
    {check : State → Session → Val → Abort × Nat} {effect : State → Session → Val → Served} {u : State} (h : s.hears q ss)
    (ha : s.admitted q ss key) (hs : s.op.state ≠ .sleep) (hr : objRow key = some r) (hb : bytesCheck key r b = (.ok, 0))
    (hc : check (s.noted q) ss (r.ty.decode b) = (.ok, d)) (hrun : effect (s.noted q) ss (r.ty.decode b) = { state := u }) :
    s.serveBytes q key b check effect = u.reply q.session { rid := q.rid, code := .ok } := by
  unfold State.serveBytes
  rw [hr]
  refine serveWrite_of_admitted (d := d) h ha hs ?_ hrun
  simpa only [hb] using hc

/-- The object of OutLevel (15 R571). -/
def outLevelRow : ObjRow := oWO 0x9100 0x9117 7 7 .bool rOM

theorem objRow_outLevel (y : Fin 24) : objRow (okey (0x9100 + y.val) 7) = some outLevelRow := by
  revert y
  decide

theorem bytesCheck_outLevel (y : Fin 24) (v : Fin 2) : bytesCheck (okey (0x9100 + y.val) 7) outLevelRow [v.val] = (.ok, 0) := by
  revert y v
  decide

theorem valNat_bool (n : Nat) : valNat (VType.bool.decode [n]) = n := by
  simp [VType.decode, valNat, ofBytesBE, ofBytesLE]

/-- OutLevel drives an output. -/
theorem exec_outLevel {s : State} {q : Req} {ss : Session} {y : Fin 24} (hears : s.hears q ss)
    (hadmitted : s.admitted q ss (okey (0x9100 + y.val) 7)) (hout : s.dioOut y = true) (v : Fin 2) :
    exec (.outLevel q y [v.val]) s =
      .next (((s.noted q).dioDrive y (v.val != 0)).reply q.session { rid := q.rid, code := .ok }) := by
  have hout' : (s.noted q).dioOut y = true := hout
  refine congrArg Host.Outcome.next (serveBytes_of_checked (d := 0) hears hadmitted (awake_of_dioOut hout) (objRow_outLevel y)
    (bytesCheck_outLevel y v) ?_ ?_)
  · rw [hout']
    rfl
  · rw [outLevelRow, oWO, valNat_bool]

/-- The object of ScheduleEdge (15 R573). -/
def scheduleEdgeRow : ObjRow := oWO 0x9100 0x9117 8 8 (.oct 12) rOM

theorem objRow_scheduleEdge (y : Fin 24) : objRow (okey (0x9100 + y.val) 8) = some scheduleEdgeRow := by
  revert y
  decide

theorem bytesCheck_scheduleEdge (y : Fin 24) (t v : Nat) :
    bytesCheck (okey (0x9100 + y.val) 8) scheduleEdgeRow (bytesBE 10 t ++ [v, 0]) = (.ok, 0) := by
  have hnone : reservedByte (okey (0x9100 + y.val) 8) (bytesBE 10 t ++ [v, 0]) = none := by
    have hindex : okey (0x9100 + y.val) 8 / 256 = 0x9100 + y.val := by unfold okey; omega
    have hkey : okey (0x9100 + y.val) 8 = 256 * (0x9100 + y.val) + 8 := by unfold okey; omega
    unfold reservedByte
    rw [if_neg, if_neg, if_neg] <;> rw [hkey] <;> unfold okey <;> omega
  unfold bytesCheck
  rw [hnone]
  rfl

/-- The bytes of ScheduleEdge: its time, its level and a reserved byte. -/
theorem edgeTime_bytes (t : Fin 1208925819614629174706176) (l : List Nat) : edgeTime (bytesBE 10 t ++ l) = t.val := by
  unfold edgeTime
  rw [List.take_left' (length_bytesBE 10 t), ofBytesBE_bytesBE]
  exact Nat.mod_eq_of_lt t.isLt

theorem getD_edgeBytes (t v : Nat) : (bytesBE 10 t ++ [v, 0]).getD 10 0 = v ∧ (bytesBE 10 t ++ [v, 0]).getD 11 0 = 0 :=
  ⟨rfl, rfl⟩

/-- ScheduleEdge brings its entry to an output's queue, where it is late or finds room. -/
theorem exec_scheduleEdge {s : State} {q : Req} {ss : Session} {y : Fin 24} {t : Fin 1208925819614629174706176}
    (hears : s.hears q ss) (hadmitted : s.admitted q ss (okey (0x9100 + y.val) 8)) (hout : s.dioOut y = true)
    (hahead : s.t80 < t.val) (hplace : gridSlot t < s.slotNow + 800 ∨ (s.pin y).queue.length < 16) {v : Fin 2}
    {w : State} (hentry : (s.noted q).dioEntry y (gridSlot t) (v.val != 0) = (true, w)) :
    exec (.scheduleEdge q y (bytesBE 10 t ++ [v.val, 0])) s =
      .next (w.reply q.session { rid := q.rid, code := .ok }) := by
  have hout' : (s.noted q).dioOut y = true := hout
  have hahead' : ¬ (t.val ≤ (s.noted q).t80) := Nat.not_le.2 hahead
  have hv : ¬ (1 < v.val) := by omega
  have hplace' : (!(s.noted q).slotLate (gridSlot t) && !((s.noted q).pin y).hasPlace (gridSlot t)) = false := by
    rcases hplace with hlate | hroom
    · rw [slotLate_eq_true (s := s.noted q) hlate]
      rfl
    · rw [hasPlace_of_room (p := (s.noted q).pin y) hroom]
      exact Bool.and_false _
  obtain ⟨hlevel, hreserved⟩ := getD_edgeBytes t v
  refine congrArg Host.Outcome.next (serveBytes_of_checked (d := 0) hears hadmitted (awake_of_dioOut hout)
    (objRow_scheduleEdge y) (bytesCheck_scheduleEdge y t v) ?_ ?_)
  · show firstFail [((bytesBE 10 t ++ [v.val, 0]).getD 11 0 != 0, _, _), (decide (1 < (bytesBE 10 t ++ [v.val, 0]).getD 10 0 ∨
      edgeTime (bytesBE 10 t ++ [v.val, 0]) ≤ (s.noted q).t80), _, _), (!(s.noted q).dioOut y, _, _),
      (!(s.noted q).slotLate (gridSlot (edgeTime (bytesBE 10 t ++ [v.val, 0]))) &&
        !((s.noted q).pin y).hasPlace (gridSlot (edgeTime (bytesBE 10 t ++ [v.val, 0]))), _, _)] = _
    rw [hlevel, hreserved, edgeTime_bytes, hplace', hout', decide_eq_false (by simp [hv, hahead'])]
    rfl
  · show ({ state := ((s.noted q).dioEntry y (gridSlot (edgeTime (bytesBE 10 t ++ [v.val, 0])))
      ((bytesBE 10 t ++ [v.val, 0]).getD 10 0 != 0)).2 } : Served) = _
    rw [hlevel, edgeTime_bytes, hentry]

/-! ### Output tokens and scheduled edges (15 R571 to R575) -/

theorem exec_streamOutToken {s : State} {y : Fin 24} {v : Word} {rest : List Word} (htokens : (s.pin y).outTokens = v :: rest)
    (hout : s.dioOut y = true) (hmode : s.dioMode y = 4) :
    exec (.streamOutToken y) s =
      .next (((s.modPin y (fun p => { p with outTokens := rest })).outToken y v).settleAt (32 * y.val + 31)) := by
  show execStreamOutToken y s = _
  unfold execStreamOutToken
  rw [htokens]
  exact congrArg _ (if_pos ⟨hout, hmode⟩)

/-- A change of a pin that gives it no token leaves the lanes quiet. -/
theorem State.quiet.modPin {s : State} (h : s.quiet) (y : Nat) {f : DioPin → DioPin} (hf : ∀ p, (f p).tokens = p.tokens) :
    (s.modPin y f).quiet := by
  refine ⟨h.1, fun k => ?_⟩
  rw [pin_modPin]
  split
  · rw [hf, h.2]
  · exact h.2 k

theorem State.quiet.dioDrive {s : State} (h : s.quiet) (y : Nat) (level : Bool) : (s.dioDrive y level).quiet :=
  h.modPin y fun p => by split <;> rfl

theorem settleAt_of_quiet {s : State} (h : s.quiet) (t : Nat) : s.settleAt t = s := settle_of_quiet h _ _

theorem exec_scheduledEdgePlace {s : State} {y : Fin 24} {n : Nat} {l : Bool} {rest : List (Nat × Bool)}
    (hqueue : (s.pin y).queue = (n, l) :: rest) :
    exec (.scheduledEdgePlace y) s = .next (if s.dioOut y ∧ n < s.slotNow + 32 then
      s.modPin y (fun p => { p with queue := rest, drive := some l, placedAt := some n }) else s) := by
  show execScheduledEdgePlace y s = _
  unfold execScheduledEdgePlace
  rw [hqueue]

/-- The pin that changed, once the quiet lanes have settled. -/
theorem pin_settleAt_modPin {s : State} (h : s.quiet) {y : Nat} {f : DioPin → DioPin} (t : Nat)
    (hf : ∀ p, (f p).tokens = p.tokens) : ((s.modPin y f).settleAt t).pin y = f (s.pin y) := by
  rw [settleAt_of_quiet (h.modPin y hf), pin_modPin_self]

theorem outToken_timed {s u : State} {y : Nat} {v : Word} (htimed : v.getLsbD 30 = true)
    (hentry : s.dioEntry y (nearestSlot s.slotNow (v.toNat % 2 ^ 30)) (v.getLsbD 31) = (true, u)) : s.outToken y v = u := by
  unfold State.outToken
  dsimp only
  rw [if_pos htimed, hentry]
  rfl

theorem outToken_bad {s : State} {y : Nat} {v : Word} (hnow : v.getLsbD 30 = false) (hbits : v.toNat % 2 ^ 30 ≠ 0) :
    s.outToken y v = s.modPin y (fun p => { p with badTokens := inc32 p.badTokens }) := by
  unfold State.outToken
  dsimp only
  rw [hnow, if_neg Bool.false_ne_true, if_pos hbits]

theorem outToken_level {s : State} {y : Nat} {v : Word} (hnow : v.getLsbD 30 = false) (hzero : v.toNat % 2 ^ 30 = 0) :
    s.outToken y v = s.dioDrive y (v.getLsbD 31) := by
  unfold State.outToken
  dsimp only
  rw [hnow, if_neg Bool.false_ne_true, if_neg (not_not_intro hzero)]

end Sys2Proof.Machine

open Sys2Proof Sys2Proof.Machine

/-- Settles O51: a transfer moves the window's pointer byte by byte, a pin's transitions pass through its filter, and an
entry reaches an output's queue in time order or is counted late. -/
theorem twtWindowAndDirectIo : Obligations.TwtWindowAndDirectIo := by
  unfold Obligations.TwtWindowAndDirectIo
  refine ⟨?twtWrite, ?notify, ?twtRead, ?off, ?request, ?repeated, ?released, ?accepted, ?filtered, ?glitch, ?held,
    ?outLevel, ?scheduleEdge, ?lateEdge, ?token, ?timedToken, ?placed, ?notYet⟩
  case twtWrite =>
    intro s p v hon hquiet
    have hnone : ((s.modTwt (fun w => w.wrote p v)).twtNotify (inWritten p 1)) = s.modTwt (fun w => w.wrote p v) :=
      twtNotify_off (s := s.modTwt (fun w => w.wrote p v)) hquiet _
    refine ⟨_, (exec_twtWrite_byte hon p v).trans (congrArg _ hnone), rfl, ?_⟩
    exact wrote_eq s.io.twt p v
  case notify =>
    intro s p v n hon hn hset hin hroom
    have hpush := twtNotify_pushes (s := s.modTwt (fun w => w.wrote p v)) (p := p.val) hn.symm hset hroom
    rw [← inWritten_one hin p.isLt] at hpush
    refine ⟨_, (exec_twtWrite_byte hon p v).trans (congrArg _ hpush), ?_, ?_⟩
    · rw [task_modTask_self]
      rfl
    · show (s.io.twt.wrote p v).lost = _
      rw [wrote_eq]
  case twtRead =>
    intro s n hon
    exact ⟨_, exec_twtRead_on hon n, rfl, rfl, rfl⟩
  case off =>
    intro s d n hoff
    have hoff' : ¬ s.twtOn = true := Bool.eq_false_iff.1 hoff
    exact ⟨(exec_twtWrite ..).trans (congrArg _ (if_neg hoff')), (exec_twtRead ..).trans (congrArg _ (if_neg hoff'))⟩
  case request =>
    intro s q ss hears hadmitted hon
    refine ⟨_, exec_twtRequest hears hadmitted hon, reply_answers .., rfl, rfl, ?_⟩
    rw [reply_out]
    exact List.mem_cons_of_mem _ List.mem_cons_self
  case repeated =>
    intro s hrequest hon hdue
    rw [exec_twtRequestRepeat, execTwtRequestRepeat, if_pos ⟨hrequest, hdue⟩, twtPulse_on hon]
    rfl
  case released =>
    intro s h
    rw [exec_twtRequestRepeat, execTwtRequestRepeat, if_neg]
    rintro ⟨hrequest, hdue⟩
    rcases h with hreleased | hearly
    · exact Bool.eq_false_iff.1 hreleased hrequest
    · obtain ⟨t, ht, hlt⟩ := (Option.any_eq_true _ _).1 hearly
      rw [ht, Option.all_some] at hdue
      have hle := of_decide_eq_true hdue
      have hlt' := of_decide_eq_true hlt
      omega
  case accepted =>
    intro s y l b hin hfilter hraw hwaiting hmode t
    let v := s.modPin y (fun x => { x with raw := l })
    obtain ⟨c, haccept⟩ := dioAccept_of_plain (s := v) (y := y.val) (by rw [show v.dioMode y = 1 from hmode]; decide) t l
    have htransition : s.dioTransition y t l = _ := (if_pos hfilter).trans haccept
    refine ⟨_, (exec_dioTransition_of hin hraw (filterHeld_of_none hwaiting _)).trans (congrArg _ htransition), rfl, ?_,
      fun k hk => ?_⟩
    · show ((v.modPin y _).pin y) = _
      rw [pin_modPin_self, pin_modPin_self]
      simp only [DioPin.accepted, inc32, hwaiting]
    · show ((v.modPin y _).pin k) = _
      rw [pin_modPin, if_neg hk.symm, pin_modPin, if_neg hk.symm]
  case filtered =>
    intro s y l b hin hfilter hraw hwaiting hlevel
    have htransition : s.dioTransition y (s.t80 + b.val * 8192) l =
        s.modPin y (fun x => { x with raw := l, waiting := if l = x.level then none else some (s.t80 + b.val * 8192) }) := by
      unfold State.dioTransition
      dsimp only
      rw [if_neg hfilter, hwaiting]
      rfl
    refine ⟨_, (exec_dioTransition_of hin hraw (filterHeld_of_none hwaiting _)).trans (congrArg _ htransition), rfl, ?_,
      fun k hk => ?_⟩
    · rw [pin_modPin_self, if_neg (Ne.symm hlevel)]
    · rw [pin_modPin, if_neg hk.symm]
  case glitch =>
    intro s y l b a hin hfilter hraw hwaiting hearly
    have hheld : s.filterHeld y (s.t80 + b.val * 8192) = false := by
      rw [filterHeld_of_waiting hwaiting]
      exact decide_eq_false (Nat.not_le.2 hearly)
    have htransition : s.dioTransition y (s.t80 + b.val * 8192) l =
        s.modPin y (fun x => { x with raw := l, waiting := none, glitches := inc32 x.glitches }) := by
      unfold State.dioTransition
      dsimp only
      rw [if_neg hfilter, hwaiting]
      rfl
    refine ⟨_, (exec_dioTransition_of hin hraw hheld).trans (congrArg _ htransition), rfl, ?_, fun k hk => ?_⟩
    · rw [pin_modPin_self]
      rfl
    · rw [pin_modPin, if_neg hk.symm]
  case held =>
    intro s y a hin hwaiting hheld
    have hwaited : s.filterHeld y s.t80 = true := by
      rw [filterHeld_of_waiting hwaiting]
      exact decide_eq_true hheld
    have haccept : s.filterAccept y = s.dioAccept y a (s.pin y).raw := by
      unfold State.filterAccept
      rw [hwaiting]
    have hinputs := dioAccept_inputs s y a (s.pin y).raw
    simp only [DioPin.inputs, Prod.mk.injEq] at hinputs
    obtain ⟨hlevel, hnone, hcount, hedges⟩ := hinputs
    exact ⟨_, (exec_dioFilterAccept_held hin hwaited).trans (congrArg _ haccept), hlevel, hnone, hcount, hedges⟩
  case outLevel =>
    intro s q ss y v hears hadmitted hout hfree
    refine ⟨_, exec_outLevel hears hadmitted hout v, reply_answers .., rfl, ?_, fun k hk => ?_⟩
    · exact dioDrive_of_free (s := s.noted q) hfree _
    · exact dioDrive_other (s.noted q) hk _
  case scheduleEdge =>
    intro s q ss y t v hears hadmitted hout hahead hearly hroom
    have hentry := dioEntry_queued (s := s.noted q) (y := y.val) hearly hroom (v.val != 0)
    refine ⟨_, exec_scheduleEdge hears hadmitted hout hahead (.inr hroom) hentry, reply_answers .., rfl, ?_,
      fun k hk => ?_⟩
    · exact pin_modPin_self ..
    · exact (pin_modPin ..).trans (if_neg hk.symm)
  case lateEdge =>
    intro s q ss y t v hears hadmitted hout hahead hlate
    have hentry := dioEntry_late (s := s.noted q) (y := y.val) hlate (v.val != 0)
    obtain ⟨hcount, hqueue, hother⟩ := dioLate_pins (s.noted q) y (v.val != 0)
    exact ⟨_, exec_scheduleEdge hears hadmitted hout hahead (.inl hlate) hentry, hcount, hqueue, hother⟩
  case token =>
    intro s y v rest htokens hout hmode hnow hlanes
    have htaken : (s.modPin y (fun p => { p with outTokens := rest })).quiet :=
      (quiet_of_lanesEmpty hlanes).modPin y fun _ => rfl
    refine ⟨_, exec_streamOutToken htokens hout hmode, fun hzero hfree => ?_, fun hbits => ?_⟩
    · have hfree' : ((s.modPin y (fun p => { p with outTokens := rest })).pin y).placedAt ≠ some s.slotNow := by
        rw [pin_modPin_self]
        exact hfree
      rw [outToken_level hnow hzero, settleAt_of_quiet (htaken.dioDrive ..), dioDrive_of_free hfree', pin_modPin_self]
    · rw [outToken_bad hnow hbits, pin_settleAt_modPin htaken, pin_modPin_self]
      · rfl
      · exact fun _ => rfl
  case timedToken =>
    intro s y v rest htokens hout hmode htimed hlanes hearly hroom
    have htaken : (s.modPin y (fun p => { p with outTokens := rest })).quiet :=
      (quiet_of_lanesEmpty hlanes).modPin y fun _ => rfl
    have hroom' : ((s.modPin y (fun p => { p with outTokens := rest })).pin y).queue.length < 16 := by
      rw [pin_modPin_self]
      exact hroom
    refine ⟨_, exec_streamOutToken htokens hout hmode, ?_⟩
    rw [outToken_timed htimed (dioEntry_queued (s := s.modPin y (fun p => { p with outTokens := rest })) hearly hroom' _),
      pin_settleAt_modPin htaken, pin_modPin_self]
    exact fun _ => rfl
  case placed =>
    intro s y n l rest hqueue hout hreached
    exact (exec_scheduledEdgePlace hqueue).trans (congrArg _ (if_pos ⟨hout, hreached⟩))
  case notYet =>
    intro s y n l rest hqueue hearly
    exact (exec_scheduledEdgePlace hqueue).trans (congrArg _ (if_neg fun h => Nat.not_lt.2 hearly h.2))

end

section
/-!
O48: the feeds and their grants, the power hold, dips, the shed and what it carries into RESET, and the end of a
brownout count (14 R512 to R524, R545).
-/

namespace Sys2Proof.Machine

theorem exec_shedDecision (s : State) : exec .shedDecision s = execShedDecision s := rfl

/-! ### The power unit under fault-log records -/

theorem State.logsOver.power {u w : State} (h : u.logsOver w) : u.power = w.power := by rw [h.1]

/-- What changes the power unit and the logs alone, with the power unit that it leaves. -/
theorem State.logsOver.ownPower {u s : State} {p : PowerUnit} (h : u.logsOver { s with power := p }) :
    u.logsOver { s with power := u.power } := by
  rw [h.power]
  exact h

theorem State.logsOver.feed {u w : State} (h : u.logsOver w) (f : Nat) : u.feed f = w.feed f := by
  unfold State.feed
  rw [h.power]

/-! ### The governor's holds (14 R516, R521, 16 R602) -/

/-- The power unit with both holds' counts and the clusters that they hold together. -/
def State.holding (s : State) (power thermal : Nat) : PowerUnit :=
  let u := s.power
  let p := min power s.holdOrder.length
  let t := min thermal s.holdOrder.length
  { u with
    powerHeld := p, thermalHeld := t, held := s.holdOrder.take (max p t)
    holdEvents := if u.powerHeld = 0 ∧ p > 0 then inc32 u.holdEvents else u.holdEvents
    thermalEvents := if u.thermalHeld = 0 ∧ t > 0 then inc32 u.thermalEvents else u.thermalEvents }

theorem setHolds_logsOver (s : State) (power thermal : Nat) :
    (s.setHolds power thermal).logsOver { s with power := s.holding power thermal } :=
  (holdAlarm_logsOver ..).trans (holdAlarm_logsOver ..)

/-- The power unit that a judgement of the power hold leaves. -/
def State.judged (s : State) : PowerUnit :=
  if s.governs then s.holding s.holdsNeeded s.power.thermalHeld else s.power

theorem judgeHold_judged (s : State) : s.judgeHold.logsOver { s with power := s.judged } := by
  unfold State.judgeHold State.judged
  split
  · exact setHolds_logsOver ..
  · exact s.logsOver_refl

theorem judged_feeds (s : State) : s.judged.feeds = s.power.feeds := by
  unfold State.judged
  split <;> rfl

theorem judged_holdup (s : State) : s.judged.holdup = s.power.holdup := by
  unfold State.judged
  split <;> rfl

theorem judgeRedundant_logsOver (s : State) : s.judgeRedundant.logsOver s := by
  unfold State.judgeRedundant
  split
  · split
    · exact s.logsOver_refl
    · exact alarm_logsOver ..
  · exact clearAlarm_logsOver ..

/-- The clusters held are the first of the order, as many as the larger count has. -/
theorem holding_held (s : State) (power thermal : Nat) :
    (s.holding power thermal).held = s.holdOrder.take (s.holding power thermal).held.length := by
  simp [State.holding]

/-- P_est counts no hold beyond the order's end. -/
theorem estimateWith_min (s : State) (k : Nat) : s.estimateWith (min k s.holdOrder.length) = s.estimateWith k := by
  simp [State.estimateWith]

theorem holdOrder_length_le (s : State) : s.holdOrder.length ≤ 64 := by
  have hcommitted : s.committed.length ≤ 64 := (List.length_filter_le ..).trans_eq List.length_range
  rw [State.holdOrder, List.length_reverse]
  exact (List.length_filter_le ..).trans hcommitted

/-- P_est is judged by the operational state, the array and Z0's map alone. -/
theorem estimateWith_congr {u s : State} (ho : u.op = s.op) (ha : u.array = s.array) (hq : u.quench = s.quench) :
    u.estimateWith = s.estimateWith := by
  funext k
  simp only [State.estimateWith, State.committed, State.holdOrder, State.cluster, State.z0Map, ho, ha, hq]

/-- With `k` clusters held for power, P_est stays within B_sup. -/
def State.fits (s : State) (k : Nat) : Bool :=
  decide (s.estimateWith (max k s.power.thermalHeld) ≤ s.supplyBudget * 10)

theorem holdsNeeded_eq (s : State) : s.holdsNeeded = ((List.range 65).find? s.fits).getD 64 := rfl

/-- No number of holds below the fewest brings P_est to B_sup. -/
theorem estimate_of_lt_holdsNeeded {s : State} {k : Nat} (h : k < s.holdsNeeded) :
    s.supplyBudget * 10 < s.estimateWith (max k s.power.thermalHeld) := by
  have hbeyond : s.fits k = false := by
    rw [holdsNeeded_eq] at h
    cases hfind : (List.range 65).find? s.fits with
    | none =>
      rw [hfind, Option.getD_none] at h
      rw [List.find?_range_eq_none] at hfind
      simpa using hfind k (by omega)
    | some n =>
      rw [hfind, Option.getD_some] at h
      obtain ⟨-, -, hbelow⟩ := List.find?_range_eq_some.1 hfind
      simpa using hbelow k h
  exact Nat.not_le.1 (of_decide_eq_false hbeyond)

/-- The fewest holds bring P_est to B_sup, unless they hold every cluster of the order. -/
theorem estimate_holdsNeeded (s : State) :
    s.estimateWith (max s.holdsNeeded s.power.thermalHeld) ≤ s.supplyBudget * 10 ∨ s.holdsNeeded = 64 := by
  rw [holdsNeeded_eq]
  cases hfind : (List.range 65).find? s.fits with
  | none => exact .inr rfl
  | some n =>
    have hfits : s.fits n = true := List.find?_some hfind
    exact .inl (of_decide_eq_true hfits)

/-- The holds judged either bring P_est to B_sup or take every cluster of the order. -/
theorem judgeHold_estimate {s : State} (hg : s.governs = true) :
    s.judgeHold.estimate ≤ s.supplyBudget * 10 ∨ s.judgeHold.power.held = s.holdOrder := by
  have hover := judgeHold_judged s
  have hpower : s.judgeHold.power = s.holding s.holdsNeeded s.power.thermalHeld := by
    rw [hover.power, State.judged, if_pos hg]
  have hheld : s.judgeHold.power.held.length = min (max s.holdsNeeded s.power.thermalHeld) s.holdOrder.length := by
    rw [hpower]
    simp only [State.holding, List.length_take]
    omega
  have hestimate : s.judgeHold.estimate = s.estimateWith (max s.holdsNeeded s.power.thermalHeld) := by
    rw [State.estimate, hheld, estimateWith_congr (s := s) hover.op hover.array hover.quench, estimateWith_min]
  refine (estimate_holdsNeeded s).imp (fun hfits => hestimate ▸ hfits) (fun hall => ?_)
  have hlen := holdOrder_length_le s
  rw [hpower]
  exact List.take_of_length_le (by rw [hall]; omega)

/-! ### The feeds (14 R514) -/

theorem feedChange_logsOver (s : State) (f code : Nat) : (s.feedChange f code).logsOver s := record_logsOver ..

/-- A feed changes, is recorded, and redundancy is judged again. -/
theorem fedChange_logsOver (s : State) (f code : Nat) (g : Feed → Feed) :
    ((s.modFeed f g).feedChange f code).judgeRedundant.logsOver (s.modFeed f g) :=
  (judgeRedundant_logsOver _).trans (feedChange_logsOver ..)

theorem other_feed (f : Fin 2) : f.val ≠ 1 - f.val := by omega

/-- What the change of one feed leaves: its own entry, the other's as it was, and the rest of the power unit. -/
theorem feed_changed {s u : State} {f : Fin 2} {g : Feed → Feed} (h : u.logsOver (s.modFeed f g)) :
    u.logsOver { s with power := u.power } ∧ u.power = { s.power with feeds := u.power.feeds } ∧
      u.feed f = g (s.feed f) ∧ u.feed (1 - f.val) = s.feed (1 - f.val) := by
  refine ⟨h.ownPower, ?_, ?_, ?_⟩
  · rw [h.power]
    rfl
  · rw [h.feed, feed_modFeed_self]
  · rw [h.feed, feed_modFeed, if_neg (other_feed f)]

/-- A feed that is POWERED again: one that was ABSENT has the grant of `n` class events, a LOST one keeps its own. -/
def Feed.regained (x : Feed) (now n : Nat) : Feed :=
  { x with state := .powered, poweredSince := some now, classEvents := if x.state = .absent then n else x.classEvents }

/-- The feed `f` POWERED, with the holdup store fed. -/
def State.fed (s : State) (f n : Nat) : State :=
  let s1 := s.modFeed f (fun x => x.regained s.now n)
  { s1 with power := { s1.power with holdup := true } }

theorem fed_feed (s : State) (f n k : Nat) :
    (s.fed f n).feed k = if f = k then (s.feed f).regained s.now n else s.feed k :=
  feed_modFeed (s := s) f (fun x => x.regained s.now n) k

/-- FEED_STABLE of a feed that is not POWERED: FEED_LOSS ends, and the holds and redundancy are judged again. -/
theorem exec_feedStable_fed {s : State} {f : Fin 2} (h : (s.feed f).state ≠ .powered) (n : Fin 6) :
    exec (.feedStable f n) s =
      .next ((((s.fed f n).feedChange f 1).endDemand 0x58).judgeHold.judgeRedundant) :=
  if_neg h

/-- What FEED_STABLE leaves of the rest: the power unit and the Quench unit alone differ, with the logs. -/
theorem fed_rest {s u : State} {f n code : Nat} {p : PowerUnit}
    (h : u.logsOver { ((s.fed f n).feedChange f 1).endDemand code with power := p }) :
    u = { s with power := u.power, quench := u.quench, log := u.log, sess := u.sess, out := u.out } := by
  obtain ⟨q, l, e, o, hfed⟩ : ∃ q l e o,
      u = { s with power := p, quench := q, log := l, sess := e, out := o } := by
    have hu := h.1
    rw [(feedChange_logsOver (s.fed f n) f 1).1] at hu
    exact ⟨_, _, _, _, hu⟩
  subst hfed
  rfl

/-! ### What a shed carries through the stop of the array (14 R523, R524) -/

/-- The Quench unit but for its comparators' queues and the stop that is due. -/
def QuenchUnit.judgement (u : QuenchUnit) : QuenchUnit := { u with cmp := [], stopDue := false }

/-- What a shed carries into RESET of the units that it does not judge: the operational unit, the timebase, what the
power unit keeps, and Tcut. -/
def State.supply (s : State) : OpUnit × TimeUnit × PowerUnit × T64 := (s.op, s.time, s.power.kept, s.energy.lastCut)

/-- What a shed carries into RESET. -/
def State.carried (s : State) : (OpUnit × TimeUnit × PowerUnit × T64) × QuenchUnit := (s.supply, s.quench.judgement)

theorem supply_of_carried {u w : State} (h : u.carried = w.carried) : u.supply = w.supply := congrArg Prod.fst h

theorem judgement_of_carried {u w : State} (h : u.carried = w.carried) : u.quench.judgement = w.quench.judgement :=
  congrArg Prod.snd h

theorem supply_judgement_of_carried {s : State} {a : OpUnit × TimeUnit × PowerUnit × T64} {q : QuenchUnit}
    (h : s.carried = (a, q)) : s.supply = a ∧ s.quench.judgement = q := Prod.mk.inj h

theorem supply_fields {s : State} {o : OpUnit} {t : TimeUnit} {p : PowerUnit} {l : T64} (h : s.supply = (o, t, p, l)) :
    s.op = o ∧ s.time = t ∧ s.power.kept = p ∧ s.energy.lastCut = l := by
  simpa [State.supply] using h

theorem State.logsOver.carried {u w : State} (h : u.logsOver w) : u.carried = w.carried := by
  rw [h.1]
  rfl

theorem foldl_carried {α : Type} {f : State → α → State} (h : ∀ s a, (f s a).carried = s.carried) (l : List α)
    (s : State) : (l.foldl f s).carried = s.carried :=
  foldl_keeps (g := State.carried) h l s

@[simp] theorem ite_carried (c : Prop) [Decidable c] (a b : State) :
    (if c then a else b).carried = if c then a.carried else b.carried := apply_ite State.carried c a b

@[simp] theorem modTile_carried (s : State) (t : Nat) (f : Tile → Tile) : (s.modTile t f).carried = s.carried := rfl
@[simp] theorem modTask_carried (s : State) (n : Nat) (f : Task → Task) : (s.modTask n f).carried = s.carried := rfl
@[simp] theorem modPin_carried (s : State) (y : Nat) (f : DioPin → DioPin) : (s.modPin y f).carried = s.carried := rfl
@[simp] theorem modCmp_carried (s : State) (k : Nat) (f : CmpChannel → CmpChannel) :
    (s.modCmp k f).carried = s.carried := rfl
@[simp] theorem record_carried (s : State) (area : AreaName) (cls : LogClass) (source code : Nat) (detail : List Nat)
    (session : Nat) : (s.record area cls source code detail session).carried = s.carried := (record_logsOver ..).carried
@[simp] theorem alarm_carried (s : State) (cls : LogClass) (code idx : Nat) (detail : List Nat) :
    (s.alarm cls code idx detail).carried = s.carried := (alarm_logsOver ..).carried
@[simp] theorem clearAlarm_carried (s : State) (code idx : Nat) : (s.clearAlarm code idx).carried = s.carried := rfl
@[simp] theorem commit_carried (s : State) (b : JBody) : (s.commit b).carried = s.carried := by
  rw [commit_rest]
  rfl

/-! ### The lane fabric and stopped tiles (05 R162 to R170, 03 R134) -/

@[simp] theorem toComparator_carried (s : State) (t p : Nat) (v : Word) :
    (s.toComparator t p v).carried = s.carried := by
  unfold State.toComparator
  split <;> rfl

@[simp] theorem arrive_carried (s : State) (t q : Nat) (v : Word) : (s.arrive t q v).carried = s.carried := by
  unfold State.arrive
  dsimp only
  split
  · rfl
  · split
    · split <;> rfl
    · rfl

@[simp] theorem sendLane_carried (s : State) (t p : Nat) (v : Word) : (s.sendLane t p v).carried = s.carried := by
  unfold State.sendLane
  split <;> simp

@[simp] theorem leave_carried (s : State) (t p : Nat) (v : Word) : (s.leave t p v).carried = s.carried := by
  simp [State.leave]

@[simp] theorem passOne_carried (s : State) (t q : Nat) : (s.passOne t q).carried = s.carried := by
  unfold State.passOne
  split
  · rfl
  · dsimp only
    split
    · exact arrive_carried ..
    · exact foldl_carried (fun u p => leave_carried u t p _) _ _

@[simp] theorem pinToLane_carried (s : State) (t : Nat) : (s.pinToLane t).carried = s.carried := by
  unfold State.pinToLane
  split <;> simp

@[simp] theorem settle_carried (n : Nat) (l : List Nat) (s : State) : (settle n l s).carried = s.carried := by
  fun_induction settle n l s with
  | case1 => rfl
  | case2 => rfl
  | case3 n t w s q _ ih => rw [ih, passOne_carried]
  | case4 n t w s _ _ ih => rw [ih, pinToLane_carried]
  | case5 n t w s _ _ ih => exact ih

@[simp] theorem stopTile_carried (s : State) (t : Nat) (r : CtxReason) : (s.stopTile t r).carried = s.carried := by
  simp [State.stopTile, State.settleAt]

/-! ### Stopped tasks (05 R187 to R194) -/

theorem stopTiles_carried (s : State) (ts : List Nat) (r : CtxReason) (peer : Bool) :
    (s.stopTiles ts r peer).carried = s.carried :=
  foldl_carried (fun u t => by simp) ts s

@[simp] theorem stopTask_carried (s : State) (n : Nat) (cs : List Nat) (r : TaskReason) (q : CtxReason) :
    (s.stopTask n cs r q).carried = s.carried := by
  rw [State.stopTask, modTask_carried, stopTiles_carried]

@[simp] theorem cancelPre_carried (s : State) (n : Nat) : (s.cancelPre n).carried = s.carried := by
  rw [State.cancelPre, modTask_carried, stopTask_carried]

theorem quenchTask_carried (s : State) (n : Nat) : (s.quenchTask n).carried = s.carried := by
  unfold State.quenchTask
  split <;> rfl

theorem stopDue_carried (s : State) (b : Bool) :
    ({ s with quench := { s.quench with stopDue := b } } : State).carried = s.carried := rfl

@[simp] theorem quenchStop_carried (s : State) : s.quenchStop.carried = s.carried := by
  rw [quenchStop_eq, State.quenchTasks, stopDue_carried, foldl_carried quenchTask_carried, stopTiles_carried]

@[simp] theorem decideStart_carried (s : State) (n : Nat) (commit : Bool) :
    (s.decideStart n commit).carried = s.carried := by
  rw [decideStart_rest]
  rfl

/-! ### Leaving RUN (01 R38) -/

theorem leaveTask_carried (s : State) (n : Nat) : (s.leaveTask n).carried = s.carried := by
  unfold State.leaveTask
  split
  · rfl
  · exact cancelPre_carried ..
  · rw [cancelPre_carried]
    split
    · rfl
    · exact decideStart_carried ..
  · rfl

theorem discardEvents_carried (s : State) : s.discardEvents.carried = s.carried := rfl

/-- Leaving RUN carries what the cause of it leaves. -/
theorem leaveRun_carried (s : State) : (s.leaveRun false).carried = (s.quenchCause 0x01).carried := by
  have hevents : s.leaveRun false = ((s.quenchCause 0x01).quenchStop.taskList.foldl State.leaveTask
    (s.quenchCause 0x01).quenchStop).discardEvents := rfl
  rw [hevents, discardEvents_carried, foldl_carried leaveTask_carried, quenchStop_carried]

/-! ### The energy unit and the fuse controller (13 R500, R505, 12 R461) -/

@[simp] theorem energyCommit_carried (s : State) (b : JBody) : (s.energyCommit b).carried = s.carried := by
  unfold State.energyCommit
  split
  · exact commit_carried ..
  · dsimp only
    split
    · exact alarm_carried ..
    · rfl

@[simp] theorem energyFlush_carried (s : State) : s.energyFlush.carried = s.carried :=
  foldl_carried commit_carried s.energy.backlog _

@[simp] theorem takeMax_carried (s : State) (r : IntervalRec) : (s.takeMax r).carried = s.carried := by
  unfold State.takeMax
  split <;> rfl

@[simp] theorem actAt_carried (s : State) (b : T64) : (s.actAt b).carried = s.carried := rfl
@[simp] theorem openInterval_carried (s : State) (b : T64) (flags : Nat) :
    (s.openInterval b flags).carried = s.carried := rfl

@[simp] theorem forecast_carried (s : State) : s.forecast.carried = s.carried := by
  unfold State.forecast
  extract_lets u m e win lately running left fc ceiling adv s1
  have hshown : s1.carried = s.carried := rfl
  split
  · exact (alarm_carried ..).trans hshown
  · split
    · exact (clearAlarm_carried ..).trans hshown
    · exact hshown

@[simp] theorem closePeriod_carried (s : State) (b : T64) :
    ({ s with energy := s.energy.closePeriod b } : State).carried = s.carried := rfl
@[simp] theorem keep_carried (s : State) (r : IntervalRec) :
    ({ s with energy := s.energy.keep r } : State).carried = s.carried := rfl

@[simp] theorem processBoundary_carried (s : State) (b : T64) (extra : Nat) :
    (s.processBoundary b extra).carried = s.carried := by simp [State.processBoundary]

/-- No energy is accepted after Tcut, and the rest of what a shed carries stands. -/
theorem energyCut_carried (s : State) (tcut : T64) :
    (s.energyCut tcut).carried = ((s.op, s.time, s.power.kept, tcut), s.quench.judgement) := by
  have hbefore : (if s.boundaryDue ∧ s.energy.stop ≤ tcut then s.processBoundary s.energy.stop 0 else s).carried =
      s.carried := by simp
  exact congrArg (fun x : (OpUnit × TimeUnit × PowerUnit × T64) × QuenchUnit =>
    ((x.1.1, x.1.2.1, x.1.2.2.1, tcut), x.2)) hbefore

@[simp] theorem fuseDone_carried (s : State) (a : Nat) (r : FuseOutcome) (pulses : Nat) :
    (s.fuseDone a r pulses).carried = s.carried := by
  unfold State.fuseDone
  dsimp only
  split
  · rw [alarm_carried, alarm_carried, commit_carried]
    rfl
  · rw [alarm_carried, commit_carried]
    rfl

theorem reply_carried (s : State) (n : SessionNo) (a : Answer) : (s.reply n a).carried = s.carried := rfl

/-! ### FEED_LOSS (10 R364, R366) -/

/-- FEED_LOSS is a cause, and the device is QUENCHED. -/
def QuenchUnit.lostFeeds (u : QuenchUnit) : Prop := 0x58 ∈ u.active ∧ (u.qa && u.qb) = false

theorem lostFeeds_of_causedBy {s u : State} (h : s.causedBy u 0x58) : u.quench.lostFeeds := ⟨h.1, h.2.2.1⟩

theorem lostFeeds_of_judgement {u w : QuenchUnit} (h : u.judgement = w.judgement) (hw : w.lostFeeds) : u.lostFeeds := by
  have hactive : u.active = w.active := (congrArg QuenchUnit.active h :)
  have hqa : u.qa = w.qa := (congrArg QuenchUnit.qa h :)
  have hqb : u.qb = w.qb := (congrArg QuenchUnit.qb h :)
  rw [QuenchUnit.lostFeeds, hactive, hqa, hqb]
  exact hw

theorem driveQLevels_carried (s : State) : s.driveQLevels.carried = s.carried := by
  refine foldl_carried (fun t y => ?_) _ s
  dsimp only
  split
  · split <;> rfl
  · rfl

theorem enterQuenched_supply (s : State) (code : Nat) : (s.enterQuenched code).supply = s.supply :=
  (supply_of_carried (driveQLevels_carried _)).trans rfl

theorem quenchCause_supply (s : State) (code : Nat) : (s.quenchCause code).supply = s.supply := by
  by_cases hmay : s.mayCause code
  · have hrecorded : (s.causeRecorded code 0).supply = s.supply :=
      (supply_of_carried (record_carried (s.modQuench (·.withCause code)) _ _ _ _ _ _)).trans rfl
    have hnext : ¬ (code ∈ s.quench.active ∨ (!s.quenchRuns) = true) := by simpa [hmay.1] using hmay.2
    have hcause : s.quenchCause code =
        if (s.causeRecorded code 0).armed then (s.causeRecorded code 0).enterQuenched code
        else s.causeRecorded code 0 := if_neg hnext
    rw [hcause]
    split
    · exact (enterQuenched_supply ..).trans hrecorded
    · exact hrecorded
  · rw [quenchCause_of_not_mayCause hmay]

/-- A further cause of a device that FEED_LOSS has QUENCHED. -/
theorem quenchCause_lostFeeds {s : State} (h : s.quench.lostFeeds) (code : Nat) :
    (s.quenchCause code).quench.lostFeeds := by
  obtain ⟨hactive, hsafe⟩ := h
  refine ⟨mem_active_quenchCause.2 (.inl hactive), ?_⟩
  by_cases hmay : s.mayCause code
  · rw [quenchCause_quench hmay, if_neg (by simpa [State.armed] using hsafe)]
    exact hsafe
  · rw [quenchCause_of_not_mayCause hmay]
    exact hsafe

/-! ### The shed, stage by stage (14 R523, R524) -/

/-- Tcut stands in the keeper, where the timebase runs. -/
def State.timeKept (s : State) : State :=
  if s.timeRuns then
    { s with time := { s.time with
      keeper := { s.time.keeper.write 1 s.time.t64 with t64 := s.time.t64, loadedAt := s.now, valid := true } } }
  else s

/-- The energy unit has its Tcut, FEED_LOSS is a cause, and the device has left RUN. -/
def State.cut (s : State) : State := ((s.timeKept.energyCut s.time.t64).quenchCause 0x58).leaving false

/-- A programming in progress ends with WINDOW. -/
def State.fuseCut (s : State) : State :=
  match s.fuse.prog with
  | some p => s.fuseEnd p .window 0
  | none => s

/-- The power unit counts the shed. -/
def State.shedCounted (s : State) (tcut : T64) : State :=
  { s with power := { s.power with
    shed := true, sheds := inc32 s.power.sheds, lastShed := tcut
    brownoutCount := if s.op.brownoutOpen then s.power.brownoutCount + 1 else s.power.brownoutCount } }

/-- The journal takes what the shed leaves to it. -/
def State.shedJournal (s : State) (tcut : T64) : State :=
  if s.gafferRuns then
    ((s.energyCommit (s.countersRec tcut 2)).energyFlush.commit
      (.time tcut s.time.state.code s.time.quality.code)).commit (.shed tcut 2)
  else s

/-- The device just before a shed asserts RESET. -/
def State.shedding (s : State) : State :=
  ((s.cut.fuseCut.shedCounted s.time.t64).shedJournal s.time.t64).record .reserve .power niGaffer 0x0803
    (bytesLE 8 s.time.t64)

theorem shedNow_eq (s : State) : s.shedNow = s.shedding.assertReset .feedLoss := by
  unfold State.shedNow State.shedding State.shedJournal State.shedCounted State.fuseCut State.cut State.timeKept
  rfl

theorem timeKept_over (s : State) : s.timeKept = { s with time := s.timeKept.time } := by
  unfold State.timeKept
  split <;> rfl

theorem timeKept_keeper {s : State} (h : s.timeRuns = true) :
    s.timeKept.time.keeper.t64 = s.time.t64 ∧ s.timeKept.time.keeper.valid = true := by
  rw [State.timeKept, if_pos h]
  exact ⟨rfl, rfl⟩

theorem fuseCut_carried (s : State) : s.fuseCut.carried = s.carried := by
  unfold State.fuseCut
  split
  next p _ =>
    have hend : s.fuseEnd p .window 0 = if p.session = 0 then s.fuseDone p.addr .window 0
        else (s.fuseDone p.addr .window 0).reply p.session
          { rid := p.rid, code := FuseOutcome.window.abort, detail := 0 } := rfl
    rw [hend]
    split
    · exact fuseDone_carried ..
    · exact (reply_carried ..).trans (fuseDone_carried ..)
  next => rfl

theorem shedJournal_carried (s : State) (tcut : T64) : (s.shedJournal tcut).carried = s.carried := by
  simp [State.shedJournal]

/-- Leaving RUN carries the supplies, and FEED_LOSS stands. -/
theorem leaving_lostFeeds {s : State} (h : s.quench.lostFeeds) :
    (s.leaving false).supply = s.supply ∧ (s.leaving false).quench.lostFeeds := by
  by_cases hrun : s.op.state = .run
  · have hleave : s.leaving false = s.leaveRun false := if_pos hrun
    have hcarried := leaveRun_carried s
    rw [hleave]
    refine ⟨?_, ?_⟩
    · rw [supply_of_carried hcarried, quenchCause_supply]
    · exact lostFeeds_of_judgement (judgement_of_carried hcarried) (quenchCause_lostFeeds h 0x01)
  · have hstay : s.leaving false = s := if_neg hrun
    rw [hstay]
    exact ⟨rfl, h⟩

/-- The stages up to the power unit's count leave the units as the cut leaves them, and FEED_LOSS a cause. -/
theorem cut_leaves {s : State} (hmay : s.mayCause 0x58) :
    s.cut.supply = (s.op, s.timeKept.time, s.power.kept, s.time.t64) ∧ s.cut.quench.lostFeeds := by
  let t := s.timeKept.energyCut s.time.t64
  have hcut : t.carried = ((s.op, s.timeKept.time, s.power.kept, s.time.t64), s.quench.judgement) := by
    have hop : s.timeKept.op = s.op := by rw [timeKept_over]
    have hpower : s.timeKept.power = s.power := by rw [timeKept_over]
    have hquench : s.timeKept.quench = s.quench := by rw [timeKept_over]
    rw [energyCut_carried, hop, hpower, hquench]
  obtain ⟨hunits, hjudged⟩ := supply_judgement_of_carried hcut
  have hactive : t.quench.active = s.quench.active := (congrArg QuenchUnit.active hjudged :)
  have hmay' : t.mayCause 0x58 := by
    rw [State.mayCause, State.quenchRuns, (supply_fields hunits).1, hactive]
    exact hmay
  have hlost : (t.quenchCause 0x58).quench.lostFeeds :=
    lostFeeds_of_causedBy (quenchCause_causedBy (s := t) hmay' rfl rfl)
  obtain ⟨hsupply, hlost'⟩ := leaving_lostFeeds hlost
  refine ⟨hsupply.trans ((quenchCause_supply t 0x58).trans hunits), hlost'⟩

/-- What RESET keeps of the power unit once a shed is counted. -/
def PowerUnit.afterShed (p : PowerUnit) (brownout : Bool) (tcut : T64) : PowerUnit :=
  { p with shed := true, sheds := inc32 p.sheds, lastShed := tcut
           brownoutCount := if brownout then p.brownoutCount + 1 else p.brownoutCount }

theorem shedCounted_carried (s : State) (tcut : T64) :
    (s.shedCounted tcut).carried =
      ((s.op, s.time, s.power.kept.afterShed s.op.brownoutOpen tcut, s.energy.lastCut), s.quench.judgement) := rfl

/-- What a shed leaves for RESET to keep. -/
theorem shedding_leaves {s : State} (hmay : s.mayCause 0x58) :
    s.shedding.supply =
        (s.op, s.timeKept.time, s.power.kept.afterShed s.op.brownoutOpen s.time.t64, s.time.t64) ∧
      s.shedding.quench.lostFeeds := by
  obtain ⟨hcut, hlost⟩ := cut_leaves hmay
  have hfuse := fuseCut_carried s.cut
  have hunits := (supply_of_carried hfuse).trans hcut
  have hshed : s.shedding.carried = (s.cut.fuseCut.shedCounted s.time.t64).carried :=
    (record_carried ..).trans (shedJournal_carried ..)
  rw [shedCounted_carried] at hshed
  obtain ⟨hsupply, hjudged⟩ := supply_judgement_of_carried hshed
  obtain ⟨hop, htime, hpower, hlast⟩ := supply_fields hunits
  refine ⟨?_, lostFeeds_of_judgement (hjudged.trans (judgement_of_carried hfuse)) hlost⟩
  rw [hsupply, hop, htime, hpower, hlast]

/-- RESET of a powered device keeps the keeper, the counts of the power unit, Tcut and the Quench unit's causes. -/
theorem assertReset_keeps {s : State} (r : ResetSource) (h : s.op.state ≠ .reset) :
    let u := s.assertReset r
    u.time.keeper = s.time.keeper ∧ u.power = s.power.kept ∧ u.energy = s.energy.kept ∧
      u.quench = s.quenchReset.quench := by
  simp [State.assertReset, h, State.loseVolatile, TimeUnit.kept]

/-- FEED_LOSS is no cause that a RESET ends. -/
theorem lostFeeds_quenchReset {s : State} (h : s.quench.lostFeeds) : s.quenchReset.quench.lostFeeds :=
  ⟨List.mem_filter.2 ⟨h.1, by decide⟩, h.2⟩

end Sys2Proof.Machine

open Sys2Proof Sys2Proof.Machine

/-- Settles O48: each operation but the shed changes the power unit with the logs, and the shed is followed stage by
stage to the RESET that it asserts. -/
theorem feedsHoldsAndShedding : Obligations.FeedsHoldsAndShedding := by
  unfold Obligations.FeedsHoldsAndShedding
  refine ⟨?feedStable, ?stands, ?feedLost, ?feedAbsent, ?dip, ?powerHold, ?noHold, ?shed, ?noShed, ?holdExpiry,
    ?window⟩
  case feedStable =>
    intro s f n hoff
    let t := ((s.fed f n).feedChange f 1).endDemand 0x58
    have hlogs : t.judgeHold.judgeRedundant.logsOver { t with power := t.judged } :=
      (judgeRedundant_logsOver _).trans (judgeHold_judged t)
    have hchange := feedChange_logsOver (s.fed f n) f 1
    have hfeed (k : Nat) : t.judgeHold.judgeRedundant.feed k = (s.fed f n).feed k := by
      rw [← hchange.feed, State.feed, hlogs.power]
      unfold State.feed
      exact congrArg (tget {} · k) (judged_feeds t)
    refine ⟨_, exec_feedStable_fed hoff n, ?_, ?_, ?_, ?_, ?_⟩
    · rw [hfeed, fed_feed, if_pos rfl, Feed.regained]
    · rw [hfeed, fed_feed, if_neg (other_feed f)]
    · rw [hlogs.power]
      exact (judged_holdup t).trans (congrArg PowerUnit.holdup hchange.power)
    · rw [hlogs.quench]
      exact congrArg (fun q : QuenchUnit => q.active.filter (· ≠ 0x58)) hchange.quench
    · exact fed_rest hlogs
  case stands =>
    intro s f n hon
    exact if_pos hon
  case feedLost =>
    intro s f hon
    refine ⟨_, if_pos hon, feed_changed (fedChange_logsOver s f 2 _)⟩
  case feedAbsent =>
    intro s f hon
    refine ⟨_, if_neg hon, feed_changed (fedChange_logsOver s f 0 _)⟩
  case dip =>
    intro s hon
    exact ⟨_, if_neg hon, record_logsOver .., record_lastCode ..⟩
  case powerHold =>
    intro s hg hover
    have hlogs := judgeHold_judged s
    have hpower : s.judgeHold.power = s.holding s.holdsNeeded s.power.thermalHeld := by
      rw [hlogs.power, State.judged, if_pos hg]
    refine ⟨s.judgeHold, if_pos ⟨hg, hover⟩, hlogs.ownPower, ?_, ?_, judgeHold_estimate hg, fun k hk => ?_⟩
    · rw [hpower]
      rfl
    · rw [hpower]
      exact holding_held ..
    · rw [hpower] at hk
      exact estimate_of_lt_holdsNeeded (hk.trans_le (min_le_left ..))
  case noHold =>
    intro s hfits
    exact if_neg fun h => Nat.not_le.2 h.2 hfits
  case shed =>
    intro s hoff hreset hshed hfeeds hmay
    obtain ⟨hsupply, hlost⟩ := shedding_leaves hmay
    obtain ⟨hop, htime, hpower, hlast⟩ := supply_fields hsupply
    have hrunning : s.shedding.op.state ≠ .reset := by rwa [hop]
    obtain ⟨hstate, hcause, -⟩ := assertReset_enters .feedLoss hrunning
    obtain ⟨hkeeper, hkept, henergy, hquench⟩ := assertReset_keeps .feedLoss hrunning
    obtain ⟨hactive, hsafe⟩ := lostFeeds_quenchReset hlost
    obtain ⟨hcopyA, hcopyB⟩ := Prod.mk.inj (shedNow_copies s)
    rw [htime] at hkeeper
    rw [hpower] at hkept
    have hstep : exec .shedDecision s = .next s.shedNow := by
      rw [exec_shedDecision, execShedDecision, if_neg]
      simp [hoff, hshed, hfeeds]
    rw [shedNow_eq] at hcopyA hcopyB hstep
    refine ⟨_, hstep, hstate, hcause, ?_, ?_, ?_, ?_, ?_, ?_, ?_, fun hruns => ?_, ?_, hcopyA, hcopyB⟩
    · rw [hkept]; rfl
    · rw [hkept]; rfl
    · rw [hkept]; rfl
    · rw [henergy]; rfl
    · rw [henergy]; exact hlast
    · rw [hquench]; exact List.contains_iff_mem.2 hactive
    · rw [State.armed, hquench]; exact hsafe
    · rw [hkeeper]; exact timeKept_keeper hruns
    · rw [hkept]; rfl
  case noShed =>
    intro s hcase
    refine congrArg Host.Outcome.next (if_pos ?_)
    simpa [or_assoc] using hcase
  case holdExpiry =>
    intro s hcount hheld
    refine ⟨_, congrArg Host.Outcome.next (if_pos ⟨hcount, ?_⟩), rfl, clearAlarm_alarmOn ..⟩
    rw [← hheld]
    congr 1
    funext f
    cases (s.feed f).poweredSince with
    | none => rw [Option.any_none]
    | some t => rw [Option.any_some]
  case window =>
    intro s t hopen hserved hpassed hstate
    refine ⟨_, congrArg Host.Outcome.next (if_pos ⟨hopen, ?_, hstate⟩), rfl, clearAlarm_alarmOn ..⟩
    rw [hserved]
    exact decide_eq_true hpassed

end

section
/-!
O49: the thermal hold and OVERTEMP, the life consumed, and VKEEP (14 R537, R538, 16 R602 to R606).
-/

namespace Sys2Proof.Machine

theorem exec_lifeSample (l : List Int) (s : State) : exec (.lifeSample l) s = execLifeSample l s := rfl

/-! ### The sensors (16 R602, R612) -/

theorem sensed_over (s : State) (l : List Int) :
    s.sensed l = { s with power := (s.sensed l).power, store := (s.sensed l).store } := by
  unfold State.sensed
  split <;> rfl

@[simp] theorem sensed_now (s : State) (l : List Int) : (s.sensed l).now = s.now := by rw [sensed_over]
@[simp] theorem sensed_op (s : State) (l : List Int) : (s.sensed l).op = s.op := by rw [sensed_over]
@[simp] theorem sensed_time (s : State) (l : List Int) : (s.sensed l).time = s.time := by rw [sensed_over]
@[simp] theorem sensed_governs (s : State) (l : List Int) : (s.sensed l).governs = s.governs := by
  rw [State.governs, sensed_op, State.governs]

/-- The power unit with the sensors as read, and `m` the hottest. -/
def PowerUnit.read (p : PowerUnit) (l : List Int) (m : Int) : PowerUnit :=
  { p with sensors := l.zipIdx.foldl (fun (t : Tab Int) p => if p.2 < 69 then tset 0 t p.2 p.1 else t) []
           junction := m, junctionPeak := max p.junctionPeak m }

theorem sensed_power {s : State} {l : List Int} {m : Int} (h : l.max? = some m) :
    (s.sensed l).power = s.power.read l m := by
  simp only [State.sensed, h, PowerUnit.read]

theorem sensed_hot {s : State} {l : List Int} {m : Int} (h : l.max? = some m) (hm : 900 < m) :
    (s.sensed l).store.hot = true := by
  simp only [State.sensed, h]
  rw [if_pos hm]

theorem sensed_holdOrder (s : State) (l : List Int) : (s.sensed l).holdOrder = s.holdOrder := by
  rw [sensed_over]
  rfl

/-! ### The thermal hold (16 R602, R603) -/

/-- A hold or a release at `s.now`, with the sensors as read. -/
def State.heatJudged (s : State) (l : List Int) : State :=
  { s.sensed l with power := { (s.sensed l).power with thermalAt := some (s.sensed l).now } }

theorem heatJudged_holdOrder (s : State) (l : List Int) : (s.heatJudged l).holdOrder = s.holdOrder :=
  sensed_holdOrder s l

theorem heatJudged_over (s : State) (l : List Int) (p : PowerUnit) :
    ({ s.heatJudged l with power := p } : State) = { s with power := p, store := (s.sensed l).store } := by
  unfold State.heatJudged State.sensed
  split <;> rfl

theorem heatJudged_thermalHeld {s : State} {l : List Int} {m : Int} (h : l.max? = some m) :
    (s.heatJudged l).power.thermalHeld = s.power.thermalHeld := by
  rw [State.heatJudged, sensed_power h]
  rfl

/-- What a thermal hold or release leaves: `k` clusters held for the heat, so far as the order goes. -/
structure State.heatHeld (s u : State) (l : List Int) (m : Int) (k : Nat) : Prop where
  rest : u.logsOver { s with power := u.power, store := u.store }
  junction : u.power.junction = m
  at_ : u.power.thermalAt = some s.now
  count : u.power.thermalHeld = min k s.holdOrder.length
  held : u.power.held = s.holdOrder.take (max u.power.powerHeld u.power.thermalHeld)
  store : u.store = (s.sensed l).store

theorem setHolds_heatHeld {s : State} {l : List Int} {m : Int} (h : l.max? = some m) (p k : Nat) :
    s.heatHeld ((s.heatJudged l).setHolds p k) l m k := by
  have hlogs := setHolds_logsOver (s.heatJudged l) p k
  have hpower := hlogs.power
  have horder := heatJudged_holdOrder s l
  generalize (s.heatJudged l).setHolds p k = u at hlogs hpower
  refine ⟨?_, ?_, ?_, ?_, ?_, hlogs.store⟩
  · have hstore : u.store = (s.sensed l).store := hlogs.store
    rw [heatJudged_over] at hlogs
    rw [hpower, hstore]
    exact hlogs
  · rw [hpower, State.holding, State.heatJudged, sensed_power h]
    rfl
  · rw [hpower, State.holding, State.heatJudged, sensed_now]
  · rw [hpower, State.holding, horder]
  · rw [hpower, State.holding, horder]

/-- THERMAL_HOLD stands from the first cluster that the heat holds. -/
theorem setHolds_raises {s : State} {p k : Nat} (hheld : 0 < min k s.holdOrder.length)
    (hwas : s.power.thermalHeld = 0) : (s.setHolds p k).alarmOn 0x0808 0 = true := by
  have hsome : ¬ min k s.holdOrder.length = 0 := by omega
  unfold State.setHolds
  dsimp only
  rw [if_neg hsome, if_pos hwas]
  exact alarm_alarmOn ..

/-- THERMAL_HOLD stands no more when the heat holds no cluster. -/
theorem setHolds_clears {s : State} {p k : Nat} (hnone : min k s.holdOrder.length = 0) :
    (s.setHolds p k).alarmOn 0x0808 0 = false := by
  unfold State.setHolds
  dsimp only
  rw [if_pos hnone]
  exact clearAlarm_alarmOn ..

/-! ### The life consumed (16 R606) -/

/-- The search for a root in steps of halved bits finds the one there is. -/
theorem root100_eq {lim r : Nat} (hlow : r ^ 100 ≤ lim) (hhigh : lim < (r + 1) ^ 100) {bits x : Nat} (hx : x ≤ r)
    (hr : r < x + 2 ^ bits) : root100 lim bits x = r := by
  induction bits generalizing x with
  | zero =>
    rw [pow_zero] at hr
    rw [root100]
    omega
  | succ bits ih =>
    rw [pow_succ] at hr
    rw [root100]
    split
    next hle =>
      have hlt : x + 2 ^ bits < r + 1 := lt_of_pow_lt_pow_left' 100 (hle.trans_lt hhigh)
      exact ih (by omega) (by omega)
    next hgt =>
      have hlt : r < x + 2 ^ bits := lt_of_pow_lt_pow_left' 100 (hlow.trans_lt (Nat.not_le.1 hgt))
      exact ih hx hlt

theorem root100_pow {r : Nat} (h : r < 2 ^ 21) : root100 (r ^ 100) 21 0 = r :=
  root100_eq le_rfl (Nat.pow_lt_pow_left (Nat.lt_succ_self r) (by decide)) (Nat.zero_le r) (by rwa [Nat.zero_add])

/-- Each whole 10 K above 95 °C doubles the factor. -/
theorem lifeFactor_of_tens {tj : Int} {k : Nat} (h : (tj - 950).toNat = 100 * k) : lifeFactor tj = 2 ^ (20 + k) := by
  have hroot : root100 (2 ^ (2000 + 100 * k % 100)) 21 0 = 2 ^ 20 := by
    have hpow : 2 ^ (2000 + 100 * k % 100) = (2 ^ 20) ^ 100 := by
      rw [Nat.mul_mod_right, ← pow_mul]
    rw [hpow]
    exact root100_pow (by decide)
  unfold lifeFactor
  dsimp only
  rw [h, hroot, Nat.mul_div_cancel_left k (by decide), ← pow_add, Nat.add_comm]

/-- The power unit after one more second of powered operation. -/
def PowerUnit.aged (p : PowerUnit) : PowerUnit :=
  { p with life := p.life + lifeFactor p.junction, above95 := if p.junction > 950 then p.above95 + 1 else p.above95
           lifeRaised := p.lifeRaised || decide (p.life + lifeFactor p.junction > 263000 * 3600 * 2 ^ 20) }

theorem exec_lifeSample_within {s : State} {l : List Int} (hon : s.op.state ≠ .off)
    (hwithin : ¬ (s.sensed l).power.life + lifeFactor (s.sensed l).power.junction > 263000 * 3600 * 2 ^ 20) :
    exec (.lifeSample l) s = .next { s.sensed l with power := (s.sensed l).power.aged } := by
  rw [exec_lifeSample, execLifeSample, if_neg hon]
  dsimp only
  rw [if_neg fun h => hwithin (of_decide_eq_true h.1)]
  rfl

theorem exec_lifeSample_reached {s : State} {l : List Int} (hon : s.op.state ≠ .off)
    (hbeyond : (s.sensed l).power.life + lifeFactor (s.sensed l).power.junction > 263000 * 3600 * 2 ^ 20)
    (hnew : (s.sensed l).power.lifeRaised = false) :
    exec (.lifeSample l) s =
      .next (State.alarm { s.sensed l with power := (s.sensed l).power.aged } .power 0x0809 0 []) := by
  rw [exec_lifeSample, execLifeSample, if_neg hon]
  dsimp only
  rw [if_pos ⟨decide_eq_true hbeyond, by rw [hnew]; rfl⟩]
  rfl

theorem sensed_withPower (s : State) (l : List Int) (p : PowerUnit) :
    ({ s.sensed l with power := p } : State) = { s with power := p, store := (s.sensed l).store } := by
  unfold State.sensed
  split <;> rfl

/-! ### The end of every session (11 R418, R448) -/

/-- The supplies, and the numbers of the open sessions. -/
def State.hosted (s : State) : (OpUnit × TimeUnit × PowerUnit × T64) × List SessionNo :=
  (s.supply, s.sess.sessions.map Prod.fst)

theorem foldl_hosted {α : Type} {f : State → α → State} (h : ∀ s a, (f s a).hosted = s.hosted) (l : List α)
    (s : State) : (l.foldl f s).hosted = s.hosted :=
  foldl_keeps (g := State.hosted) h l s

theorem ite_hosted {c : Prop} [Decidable c] {a b s : State} (ha : a.hosted = s.hosted) (hb : b.hosted = s.hosted) :
    (if c then a else b).hosted = s.hosted := by
  split
  · exact ha
  · exact hb

theorem modSession_hosted (s : State) (n : SessionNo) (f : Session → Session) :
    (s.modSession n f).hosted = s.hosted := by
  have hkeys : (s.modSession n f).sess.sessions.map Prod.fst = s.sess.sessions.map Prod.fst := by
    rw [State.modSession, List.map_map]
    refine List.map_congr_left fun p _ => ?_
    dsimp only [Function.comp_apply]
    split <;> rfl
  exact Prod.ext rfl hkeys

theorem State.logsOver.hosted {u w : State} (h : u.logsOver w) : u.hosted = w.hosted := by
  have hkeys := congrArg (List.map Prod.fst) h.2.2.1
  rw [List.map_map, List.map_map] at hkeys
  exact Prod.ext (supply_of_carried h.carried) hkeys

/-- A write of class NOW: the peaks that it can reset are not kept. -/
theorem nowEffect_hosted (s : State) (n : SessionNo) (key : Nat) (v : Val) :
    (s.nowEffect n key v).hosted = s.hosted := by
  unfold State.nowEffect
  refine ite_hosted rfl <| ite_hosted rfl <| ite_hosted (modSession_hosted ..) <| ite_hosted rfl <|
    ite_hosted rfl <| ite_hosted rfl <| ite_hosted ?_ <| ite_hosted rfl <|
    ite_hosted rfl <| ite_hosted rfl <| ite_hosted rfl rfl
  split <;> rfl

theorem zeroObject_hosted (s : State) (n : SessionNo) (key : Nat) : (s.zeroObject n key).hosted = s.hosted := by
  unfold State.zeroObject
  split
  · rfl
  · refine ite_hosted rfl <| ite_hosted rfl <| ite_hosted (ite_hosted rfl rfl) <| ite_hosted rfl <|
      ite_hosted ?_ rfl
    split
    · exact nowEffect_hosted ..
    · rfl

theorem zeroImage_hosted (s : State) (x : ImageRec) : (s.zeroImage x).hosted = s.hosted := by
  refine foldl_hosted (fun t e => ?_) _ s
  exact ite_hosted rfl (zeroObject_hosted ..)

theorem failImage_hosted (s : State) (i : Nat) : (s.failImage i).hosted = s.hosted := by
  have tripped (d : List Nat) (f : ImageRec → ImageRec) :
      ((s.alarm .alarm 0x0906 i d).modImage i f).hosted = s.hosted :=
    (show _ = (s.alarm .alarm 0x0906 i d).hosted from rfl).trans (alarm_logsOver ..).hosted
  exact ite_hosted ((zeroImage_hosted ..).trans (tripped ..)) (tripped ..)

theorem endImages_hosted (s : State) (n : SessionNo) : (s.endImages n).hosted = s.hosted := by
  refine (foldl_hosted (fun t i => ?_) _ _).trans (foldl_hosted (fun t i => ?_) _ s)
  · rfl
  · exact ite_hosted (failImage_hosted t i) rfl

theorem dropRequests_hosted (s : State) (n : SessionNo) : (s.dropRequests n).hosted = s.hosted :=
  modSession_hosted s n (fun x => { x with inFlight := [], pendingSet := [], snapshots := [], segWrite := none })

/-- The end of a session leaves the supplies and takes its number out. -/
theorem endSession_hosted (s : State) (n : SessionNo) :
    (s.endSession n false).hosted = (s.supply, (s.sess.sessions.map Prod.fst).filter (· != n)) := by
  have hbefore : (((s.dropRequests n).endImages n).disownApplies n).hosted = s.hosted :=
    (show _ = ((s.dropRequests n).endImages n).hosted from rfl).trans
      ((endImages_hosted ..).trans (dropRequests_hosted ..))
  obtain ⟨hsupply, hkeys⟩ := Prod.mk.inj hbefore
  refine Prod.ext hsupply ?_
  rw [← hkeys, List.filter_map]
  rfl

/-- The end of the listed sessions takes their numbers out. -/
theorem endListed_hosted (l : List SessionNo) (s : State) :
    (l.foldl (fun t n => t.endSession n false) s).hosted =
      (s.supply, (s.sess.sessions.map Prod.fst).filter (fun k => !l.contains k)) := by
  induction l generalizing s with
  | nil => simp [State.hosted]
  | cons n l ih =>
    obtain ⟨hsupply, hkeys⟩ := Prod.mk.inj (endSession_hosted s n)
    rw [List.foldl_cons, ih, hsupply, hkeys, List.filter_filter]
    refine Prod.ext rfl (List.filter_congr fun k _ => ?_)
    rw [List.contains_cons, Bool.not_or, Bool.and_comm]
    rfl

/-- The end of every session leaves the supplies. -/
theorem endSessions_ends (s : State) : s.endSessions.supply = s.supply ∧ s.endSessions.sess.sessions = [] := by
  obtain ⟨hsupply, hkeys⟩ := Prod.mk.inj (endListed_hosted (s.sess.sessions.map Prod.fst) s)
  refine ⟨hsupply, List.map_eq_nil_iff.1 (hkeys.trans ?_)⟩
  rw [List.filter_eq_nil_iff]
  intro k hk
  simpa using hk

/-! ### A FATAL fault (01 R37, 17 R623) -/

theorem haltTask_carried (s : State) (n : Nat) : (s.haltTask n).carried = s.carried := by
  unfold State.haltTask
  split
  · exact stopTask_carried ..
  · rfl

theorem leaving_supply (s : State) : (s.leaving false).supply = s.supply := by
  by_cases hrun : s.op.state = .run
  · have hleave : s.leaving false = s.leaveRun false := if_pos hrun
    rw [hleave, supply_of_carried (leaveRun_carried s), quenchCause_supply]
  · exact congrArg State.supply (if_neg hrun)

/-- The device with its array stopped and its sessions ended. -/
def State.stopped (s : State) (code source addr : Nat) : State :=
  let s2 := (s.record .reserve .fatal source code (bytesLE 4 addr)).leaving false
  (s2.taskList.foldl State.haltTask s2).endSessions.dropRounds

theorem stopped_leaves (s : State) (code source addr : Nat) :
    (s.stopped code source addr).supply = s.supply ∧ (s.stopped code source addr).sess.sessions = [] := by
  obtain ⟨hsupply, hnone⟩ := endSessions_ends
    (((s.record .reserve .fatal source code (bytesLE 4 addr)).leaving false).taskList.foldl State.haltTask
      ((s.record .reserve .fatal source code (bytesLE 4 addr)).leaving false))
  refine ⟨?_, hnone⟩
  calc (s.stopped code source addr).supply = _ := hsupply
    _ = ((s.record .reserve .fatal source code (bytesLE 4 addr)).leaving false).supply :=
      supply_of_carried (foldl_carried haltTask_carried _ _)
    _ = (s.record .reserve .fatal source code (bytesLE 4 addr)).supply := leaving_supply _
    _ = s.supply := supply_of_carried (record_carried ..)

/-- HALT as a FATAL fault enters it. -/
def State.halted (s : State) : State :=
  { s with
    op := { s.op with state := .halt, gaffer := .recovery, trial := false, trialSince := none, fatalSeen := none }
    time := { s.time.coast s.now s.time.saved s.power.junction with
      state := .free, quality := .none, candidates := [], disciplinedAt := none }
    blank := { s.blank with upload := none }
    io := { s.io with loops := [] } }

theorem fatal_eq {s : State} (code source addr : Nat) (hh : s.op.state ≠ .halt) (ho : s.op.state ≠ .off)
    (hr : s.op.state ≠ .reset) : s.fatal code source addr = (s.stopped code source addr).halted.judgeHold := by
  unfold State.fatal
  dsimp only
  rw [if_neg (by simp [hh, ho]), if_neg hr]
  rfl

theorem halted_t64 (s : State) : s.halted.time.t64 = s.time.t64 := rfl
theorem halted_power (s : State) : s.halted.power = s.power := rfl

theorem judged_junction (s : State) : s.judged.junction = s.power.junction := by
  unfold State.judged
  split <;> rfl

theorem judgeHold_sessions {s : State} (h : s.sess.sessions = []) : s.judgeHold.sess.sessions = [] := by
  have hmap := (judgeHold_judged s).2.2.1
  rw [h] at hmap
  exact List.map_eq_nil_iff.1 hmap

/-- A FATAL fault keeps T64 and the junction, and ends every session. -/
theorem fatal_keeps {s : State} (code source addr : Nat) (hh : s.op.state ≠ .halt) (ho : s.op.state ≠ .off)
    (hr : s.op.state ≠ .reset) :
    let u := s.fatal code source addr
    u.time.t64 = s.time.t64 ∧ u.power.junction = s.power.junction ∧ u.sess.sessions = [] := by
  obtain ⟨hsupply, hnone⟩ := stopped_leaves s code source addr
  obtain ⟨-, htime, hpower, -⟩ := supply_fields hsupply
  have heq := fatal_eq code source addr hh ho hr
  dsimp only
  rw [heq]
  refine ⟨?_, ?_, judgeHold_sessions hnone⟩
  · rw [judgeHold_time, halted_t64, htime]
  · have hjunction : (s.stopped code source addr).power.junction = s.power.junction :=
      (congrArg PowerUnit.junction hpower :)
    rw [(judgeHold_judged _).power, judged_junction, ← hjunction]
    exact congrArg PowerUnit.junction (halted_power _)

end Sys2Proof.Machine

open Sys2Proof Sys2Proof.Machine

/-- Settles O49: a hold or a release sets the governor's holds, each second adds its factor of life, and OVERTEMP is a
FATAL fault. -/
theorem temperatureLifeAndKeeper : Obligations.TemperatureLifeAndKeeper := by
  unfold Obligations.TemperatureLifeAndKeeper
  refine ⟨?thermalHold, ?thermalRelease, ?overtemp, ?cooler, ?lifeSample, ?lifeReached, ?vkeepOff, ?vkeepOn⟩
  case thermalHold =>
    intro s l m hmax hhot hgoverns hrested
    have hstep : exec (.thermalHold l) s =
        .next ((s.heatJudged l).setHolds (s.heatJudged l).power.powerHeld ((s.heatJudged l).power.thermalHeld + 1)) :=
      if_pos ⟨by simpa using hgoverns, by rw [sensed_power hmax]; exact hhot, by
        rw [State.thermalRested, sensed_power hmax, sensed_now]; exact hrested⟩
    rw [heatJudged_thermalHeld hmax] at hstep
    obtain ⟨hrest, hjunction, hat, hcount, hheld, hstore⟩ :=
      setHolds_heatHeld hmax (s.heatJudged l).power.powerHeld (s.power.thermalHeld + 1)
    refine ⟨_, hstep, hrest, hjunction, hat, hcount, hheld, fun hsome hwas => ?_, ?_⟩
    · rw [hcount, ← heatJudged_holdOrder s l] at hsome
      exact setHolds_raises hsome ((heatJudged_thermalHeld hmax).trans hwas)
    · rw [hstore]
      exact sensed_hot hmax (by omega)
  case thermalRelease =>
    intro s l m hmax hcool hgoverns hsome hrested
    have hstep : exec (.thermalRelease l) s =
        .next ((s.heatJudged l).setHolds (s.heatJudged l).power.powerHeld ((s.heatJudged l).power.thermalHeld - 1)) :=
      if_pos ⟨by simpa using hgoverns, by rw [sensed_power hmax]; exact hcool, by rw [sensed_power hmax]; exact hsome,
        by rw [State.thermalRested, sensed_power hmax, sensed_now]; exact hrested⟩
    rw [heatJudged_thermalHeld hmax] at hstep
    obtain ⟨hrest, hjunction, -, hcount, hheld, -⟩ :=
      setHolds_heatHeld hmax (s.heatJudged l).power.powerHeld (s.power.thermalHeld - 1)
    refine ⟨_, hstep, hrest, hjunction, hcount, hheld, fun hnone => ?_⟩
    rw [hcount, ← heatJudged_holdOrder s l] at hnone
    exact setHolds_clears hnone
  case overtemp =>
    intro s l m hmax hhot hon hreset hhalt
    have hread := sensed_power (s := s) hmax
    have hstep : exec (.overtempHalt l) s = .next ((s.sensed l).fatal 4 niGaffer 0) :=
      congrArg Host.Outcome.next (if_pos ⟨by rw [hread]; exact hhot, by rwa [sensed_op]⟩)
    have hh : (s.sensed l).op.state ≠ .halt := by rwa [sensed_op]
    have ho : (s.sensed l).op.state ≠ .off := by rwa [sensed_op]
    have hr : (s.sensed l).op.state ≠ .reset := by rwa [sensed_op]
    obtain ⟨hstate, hgaffer, hfree, -⟩ := fatal_halts 4 niGaffer 0 hh ho hr
    obtain ⟨ht64, hjunction, hsessions⟩ := fatal_keeps 4 niGaffer 0 hh ho hr
    rw [sensed_time] at ht64
    rw [hread] at hjunction
    obtain ⟨hcopyA, hcopyB⟩ := Prod.mk.inj ((fatal_copies (s.sensed l) 4 niGaffer 0).trans (sensed_copies s l))
    exact ⟨_, hstep, hstate, hgaffer, hjunction, hsessions, hfree, ht64, hcopyA, hcopyB⟩
  case cooler =>
    intro s l m hmax hcool
    refine ⟨s.sensed l, congrArg Host.Outcome.next (if_neg fun h => ?_), sensed_over s l, ?_⟩
    · rw [sensed_power hmax] at h
      exact Int.not_le.2 hcool h.1
    · rw [sensed_power hmax]
      rfl
  case lifeSample =>
    intro s l m hmax hon hlimit
    have hwithin : ¬ (s.power.read l m).life + lifeFactor (s.power.read l m).junction > 263000 * 3600 * 2 ^ 20 :=
      Nat.not_lt.2 hlimit
    rw [← sensed_power hmax] at hwithin
    rw [exec_lifeSample_within hon hwithin, sensed_withPower, sensed_power hmax]
    refine ⟨_, rfl, rfl, rfl, rfl, ?_, fun hcool => ⟨?_, if_neg (Int.not_lt.2 hcool)⟩, fun hhot => if_pos hhot,
      fun hten => ?_, fun htwenty => ?_⟩
    · rw [sensed_power hmax] at hwithin
      exact (congrArg (s.power.lifeRaised || ·) (decide_eq_false hwithin)).trans (Bool.or_false _)
    · exact congrArg (s.power.life + ·) (lifeFactor_of_tens (tj := m) (k := 0) (by omega))
    · exact congrArg (s.power.life + ·) (lifeFactor_of_tens (tj := m) (k := 1) (by omega))
    · exact congrArg (s.power.life + ·) (lifeFactor_of_tens (tj := m) (k := 2) (by omega))
  case lifeReached =>
    intro s l m hmax hon hbeyond hnew
    have hbeyond' : (s.power.read l m).life + lifeFactor (s.power.read l m).junction > 263000 * 3600 * 2 ^ 20 := hbeyond
    have hreached := exec_lifeSample_reached (l := l) hon (by rw [sensed_power hmax]; exact hbeyond')
      (by rw [sensed_power hmax]; exact hnew)
    rw [sensed_withPower, sensed_power hmax] at hreached
    have hlogs := alarm_logsOver { s with power := (s.power.read l m).aged, store := (s.sensed l).store } .power 0x0809
      0 []
    refine ⟨_, hreached, ?_, alarm_lastCode .., ?_⟩
    · rw [hlogs.power, hlogs.store]
      exact hlogs
    · rw [hlogs.power]
      exact (congrArg (s.power.lifeRaised || ·) (decide_eq_true hbeyond')).trans (Bool.or_true _)
  case vkeepOff =>
    intro s v hoff
    refine congrArg Host.Outcome.next ((if_pos hoff).trans ?_)
    have hlow : ¬ 1800 ≤ v.val := by omega
    simp [TimeUnit.vkeep, hlow]
  case vkeepOn =>
    intro s v hon
    exact congrArg Host.Outcome.next (if_neg hon)

end
